-- ==== Sys2Proof/Word.lean ====
section
/-! DEFINITION. Sys2Proof/Word.lean: the word types of the SG7 model and the sparse tables its state is made of.

Addresses and keys are plain natural numbers; register contents are bit vectors.
A `Tab` is a list of key and value pairs in one canonical form: keys strictly rising, and no entry equal to what an
unlisted key reads as.
-/

namespace Sys2Proof

/-- The smallest addressable unit of every memory of the part (R9: little-endian bytes). -/
abbrev Byte := BitVec 8

/-- A sparse table: keys strictly rising, no entry that equals the default of the table. -/
abbrev Tab (α : Type) := List (Nat × α)

/-- A byte memory: a sparse table of bytes. -/
abbrev Mem := Tab Byte

end Sys2Proof
end

