-- ==== Sys2Proof/Syntax.lean ====
section
/-! DEFINITION. Sys2Proof/Syntax.lean: the commands and events of the SG7, one constructor of Instr per row of the
operation table, with the operands each row carries.
-/

namespace Sys2Proof

/-- What a host register write names: an offset of BAR0 (`eight`: an 8-byte write, else 4 bytes), or a W1C word that
the manual names without an address (REC_STATUS of R258, SP_STATUS of R401, UE_LOG of R457, ENERGY of R432, BYTES of
R463). -/
inductive RegName where
  | bar0 (off : BitVec 16) (eight : Bool)
  | recStatus
  | spStatus (p : Fin 8)
  | ueLog
  | energy (d : Fin 64)
  | tollBytes (r : Fin 12) (c : Fin 4)
  deriving DecidableEq, Repr

/-- A host access through BAR2 (R469): a read of `n` bytes, or a write of bytes. -/
inductive Bar2Acc where
  | read (n : BitVec 13)
  | write (data : List Byte)
  deriving DecidableEq, Repr

/-- What a camera answers in discovery (R275): whether it answers at all, the connections that lock, the fastest rate
code at which all of them lock, and the stream ID and pixel format it reports. -/
structure CamOffer where
  answers : Bool
  conns : BitVec 4
  rate : BitVec 8
  deriving DecidableEq, Repr

/-- What the raw samples of A and B showed (R325, R326, R330, R333): the new levels, the offset of the update within the
10 ns, how many consecutive samples showed the new levels (15 for 15 or more), whether and how far apart both changed and
which first, and whether Z rose in the same sample. -/
structure EncChange where
  a : Bool
  b : Bool
  offset : Fin 10
  held : BitVec 4
  apart : BitVec 8
  aFirst : Bool
  z : Bool
  deriving DecidableEq, Repr

/-- An encoder's inputs. -/
inductive EncInput where
  | a | b | z
  deriving DecidableEq, Repr

/-- A line as the receivers reassembled it (R276, R280): the stream ID of its packets, the largest skew between its
connections in bytes, whether a packet failed its CRC check, and the pixels by plane. -/
structure CamLine where
  stream : BitVec 8
  skew : BitVec 32
  crc : Bool
  planes : List (List (BitVec 16))
  deriving DecidableEq, Repr

/-- The self-test's finding for one unit (R133 to R138): girder (unit below 32) or cluster (32 + k), the pier rows that
fail as (bank, row), cores that fail, and the test code of a unit that is removed. -/
structure UnitTest where
  unit : Fin 40
  rows : List (Fin 10 × Fin 4096)
  failCores : BitVec 8
  code : BitVec 8
  deriving DecidableEq, Repr

/-- On-chip memory units (R139 to R141): pier of a girder, abutment bank, cluster memory. -/
inductive SramUnit where
  | pier (g : Fin 32)
  | abut
  | cluster (k : Fin 8)
  deriving DecidableEq, Repr

/-- Which thread of the deck a command record belongs to: a bay of the running table, or a background job. -/
inductive Thread where
  | bay (b : Fin 256)
  | job (j : Nat)
  deriving DecidableEq, Repr

/-- What a CAPS block says (R381): the sender's node ID and port, its Zhoaris version range, and the width it chose. -/
structure SpanCaps where
  node : BitVec 11
  port : Fin 8
  vmin : BitVec 8
  vmax : BitVec 8
  width : BitVec 3
  deriving DecidableEq, Repr

/-- The commands and events (the rows of spec/opcode_table.json, in the table's order). -/
inductive Instr where
  /-- R11. A host write to a register field that has no row of its own (RW, W1C or reserved), applied by its
    access code. -/
  | registerWrite (r : RegName) (v : BitVec 64)
  /-- R496. Opens a host session, optionally taking over an existing one, and negotiates the protocol version. -/
  | hello (m : Fin 16)
  /-- R495. Ends the current host session. -/
  | goodbye (m : Fin 16)
  /-- R498. Returns the size table and unit counts of the device. -/
  | getCaps (m : Fin 16)
  /-- R429. Measures REFCLK and moves timekeeping from the internal oscillator to REFCLK without a step. -/
  | timebaseSwitch (m : Fin 16) (hz : BitVec 32)
  /-- R411. Returns the keystone count and the wall clock latched on the same tick. -/
  | timeRead (m : Fin 16)
  /-- R410. Writes WC_INC, effective at the next tick. -/
  | wcIncSet (m : Fin 16)
  /-- R410. Adds a signed nanosecond offset to the wall clock at the next tick. -/
  | wcStep (m : Fin 16)
  /-- R410. Loads the wall clock's seconds and nanoseconds at the next tick. -/
  | wcSet (m : Fin 16)
  /-- R404. Sets the keystone role (OFF, GRANDMASTER or FOLLOWER) and optionally fixes the parent port. -/
  | ksConfig (m : Fin 16)
  /-- R270. Arms crossing 0 to start when the keystone count reaches L, subject to the refusal conditions. -/
  | keystoneLaunch (m : Fin 16)
  /-- R408. Returns KS_STATUS and the keystone count. -/
  | ksRead (m : Fin 16)
  /-- R285. Sets the connection count, rate, pixel format, trigger path, ROI and latency window of one camera
    port. -/
  | camConfig (m : Fin 16)
  /-- R275. Runs CoaXPress discovery on one port and sets its link rate and connection count. -/
  | camDiscover (m : Fin 16) (offer : CamOffer)
  /-- R275. Passes a single control-packet read or write to the camera and returns its answer. -/
  | camCtrl (m : Fin 16) (ack : BitVec 8) (data : List Byte)
  /-- R499. A camera does not answer a control packet within 200 ms, and CAM_CTRL completes with TIMEOUT. -/
  | camCtrlTimeout (m : Fin 16)
  /-- R283. Raises or lowers POCXP_EN per connection and clears latched PoCXP faults. -/
  | camPower (m : Fin 16)
  /-- R298. Returns CPORT_STATUS and the port's counter words. -/
  | camRead (m : Fin 16)
  /-- R294. Sets the pipeline assignment, exposure merge, flat field, statistics and through-memory parameters of
    one port. -/
  | apConfig (m : Fin 16)
  /-- R295. Copies a linearisation or flat-field table from toll DRAM into the port's shadow table set. -/
  | apTable (m : Fin 16)
  /-- R322. Sets the ramp, segmentation or cut mode, geometry, augmentation and crop ring of one port. -/
  | rmpConfig (m : Fin 16)
  /-- R323. Returns the ramp counter words of one port. -/
  | rmpRead (m : Fin 16)
  /-- R346. Sets the counting mode, filter, reference, hysteresis, stop time and observer gains of one position
    unit. -/
  | puConfig (m : Fin 16)
  /-- R335. Arms a ONCE reference on one position unit and unseeds the gap period. -/
  | puRefArm (m : Fin 16)
  /-- R343. Takes and returns the CMD_LATCH record of one position unit. -/
  | puLatch (m : Fin 16)
  /-- R348. Returns the status, counter, observer state, latches and counters of one position unit. -/
  | puRead (m : Fin 16)
  /-- R347. Sets a port's line-trigger generator: position unit, divider and REF_SYNC. -/
  | ltConfig (m : Fin 16)
  /-- R347. Arms or disarms a port's line-trigger generator, with its residue starting at 0. -/
  | ltArm (m : Fin 16)
  /-- R567. Clears the W1C fields of PU_STATUS that MASK names; a WIRE_FAULT bit stays set while its input is
    still faulty. -/
  | puClear (m : Fin 16)
  /-- R368. Writes the configuration of 1 to 32 field channels through the field registers and completes when
    every write is echoed. -/
  | fioConfig (m : Fin 16)
  /-- R366. Sets the commanded levels of HOST-function field outputs from the next frame. -/
  | fioSet (m : Fin 16)
  /-- R363. Sets RELEASE in one down frame and completes when the field die leaves its safe state. -/
  | fioRelease (m : Fin 16)
  /-- R370. Returns the field status words and counters. -/
  | fioRead (m : Fin 16)
  /-- R370. Clears latched readback faults and thermal latches through W1C masks. -/
  | fioClear (m : Fin 16)
  /-- R373. Sets the function, inversion, port and width of TRIG pins. -/
  | trigConfig (m : Fin 16)
  /-- R373. Sets the levels of HOST-function TRIG pins within 1 µs. -/
  | trigSet (m : Fin 16)
  /-- R54. Sets the verdict policy of one camera port. -/
  | vpSet (m : Fin 16)
  /-- R54. Returns the verdict policy of one camera port. -/
  | vpRead (m : Fin 16)
  /-- R36. Sets the part sequence counter of one camera port. -/
  | seqSet (m : Fin 16)
  /-- R502. Checks, measures and places a model image held in toll space at the lowest empty index. -/
  | modelStage (m : Fin 16)
  /-- R526. Commits a staged image at a crossing boundary: re-measures it, copies and relocates it, computes the
    resident digest and marks it committed. -/
  | modelCommit (m : Fin 16)
  /-- R226. Changes the running ACTIVE image at the next crossing boundary. -/
  | modelSwitch (m : Fin 16)
  /-- R502. Retires a committed or staged image that is not running and has no pending jobs. -/
  | modelRetire (m : Fin 16)
  /-- R501. Returns the state, role, version and ID of all 16 image indices. -/
  | modelList (m : Fin 16)
  /-- R501. Returns which image's weights each logical girder's swing span holds. -/
  | swingRead (m : Fin 16)
  /-- R217. Starts crossings under the named image, with crossing 0 starting when the command completes. -/
  | crossingStart (m : Fin 16)
  /-- R221. Stops crossings at the next boundary in DRAIN or NOW mode, and in NOW mode cancels a pending launch.
    -/
  | crossingStop (m : Fin 16)
  /-- R252. Returns CROSSING_NO, the sequencer counter words and the latched bay status words. -/
  | crossingStatus (m : Fin 16)
  /-- R451. Allocates toll space in 1 MiB units outside the firmware region. -/
  | memAlloc (m : Fin 16)
  /-- R504. Frees an allocated toll block, unless it still holds a queue, ring, staged image, table or copy
    window. -/
  | memFree (m : Fin 16)
  /-- R472. Creates a queue context in state FREE with its content, ring, location, vector and watermark. -/
  | queueCreate (m : Fin 16)
  /-- R504. Returns a queue to FREE unless a policy, a port or a replay names it. -/
  | queueDestroy (m : Fin 16)
  /-- R473. Returns a queue context and clears its DROPPED count. -/
  | queueRead (m : Fin 16)
  /-- R482. Gives a DETACHED host queue a new BASE, sets HEAD to TAIL and makes it ACTIVE. -/
  | queueAttach (m : Fin 16)
  /-- R461. Sets the WAIT_LIMIT of each toll-gate requester. -/
  | tollConfig (m : Fin 16)
  /-- R463. Returns the toll channel status words and the byte counters of each requester. -/
  | tollRead (m : Fin 16)
  /-- R257. Starts recording to a toll ring, optionally copying segments to host memory, with the OVERWRITE or
    STOP policy. -/
  | recStart (m : Fin 16)
  /-- R261. Stops recording and writes the END record. -/
  | recStop (m : Fin 16)
  /-- R257. Releases the host ring segments up to a given SEG_SEQ. -/
  | recRelease (m : Fin 16)
  /-- R258. Returns REC_STATUS, REC_LOST and the next SEG_SEQ. -/
  | recRead (m : Fin 16)
  /-- R264. Opens a lot at a boundary, sets the epochs to 0, optionally resets tracks and takes a checkpoint. -/
  | lotOpen (m : Fin 16)
  /-- R265. Takes a replay-origin checkpoint at the next crossing boundary. -/
  | checkpoint (m : Fin 16)
  /-- R269. Checks a recorded stream and origin and enters replay mode. -/
  | replayOpen (m : Fin 16)
  /-- R267. Starts feeding the recorded stream to the device in replay mode. -/
  | replayRun (m : Fin 16)
  /-- R267. Stops a running replay. -/
  | replayStop (m : Fin 16)
  /-- R412. Sets the node ID, the keystone role and each span port's enable, rate and version range. -/
  | spanConfig (m : Fin 16)
  /-- R395. Writes a run of up to 64 route-table entries. -/
  | spanRoute (m : Fin 16)
  /-- R383. Retrains a span port, restoring lanes whose BAD_LANES bits host software has cleared. -/
  | spanRetrain (m : Fin 16)
  /-- R384. Enters, changes or leaves PRBS lane test on a port, or injects errors into one frame of a live link.
    -/
  | laneTest (m : Fin 16)
  /-- R401. Returns SP_STATUS and the counter words of one span port. -/
  | spanRead (m : Fin 16)
  /-- R398. Opens, moves or closes the device's toll copy window. -/
  | spanWindow (m : Fin 16)
  /-- R399. Copies a toll range to another node's copy window as TOLL_WRITE messages. -/
  | spanCopy (m : Fin 16)
  /-- R443. Sets the power limit, cooling, thresholds, regulator address and steward options. -/
  | stewardConfig (m : Fin 16) (vidMode : Bool)
  /-- R443. Names the rating and VDD_CORE that the steward applies while STEWARD_EN is clear. -/
  | stewardFix (m : Fin 16)
  /-- R444. Sets the power policy, banks and retention mask of up to 64 domains. -/
  | pwrSet (m : Fin 16)
  /-- R445. Returns domain states, energy counters, temperatures, the last wake and the steward status. -/
  | pwrRead (m : Fin 16)
  /-- R425. Releases the held pads of a domain woken with HOLD_PADS. -/
  | pwrPadRelease (m : Fin 16)
  /-- R519. Writes a verified firmware image into the slot that is not running and commits it with a new commit
    record. -/
  | fwUpdate (m : Fin 16) (flashError : Option (BitVec 24))
  /-- R530. Returns the firmware slot table, lifecycle state and anti-rollback state. -/
  | fwInfo (m : Fin 16)
  /-- R528. Returns an attestation report signed by the device identity key. -/
  | attest (m : Fin 16) (signature : List Byte)
  /-- R133. Runs the self-test of girders, piers and trestle clusters, with repair and unit removal. -/
  | unitTest (m : Fin 16) (report : List UnitTest)
  /-- R137. Returns the girder and cluster status words and the SRAM error counters. -/
  | unitMap (m : Fin 16)
  /-- R40. Returns the 40-byte state of one verdict slot. -/
  | slotRead (m : Fin 16)
  /-- R213. Returns the page-pool words and key-value counters of an image. -/
  | kvStatus (m : Fin 16)
  /-- R188. Copies one track's record and page table out of deck DRAM at step 5 of a boundary. -/
  | kvDump (m : Fin 16)
  /-- R198. Resets the named tracks, with a chosen mode, at the next crossing boundary. -/
  | kvTrackReset (m : Fin 16)
  /-- R457. Returns the DRAM error counters and UE_LOG. -/
  | dramRead (m : Fin 16)
  /-- R506. Completes with OK and then schedules a warm reset 100 µs later, optionally forcing abandonment of busy
    mailboxes. -/
  | resetCmd (m : Fin 16)
  /-- R489. A long or boundary command finishes, and the gatehouse writes the response, STATUS and DETAIL and sets
    DONE and MBX_DONE. -/
  | commandComplete (m : Fin 16)
  /-- R476. A doorbell write moves HEAD of a produced queue or TAIL of a JOB queue, or sets QERR when the value is
    illegal. -/
  | queueDoorbellPtr (q : BitVec 16) (p : BitVec 32)
  /-- R480. A doorbell ARM bit sets ARMED and sends the message at once if the condition already holds. -/
  | queueDoorbellArm (q : BitVec 16)
  /-- R476. A doorbell CLEAR_QERR bit clears QERR and takes up the JOB entries already held. -/
  | queueDoorbellClearQerr (q : BitVec 16)
  /-- R469. A host access through BAR2 reaches toll space, or is refused with BAR2_RANGE. -/
  | bar2Access (off : BitVec 30) (acc : Bar2Acc)
  /-- R471. A received poisoned TLP is discarded and reported through Advanced Error Reporting. -/
  | poisonedTlp (nonPosted : Bool)
  /-- R471. PERST_N assertion resets the endpoint, the sessions, WIN_BASE and MSI-X, and detaches host queues. -/
  | perstN
  /-- R471. A PCIe hot reset has the scope of a host reset. -/
  | hotReset
  /-- R471. Loss of the PCIe link has the scope of a host reset. -/
  | pcieLinkLoss
  /-- R482. A host-ring access fails by Unsupported Request, Completer Abort or completion timeout, and the queue
    becomes DETACHED. -/
  | queueAccessFail (q : BitVec 16)
  /-- R477. The queue manager writes an entry into a ring and advances TAIL once a tag and room are available. -/
  | queueProduce
  /-- R480. A queue's holdoff timer expires with entries waiting, so the queue sends its MSI-X message. -/
  | queueHoldoffExpiry (q : BitVec 16)
  /-- R503. The gatehouse takes the next JOB queue entry in doorbell order as a standby-model job. -/
  | jobEntryTake (uncorrectable : Bool)
  /-- R503. A standby-model job finishes, and the gatehouse posts JOB_DONE with its status. -/
  | jobDone (j : Nat)
  /-- R460. A toll channel arbiter decides the next burst owner by wait limit, then cyclic order. -/
  | tollArbitration (c : Fin 4) (req : BitVec 12) (lines : BitVec 6)
  /-- R329. A filtered A or B level changes and is decoded in the configured mode, or judged illegal. -/
  | encoderTransition (p : Fin 4) (change : EncChange)
  /-- R333. A rising edge of filtered Z makes a Z or qualified-Z reference pending. -/
  | zEdge (p : Fin 4)
  /-- R338. A pulse measured in µs ends by REFCLK time. -/
  | pulseEndUs
  /-- R344. A 1 µs tick with no counted edge makes the observer predict and correct within its band. -/
  | observerTick (p : Fin 4)
  /-- R332. No edge is counted for STOP_US, so the unit enters STOPPED and the observer zeroes its speed. -/
  | motionStop (p : Fin 4)
  /-- R328. An encoder input stays below the receiver threshold for 1 µs, so its level is held and WIRE_FAULT is
    set. -/
  | encWireFault (p : Fin 4) (input : EncInput) (good : Bool)
  /-- R278. A camera line is complete and is paired with its trigger FIFO entry, or found unsolicited. -/
  | lineComplete (p : Fin 4) (line : CamLine)
  /-- R278. A trigger FIFO entry reaches age LAT_MAX_NS + 1 with no line and pops as a LOST line. -/
  | triggerEntryExpiry (p : Fin 4)
  /-- R276. A stream packet with another stream ID, or an area-scan packet, is discarded and counted. -/
  | foreignStreamPacket (p : Fin 4)
  /-- R272. A CoaXPress heartbeat packet is accepted and counted. -/
  | heartbeatPacket (p : Fin 4)
  /-- R282. A camera event packet becomes entries on the port's event queue. -/
  | camEvent (p : Fin 4) (packet : List Byte)
  /-- R281. A connection loses lock, so CONN_UP clears and relock begins. -/
  | cxpLinkDown (p : Fin 4) (conn : Fin 4)
  /-- R281. A connection regains lock and CXP_LINK_UP is posted. -/
  | cxpLinkUp (p : Fin 4) (conn : Fin 4)
  /-- R283. POCXP_FLTn_N stays low for 10 µs, so POCXP_ENn is driven low and the fault is latched. -/
  | pocxpFault (conn : Fin 16)
  /-- R296. A place frees in the raw ring, and an owed LOST line is written in line order. -/
  | owedLostLineWrite (p : Fin 4)
  /-- R296. PASS_LINES lines of a through-memory port wait, and the pipeline starts a read-back pass. -/
  | passStart (p : Fin 4)
  /-- R319. A sample's geometry completes and the ramp writes it into its place through the abutment approach
    port. -/
  | sampleWrite (p : Fin 4)
  /-- R319. A band's samples and segment list are written, so its regions pass to DECK. -/
  | bandComplete (p : Fin 4) (band : Nat)
  /-- R321. After admission, the ramp regenerates views 1 to K from the stored crop into the job's input. -/
  | secondLookViewGenerate (j : Nat)
  /-- R60. A commit reaches the slot store and is applied by slot state, completing jobs and possibly freeing the
    slot. -/
  | slotCommit
  /-- R67. A fire record is posted to the result queue, or dropped under RECORD_DROP, moving the slot to CLOSED.
    -/
  | recordPost
  /-- R65. A late record is posted, or waits or is dropped, and the slot may return to FREE. -/
  | lateRecordPost
  /-- R218. The keystone count reaches a PERIOD-mode start, which starts the next crossing or is counted as
    missed. -/
  | periodTick
  /-- R270. The keystone count reaches the launch count L and crossing 0 starts. -/
  | launchCountReached
  /-- R219. Between crossings the sequencer latches status, decides bands, takes up commits, ratings and commands,
    runs reloads and prologue and starts the next crossing. -/
  | crossingBoundary
  /-- R236. A bay's predecessors, landing flags, regions, start offset and units all hold, so it starts,
    pre-empting lower-priority bays. -/
  | bayStart (b : Fin 256)
  /-- R245. A bay's last command completes, applying late marking and slip, step-count checking and release of
    units to pre-empted bays. -/
  | bayEnd (b : Fin 256) (steps : BitVec 32)
  /-- R246. An open bay reaches its effective deadline and stops admitting or is pre-empted. -/
  | openBayDeadline (b : Fin 256)
  /-- R131. A tile ends where pending pre-emption or suspension takes effect, with pipeline drain and accumulator
    spill. -/
  | tileBoundary (b : Fin 256)
  /-- R229. A crossing-table OP command runs an operator descriptor over its tile plans. -/
  | deckOp (t : Thread)
  /-- R229. A LOAD command moves data from the deck region into piers or abutment memory. -/
  | deckLoad (t : Thread)
  /-- R229. A STORE command moves data to the deck region. -/
  | deckStore (t : Thread)
  /-- R118. A non-pre-emptible load writes standby weights into bank 9 of the swing-span piers. -/
  | swingLoad (t : Thread)
  /-- R392. A SEND command hands WRITE messages of a buffer to the span-link stack for a remote landing flag. -/
  | sendCmd (t : Thread)
  /-- R392. A SIGNAL command hands one SIGNAL message to the span-link stack. -/
  | signalCmd (t : Thread)
  /-- R397. A non-pre-emptible collective runs BARRIER, BCAST, GATHER or CHAIN_SUM among member nodes. -/
  | collective (t : Thread)
  /-- R229. A WAIT command holds its unit until a landing flag is set. -/
  | waitCmd (t : Thread)
  /-- R237. A REFRESH command issues LPDDR4X refresh on deck channels. -/
  | refreshCmd (t : Thread)
  /-- R139. A single-bit on-chip memory error is corrected, written back and counted. -/
  | sramCorrected (unit : SramUnit) (bank : Fin 16)
  /-- R140. An uncorrectable on-chip read by the deck drops the band and schedules a weight-bank reload. -/
  | sramUe (unit : SramUnit) (bank : Fin 16) (row : BitVec 16)
  /-- R454. A correctable DRAM error is corrected on read, written back and counted. -/
  | dramCorrected (ch : Fin 16)
  /-- R455. An uncorrectable deck DRAM read flags ECC_UE on every sample of the running crossing. -/
  | dramUe (ch : Fin 12) (off : BitVec 35)
  /-- R456. An uncorrectable toll DRAM read returns the stored data and posts DRAM_UE. -/
  | tollDramUe (c : Fin 4) (off : BitVec 35)
  /-- R454. A controller reads each line once per 24 hours in idle channel time. -/
  | dramScrub (ch : Fin 16)
  /-- R237. A deck channel reaches the refresh postponement limit, so the controller inserts the owed refresh. -/
  | refreshForced (ch : Fin 12)
  /-- R122. An approach write into a DECK-owned abutment region is discarded and counted. -/
  | abutOwnFault (region : Fin 384) (requester : Fin 13)
  /-- R550. A 3,600 s correctable-error interval ends and the counts restart. -/
  | ceRateInterval
  /-- R257. The recorder finishes writing a segment to its toll ring, copies it to host memory in host mode and
    frees its buffer. -/
  | recSegmentWritten
  /-- R380. Receive lanes are good or timed out, so the port forms its lane mask and chooses width and lanes. -/
  | spanWidthChosen (p : Fin 8) (good : BitVec 4) (partner : BitVec 4)
  /-- R381. CAPS blocks are exchanged, the widths agree and the port enters UP with the chosen version. -/
  | spanCaps (p : Fin 8) (caps : SpanCaps)
  /-- R381. A port has not reached UP 2 ms after TRAIN, so it restarts training and posts SPAN_TRAIN_FAIL. -/
  | spanTrainTimeout (p : Fin 8)
  /-- R382. A lane in use loses lock, so the port marks bad lanes and retrains. -/
  | spanLockLoss (p : Fin 8) (lanes : BitVec 4)
  /-- R387. A frame is received, checked, sequenced, acknowledged or NAKed, and its credits and messages taken up.
    -/
  | spanFrameReceive (p : Fin 8) (frame : List Byte)
  /-- R388. The oldest unacknowledged frame waits 10 µs, so the transmitter resends from it. -/
  | spanReplayTimeout (p : Fin 8)
  /-- R386. A 1 µs interval with acknowledgements or credits owed sends a NULL frame. -/
  | spanAckTimer (p : Fin 8)
  /-- R393. A WRITE message for this node lands in its landing half, is held, or is discarded by XNO and bounds.
    -/
  | writeMessage (p : Fin 9)
  /-- R393. A SIGNAL message for this node sets its landing flag, or is held or discarded. -/
  | signalMessage (p : Fin 9)
  /-- R399. A TOLL_WRITE message is written into the copy window, or discarded with SPAN_BOUNDS. -/
  | tollWrite (p : Fin 9)
  /-- R394. A message for another node decrements TTL and leaves by its route entry, or is dropped with
    ROUTE_DROP. -/
  | messageForward (p : Fin 9)
  /-- R404. A SYNC_FU carrying t1 and t4 completes an exchange, and the follower computes offset and steps or
    slews. -/
  | syncFu (p : Fin 8)
  /-- R404. A NEIGHBOR message updates the grandmaster, distance and parent choice. -/
  | neighborMsg (p : Fin 8)
  /-- R404. Every 100,000 ns a follower exchanges SYNC blocks with its parent. -/
  | syncExchange
  /-- R391. Each UP port sends NEIGHBOR every 1 ms. -/
  | neighborSend
  /-- R405. No SYNC_FU arrives for 1 ms, so the follower enters HOLDOVER. -/
  | ksHoldoverTimeout
  /-- R405. A follower has had no parent for 10 ms, so it enters UNSYNC. -/
  | ksParentTimeout
  /-- R358. At each 1,000 ns tick the processor sends down frame k with the commanded levels and any configuration
    write. -/
  | fieldFrameTick
  /-- R359. The field die applies a good down frame, drives outputs, samples inputs, checks readback and sends its
    up frame. -/
  | fieldDownFrameApply (good : Bool) (levels : BitVec 32) (lplusLow : Bool)
  /-- R364. A good up frame updates inputs, stamps and records changes, takes PU latches and restores the link. -/
  | fieldUpFrame (good : Bool)
  /-- R364. No good up frame for 8 µs, so LINK_UP and IN_VALID clear and FIELD_LINK_DOWN is posted. -/
  | fieldLinkTimeout
  /-- R363. No good down frame for 8 µs, so the field die enters its safe state. -/
  | fieldDieSafeTimeout
  /-- R351. L+ crosses the field die's undervoltage lockout, holding the die in reset or leaving it into reset
    values and the safe state. -/
  | fieldUvlo (low : Bool)
  /-- R355. An output switch trips thermally, turns off (with its paralleled group) and latches FIO_OVL. -/
  | fioThermalTrip (ch : Fin 32)
  /-- R419. A block answers PREPARE with ACCEPT, REFUSE or DELAY. -/
  | prepareAnswer (d : Fin 76) (busyUs : BitVec 16)
  /-- R419. A block gives no answer within 10 µs and is treated as refusing. -/
  | prepareTimeout (d : Fin 76)
  /-- R419. A DELAY expires and the steward sends PREPARE again, or gives up after 100 ms. -/
  | prepareDelayExpiry (d : Fin 76)
  /-- R423. The first access to an MC group or abutment bank that is not ON wakes it, and the requester stalls. -/
  | onDemandWake (d : Fin 76) (requester : BitVec 6)
  /-- R422. A domain's wake completes, its configuration is rewritten and its pads are released unless held. -/
  | domainWakeComplete (d : Fin 76)
  /-- R424. An access to a non-waking domain that is not ON is dropped. -/
  | pwrAccessOff (d : Fin 64) (requester : BitVec 6) (address : BitVec 32)
  /-- R444. MC3 has no toll access for 100 µs and enters RETENTION under AUTO. -/
  | mc3IdleRetention
  /-- R441. The core sense reads at least the target for 5 µs, so a waiting crossing may start. -/
  | vddSettled (sense : BitVec 16)
  /-- R441. VDD_CORE has not settled within SETTLE_US, and the steward chooses again. -/
  | vddTimeout (sense : BitVec 16)
  /-- R441. The regulator reports a STATUS_WORD fault, entering restricted service. -/
  | vrmFault (word : BitVec 16)
  /-- R431. Temperature sensors update every 100 µs and ALERT_N follows T_ALERT. -/
  | sensorUpdate (temps : List (BitVec 16)) (drawn : List (BitVec 48))
  /-- R446. A sensor reads 115 °C, so the hardware makes the field die safe, floats the TRIG pins and turns every
    domain but AO off. -/
  | thermTrip
  /-- R430. No REFCLK edge for 200 ns, so timekeeping returns to the oscillator and a warm reset follows. -/
  | refclkLost
  /-- R534. Power-on causes a cold reset. -/
  | powerOn
  /-- R534. RESET_N held low for 10 µs causes a cold reset. -/
  | resetNAssert
  /-- R516. After RESET_N release the boot ROM reads OTP and flash, chooses a bootable slot, loads it or enters
    ROM recovery. -/
  | resetNRelease
  /-- R517. Firmware starts, then runs self-test and DRAM training. -/
  | firmwareStart (report : List UnitTest) (dramFail : Bool)
  /-- R518. Firmware first sets FW_READY, raises AR_COUNTER, burns revocations and erases the next last-words
    sector. -/
  | fwReady
  /-- R537. A warm reset makes outputs safe, puts DRAM in self-refresh, restarts the gatehouse, writes last words
    and returns slots to FREE. -/
  | warmReset
  /-- R538. The system watchdog goes 1 ms without restart and causes a warm reset. -/
  | watchdogBite
  /-- R539. FW_READY is not set 2 s after a warm reset's cause, or a third bite falls within 60 s, causing an
    internal cold reset. -/
  | warmResetEscalation
  /-- R540. PFAIL_N falls, so the hardware makes outputs safe, stops the recorder and turns domains off, and the
    gatehouse writes last words. -/
  | pfailNFall
  /-- R545. PFAIL_N has been high for 10 ms without supply loss, so an internal cold reset follows. -/
  | pfailNReturn
  /-- R532. Catwalk HELP lists the monitor commands. -/
  | helpCmd
  /-- R532. Catwalk INFO prints FW_INFO and GET_CAPS fields. -/
  | infoCmd
  /-- R531. Catwalk BAUD switches the UART rate after the response. -/
  | baud (rate : BitVec 32)
  /-- R533. Catwalk CHAL prints a fresh challenge and invalidates the previous one. -/
  | chal (random : List Byte)
  /-- R533. Catwalk UNLOCK checks an owner-signed answer and grants the READ or FULL level. -/
  | unlock (level : BitVec 2) (answer : List Byte)
  /-- R533. The 60 s refusal of CHAL after three invalid answers ends. -/
  | catwalkLockoutExpiry
  /-- R532. Catwalk STATUS prints DEV_STATUS and the restricted-service reasons. -/
  | statusCmd
  /-- R532. Catwalk LOG prints the newest 64 event records. -/
  | logCmd
  /-- R532. Catwalk MR reads up to 4,096 bytes of toll space. -/
  | mrCmd (addr : BitVec 64) (count : BitVec 13)
  /-- R532. Catwalk MW writes 8 bytes of toll space. -/
  | mwCmd (addr : BitVec 64) (v : BitVec 64)
  /-- R532. Catwalk PROVISION writes an owner key hash, advancing from BLANK to PROVISIONED. -/
  | provision (slot : Fin 4) (hash : List Byte) (confirm : List Byte)
  /-- R532. Catwalk REVOKE burns an owner slot's revocation bit. -/
  | revoke (slot : Fin 4) (confirm : List Byte)
  /-- R511. Catwalk LIFECYCLE PRODUCTION advances the lifecycle from PROVISIONED. -/
  | lifecycleProduction (confirm : List Byte)
  /-- R511. Catwalk LIFECYCLE RETURN advances the lifecycle to RETURNED. -/
  | lifecycleReturn (confirm : List Byte)
  /-- R533. Catwalk LOCK returns the monitor to the locked level. -/
  | lockCmd
  /-- R532. Catwalk RESET WARM performs a warm reset as RESET with FORCE. -/
  | catwalkResetWarm
  /-- R523. In ROM recovery, LOAD takes a firmware image in CRC-checked blocks, writes it to slot 0 and boots it.
    -/
  | romRecoveryLoad (blocks : List (List Byte × BitVec 32))
  /-- R517. Release of PERST_N lets the PCIe endpoint leave reset, wake the PE domain and start link training. -/
  | perstNRelease
  /-- R267. In replay mode the device takes the next record of the Yelard stream (line, encoder, config, boundary,
    slot, freeze, fire, admit, landing or job) and feeds it in, ending the replay at a GAP, break, stop crossing
    or stream end. -/
  | replayRecord
  /-- R373. A LINE_TRIG pulse on a TRIG pin ends WIDTH_NS after it started, and the pin returns inactive. -/
  | lineTrigPulseEnd (n : Fin 16)
  /-- R404. A SYNC block arriving on a span port is stamped after deskew (t2 on the follower, t4 on the parent),
    and the parent answers with SYNC_FU. -/
  | syncBlock (p : Fin 8)
  deriving DecidableEq, Repr

end Sys2Proof
end

