-- ==== Sys2Proof/Decode.lean ====
section
/-! DEFINITION. Sys2Proof/Decode.lean: the command that a table word spells. No row of the operation table gives bits, since
the SG7 is a block that takes commands and events and decodes no instruction words, so no word spells one.
-/

namespace Sys2Proof

/-- The command that `nbits` bits `w` spell by the operation table: none, as no row gives bits. -/
def decodeTableWord (_nbits _w : Nat) : Option Instr := none

end Sys2Proof
end

