-- ==== Sys2Proof/Config.lean ====
section
/-! DEFINITION. Sys2Proof/Config.lean: what one part fixes, and the free values: the values that the manual leaves
open. A free value is an opaque constant with no body, so nothing can be proved from a value of it. -/

namespace Sys2Proof.Config

/-- The value FP8-E5M2 takes when a finite source overflows under stochastic rounding; R83 states it for ROUND 0b00
and 0b01 only (log entry 2, DESIGN CHOICE). Arguments: the sign and the 24-bit draw. -/
opaque e5m2SrOverflow : Bool → Nat → Nat

/-- The cumulative stride of camera port `p` that a STREAM section states; R224 gives the section's content and no
layout (log entry 9, DESIGN CHOICE). -/
opaque streamStride : List Byte → Nat → Nat

/-- The segment spacing that a STREAM section states for camera port `p` (R149, R224; log entry 9, DESIGN CHOICE). -/
opaque streamSpacing : List Byte → Nat → Nat

/-- The halo rows that a STREAM section states for tensor `t`, 0 where it is not streaming (R224, R233; log entry
9, DESIGN CHOICE). -/
opaque streamHalo : List Byte → Nat → Nat

/-- ROW_W that a STREAM section states for camera port `p` (R316; log entry 9, DESIGN CHOICE). -/
opaque streamRowW : List Byte → Nat → Nat

/-- ROWS that a STREAM section states for camera port `p` (R316; log entry 9, DESIGN CHOICE). -/
opaque streamRows : List Byte → Nat → Nat

/-- The packed input tensor that a STREAM section states for camera port `p`, whose record gives the row height and
the tensor format (R316; log entry 9, DESIGN CHOICE). -/
opaque streamTensor : List Byte → Nat → Nat

/-- What a unit reads from a pier that it has no path to (R113, R116 give it none); the argument is the address
(log entry 106, DESIGN CHOICE). -/
opaque noPath : Nat → Nat

/-- Time in ns that a boundary's copies of `n` bytes take: a KV_DUMP, a checkpoint (R219 and R265 give no time)
(log entry 114, DESIGN CHOICE). -/
opaque copyTime : Nat → Nat

/-- Toll address of place `n` of a port's raw ring (R296 gives none; log entry 109, DESIGN CHOICE). -/
opaque rawRing : Nat → Nat → Nat

/-- Whether the statistics ring of a port has a released place for its next block, as a function of the port and the
blocks written; the manual names no way to release a place (R292; log entry 11, DESIGN CHOICE). -/
opaque statsRoom : Nat → Nat → Bool

/-- Toll address of statistics block place `n` of a port (R292; log entry 11, DESIGN CHOICE). -/
opaque statsAddr : Nat → Nat → Nat

/-- The value the observer's speed takes when a sum leaves signed 16.48 (R344 states no result there; log entry 13, DESIGN CHOICE). -/
opaque obsSpeedOverflow : Int → BitVec 64

/-- The value the observer's acceleration takes when a sum leaves signed 1.63 (R344; log entry 13, DESIGN CHOICE). -/
opaque obsAccelOverflow : Int → BitVec 64

/-- Which bit of a frame an injected error inverts first (R384 leaves the choice open); the argument counts frames
(log entry 25, DESIGN CHOICE). -/
opaque injectBit : Nat → Nat

/-- Whether the firmware region has room for the second-look buffer of a slot (R568); the arguments are the slot and its
generation. -/
opaque slBufRoom : Nat → Nat → Bool

/-- Bytes that a stored crop of so many samples takes in the crop ring (R321 gives the ring's size and not the form of a
crop in it). -/
opaque cropBytes : Nat → Nat

/-- The camera port whose bands a streaming tensor follows, as a STREAM section states it (R224, R233; log entry 9, DESIGN CHOICE). -/
opaque streamPort : List Byte → Nat → Nat

/-- The gatehouse's estimate of a job's time in ns (R63, R238): the manual gives no formula. Arguments: 0 for a second look
and 1 for a standby job, the image index, the views (for a standby job, the girders whose swing span must be loaded first),
and VDD_CORE in mV (log entry 27, DESIGN CHOICE). -/
opaque jobTime : Nat → Nat → Nat → Nat → Nat

/-- The gatehouse's estimate of a job's energy in nJ (R63, R238); arguments as for its time
(log entry 27, DESIGN CHOICE). -/
opaque jobEnergy : Nat → Nat → Nat → Nat → Nat

/-- WAKE_SRC of the wake that the release of PERST_N starts: R426 lists no code for it; the argument is the keystone
count (log entry 28, DESIGN CHOICE). -/
opaque perstWakeSrc : Nat → Nat

/-- The requester that WAKE_LAST holds for a wake no requester caused (R426 names requesters only for accesses); the
arguments are the source and the domain (log entry 28, DESIGN CHOICE). -/
opaque noRequester : Nat → Nat → Nat

/-- STATE of PD_STATUS[41]: R427 gives the word one state, and R415 a state to each of the twelve banks it covers; the
argument is AB_STATE (log entry 28, DESIGN CHOICE). -/
opaque abState : Nat → Nat

/-- The bit errors that the checker of a lane under test counts before a SPAN_READ of its port (R385): what the lane received
comes from outside. The arguments are the port, the lane and the port's SPAN_READs until then (log entry 116, DESIGN CHOICE). -/
opaque bitErrors : Nat → Nat → Nat → Nat

end Sys2Proof.Config
end

