-- ==== Sys2Proof/Machine/Bits.lean ====
section
/-! DEFINITION. Sys2Proof/Machine/Bits.lean: bit fields, byte order, sign extension, and the sparse tables' read and
write.
-/

namespace Sys2Proof

/-- Reads key `k`; an unlisted key reads as `d`. -/
def Tab.get {α : Type} (d : α) : Tab α → Nat → α
  | [], _ => d
  | (k, v) :: t, i => if i = k then v else if i < k then d else Tab.get d t i

/-- Writes key `k`, keeping the keys strictly rising and dropping an entry equal to `d`. -/
def Tab.set {α : Type} [DecidableEq α] (d : α) : Tab α → Nat → α → Tab α
  | [], i, v => if v = d then [] else [(i, v)]
  | (k, w) :: t, i, v =>
    if i = k then (if v = d then t.filter (fun e => decide (i < e.1)) else (i, v) :: t)
    else if i < k then (if v = d then (k, w) :: t else (i, v) :: (k, w) :: t)
    else (k, w) :: Tab.set d t i v

/-- Changes key `i` by `f`. -/
def Tab.upd {α : Type} [DecidableEq α] (d : α) (t : Tab α) (i : Nat) (f : α → α) : Tab α :=
  Tab.set d t i (f (Tab.get d t i))

/-- Every listed key is above `lo` and keys rise strictly; no entry equals `d`. -/
def Tab.wfFrom {α : Type} [DecidableEq α] (d : α) : Option Nat → Tab α → Bool
  | _, [] => true
  | lo, (k, v) :: t =>
    (match lo with
     | none => true
     | some l => decide (l < k)) && decide (v ≠ d) && Tab.wfFrom d (some k) t

/-- The canonical form of a table with default `d`. -/
def Tab.wf {α : Type} [DecidableEq α] (d : α) (t : Tab α) : Bool := Tab.wfFrom d none t

/-- Bits [hi:lo] of a natural number. -/
def bitsOf (x hi lo : Nat) : Nat := (x >>> lo) % 2 ^ (hi + 1 - lo)

/-- Bit `i` of a natural number as a Bool. -/
def bitOf (x i : Nat) : Bool := x.testBit i

/-- 1 for true. -/
def b2n (b : Bool) : Nat := if b then 1 else 0

/-- Replaces bits [hi:lo] of `x` by `v`. -/
def setBits (x hi lo v : Nat) : Nat :=
  x - (bitsOf x hi lo) <<< lo + (v % 2 ^ (hi + 1 - lo)) <<< lo

/-- Little-endian value of a list of bytes (R9). -/
def leVal : List Byte → Nat
  | [] => 0
  | b :: t => b.toNat + 256 * leVal t

/-- The `n` little-endian bytes of `v` (R9). -/
def leBytes : Nat → Nat → List Byte
  | 0, _ => []
  | n + 1, v => BitVec.ofNat 8 v :: leBytes n (v / 256)

/-- Little-endian field of `n` bytes at offset `o` of a byte string; bytes beyond the end read as zero. -/
def fld (bs : List Byte) (o n : Nat) : Nat := leVal ((bs.drop o).take n)

/-- One byte at an offset. -/
def fld1 (bs : List Byte) (o : Nat) : Nat := fld bs o 1

/-- The bytes of [o, o+n). -/
def slice (bs : List Byte) (o n : Nat) : List Byte := (bs.drop o).take n

/-- Pads or cuts a byte string to `n` bytes, zeros at the end. -/
def padTo (n : Nat) (bs : List Byte) : List Byte := (bs ++ List.replicate n 0).take n

/-- `n` zero bytes. -/
def zeros (n : Nat) : List Byte := List.replicate n 0

/-- Every byte is zero (a reserved field written as R12 asks). -/
def allZero (bs : List Byte) : Bool := bs.all (fun b => b == 0)

/-- Two's-complement reading of an `n`-bit value. -/
def sx (n v : Nat) : Int :=
  let w := v % 2 ^ n
  if w < 2 ^ (n - 1) then (w : Int) else (w : Int) - (2 ^ n : Nat)

/-- The `n`-bit two's-complement code of an integer. -/
def ux (n : Nat) (v : Int) : Nat := (v % ((2 ^ n : Nat) : Int)).toNat

/-- Read of `n` bytes of a memory with default byte `d` (log entry 23, DESIGN CHOICE). -/
def memReadD (d : Byte) (m : Mem) (a : Nat) : Nat → List Byte
  | 0 => []
  | n + 1 => Tab.get d m a :: memReadD d m (a + 1) n

/-- Write of a byte string to a memory with default byte `d`. -/
def memWriteD (d : Byte) (m : Mem) (a : Nat) : List Byte → Mem
  | [] => m
  | b :: t => memWriteD d (Tab.set d m a b) (a + 1) t

/-- Read of a memory whose unlisted bytes read as zero (log entry 23, DESIGN CHOICE). -/
def memRead (m : Mem) (a n : Nat) : List Byte := memReadD 0 m a n

/-- Write of a memory whose unlisted bytes read as zero. -/
def memWrite (m : Mem) (a : Nat) (bs : List Byte) : Mem := memWriteD 0 m a bs

/-- Little-endian value of `n` bytes at an address. -/
def memVal (m : Mem) (a n : Nat) : Nat := leVal (memRead m a n)

/-- Drops every listed byte of [a, a+n). -/
def memClear (m : Mem) (a n : Nat) : Mem := m.filter (fun c => decide (c.1 < a ∨ a + n ≤ c.1))

/-- Ceiling division. -/
def cdiv (a b : Nat) : Nat := (a + b - 1) / b

/-- Rounds up to a multiple. -/
def alignUp (a m : Nat) : Nat := cdiv a m * m

/-- A list with element `i` changed by `f`. -/
def modAt {α : Type} (l : List α) (i : Nat) (f : α → α) : List α := l.modify i f

/-- A list with element `i` replaced. -/
def setAt {α : Type} (l : List α) (i : Nat) (v : α) : List α := l.set i v

/-- Ranges [a, a+n) and [b, b+m) share a byte. -/
def overlap (a n b m : Nat) : Bool := decide (a < b + m ∧ b < a + n ∧ 0 < n ∧ 0 < m)

/-- Insertion into a list sorted by `lt`, after the equal elements. -/
def insSorted {α : Type} (lt : α → α → Bool) (x : α) : List α → List α
  | [] => [x]
  | y :: t => if lt x y then x :: y :: t else y :: insSorted lt x t

/-- Stable insertion sort by a strict order. -/
def isort {α : Type} (lt : α → α → Bool) (l : List α) : List α :=
  l.foldl (fun acc x => insSorted lt x acc) []

end Sys2Proof
end

