-- ==== Sys2Proof/Machine/Float.lean ====
section
/-! DEFINITION. Sys2Proof/Machine/Float.lean: the number formats and the arithmetic of "Number Formats and Arithmetic"
(R71 to R103). Values are computed exactly as rationals and narrowed once, as the rules say.
-/

namespace Sys2Proof

/-- Tensor formats (R71). -/
inductive Fmt where
  | int4 | int8 | uint8 | int16 | e4m3 | e5m2 | fp16 | bf16 | fp32 | bx8
  deriving DecidableEq, Repr

/-- Format code to format; 0xA to 0xF are reserved (R71). -/
def fmtOfCode : Nat → Option Fmt
  | 0 => some .int4 | 1 => some .int8 | 2 => some .uint8 | 3 => some .int16 | 4 => some .e4m3
  | 5 => some .e5m2 | 6 => some .fp16 | 7 => some .bf16 | 8 => some .fp32 | 9 => some .bx8
  | _ => none

/-- Rounding modes (R85). -/
inductive Rnd where
  | nearestEven | towardZero | nearestAway | stochastic
  deriving DecidableEq, Repr

/-- ROUND field to mode (R85). -/
def rndOfCode : Nat → Rnd
  | 0 => .nearestEven | 1 => .towardZero | 2 => .nearestAway | _ => .stochastic

/-- The integer formats. -/
def fmtIsInt : Fmt → Bool
  | .int4 | .int8 | .uint8 | .int16 => true
  | _ => false

/-- R85: the mode is allowed for the output format. -/
def rndAllowed (r : Rnd) (f : Fmt) : Bool :=
  match r with
  | .nearestEven | .towardZero => true
  | .nearestAway => fmtIsInt f
  | .stochastic => decide (f = .e4m3 ∨ f = .e5m2 ∨ f = .bx8)

/-- An exact value: a rational, a negative zero, an infinity, or NaN. -/
inductive Ext where
  | nan
  | inf (neg : Bool)
  | negZero
  | fin (v : Rat)
  deriving DecidableEq, Repr

/-- Sign bit of a value; NaN has sign 0 (R76). -/
def extNeg : Ext → Bool
  | .nan => false
  | .inf n => n
  | .negZero => true
  | .fin v => decide (v < 0)

/-- The finite value of a value that is neither NaN nor infinite, else 0. -/
def extVal : Ext → Rat
  | .fin v => v
  | _ => 0

/-- NaN test. -/
def extIsNan : Ext → Bool
  | .nan => true
  | _ => false

/-- Zero of a given sign. -/
def extZero (neg : Bool) : Ext := if neg then .negZero else .fin 0

/-- 2^e as a rational. -/
def pow2 (e : Int) : Rat :=
  if 0 ≤ e then ((2 ^ e.toNat : Nat) : Rat) else mkRat 1 (2 ^ (-e).toNat)

/-- floor(log2 (n/d)) for positive n and d. -/
def floorLog2 (n d : Nat) : Int :=
  let g : Int := (Nat.log2 n : Int) - (Nat.log2 d : Int)
  -- n/d lies in (2^(g-1), 2^(g+1))
  let ge := if 0 ≤ g then decide (d * 2 ^ g.toNat ≤ n) else decide (d ≤ n * 2 ^ (-g).toNat)
  if ge then g else g - 1

/-- Rounds the nonnegative rational n/d to an integer by mode; `draw` is the 24-bit draw of R86. -/
def roundNat (r : Rnd) (draw : Nat) (n d : Nat) : Nat :=
  let q := n / d
  let m := n % d
  match r with
  | .nearestEven => if 2 * m < d then q else if 2 * m = d then (if q % 2 = 0 then q else q + 1) else q + 1
  | .towardZero => q
  | .nearestAway => if 2 * m < d then q else q + 1
  | .stochastic => if draw < 2 ^ 24 * m / d then q + 1 else q

/-- Rounds a rational to an integer by magnitude and mode. -/
def roundInt (r : Rnd) (draw : Nat) (v : Rat) : Int :=
  let k := roundNat r draw v.num.natAbs v.den
  if v < 0 then -(k : Int) else (k : Int)

/-- Layout of a binary floating-point format: mantissa bits, bias, and the code of the largest finite value (R73,
R74). -/
structure FSpec where
  mbits : Nat
  ebits : Nat
  bias : Nat
  maxFin : Nat
  hasInf : Bool
  nan : Nat
  deriving DecidableEq, Repr

/-- R73 and R74 for the five binary formats; the others answer the FP32 row. -/
def fspec : Fmt → FSpec
  | .e4m3 => ⟨3, 4, 7, 0x7E, false, 0x7F⟩
  | .e5m2 => ⟨2, 5, 15, 0x7B, true, 0x7E⟩
  | .fp16 => ⟨10, 5, 15, 0x7BFF, true, 0x7E00⟩
  | .bf16 => ⟨7, 8, 127, 0x7F7F, true, 0x7FC0⟩
  | _ => ⟨23, 8, 127, 0x7F7FFFFF, true, 0x7FC00000⟩

/-- Decodes a floating-point code to its exact value (R73 to R77). -/
def decFloat (p : FSpec) (w : Nat) : Ext :=
  let neg := bitOf w (p.mbits + p.ebits)
  let mag := w % 2 ^ (p.mbits + p.ebits)
  let e := mag / 2 ^ p.mbits
  let m := mag % 2 ^ p.mbits
  if mag = 0 then extZero neg
  else if p.maxFin < mag then
    (if p.hasInf && decide (m = 0) then .inf neg else .nan)
  else
    let sig : Nat := if e = 0 then m else m + 2 ^ p.mbits
    let ex : Int := (if e = 0 then 1 else (e : Int)) - (p.bias : Int) - (p.mbits : Int)
    let v : Rat := (sig : Rat) * pow2 ex
    .fin (if neg then -v else v)

/-- The magnitude code of a positive rational n/d in an unbounded-exponent format, rounded once (R82). -/
def magCode (p : FSpec) (r : Rnd) (draw : Nat) (n d : Nat) : Nat :=
  let qmin : Int := 1 - (p.bias : Int) - (p.mbits : Int)
  let e := floorLog2 n d
  let q : Int := max qmin (e - (p.mbits : Int))
  let k := if 0 ≤ q then roundNat r draw n (d * 2 ^ q.toNat) else roundNat r draw (n * 2 ^ (-q).toNat) d
  (q - qmin).toNat * 2 ^ p.mbits + k

/-- A converted value and the CONV_SAT and CONV_NAN it sets (R84). -/
structure Conv where
  code : Nat
  sat : Bool
  nan : Bool
  deriving DecidableEq, Repr

/-- Conversion into a binary floating-point format (R82 to R86) (log entry 2, DESIGN CHOICE). -/
def convFloat (f : Fmt) (r : Rnd) (draw : Nat) (x : Ext) : Conv :=
  let p := fspec f
  let sgn (neg : Bool) : Nat := if neg then 2 ^ (p.mbits + p.ebits) else 0
  let infCode : Nat := if p.hasInf then p.maxFin + 1 else p.maxFin
  match x with
  | .nan => ⟨p.nan, false, false⟩
  | .inf neg => ⟨sgn neg + infCode, !p.hasInf, false⟩
  | .negZero => ⟨sgn true, false, false⟩
  | .fin v =>
    if v = 0 then ⟨0, false, false⟩ else
      let neg := decide (v < 0)
      let c := magCode p r draw v.num.natAbs v.den
      if c ≤ p.maxFin then ⟨sgn neg + c, false, false⟩
      else if !p.hasInf then ⟨sgn neg + p.maxFin, true, false⟩
      else match r with
        | .towardZero => ⟨sgn neg + p.maxFin, true, false⟩
        | .stochastic =>
          let w := Config.e5m2SrOverflow neg draw % 256
          ⟨w, decide (w % 128 ≤ p.maxFin), false⟩
        | _ => ⟨sgn neg + infCode, false, false⟩

/-- Range of an integer format (R72). -/
def intRange : Fmt → Int × Int
  | .int4 => (-8, 7)
  | .int8 => (-128, 127)
  | .uint8 => (0, 255)
  | _ => (-32768, 32767)

/-- Bits of one element in memory; a BX8 element counts through its block. -/
def fmtBits : Fmt → Nat
  | .int4 => 4 | .int8 | .uint8 | .e4m3 | .e5m2 => 8
  | .int16 | .fp16 | .bf16 => 16 | .fp32 => 32 | .bx8 => 9

/-- Conversion into an integer format (R82, R83). -/
def convInt (f : Fmt) (r : Rnd) (draw : Nat) (x : Ext) : Conv :=
  let lo := (intRange f).1
  let hi := (intRange f).2
  let put (v : Int) (s : Bool) : Conv := ⟨ux (fmtBits f) v, s, false⟩
  match x with
  | .nan => ⟨0, false, true⟩
  | .inf neg => put (if neg then lo else hi) true
  | .negZero => put 0 false
  | .fin v =>
    let k := roundInt r draw v
    if k < lo then put lo true else if hi < k then put hi true else put k false

/-- Conversion of one element into any format but BX8. -/
def conv (f : Fmt) (r : Rnd) (draw : Nat) (x : Ext) : Conv :=
  if fmtIsInt f then convInt f r draw x else convFloat f r draw x

/-- Decodes one element of any format but BX8. -/
def decElem (f : Fmt) (w : Nat) : Ext :=
  match f with
  | .int4 => .fin ((sx 4 w : Int) : Rat)
  | .int8 => .fin ((sx 8 w : Int) : Rat)
  | .uint8 => .fin ((w % 256 : Nat) : Rat)
  | .int16 => .fin ((sx 16 w : Int) : Rat)
  | _ => decFloat (fspec f) w

/-- FP32 words. -/
abbrev F32 := BitVec 32

/-- The value of an FP32 word. -/
def f32 (w : F32) : Ext := decFloat (fspec .fp32) w.toNat

/-- One rounding to FP32, nearest even (R82, R85). -/
def toF32 (x : Ext) : F32 := BitVec.ofNat 32 (convFloat .fp32 .nearestEven 0 x).code

/-- FP16 word of a value, nearest even. -/
def toF16 (x : Ext) : BitVec 16 := BitVec.ofNat 16 (convFloat .fp16 .nearestEven 0 x).code

/-- The value of an FP16 word. -/
def f16 (w : BitVec 16) : Ext := decFloat (fspec .fp16) w.toNat

/-- Exact sum with IEEE signed zeros (R77). -/
def extAdd : Ext → Ext → Ext
  | .nan, _ => .nan
  | _, .nan => .nan
  | .inf a, .inf b => if a = b then .inf a else .nan
  | .inf a, _ => .inf a
  | _, .inf b => .inf b
  | .negZero, y => y
  | x, .negZero => x
  | .fin a, .fin b => .fin (a + b)

/-- Negation; NaN stays NaN. -/
def extNegate : Ext → Ext
  | .nan => .nan
  | .inf a => .inf (!a)
  | .negZero => .fin 0
  | .fin v => if v = 0 then .negZero else .fin (-v)

/-- Zero test. -/
def extIsZero : Ext → Bool
  | .negZero => true
  | .fin v => decide (v = 0)
  | _ => false

/-- Infinity test. -/
def extIsInf : Ext → Bool
  | .inf _ => true
  | _ => false

/-- Exact product with IEEE special cases. -/
def extMul (a b : Ext) : Ext :=
  if extIsNan a || extIsNan b then .nan
  else if extIsInf a || extIsInf b then
    (if extIsZero a || extIsZero b then .nan else .inf (extNeg a != extNeg b))
  else
    let v := extVal a * extVal b
    if v = 0 then extZero (extNeg a != extNeg b) else .fin v

/-- FP32 addition (R96). -/
def fadd (a b : F32) : F32 := toF32 (extAdd (f32 a) (f32 b))
/-- FP32 subtraction (R96). -/
def fsub (a b : F32) : F32 := toF32 (extAdd (f32 a) (extNegate (f32 b)))
/-- FP32 multiplication (R96). -/
def fmul (a b : F32) : F32 := toF32 (extMul (f32 a) (f32 b))
/-- FP32 fused multiply-add, one rounding (R96). -/
def ffma (a b c : F32) : F32 := toF32 (extAdd (extMul (f32 a) (f32 b)) (f32 c))
/-- FP32 negation. -/
def fneg (a : F32) : F32 := toF32 (extNegate (f32 a))

/-- Ordered comparison a < b; false when either is NaN. -/
def extLt : Ext → Ext → Bool
  | .nan, _ => false
  | _, .nan => false
  | .inf a, .inf b => a && !b
  | .inf a, _ => a
  | _, .inf b => !b
  | a, b => decide (extVal a < extVal b)

/-- Ordered equality; false when either is NaN; zeros of both signs are equal. -/
def extEq (a b : Ext) : Bool :=
  match a, b with
  | .nan, _ => false
  | _, .nan => false
  | .inf p, .inf q => p == q
  | .inf _, _ => false
  | _, .inf _ => false
  | x, y => decide (extVal x = extVal y)

/-- a ≤ b, false when either is NaN. -/
def extLe (a b : Ext) : Bool := extLt a b || extEq a b

/-- Maximum of R100: NaN when either is NaN; max(+0, −0) = +0. -/
def extMax (a b : Ext) : Ext :=
  if extIsNan a || extIsNan b then .nan
  else if extLt a b then b else if extLt b a then a
  else if extNeg a then b else a

/-- Minimum of R100: NaN when either is NaN; min(+0, −0) = −0. -/
def extMin (a b : Ext) : Ext :=
  if extIsNan a || extIsNan b then .nan
  else if extLt a b then a else if extLt b a then b
  else if extNeg a then a else b

/-- Integer square root, one bit at a time. -/
def isqrtAux (n : Nat) : Nat → Nat → Nat
  | 0, r => r
  | k + 1, r => let t := r + 2 ^ k; if t * t ≤ n then isqrtAux n k t else isqrtAux n k r

/-- floor of the square root of n. -/
def isqrt (n : Nat) : Nat := isqrtAux n (Nat.log2 n / 2 + 1) 0

/-- The rational a little above n/2^p when the true value lies strictly between n/2^p and (n+1)/2^p. -/
def sticky (n p : Nat) : Rat := mkRat (2 * n + 1) (2 ^ (p + 1))

/-- Working precision of the transcendental functions, in fraction bits (log entry 3, UNVERIFIED). -/
def transPrec : Nat := 256

/-- 2^f for a fraction f = m / 2^k below 1, in transPrec fraction bits, by repeated square roots of two. -/
def exp2Frac (m : Nat) : Nat → Nat → Nat → Nat
  | 0, _, acc => acc
  | k + 1, c, acc =>
    let c' := isqrt (c <<< transPrec)
    exp2Frac m k c' (if bitOf m k then (acc * c') >>> transPrec else acc)

/-- exp2 of R97 and R98 (log entry 3, UNVERIFIED). -/
def fexp2 (a : F32) : F32 :=
  match f32 a with
  | .nan => 0x7FC00000
  | .inf neg => if neg then 0 else 0x7F800000
  | .negZero => 0x3F800000
  | .fin v =>
    if v = 0 then 0x3F800000
    else if (128 : Rat) ≤ v then 0x7F800000
    else if v ≤ (-150 : Rat) then 0
    else if v.den = 1 then toF32 (.fin (pow2 v.num))
    else if v.den > 2 ^ 60 then
      -- |v| < 2^-36, so 2^v lies strictly inside half a unit in the last place of 1
      0x3F800000
    else
      let i := v.floor
      let fr := v - (i : Rat)
      let k := Nat.log2 fr.den
      let r := exp2Frac fr.num.natAbs k (2 <<< transPrec) (1 <<< transPrec)
      toF32 (.fin (sticky (r >>> 64) (transPrec - 64) * pow2 i))

/-- The first `k` fraction bits of log2 of y/2^transPrec, y in [1, 2), by repeated squaring. -/
def log2Frac : Nat → Nat → Nat → Nat
  | 0, _, acc => acc
  | k + 1, y, acc =>
    let y2 := (y * y) >>> transPrec
    if 2 <<< transPrec ≤ y2 then log2Frac k (y2 >>> 1) (2 * acc + 1) else log2Frac k y2 (2 * acc)

/-- log2 of R97 and R98 (log entry 3, UNVERIFIED). -/
def flog2 (a : F32) : F32 :=
  match f32 a with
  | .nan => 0x7FC00000
  | .inf neg => if neg then 0x7FC00000 else 0x7F800000
  | .negZero => 0xFF800000
  | .fin v =>
    if v = 0 then 0xFF800000
    else if v < 0 then 0x7FC00000
    else
      let e := floorLog2 v.num.natAbs v.den
      let m := v * pow2 (-e)
      if m = 1 then toF32 (.fin (e : Rat))
      else
        let y := (m.num.natAbs <<< transPrec) / m.den
        toF32 (.fin ((e : Rat) + sticky (log2Frac 110 y 0) 110))

/-- Reciprocal of R97 and R98 (log entry 3, UNVERIFIED). -/
def frecip (a : F32) : F32 :=
  match f32 a with
  | .nan => 0x7FC00000
  | .inf neg => if neg then 0x80000000 else 0
  | .negZero => 0xFF800000
  | .fin v => if v = 0 then 0x7F800000 else toF32 (.fin (1 / v))

/-- Reciprocal square root of R97 and R98 (log entry 3, UNVERIFIED). -/
def frsqrt (a : F32) : F32 :=
  match f32 a with
  | .nan => 0x7FC00000
  | .inf neg => if neg then 0x7FC00000 else 0
  | .negZero => 0xFF800000
  | .fin v =>
    if v = 0 then 0x7F800000
    else if v < 0 then 0x7FC00000
    else
      let n := (v.den <<< 512) / v.num.natAbs
      let s := isqrt n
      if s * s = n && decide ((v.den <<< 512) % v.num.natAbs = 0) then toF32 (.fin (mkRat s (2 ^ 256)))
      else toF32 (.fin (sticky s 256))

/-- LOG2E of R99. -/
def log2e : F32 := 0x3FB8AA3B
/-- exp_f32 of R99 (log entry 3, UNVERIFIED). -/
def fexp (a : F32) : F32 := fexp2 (fmul a log2e)
/-- sigmoid_f32 of R99 (log entry 3, UNVERIFIED). -/
def fsigmoid (a : F32) : F32 := frecip (fadd 0x3F800000 (fexp2 (fmul (fneg a) log2e)))

/-- The value of mantissa byte M in a BX8 block of exponent E (R79): M = 0x80 at E = 0xFE is −2^128, exactly
(log entry 94, DESIGN CHOICE). -/
def decBx8 (m e : Nat) : Ext :=
  if e = 255 then .nan else .fin ((sx 8 m : Rat) * pow2 ((e : Int) - 133))

/-- Largest finite FP32 value. -/
def fp32Max : Rat := extVal (f32 0x7F7FFFFF)

/-- The largest magnitude of a list of finite values. -/
def maxAbs (l : List Rat) : Rat := l.foldl (fun m v => max m (if v < 0 then -v else v)) 0

/-- Encodes 32 source values into a BX8 block (R80, R86): the 36 bytes and whether CONV_SAT is set. -/
def encBx8 (r : Rnd) (draws : List Nat) (xs : List Ext) : List Byte × Bool :=
  if xs.any extIsNan then (List.replicate 32 0 ++ [255, 0, 0, 0], false)
  else
    let infs := xs.any extIsInf
    let vs := xs.map (fun x => match x with
      | .inf neg => if neg then -fp32Max else fp32Max
      | y => extVal y)
    let amax := maxAbs vs
    if amax = 0 then (List.replicate 36 0, infs)
    else
      let e : Int := max 0 (floorLog2 amax.num.natAbs amax.den + 127)
      let ms := (vs.zip draws).map (fun p => roundInt r p.2 (p.1 * pow2 (133 - e)))
      let sat := ms.any (fun m => decide (m < -127 ∨ 127 < m))
      let bytes := ms.map (fun m => BitVec.ofNat 8 (ux 8 (min 127 (max (-127) m))))
      (padTo 32 bytes ++ [BitVec.ofNat 8 e.toNat, 0, 0, 0], sat || infs)

/-- The sum of one chunk of products before its rounding, with the precedence of R92. -/
def chunkExact (ps : List Ext) : Ext :=
  if ps.any extIsNan then .nan
  else
    let pinf := ps.any (fun p => extIsInf p && !extNeg p)
    let ninf := ps.any (fun p => extIsInf p && extNeg p)
    if pinf && ninf then .nan
    else if pinf then .inf false
    else if ninf then .inf true
    else
      let s := ps.foldl (fun a p => a + extVal p) (0 : Rat)
      if s = 0 then extZero (ps.all (fun p => extIsZero p && extNeg p) && !ps.isEmpty)
      else .fin s

/-- Cuts a list into chunks of 128 (R101), `fuel` chunks at most. -/
def chunks128 {α : Type} : Nat → List α → List (List α)
  | 0, _ => []
  | n + 1, l => if l.isEmpty then [] else l.take 128 :: chunks128 n (l.drop 128)

/-- A floating-point contraction: chunk sums rounded once, then combined left to right (R91, R101, R102). -/
def contractFloat (ps : List Ext) : F32 :=
  match (chunks128 (ps.length / 128 + 1) ps).map (fun c => toF32 (chunkExact c)) with
  | [] => 0
  | s :: t => t.foldl fadd s

/-- An integer contraction: the exact sum modulo 2^32 read as INT32 (R89). -/
def contractInt (ps : List Int) : Int := sx 32 (ux 32 (ps.foldl (· + ·) 0))

end Sys2Proof
end

