-- ==== Sys2Proof/Machine/Tensor.lean ====
section
/-! DEFINITION. Sys2Proof/Machine/Tensor.lean: tensors, segments, descriptors, decode and encode, and the convolution
geometry of "The Operator Contract" (R143 to R158), with the counter-based generator of R314.
-/

namespace Sys2Proof

/-- The generator draw(seed, idx, n) of R314: a 32-bit value. -/
def draw32 (seed idx n : Nat) : Nat :=
  let M := 2 ^ 64
  let mix (x : Nat) : Nat := ((x ^^^ (x >>> 31)) * 0xC4A736E91B8DF253) % M
  let x0 := (seed % M) ^^^ ((idx * 0x9C3B5E21D7A46F0B) % M) ^^^ ((n * 0x6B1DE8934C57A2F5) % M)
  let x := mix (mix (mix x0))
  (x ^^^ (x >>> 29)) >>> 32

/-- A tensor record (R145). -/
structure TRec where
  fmt : Fmt
  segd : Bool
  role : Nat
  n : Nat
  h : Nat
  w : Nat
  c : Nat
  scale : F32
  zero : Int
  deriving DecidableEq, Repr

/-- One entry of a segment list (R148, R320): the rectangle, the sample, the policy values, the slot handle, and the
deck flags gathered for the sample (R210). -/
structure Seg where
  x0 : Nat
  ws : Nat
  hs : Nat
  no : Nat
  confLo : BitVec 16
  confHi : BitVec 16
  views : Nat
  slot : Nat
  gen : Nat
  latX0 : Nat
  latX1 : Nat
  cport : Nat
  flags : Nat
  deriving DecidableEq, Repr

/-- One image of a tensor: a batch index or a segment. -/
structure Img where
  n : Nat
  x0 : Nat
  h : Nat
  w : Nat
  no : Nat
  deriving DecidableEq, Repr

/-- A tensor with its bytes. -/
structure TView where
  t : TRec
  bytes : Array Byte

/-- Bay status bits an operator sets (R181). -/
structure OpStat where
  empty : Bool
  sat : Bool
  nan : Bool
  limit : Bool
  deriving DecidableEq, Repr

/-- No status bit. -/
def OpStat0 : OpStat := ⟨false, false, false, false⟩

/-- Union of status bits. -/
def statOr (a b : OpStat) : OpStat := ⟨a.empty || b.empty, a.sat || b.sat, a.nan || b.nan, a.limit || b.limit⟩

/-- Padded channel count (R143). -/
def cpad (c : Nat) : Nat := 32 * cdiv c 32

/-- Bytes of one position of a tensor (R143). -/
def posBytes (t : TRec) : Nat :=
  match t.fmt with
  | .bx8 => cpad t.c / 32 * 36
  | f => cpad t.c * fmtBits f / 8

/-- Bytes of a tensor. -/
def tensorBytes (t : TRec) : Nat := t.n * t.h * t.w * posBytes t

/-- Position index of (n, h, w) (R143). -/
def posIdx (t : TRec) (n h w : Nat) : Nat := (n * t.h + h) * t.w + w

/-- Little-endian value inside a byte array. -/
def arrVal (a : Array Byte) (o : Nat) : Nat → Nat
  | 0 => 0
  | k + 1 => (a.getD o 0).toNat + 256 * arrVal a (o + 1) k

/-- The stored code of an element; for BX8 its mantissa byte. -/
def elemCode (v : TView) (n h w c : Nat) : Nat :=
  let base := posIdx v.t n h w * posBytes v.t
  match v.t.fmt with
  | .int4 => let b := arrVal v.bytes (base + c / 2) 1; if c % 2 = 0 then b % 16 else b / 16
  | .bx8 => arrVal v.bytes (base + c / 32 * 36 + c % 32) 1
  | f => arrVal v.bytes (base + c * (fmtBits f / 8)) (fmtBits f / 8)

/-- The stored value of an element: the stored integer of an integer format, the exact value of a float format. -/
def elemExt (v : TView) (n h w c : Nat) : Ext :=
  match v.t.fmt with
  | .bx8 => decBx8 (elemCode v n h w c) (arrVal v.bytes (posIdx v.t n h w * posBytes v.t + c / 32 * 36 + 32) 1)
  | f => decElem f (elemCode v n h w c)

/-- decode of R146 from a stored value. The BX8 element −2^128 is not representable in FP32, against the words of R79; it
rounds to −infinity here (log entry 94, DESIGN CHOICE). -/
def decodeExt (t : TRec) (x : Ext) : F32 :=
  if fmtIsInt t.fmt then fmul (toF32 (.fin (extVal x - (t.zero : Rat)))) t.scale else toF32 x

/-- decode of R146. -/
def decodeAt (v : TView) (n h w c : Nat) : F32 := decodeExt v.t (elemExt v n h w c)

/-- encode of R146 for every format but BX8. Where v is a number but u is NaN (v is zero and the reciprocal of SCALE
overflows), ZERO and CONV_NAN are given, as for a NaN v (log entry 95, DESIGN CHOICE). -/
def encodeElem (t : TRec) (r : Rnd) (draw : Nat) (v : F32) : Conv :=
  if fmtIsInt t.fmt then
    let x := f32 v
    if extIsNan x then ⟨ux (fmtBits t.fmt) t.zero, false, true⟩
    else
      match f32 (fmul v (frecip t.scale)) with
      | .nan => ⟨ux (fmtBits t.fmt) t.zero, false, true⟩
      | .inf neg => convInt t.fmt r draw (.inf neg)
      | u => convInt t.fmt r 0 (.fin ((roundInt r draw (extVal u) + t.zero : Int) : Rat))
  else convFloat t.fmt r draw (f32 v)

/-- Packs element codes of one position into bytes, padding channels with zero (R72, R143, R144). -/
def packCodes (t : TRec) (codes : List Nat) : List Byte :=
  let full := codes ++ List.replicate (cpad t.c - codes.length) 0
  match t.fmt with
  | .int4 => (List.range (cpad t.c / 2)).map (fun i => BitVec.ofNat 8 (full.getD (2 * i) 0 % 16 + 16 * (full.getD (2 * i + 1) 0 % 16)))
  | f => full.flatMap (fun c => leBytes (fmtBits f / 8) c)

/-- The rounding of an operator: mode, seed and tensor ID of its output (R87). -/
structure RndCtx where
  mode : Rnd
  seed : Nat
  tid : Nat
  deriving DecidableEq, Repr

/-- The 24-bit draw of element `idx`. -/
def drawOf (k : RndCtx) (idx : Nat) : Nat :=
  if k.mode = .stochastic then draw32 k.seed (idx % 2 ^ 64) k.tid / 256 else 0

/-- Encodes the values of one position (R146, R80, R87); `idx` is the element index of channel 0. -/
def encodePos (t : TRec) (k : RndCtx) (idx : Nat) (vals : List F32) : List Byte × OpStat :=
  match t.fmt with
  | .bx8 =>
    let blocks := (List.range (cpad t.c / 32)).map (fun b =>
      let xs := (List.range 32).map (fun i => match vals[32 * b + i]? with
        | some v => f32 v
        | none => .fin 0)
      let ds := (List.range 32).map (fun i => drawOf k (idx + 32 * b + i))
      encBx8 k.mode ds xs)
    (blocks.flatMap (fun p => p.1), ⟨false, blocks.any (fun p => p.2), false, false⟩)
  | _ =>
    let cs := vals.zipIdx.map (fun p => encodeElem t k.mode (drawOf k (idx + p.2)) p.1)
    (packCodes t (cs.map (fun c => c.code)), ⟨false, cs.any (fun c => c.sat), cs.any (fun c => c.nan), false⟩)

/-- The images of a tensor: its batch entries, or its segments (R148). -/
def imgsOf (t : TRec) (segs : List Seg) : List Img :=
  if t.segd then segs.map (fun s => ⟨0, s.x0, s.hs, s.ws, s.no⟩)
  else (List.range t.n).map (fun i => ⟨i, 0, t.h, t.w, i⟩)

/-- Element index of channel 0 at (h, w) of an image (R87, R151). -/
def elemIdx (g : Img) (c h w : Nat) : Nat := (((g.no * g.h + h) * g.w + w) * c) % 2 ^ 64

/-- Every (h, w) of an image in raster order. -/
def raster (g : Img) : List (Nat × Nat) :=
  (List.range g.h).flatMap (fun y => (List.range g.w).map (fun x => (y, x)))

/-- What an operator produces: writes relative to OUT and to AUX, over a zeroed or kept tensor, its status, and the
output's segment list. -/
structure OpRes where
  out : List (Nat × List Byte)
  aux : List (Nat × List Byte)
  stat : OpStat
  segs : List Seg
  deriving DecidableEq, Repr

/-- Bytes written at one position of the output. -/
def posWrite (t : TRec) (g : Img) (y x : Nat) (bs : List Byte) : Nat × List Byte :=
  (posIdx t g.n y (g.x0 + x) * posBytes t, bs)

/-- A value operator: one list of FP32 values per position of each output image. -/
def mapVals (t : TRec) (k : RndCtx) (imgs : List Img) (f : Img → Nat → Nat → List F32) :
    List (Nat × List Byte) × OpStat :=
  let rs := imgs.flatMap (fun g => (raster g).map (fun p =>
    let e := encodePos t k (elemIdx g t.c p.1 p.2) (f g p.1 p.2)
    (posWrite t g p.1 p.2 e.1, e.2)))
  (rs.map (fun r => r.1), rs.foldl (fun s r => statOr s r.2) OpStat0)

/-- A stored-value operator: one list of codes per position of each output image. -/
def mapCodes (t : TRec) (imgs : List Img) (f : Img → Nat → Nat → List Conv) : List (Nat × List Byte) × OpStat :=
  let rs := imgs.flatMap (fun g => (raster g).map (fun p =>
    let cs := f g p.1 p.2
    (posWrite t g p.1 p.2 (packCodes t (cs.map (fun c => c.code))),
      (⟨false, cs.any (fun c => c.sat), cs.any (fun c => c.nan), false⟩ : OpStat))))
  (rs.map (fun r => r.1), rs.foldl (fun s r => statOr s r.2) OpStat0)

/-- An operator descriptor (R152) with its parameter block. -/
structure Desc where
  opcode : Nat
  fast : Bool
  round : Nat
  out : Nat
  in0 : Nat
  in1 : Nat
  aux : Nat
  ptab : Nat
  bound : Nat
  seed : Nat
  params : List Byte
  deriving DecidableEq, Repr

/-- Padding modes of R154. -/
structure Geo where
  kh : Nat
  kw : Nat
  sh : Nat
  sw : Nat
  dh : Nat
  dw : Nat
  pt : Nat
  pb : Nat
  pl : Nat
  pr : Nat
  padMode : Nat
  groups : Nat
  padValue : Nat
  deriving DecidableEq, Repr

/-- The geometry block (R154). -/
def parseGeo (p : List Byte) : Geo :=
  ⟨fld p 0 2, fld p 2 2, fld p 4 2, fld p 6 2, fld p 8 2, fld p 10 2, fld p 12 2, fld p 14 2, fld p 16 2, fld p 18 2,
    fld p 20 1 % 4, fld p 22 2, fld p 24 4⟩

/-- Output size along one axis (R155), 0 when empty (R156) or when the input is empty. -/
def outSize (inn k d s plo phi : Nat) : Nat :=
  if inn = 0 then 0
  else
    let num : Int := (inn + plo + phi : Nat) - (d * (k - 1) + 1 : Nat)
    (Int.toNat (Int.fdiv num s + 1))

/-- Padding index of R158 along one axis for replicate (2) and reflect (3). -/
def padIdx (mode : Nat) (i : Int) (inn : Nat) : Nat :=
  if mode = 2 then (min (max i 0) ((inn : Int) - 1)).toNat
  else if inn = 1 then 0
  else
    let p : Int := 2 * ((inn : Int) - 1)
    let j := i % p
    if j < inn then j.toNat else (p - j).toNat

/-- The stored value of a tap of a contraction, padded taps by R158. -/
def tapExt (v : TView) (q : Geo) (g : Img) (y x : Int) (c : Nat) : Ext :=
  let inside := decide (0 ≤ y ∧ y < g.h ∧ 0 ≤ x ∧ x < g.w)
  if inside then elemExt v g.n y.toNat (g.x0 + x.toNat) c
  else if q.padMode = 0 then (if fmtIsInt v.t.fmt then .fin (v.t.zero : Rat) else .fin 0)
  else if q.padMode = 1 then decElem v.t.fmt q.padValue
  else elemExt v g.n (padIdx q.padMode y g.h) (g.x0 + padIdx q.padMode x g.w) c

/-- The output image of an input image under a geometry (R149, R155, R156). -/
def outImg (q : Geo) (g : Img) : Img :=
  let h := outSize g.h q.kh q.dh q.sh q.pt q.pb
  let w := outSize g.w q.kw q.dw q.sw q.pl q.pr
  if h = 0 ∨ w = 0 then ⟨g.n, g.x0 / q.sw, 0, 0, g.no⟩ else ⟨g.n, g.x0 / q.sw, h, w, g.no⟩

/-- The output segment list under a geometry (R149). -/
def outSegs (q : Geo) (segs : List Seg) : List Seg :=
  segs.map (fun s =>
    let g := outImg q ⟨0, s.x0, s.hs, s.ws, s.no⟩
    (⟨g.x0, g.w, g.h, s.no, s.confLo, s.confHi, s.views, s.slot, s.gen, s.latX0, s.latX1, s.cport, s.flags⟩ : Seg))

/-- EMPTY_OUTPUT of a list of output images (R156). -/
def anyEmpty (imgs : List Img) : Bool := imgs.any (fun g => g.h == 0 || g.w == 0)

end Sys2Proof
end

