-- ==== Sys2Proof/Machine/Operators.lean ====
section
/-! DEFINITION. Sys2Proof/Machine/Operators.lean: the operators of the closed set (R142) but the two phases of strip
attention: what each computes from its descriptor and its tensors.
-/

namespace Sys2Proof

/-- FP32 word at an offset of a parameter block. -/
def pf32 (p : List Byte) (o : Nat) : F32 := BitVec.ofNat 32 (fld p o 4)

/-- Maximum of R100 on FP32 words. -/
def fmax (a b : F32) : F32 := toF32 (extMax (f32 a) (f32 b))
/-- Minimum of R100 on FP32 words. -/
def fmin (a b : F32) : F32 := toF32 (extMin (f32 a) (f32 b))
/-- cvt of an integer to FP32. -/
def fcvt (k : Int) : F32 := toF32 (.fin (k : Rat))

/-- Float activations of R161 by code: 1 RELU, 2 CLAMP, 3 LEAKY, 4 SIGMOID, 5 SILU (log entry 5, DEDUCED). -/
def floatAct (code : Nat) (lo hi alpha v : F32) : F32 :=
  match code with
  | 1 => fmax v 0
  | 2 => fmin (fmax v lo) hi
  | 3 => if extLt (f32 v) (.fin 0) then fmul v alpha else v
  | 4 => fsigmoid v
  | 5 => fmul v (fsigmoid v)
  | _ => v

/-- Entry c of an epilogue table (R160): BIAS, MUL, SHIFT; PTAB 0xFFFF gives 0, 1, 0 (log entry 5, DEDUCED). -/
def epiEntry (tab : Option (List Byte)) (mulOne : Nat) (c : Nat) : Nat × Nat × Nat :=
  match tab with
  | none => (0, mulOne, 0)
  | some bs => (fld bs (12 * c) 4, fld bs (12 * c + 4) 4, fld bs (12 * c + 8) 1)

/-- The integer-to-integer epilogue of R161. -/
def epiInt (t : TRec) (r : Rnd) (e : List Byte) (tab : Option (List Byte)) (c : Nat) (acc : Int) : Conv :=
  let en := epiEntry tab 1 c
  let a := sx 32 (ux 32 (acc + (en.1 : Int)))
  let p := a * sx 32 en.2.1
  let rr := roundInt r 0 (mkRat p (2 ^ en.2.2)) + t.zero
  let act := fld1 e 0 % 16
  let v := if act = 1 then max rr t.zero
    else if act = 2 then min (max rr (sx 32 (fld e 4 4))) (sx 32 (fld e 8 4)) else rr
  convInt t.fmt .nearestEven 0 (.fin (v : Rat))

/-- The integer-to-float epilogue of R161 up to encode. The CLAMP bounds are INT32 on the integer path (R160), and
are converted to FP32 for the float clamp (log entry 5, DEDUCED). -/
def epiIntFloat (e : List Byte) (tab : Option (List Byte)) (c : Nat) (acc : Int) : F32 :=
  let en := epiEntry tab 0x3F800000 c
  let a := sx 32 (ux 32 (acc + (en.1 : Int)))
  floatAct (fld1 e 0 % 16) (fcvt (sx 32 (fld e 4 4))) (fcvt (sx 32 (fld e 8 4))) (pf32 e 12)
    (fmul (fcvt a) (BitVec.ofNat 32 en.2.1))

/-- The float epilogue of R161 up to encode. -/
def epiFloat (e : List Byte) (tab : Option (List Byte)) (c : Nat) (acc : F32) : F32 :=
  let en := epiEntry tab 0x3F800000 c
  floatAct (fld1 e 0 % 16) (pf32 e 4) (pf32 e 8) (pf32 e 12)
    (fmul (fadd acc (BitVec.ofNat 32 en.1)) (BitVec.ofNat 32 en.2.1))

/-- A contraction as the girders meet it (R104, R159): whether it is an integer contraction, the images of its output, its
output channels, its length, the weights of each channel and the wave elements of each output element, both in the order of
the contraction index. -/
structure Contr where
  int : Bool
  imgs : List Img
  channels : Nat
  len : Nat
  weights : Nat → List Ext
  wave : Img → Nat → Nat → Nat → List Ext

/-- The accumulators that a contraction leaves: by image, row, column and channel, a 32-bit word, INT32 or FP32. -/
abbrev AccFn := Img → Nat → Nat → Nat → BitVec 32

/-- The sum of one chunk on one column (R89, R91): the exact sum modulo 2^32, or the exact sum rounded once to FP32. -/
def chunkSum (int : Bool) (xs ws : List Ext) : BitVec 32 :=
  if int then BitVec.ofInt 32 (contractInt ((xs.zip ws).map (fun p => (extVal p.1).num * (extVal p.2).num)))
  else toF32 (chunkExact ((xs.zip ws).map (fun p => extMul p.1 p.2)))

/-- One chunk sum taken into an accumulator entry (R111): the first chunk sets it, each further one is added modulo 2^32 or by
an FP32 addition. -/
def accAdd (int first : Bool) (acc sum : BitVec 32) : BitVec 32 :=
  if first then sum else if int then acc + sum else fadd acc sum

/-- The output stage over one image set, from the accumulators (R113, R160, R161). -/
def contractOut (t : TRec) (k : RndCtx) (intPath : Bool) (e : List Byte) (tab : Option (List Byte)) (imgs : List Img)
    (acc : AccFn) : List (Nat × List Byte) × OpStat :=
  if intPath && fmtIsInt t.fmt then
    mapCodes t imgs (fun g y x => (List.range t.c).map (fun c => epiInt t k.mode e tab c (acc g y x c).toInt))
  else if intPath then
    mapVals t k imgs (fun g y x => (List.range t.c).map (fun c => epiIntFloat e tab c (acc g y x c).toInt))
  else
    mapVals t k imgs (fun g y x => (List.range t.c).map (fun c => epiFloat e tab c (acc g y x c)))

/-- Matrices of R164. -/
def wBT : List (List Int) :=
  [[4, 0, -5, 0, 1, 0], [0, -4, -4, 1, 1, 0], [0, 4, -4, -1, 1, 0], [0, -2, -1, 2, 1, 0], [0, 2, -1, -2, 1, 0],
    [0, 4, 0, -5, 0, 1]]
/-- Output transform of R164. -/
def wAT : List (List Int) := [[1, 1, 1, 1, 1, 0], [0, 1, -1, 2, -2, 0], [0, 1, 1, 4, 4, 0], [0, 1, -1, 8, -8, 1]]

/-- apply(T, x) of R164. -/
def wApply (m : List (List Int)) (x : List F32) : List F32 :=
  m.map (fun row =>
    ((row.zip x).foldl (fun (acc : Option F32) (p : Int × F32) =>
      if p.1 = 0 then acc
      else
        let q := fmul (fcvt p.1) p.2
        match acc with
        | none => some q
        | some a => some (fadd a q)) none).getD 0)

/-- Transpose of a list of rows of width n. -/
def transposeN (n : Nat) (x : List (List F32)) : List (List F32) :=
  (List.range n).map (fun j => x.map (fun r => r.getD j 0))

/-- T X T^T: T on every column first, then on every row (R164). -/
def wTwoSided (m : List (List Int)) (n : Nat) (x : List (List F32)) : List (List F32) :=
  let cols := (transposeN n x).map (wApply m)
  (transposeN m.length cols).map (wApply m)

/-- The accumulator of one output element of the F(4×4, 3×3) path (R164). The weight tensor holds V, 6 rows by 6
columns (log entry 4, DEDUCED). -/
def winogradAcc (q : Geo) (vin vw : TView) (g : Img) (y x co : Nat) : F32 :=
  let ty := y / 4 * 4
  let tx := x / 4 * 4
  let cin := vin.t.c
  let us := (List.range cin).map (fun ci =>
    (wTwoSided wBT 6 ((List.range 6).map (fun i => (List.range 6).map (fun j =>
      toF32 (tapExt vin q g ((ty + i : Nat) - (q.pt : Int)) ((tx + j : Nat) - (q.pl : Int)) ci))))).map (fun r =>
        r.map (fun u => decFloat (fspec vin.t.fmt) (convFloat vin.t.fmt .nearestEven 0 (f32 u)).code)))
  let m := (List.range 6).map (fun i => (List.range 6).map (fun j =>
    contractFloat (us.zipIdx.map (fun p => extMul ((p.1.getD i []).getD j (.fin 0)) (elemExt vw co i j p.2)))))
  ((wTwoSided wAT 6 m).getD (y - ty) []).getD (x - tx) 0

/-- The input image behind an output image of a geometry operator. -/
def srcImg (q : Geo) (imgsIn : List Img) (g : Img) : Img :=
  ((imgsIn.zip (imgsIn.map (outImg q))).find? (fun p => p.2 = g)).map Prod.fst |>.getD g

/-- CONV as a contraction (R159): t = (ky × KW + kx) × Cin_g + ci. -/
def convContr (d : Desc) (vin vw : TView) (out : TRec) (segs : List Seg) : Contr :=
  let q := parseGeo d.params
  let imgsIn := imgsOf vin.t segs
  let cing := vw.t.c
  let taps : List (Nat × Nat) := (List.range q.kh).flatMap (fun ky => (List.range q.kw).map (fun kx => (ky, kx)))
  ⟨fmtIsInt vin.t.fmt, imgsIn.map (outImg q), out.c, q.kh * q.kw * cing,
    fun co => taps.flatMap (fun p => (List.range cing).map (fun ci => elemExt vw co p.1 p.2 ci)),
    fun g y x co => taps.flatMap (fun p => (List.range cing).map (fun ci =>
      tapExt vin q (srcImg q imgsIn g) ((y * q.sh + p.1 * q.dh : Nat) - (q.pt : Int)) ((x * q.sw + p.2 * q.dw : Nat) - (q.pl : Int))
        (co / (out.c / q.groups) * cing + ci)))⟩

/-- CONV runs on the F(4×4, 3×3) path (R164). -/
def isWino4 (d : Desc) (vin : TView) : Bool := d.opcode == 1 && d.fast && !fmtIsInt vin.t.fmt

/-- CONV (R154 to R166), from the accumulators of its contraction; the F(4×4, 3×3) path has its own
(log entry 4, DEDUCED). -/
def opConv (d : Desc) (k : RndCtx) (vin vw : TView) (out : TRec) (tab : Option (List Byte)) (segs : List Seg) (acc : AccFn) :
    OpRes :=
  let q := parseGeo d.params
  let e := d.params.drop 32
  let imgsIn := imgsOf vin.t segs
  let imgs := imgsIn.map (outImg q)
  let r := if isWino4 d vin then
      mapVals out k imgs (fun g y x => (List.range out.c).map (fun co =>
        epiFloat e tab co (winogradAcc q vin vw (srcImg q imgsIn g) y x co)))
    else contractOut out k (fmtIsInt vin.t.fmt) e tab imgs acc
  ⟨r.1, [], statOr r.2 ⟨anyEmpty imgs, false, false, false⟩, outSegs q segs⟩

/-- Position p of a tensor as (n, h, w). -/
def posOf (t : TRec) (p : Nat) : Nat × Nat × Nat := (p / (t.h * t.w), p / t.w % t.h, p % t.w)

/-- MATMUL as a contraction: Y[m, n] = Σ X[m, t] × B[t, n] (R159). -/
def matmulContr (vx vb : TView) (channels : Nat) (imgs : List Img) : Contr :=
  ⟨fmtIsInt vx.t.fmt, imgs, channels, vx.t.c,
    fun co => let pb := posOf vb.t co
              (List.range vx.t.c).map (fun t => elemExt vb pb.1 pb.2.1 pb.2.2 t),
    fun g y x _ => (List.range vx.t.c).map (fun t => elemExt vx g.n y (g.x0 + x) t)⟩

/-- MATMUL (R159), from the accumulators of its contraction. -/
def opMatmul (d : Desc) (k : RndCtx) (vx : TView) (out : TRec) (tab : Option (List Byte)) (segs : List Seg) (acc : AccFn) :
    OpRes :=
  let imgs := imgsOf vx.t segs
  let r := contractOut out k (fmtIsInt vx.t.fmt) (d.params.drop 8) tab imgs acc
  ⟨r.1, [], statOr r.2 ⟨anyEmpty imgs, false, false, false⟩, segs⟩

/-- GAP of one channel of one image (R167): the stored code. -/
def gapChannel (k : RndCtx) (v : TView) (out : TRec) (g : Img) (c : Nat) : Conv ⊕ F32 :=
  let ps := raster g
  if fmtIsInt v.t.fmt then
    if ps.isEmpty then .inl ⟨ux (fmtBits out.fmt) out.zero, false, false⟩
    else
      let s := ps.foldl (fun a p => a + (extVal (elemExt v g.n p.1 (g.x0 + p.2) c)).num) (0 : Int)
      .inl (convInt out.fmt k.mode 0 (.fin (mkRat s ps.length)))
  else
    match ps.map (fun p => decodeAt v g.n p.1 (g.x0 + p.2) c) with
    | [] => .inr 0
    | x :: xs => .inr (fmul (xs.foldl fadd x) (frecip (fcvt ps.length)))

/-- GAP (R167): one position per image or segment, in order (log entry 6, DEDUCED). -/
def opGap (k : RndCtx) (v : TView) (out : TRec) (segs : List Seg) : OpRes :=
  let imgs := imgsOf v.t segs
  let rs := imgs.zipIdx.map (fun p =>
    let cs := (List.range out.c).map (fun c => gapChannel k v out p.1 c)
    let at0 := p.2 * posBytes out
    if fmtIsInt out.fmt then
      let codes := cs.map (fun c => match c with
        | .inl a => a
        | .inr f => encodeElem out .nearestEven 0 f)
      ((at0, packCodes out (codes.map (fun c => c.code))),
        (⟨false, codes.any (fun c => c.sat), codes.any (fun c => c.nan), false⟩ : OpStat))
    else
      let e := encodePos out k 0 (cs.map (fun c => match c with
        | .inl _ => (0 : F32)
        | .inr f => f))
      ((at0, e.1), e.2))
  let segsOut := segs.zipIdx.map (fun p => { p.1 with x0 := p.2, ws := 1, hs := 1 })
  ⟨rs.map (fun r => r.1), [], statOr (rs.foldl (fun s r => statOr s r.2) OpStat0) ⟨anyEmpty imgs, false, false, false⟩,
    if v.t.segd then segsOut else segs⟩

/-- CONVERT (R169). -/
def opConvert (k : RndCtx) (v : TView) (out : TRec) (segs : List Seg) : OpRes :=
  let imgs := imgsOf v.t segs
  let r := mapVals out k imgs (fun g y x => (List.range out.c).map (fun c => decodeAt v g.n y (g.x0 + x) c))
  ⟨r.1, [], statOr r.2 ⟨anyEmpty imgs, false, false, false⟩, segs⟩

/-- The functions of ELTWISE. -/
def eltFn (code : Nat) (a b : F32) : F32 :=
  match code with
  | 0 => fadd a b
  | 1 => fsub a b
  | 2 => fmul a b
  | 3 => fmax a b
  | _ => fmin a b

/-- ELTWISE (R169); a size-1 axis of IN1 is repeated. A full-width IN1 that is not SEGMENTED is read at the column of the
segment in the row (log entry 96, DESIGN CHOICE). -/
def opEltwise (d : Desc) (k : RndCtx) (va vb : TView) (out : TRec) (segs : List Seg) : OpRes :=
  let imgs := imgsOf va.t segs
  let cl (n i : Nat) : Nat := if n = 1 then 0 else i
  let r := mapVals out k imgs (fun g y x => (List.range out.c).map (fun c =>
    eltFn (fld1 d.params 0) (decodeAt va g.n y (g.x0 + x) c)
      (decodeAt vb (cl vb.t.n g.n) (cl vb.t.h y) (cl vb.t.w (g.x0 + x)) (cl vb.t.c c))))
  ⟨r.1, [], statOr r.2 ⟨anyEmpty imgs, false, false, false⟩, segs⟩

/-- The functions of ACT (R169). -/
def actFn (p : List Byte) (v : F32) : F32 :=
  match fld1 p 0 with
  | 5 => fsub (fmul 0x40000000 (fsigmoid (fmul 0x40000000 v))) 0x3F800000
  | 6 => fexp v
  | 7 => frecip v
  | 8 => frsqrt v
  | n => floatAct (n + 1) (pf32 p 4) (pf32 p 8) (pf32 p 12) v

/-- ACT (R169). -/
def opAct (d : Desc) (k : RndCtx) (v : TView) (out : TRec) (segs : List Seg) : OpRes :=
  let imgs := imgsOf v.t segs
  let r := mapVals out k imgs (fun g y x => (List.range out.c).map (fun c =>
    actFn d.params (decodeAt v g.n y (g.x0 + x) c)))
  ⟨r.1, [], statOr r.2 ⟨anyEmpty imgs, false, false, false⟩, segs⟩

/-- SOFTMAX of the channels of one position (R169). -/
def softmaxVec (x : List F32) : List F32 :=
  match x with
  | [] => []
  | x0 :: xs =>
    let m := xs.foldl fmax x0
    let e := x.map (fun v => fexp2 (fmul (fsub v m) log2e))
    match e with
    | [] => []
    | e0 :: es =>
      let r := frecip (es.foldl fadd e0)
      e.map (fun v => fmul v r)

/-- SOFTMAX (R169). -/
def opSoftmax (k : RndCtx) (v : TView) (out : TRec) (segs : List Seg) : OpRes :=
  let imgs := imgsOf v.t segs
  let r := mapVals out k imgs (fun g y x => softmaxVec ((List.range v.t.c).map (fun c => decodeAt v g.n y (g.x0 + x) c)))
  ⟨r.1, [], statOr r.2 ⟨anyEmpty imgs, false, false, false⟩, segs⟩

/-- NORM of the channels of one position (R169). -/
def normVec (eps : F32) (gb : Option (List Byte)) (x : List F32) : List F32 :=
  match x with
  | [] => []
  | x0 :: xs =>
    let rc := frecip (fcvt x.length)
    let mu := fmul (xs.foldl fadd x0) rc
    let sq (v : F32) : F32 := fmul (fsub v mu) (fsub v mu)
    let q := xs.foldl (fun a v => fadd a (sq v)) (sq x0)
    let rs := frsqrt (fadd (fmul q rc) eps)
    x.zipIdx.map (fun p =>
      let ga := match gb with
        | none => ((0x3F800000 : F32), (0 : F32))
        | some bs => (pf32 bs (8 * p.2), pf32 bs (8 * p.2 + 4))
      ffma (fmul (fsub p.1 mu) rs) ga.1 ga.2)

/-- NORM (R169). -/
def opNorm (d : Desc) (k : RndCtx) (v : TView) (out : TRec) (tab : Option (List Byte)) (segs : List Seg) : OpRes :=
  let imgs := imgsOf v.t segs
  let gb := if fld1 d.params 4 = 1 then tab else none
  let r := mapVals out k imgs (fun g y x =>
    normVec (pf32 d.params 0) gb ((List.range v.t.c).map (fun c => decodeAt v g.n y (g.x0 + x) c)))
  ⟨r.1, [], statOr r.2 ⟨anyEmpty imgs, false, false, false⟩, segs⟩

/-- The lowest value of a format (R170) (log entry 74, DEDUCED). -/
def lowestOf (f : Fmt) : Ext :=
  match f with
  | .e4m3 => .fin (-448)
  | .e5m2 | .fp16 | .bf16 | .fp32 | .bx8 => .inf true
  | _ => .fin ((intRange f).1 : Rat)

/-- MAXPOOL (R170): padded taps take no part. -/
def opMaxpool (d : Desc) (v : TView) (out : TRec) (segs : List Seg) : OpRes :=
  let q := parseGeo d.params
  let imgsIn := imgsOf v.t segs
  let imgs := imgsIn.map (outImg q)
  let src (g : Img) : Img := ((imgsIn.zip imgs).find? (fun p => p.2 = g)).map Prod.fst |>.getD g
  let r := mapCodes out imgs (fun g y x => (List.range out.c).map (fun c =>
    let gi := src g
    let vals := (List.range q.kh).flatMap (fun (ky : Nat) => (List.range q.kw).filterMap (fun (kx : Nat) =>
      let iy : Int := (y * q.sh + ky * q.dh : Nat) - (q.pt : Int)
      let ix : Int := (x * q.sw + kx * q.dw : Nat) - (q.pl : Int)
      if 0 ≤ iy ∧ iy < gi.h ∧ 0 ≤ ix ∧ ix < gi.w then some (elemExt v gi.n iy.toNat (gi.x0 + ix.toNat) c) else none))
    match vals with
    | [] => { conv out.fmt .nearestEven 0 (lowestOf out.fmt) with sat := false, nan := false }
    | a :: t => { conv out.fmt .nearestEven 0 (t.foldl extMax a) with sat := false, nan := false }))
  ⟨r.1, [], statOr r.2 ⟨anyEmpty imgs, false, false, false⟩, outSegs q segs⟩

/-- ARGMAX of a list of stored values (R170) (log entry 74, DEDUCED). -/
def argmaxOf (xs : List Ext) : Nat :=
  match xs.findIdx? extIsNan with
  | some i => i
  | none =>
    match xs with
    | [] => 0
    | a :: t => let m := t.foldl extMax a; (xs.findIdx? (fun x => x = m)).getD 0

/-- ARGMAX (R170). -/
def opArgmax (v : TView) (out : TRec) (segs : List Seg) : OpRes :=
  let imgs := imgsOf v.t segs
  let r := mapCodes out imgs (fun g y x =>
    [⟨argmaxOf ((List.range v.t.c).map (fun c => elemExt v g.n y (g.x0 + x) c)), false, false⟩])
  ⟨r.1, [], statOr r.2 ⟨anyEmpty imgs, false, false, false⟩, segs⟩

/-- A stored code as it leaves the SG7: a NaN of a float format becomes the canonical NaN (R76). -/
def canonCode (f : Fmt) (w : Nat) : Nat :=
  if !fmtIsInt f && extIsNan (decElem f w) then (fspec f).nan else w

/-- A stored BX8 block as it leaves the SG7: a NaN block is canonical (R76, R80), and the three reserved bytes are zero
(R78). -/
def canonBlock (b : List Byte) : List Byte :=
  (if b.getD 32 0 = 255 then List.replicate 32 0 else padTo 32 b) ++ [b.getD 32 0, 0, 0, 0]

/-- Bytes of one BX8 position with a block range replaced. -/
def bx8Splice (old src : List Byte) (bs bd bn : Nat) : List Byte :=
  old.take (36 * bd) ++ (List.range bn).flatMap (fun i => canonBlock (slice src (36 * (bs + i)) 36)) ++
    old.drop (36 * (bd + bn))

/-- COPY (R170): the other channels of OUT keep what they hold (log entry 74, DEDUCED). -/
def opCopy (d : Desc) (v old : TView) (segs : List Seg) : OpRes :=
  let cs := fld d.params 0 2
  let cd := fld d.params 2 2
  let cn := fld d.params 4 2
  let out := old.t
  let imgs := imgsOf v.t segs
  let posb (u : TView) (g : Img) (y x : Nat) : List Byte :=
    let b := posIdx u.t g.n y (g.x0 + x) * posBytes u.t
    (List.range (posBytes u.t)).map (fun i => u.bytes.getD (b + i) 0)
  let ws := imgs.flatMap (fun g => (raster g).map (fun p =>
    if out.fmt = .bx8 then
      posWrite out g p.1 p.2 (bx8Splice (posb old g p.1 p.2) (posb v g p.1 p.2) (cs / 32) (cd / 32) (cn / 32))
    else
      posWrite out g p.1 p.2 (packCodes out ((List.range out.c).map (fun c =>
        if cd ≤ c ∧ c < cd + cn then canonCode out.fmt (elemCode v g.n p.1 (g.x0 + p.2) (cs + (c - cd)))
        else elemCode old g.n p.1 (g.x0 + p.2) c)))))
  ⟨ws, [], ⟨anyEmpty imgs, false, false, false⟩, segs⟩

/-- One flood of CCL: labels reachable unlabelled mask positions; `work` is the list still to visit. -/
def cclFlood (h w conn lab : Nat) (mask : Array Bool) : Nat → List (Nat × Nat) → Array Nat → Array Nat
  | 0, _, l => l
  | _, [], l => l
  | n + 1, (y, x) :: work, l =>
    if y < h ∧ x < w ∧ mask.getD (y * w + x) false = true ∧ l.getD (y * w + x) 0 = 0 then
      let nb4 := [(y + 1, x), (y, x + 1)] ++ (if 0 < y then [(y - 1, x)] else []) ++ (if 0 < x then [(y, x - 1)] else [])
      let nb8 := if conn = 8 then
          [(y + 1, x + 1)] ++ (if 0 < x then [(y + 1, x - 1)] else []) ++ (if 0 < y then [(y - 1, x + 1)] else []) ++
            (if 0 < y ∧ 0 < x then [(y - 1, x - 1)] else [])
        else []
      cclFlood h w conn lab mask n (nb4 ++ nb8 ++ work) (l.setIfInBounds (y * w + x) lab)
    else cclFlood h w conn lab mask n work l

/-- Labels of one image in raster order of first positions (R171): the label array and the number of components. -/
def cclLabels (h w conn : Nat) (mask : Array Bool) : Array Nat × Nat :=
  (List.range (h * w)).foldl (fun (st : Array Nat × Nat) i =>
    if mask.getD i false = true ∧ st.1.getD i 0 = 0 then
      (cclFlood h w conn (st.2 + 1) mask (9 * h * w + 9) [(i / w, i % w)] st.1, st.2 + 1)
    else st) (Array.replicate (h * w) 0, 0)

/-- A blob record (R172). -/
def blobRec (w lab : Nat) (pos : List (Nat × F32)) : List Byte :=
  let xs := pos.map (fun p => p.1 % w)
  let ys := pos.map (fun p => p.1 / w)
  let mn (l : List Nat) : Nat := l.foldl min (l.headD 0)
  let mx (l : List Nat) : Nat := l.foldl max 0
  let sum := match pos with
    | [] => (0 : F32)
    | p :: t => t.foldl (fun a (q : Nat × F32) => fadd a q.2) p.2
  let peak := match pos with
    | [] => (0 : F32)
    | p :: t => t.foldl (fun a (q : Nat × F32) => fmax a q.2) p.2
  let pk := ((pos.find? (fun p => p.2 = peak)).map Prod.fst).getD 0
  leBytes 2 lab ++ zeros 2 ++ leBytes 4 pos.length ++ leBytes 2 (mn xs) ++ leBytes 2 (mn ys) ++ leBytes 2 (mx xs) ++
    leBytes 2 (mx ys) ++ leBytes 4 sum.toNat ++ leBytes 4 peak.toNat ++ leBytes 2 (pk % w) ++ leBytes 2 (pk / w) ++ zeros 4

/-- CCL (R171 to R173). An empty image or segment has its table of empty records written (log entry 97, DESIGN
CHOICE). -/
def opCcl (d : Desc) (v : TView) (out : TRec) (segs : List Seg) : OpRes :=
  let ch := fld d.params 0 2
  let conn := fld1 d.params 2
  let thr := f32 (pf32 d.params 4)
  let imgs := imgsOf v.t segs
  let per := imgs.map (fun g =>
    let score (i : Nat) : F32 := decodeAt v g.n (i / g.w) (g.x0 + i % g.w) ch
    let mask := ((List.range (g.h * g.w)).map (fun i => extLe thr (f32 (score i)))).toArray
    let l := cclLabels g.h g.w conn mask
    let recs := (List.range d.bound).map (fun b =>
      if b < l.2 then
        blobRec g.w (b + 1) ((List.range (g.h * g.w)).filterMap (fun i =>
          if l.1.getD i 0 = b + 1 then some (i, score i) else none))
      else zeros 32)
    (l, recs))
  let labs := (imgs.zip per).flatMap (fun p => (raster p.1).map (fun q =>
    let l := p.2.1.1.getD (q.1 * p.1.w + q.2) 0
    posWrite out p.1 q.1 q.2 (packCodes out [if l ≤ d.bound then l else 0])))
  let aux := per.zipIdx.map (fun p => (p.2 * d.bound * 32, p.1.2.flatten))
  ⟨labs, aux, ⟨anyEmpty imgs, false, false, per.any (fun p => decide (d.bound < p.1.2))⟩, segs⟩

/-- One NMS candidate (R174). -/
structure Cand where
  idx : Nat
  cls : Nat
  score : F32
  box : List F32
  deriving DecidableEq, Repr

/-- Area of a box (R174). -/
def boxArea (b : List F32) : F32 :=
  fmul (fmax 0 (fsub (b.getD 2 0) (b.getD 0 0))) (fmax 0 (fsub (b.getD 3 0) (b.getD 1 0)))

/-- A kept box suppresses a candidate (R174). -/
def suppresses (thr : F32) (aware : Bool) (a b : Cand) : Bool :=
  let g (l : List F32) (i : Nat) : F32 := l.getD i 0
  let w := fmax 0 (fsub (fmin (g a.box 2) (g b.box 2)) (fmax (g a.box 0) (g b.box 0)))
  let h := fmax 0 (fsub (fmin (g a.box 3) (g b.box 3)) (fmax (g a.box 1) (g b.box 1)))
  let inter := fmul w h
  let uni := fsub (fadd (boxArea a.box) (boxArea b.box)) inter
  (!aware || a.cls == b.cls) && extLt (f32 (fmul thr uni)) (f32 inter)

/-- The kept list of NMS, stopping at `maxOut`: the kept boxes and whether another would have been kept. -/
def nmsKeep (thr : F32) (aware : Bool) (maxOut : Nat) : List Cand → List Cand → List Cand × Bool
  | [], kept => (kept, false)
  | a :: t, kept =>
    if kept.any (fun b => suppresses thr aware a b) then nmsKeep thr aware maxOut t kept
    else if maxOut ≤ kept.length then (kept, true)
    else nmsKeep thr aware maxOut t (kept ++ [a])

/-- An NMS record (R175). -/
def nmsRec (c : Cand) : List Byte :=
  leBytes 2 c.idx ++ leBytes 2 c.cls ++ leBytes 4 c.score.toNat ++ (c.box.flatMap (fun b => leBytes 4 b.toNat)) ++ zeros 8

/-- NMS (R174, R175). An empty image or segment has its table of empty records written (log entry 97, DESIGN CHOICE). -/
def opNms (d : Desc) (vb vs : TView) (segs : List Seg) : OpRes :=
  let thr := pf32 d.params 0
  let smin := f32 (pf32 d.params 4)
  let aware := bitOf (fld1 d.params 8) 0
  let imgs := imgsOf vb.t segs
  let per := imgs.map (fun g =>
    let cands := (raster g).map (fun p =>
      let ss := (List.range vs.t.c).map (fun c => decodeAt vs g.n p.1 (g.x0 + p.2) c)
      let sc := match ss with
        | [] => (0x7FC00000 : F32)
        | a :: t => t.foldl fmax a
      (⟨p.1 * g.w + p.2, argmaxOf (ss.map f32), sc,
        (List.range 4).map (fun c => decodeAt vb g.n p.1 (g.x0 + p.2) c)⟩ : Cand))
    let live := cands.filter (fun c => !extIsNan (f32 c.score) && !extLt (f32 c.score) smin)
    let srt := isort (fun a b => extLt (f32 b.score) (f32 a.score)) live
    nmsKeep thr aware d.bound srt [])
  let recs := per.zipIdx.map (fun p =>
    (p.2 * d.bound * 32, padTo (32 * d.bound) ((p.1.1.map nmsRec).flatten ++
      (List.replicate (d.bound - p.1.1.length) (leBytes 2 0xFFFF ++ zeros 30)).flatten)))
  ⟨recs, [], ⟨anyEmpty imgs, false, false, per.any (fun p => p.2)⟩, segs⟩

/-- Position of a verdict code in the severity order (R176). -/
def severityOf (blk : List Byte) (v : Nat) : Nat :=
  ((List.range 9).find? (fun i => bitsOf (fld blk 4 5) (4 * i + 3) (4 * i) = v)).getD 0

/-- The number of table records of a class whose SCORE or PEAK is at least AUX (R177). -/
def tableCount (blob : Bool) (cls : Nat) (aux : Ext) (recs : List (List Byte)) : Nat :=
  (recs.filter (fun r =>
    if blob then decide (fld r 0 2 ≠ 0) && extLe aux (f32 (pf32 r 20))
    else decide (fld r 0 2 ≠ 0xFFFF ∧ fld r 2 2 = cls) && extLe aux (f32 (pf32 r 4)))).length

/-- Value of a rule's SOURCE (R177). SOURCE 2 on an NMS table reads the field at offset 4 as AREA, and SOURCE 1 or 2
without IN1 sees no records (log entry 98, DESIGN CHOICE). -/
def ruleSource (r : List Byte) (scores : List F32) (blob : Bool) (recs : List (List Byte)) : F32 :=
  match fld1 r 0 with
  | 0 => scores.getD (fld1 r 3) 0x7FC00000
  | 1 => fcvt (tableCount blob (fld1 r 3) (f32 (pf32 r 8)) recs)
  | 2 => fcvt ((recs.map (fun x => if fld x 0 2 = 0 then 0 else fld x 4 4)).foldl max 0)
  | _ => 0x3F800000

/-- A rule matches (R177): CMP 0 ≥, 1 >, 2 ≤, 3 <; NaN matches nothing. -/
def ruleMatch (r : List Byte) (x : F32) : Bool :=
  let t := f32 (pf32 r 4)
  match fld1 r 1 with
  | 0 => extLe t (f32 x)
  | 1 => extLt t (f32 x)
  | 2 => extLe (f32 x) t
  | _ => extLt (f32 x) t

/-- The verdict of one sample (R178). -/
def sampleVerdict (blk : List Byte) (scores : List F32) (blob : Bool) (recs : List (List Byte)) : Nat :=
  match ((List.range (fld1 blk 0)).map (fun i => slice blk (16 + 16 * i) 16)).find? (fun r =>
      ruleMatch r (ruleSource r scores blob recs)) with
  | some r => fld1 r 2 % 16
  | none => fld1 blk 2 % 16

/-- A commit from the deck (R175 of the slot chapter's "Writing a verdict", R178): handle, verdict, confidence, FINAL,
deck flags, and what the job means for PENDING. -/
structure Commit where
  slot : Nat
  gen : Nat
  verdict : Nat
  conf : BitVec 16
  final : Bool
  flags : Nat
  primary : Bool
  views : Nat
  scores : List F32
  deriving DecidableEq, Repr

/-- One evaluated sample of VERDICT. -/
structure Sample where
  seg : Seg
  verdict : Nat
  conf : F32
  scores : List F32
  deriving DecidableEq, Repr

/-- FINAL of R178. -/
def finalOf (s : Seg) (c : F32) : Bool :=
  !(decide (1 ≤ s.views) && extLe (f16 s.confLo) (f32 c) && extLe (f32 c) (f16 s.confHi))

/-- The commit of one part from its samples (R178, R569). -/
def partCommit (blk : List Byte) (s0 : Sample) (rest : List Sample) : Commit :=
  let all := s0 :: rest
  let v := rest.foldl (fun b s => if severityOf blk b < severityOf blk s.verdict then s.verdict else b) s0.verdict
  let c := rest.foldl (fun m s => fmax m s.conf) s0.conf
  let pick := if extIsNan (f32 c) then (all.find? (fun s => extIsNan (f32 s.conf))).getD s0
    else (all.find? (fun s => extEq (f32 s.conf) (f32 c))).getD s0
  let fin := finalOf s0.seg c
  ⟨s0.seg.slot, s0.seg.gen, v, toF16 (f32 c), fin, all.foldl (fun f s => f ||| s.seg.flags) 0, true, 0,
    if fin then [] else pick.scores.take 256⟩

/-- One commit per part, parts in order of their first sample (R178) (log entry 6, DEDUCED). -/
def partCommits (blk : List Byte) : Nat → List Sample → List Commit
  | 0, _ => []
  | _, [] => []
  | n + 1, s :: t =>
    let same (x : Sample) : Bool := decide (x.seg.slot = s.seg.slot ∧ x.seg.gen = s.seg.gen)
    partCommit blk s (t.filter same) :: partCommits blk n (t.filter (fun x => !same x))

/-- Scores of position i of a VERDICT input: segment i of a SEGMENTED tensor, or column i. -/
def scoresAt (v : TView) (segs : List Seg) (i : Nat) : List F32 :=
  let x := if v.t.segd then ((segs[i]?).map (fun s => s.x0)).getD 0 else i
  (List.range v.t.c).map (fun c => decodeAt v 0 0 x c)

/-- The records of image i of an IN1 table. -/
def recsAt (tab : Option TView) (per i : Nat) : List (List Byte) :=
  match tab with
  | none => []
  | some v => (List.range per).map (fun r => (List.range 32).map (fun b => v.bytes.getD ((i * per + r) * 32 + b) 0))

/-- VERDICT (R176 to R178): the commits of a band's samples. -/
def opVerdict (d : Desc) (v : TView) (tab : Option TView) (blob : Bool) (per : Nat) (segs : List Seg) : List Commit :=
  let samples := segs.zipIdx.map (fun p =>
    let sc := scoresAt v segs p.2
    (⟨p.1, sampleVerdict d.params sc blob (recsAt tab per p.2), sc.getD (fld1 d.params 1) 0x7FC00000, sc⟩ : Sample))
  partCommits d.params samples.length samples

/-- Mean over the stored score sets, lowest index first (R179). -/
def slMean (sets : List (List F32)) (c : Nat) : F32 :=
  match sets.map (fun s => s.getD c 0) with
  | [] => 0x7FC00000
  | a :: t => fmul (t.foldl fadd a) (frecip (fcvt sets.length))

/-- The most frequent verdict, ties by the latest in SEVERITY (R179). -/
def voteOf (blk : List Byte) (vs : List Nat) : Nat :=
  let cnt (v : Nat) : Nat := (vs.filter (fun x => x = v)).length
  match vs with
  | [] => fld1 blk 2 % 16
  | a :: t => t.foldl (fun b v =>
      if cnt b < cnt v ∨ (cnt b = cnt v ∧ severityOf blk b < severityOf blk v) then v else b) a

/-- The combined verdict and confidence of SL_COMBINE (R179); `sets` in ascending index. Its rules of SOURCE 1 and 2 see no
records (log entry 99, DESIGN CHOICE). -/
def slCombine (params : List Byte) (nclass : Nat) (sets : List (List F32)) : Nat × F32 :=
  let conf := slMean sets (fld1 params 1)
  if fld1 params 272 = 0 then
    let m := (List.range nclass).map (slMean sets)
    (sampleVerdict params m false [], conf)
  else (voteOf params (sets.map (fun s => sampleVerdict params s false [])), conf)

end Sys2Proof
end

