-- ==== Sys2Proof/Machine/Attention.lean ====
section
/-! DEFINITION. Sys2Proof/Machine/Attention.lean: strip attention and the paged key-value store (R182 to R213): tracks,
pages, the append and recycle rules, and the two phases.
-/

namespace Sys2Proof

/-- An attention set record (R183). -/
structure KvSet where
  id : Nat
  kvFmt : Fmt
  qFmt : Fmt
  heads : Nat
  dim : Nat
  rolling : Bool
  cport : Nat
  base : Nat
  count : Nat
  laneX0 : Nat
  laneW : Nat
  qkScale : F32
  kScale : F32
  vScale : F32
  window : Nat
  reserve : Nat
  deriving DecidableEq, Repr

/-- A track record (R190) with its page table (R188), entry index to the 32-bit entry. -/
structure KvTrack where
  set : Nat
  rolling : Bool
  truncSeen : Bool
  ueSeen : Bool
  len : Nat
  oldest : Nat
  appended : Nat
  truncated : Nat
  recycled : Nat
  table : Tab (BitVec 32)
  deriving DecidableEq, Repr

/-- A reset track of a set (R198). -/
def KvTrack0 (set : Nat) (rolling : Bool) : KvTrack := ⟨set, rolling, false, false, 0, 0, 0, 0, 0, []⟩

/-- One token offered in the running crossing: what the token phase needs of it (R196, R203). -/
structure KvTok where
  track : Nat
  row : Nat
  stored : Bool
  k : List Byte
  v : List Byte
  deriving DecidableEq, Repr

/-- A saturating counter with its SAT bit (R548). -/
structure Ctr where
  sat : Bool
  n : Nat
  deriving DecidableEq, Repr

/-- A counter at 0. -/
def Ctr0 : Ctr := ⟨false, 0⟩

/-- Counts one event: SAT is set by the event that finds COUNT at 2^31 − 1 (R548). -/
def ctrBump (c : Ctr) : Ctr := if 2 ^ 31 - 1 ≤ c.n then ⟨true, c.n⟩ else ⟨c.sat, c.n + 1⟩

/-- Counts `k` events. -/
def ctrAdd (c : Ctr) (k : Nat) : Ctr :=
  if c.n + k ≤ 2 ^ 31 - 1 then ⟨c.sat, c.n + k⟩ else ⟨true, 2 ^ 31 - 1⟩

/-- The 32-bit word of a counter (R548). -/
def ctrWord (c : Ctr) : Nat := (if c.sat then 2 ^ 31 else 0) + c.n

/-- The key-value store of one committed image: pool, free list (a stack: `freed` on top, then the pages never taken,
in ascending order, R193), sets, tracks, this crossing's tokens, and the counters of R213. -/
structure Kv where
  base : Nat
  pages : Nat
  freed : List Nat
  fresh : Nat
  sets : List KvSet
  tracks : Tab KvTrack
  toks : List KvTok
  cTrunc : Ctr
  cRecyc : Ctr
  cUe : Ctr
  emptyArmed : Bool
  deriving DecidableEq, Repr

/-- An image without a pool. -/
def Kv0 : Kv := ⟨0, 0, [], 0, [], [], [], Ctr0, Ctr0, Ctr0, true⟩

/-- The set of a track ID. -/
def kvSetOf (p : Kv) (track : Nat) : Option KvSet :=
  p.sets.find? (fun s => decide (s.base ≤ track ∧ track < s.base + s.count))

/-- A track as it stands; an unlisted track is reset. -/
def kvTrack (p : Kv) (track : Nat) : KvTrack :=
  match kvSetOf p track with
  | some s => Tab.get (KvTrack0 s.id s.rolling) p.tracks track
  | none => KvTrack0 0 false

/-- Stores a track, keeping the table canonical. -/
def kvPutTrack (p : Kv) (track : Nat) (t : KvTrack) : Kv :=
  match kvSetOf p track with
  | some s => { p with tracks := Tab.set (KvTrack0 s.id s.rolling) p.tracks track t }
  | none => p

/-- FREE_PAGES (R191). -/
def kvFree (p : Kv) : Nat := p.freed.length + (p.pages - p.fresh)

/-- Slots held by a track (R190). -/
def kvSlots (t : KvTrack) : Nat := cdiv t.len 128

/-- The sum of unmet reservations (R191). -/
def kvUnmet (p : Kv) : Nat :=
  (p.sets.map (fun s => ((List.range s.count).map (fun i =>
    (s.reserve - kvSlots (kvTrack p (s.base + i))) * s.heads)).sum)).sum

/-- The shared free count (R191). -/
def kvShared (p : Kv) : Nat := kvFree p - kvUnmet p

/-- Pops the top page of the free list (R193). -/
def kvPop (p : Kv) : Nat × Kv :=
  match p.freed with
  | a :: t => (a, { p with freed := t })
  | [] => (p.fresh, { p with fresh := p.fresh + 1 })

/-- Pops `n` pages, in pop order. -/
def kvPopN : Nat → Kv → List Nat × Kv
  | 0, p => ([], p)
  | n + 1, p =>
    let a := kvPop p
    let r := kvPopN n a.2
    (a.1 :: r.1, r.2)

/-- Page-table entry of a valid page (R188). -/
def kvEntry (page : Nat) : BitVec 32 := BitVec.ofNat 32 (2 ^ 31 + page % 2 ^ 17)

/-- Page ID of head `h` in ring position `r` (R189). -/
def kvPage (s : KvSet) (t : KvTrack) (r h : Nat) : Nat := (Tab.get 0 t.table (r * s.heads + h)).toNat % 2 ^ 17

/-- Resets a track (R198): its pages go back in ascending entry order. -/
def kvReset (p : Kv) (track : Nat) (rolling : Bool) : Kv :=
  let t := kvTrack p track
  let pages := t.table.map (fun e => e.2.toNat % 2 ^ 17)
  kvPutTrack { p with freed := pages.reverse ++ p.freed } track { KvTrack0 t.set rolling with rolling := rolling }

/-- Saturating increment of a 32-bit field. -/
def sat32 (n : Nat) : Nat := min (n + 1) (2 ^ 32 - 1)

/-- A track can take a slot (R192). -/
def kvCanTake (p : Kv) (s : KvSet) (t : KvTrack) : Bool :=
  decide (kvSlots t < s.reserve ∨ s.heads ≤ kvShared p)

/-- Writes one token's rows, one 128-byte K row and V row per head (R185, R186), into ring position `r`, row `j`. -/
def kvWriteRows (p : Kv) (s : KvSet) (t : KvTrack) (deck : Mem) (r j : Nat) (k v : List Byte) : Mem :=
  let es := s.dim * (fmtBits s.kvFmt / 8)
  (List.range s.heads).foldl (fun m h =>
    let a := p.base + 32768 * kvPage s t r h
    let m1 := memWrite m (a + 128 * j) (padTo 128 (slice k (h * es) es))
    memWrite m1 (a + 16384 + 128 * j) (padTo 128 (slice v (h * es) es))) deck

/-- The page table with the oldest slot's entries moved to ring position `r` (R189, R195): where the window is not
full that is another position than the oldest slot's own, whose entries become invalid (log entry 75, DEDUCED). -/
def kvMoveSlot (s : KvSet) (t : KvTrack) (r : Nat) : Tab (BitVec 32) :=
  if r = t.oldest then t.table
  else
    (List.range s.heads).foldl (fun tb h =>
      Tab.set 0 (Tab.set 0 tb (t.oldest * s.heads + h) 0) (r * s.heads + h)
        (Tab.get 0 t.table (t.oldest * s.heads + h))) t.table

/-- What one append did. -/
inductive KvDid where
  | stored | recycled | unstored (firstTrunc : Bool)
  deriving DecidableEq, Repr

/-- append of R194 to R196: the pool, the deck memory and what was done (log entry 75, DEDUCED). -/
def kvAppend (p : Kv) (s : KvSet) (deck : Mem) (track row : Nat) (k v : List Byte) : Kv × Mem × KvDid :=
  let t0 := kvTrack p track
  let t := { t0 with appended := t0.appended + 1 }
  let tok (b : Bool) : KvTok := ⟨track, row, b, k, v⟩
  let note (q : Kv) (b : Bool) : Kv := { q with toks := q.toks ++ [tok b] }
  if t.len % 128 ≠ 0 then
    let r := (t.oldest + (kvSlots t - 1)) % s.window
    let deck' := kvWriteRows p s t deck r (t.len % 128) k v
    (note (kvPutTrack p track { t with len := t.len + 1 }) true, deck', .stored)
  else if t.len < s.window * 128 ∧ kvCanTake p s t = true then
    let r := (t.oldest + kvSlots t) % s.window
    let po := kvPopN s.heads p
    let table := po.1.zipIdx.foldl (fun tb e => Tab.set 0 tb (r * s.heads + e.2) (kvEntry e.1)) t.table
    let t2 := { t with table := table, len := t.len + 1 }
    let deck' := kvWriteRows po.2 s t2 deck r 0 k v
    (note (kvPutTrack po.2 track t2) true, deck', .stored)
  else if t.rolling = true ∧ 0 < t.len then
    -- the oldest slot's pages become the newest ring position's: one position on, but for a full window (R189, R195)
    let r := (t.oldest + kvSlots t) % s.window
    let t2 := { t with table := kvMoveSlot s t r, oldest := (t.oldest + 1) % s.window, len := t.len - 127,
                       recycled := sat32 t.recycled }
    let deck' := kvWriteRows p s t2 deck r 0 k v
    (note (kvPutTrack { p with cRecyc := ctrBump p.cRecyc } track t2) true, deck', .recycled)
  else
    let first := !t.truncSeen
    let t2 := { t with truncated := sat32 t.truncated, truncSeen := true }
    (note (kvPutTrack { p with cTrunc := ctrBump p.cTrunc } track t2) false, deck, .unstored first)

/-- The K or V vector of head `h` from the bytes of one row. -/
def kvVec (f : Fmt) (dim : Nat) (bs : List Byte) : List Ext :=
  (List.range dim).map (fun e => decElem f (fld bs (e * (fmtBits f / 8)) (fmtBits f / 8)))

/-- The score of a query against a key (R204). -/
def kvScore (s : KvSet) (q k : List Ext) : F32 :=
  if s.kvFmt = .int8 then
    fmul (fcvt ((q.zip k).foldl (fun a p => a + (extVal p.1).num * (extVal p.2).num) (0 : Int))) s.qkScale
  else fmul (toF32 (chunkExact ((q.zip k).map (fun p => extMul p.1 p.2)))) s.qkScale

/-- The decoded value vector (R204). -/
def kvVal (s : KvSet) (v : List Ext) : List F32 :=
  v.map (fun x => if s.kvFmt = .int8 then fmul (toF32 x) s.vScale else toF32 x)

/-- The rescale factor (R206). -/
def kvFactor (m m2 : F32) : F32 :=
  if m = 0xFF800000 then 0
  else
    let t := fmul (fsub m m2) log2e
    if extLt (f32 t) (.fin (-149)) then 0 else fexp2 t

/-- The running state of one attention (R205). -/
structure Att where
  m : F32
  l : F32
  o : List F32
  bad : Bool
  deriving DecidableEq, Repr

/-- One page of R205: its rows as score and value pairs, in ascending order. -/
def attPage (a : Att) (rows : List (F32 × List F32)) : Att :=
  let bad := a.bad || rows.any (fun r => extIsNan (f32 r.1) || extIsInf (f32 r.1))
  let m2 := rows.foldl (fun m r => fmax m r.1) a.m
  let fa := kvFactor a.m m2
  let st : F32 × List F32 := (fmul a.l fa, a.o.map (fun x => fmul x fa))
  let fin := rows.foldl (fun (st : F32 × List F32) r =>
    let p := fexp2 (fmul (fsub r.1 m2) log2e)
    (fadd st.1 p, (st.2.zip r.2).map (fun q => ffma p q.2 q.1))) st
  ⟨m2, fin.1, fin.2, bad⟩

/-- attend of R205 over the pages of a range: the output values before encode (log entry 75, DEDUCED). -/
def attend (dim : Nat) (pages : List (List (F32 × List F32))) : List F32 :=
  let a := pages.foldl attPage ⟨0xFF800000, 0, List.replicate dim 0, false⟩
  if a.bad then List.replicate dim 0x7FC00000
  else let r := frecip a.l; a.o.map (fun x => fmul x r)

/-- The pages of the range of the query of one track, row and head (R203): the page IDs with their row counts, and
whether the own token follows from staging. -/
def kvRange (p : Kv) (s : KvSet) (track row head : Nat) : List (Nat × Nat) × Option KvTok :=
  let t := kvTrack p track
  let mine := p.toks.filter (fun k => k.track = track)
  let own := mine.find? (fun k => k.row = row)
  let later := (mine.filter (fun k => decide (row < k.row) && k.stored)).length
  let stored := match own with
    | some k => k.stored
    | none => true
  let n := if stored then t.len - later else t.len
  let pages := (List.range (cdiv n 128)).map (fun q =>
    (kvPage s t ((t.oldest + q) % s.window) head, min 128 (n - 128 * q)))
  (pages, if stored then none else own)

/-- One row of a page as score and value (R185, R204). -/
def kvRow (p : Kv) (s : KvSet) (deck : Mem) (q : List Ext) (page j : Nat) : F32 × List F32 :=
  let es := s.dim * (fmtBits s.kvFmt / 8)
  let a := p.base + 32768 * page
  (kvScore s q (kvVec s.kvFmt s.dim (memRead deck (a + 128 * j) es)),
    kvVal s (kvVec s.kvFmt s.dim (memRead deck (a + 16384 + 128 * j) es)))

/-- The 64-byte lines of the K and V rows that a range reads. -/
def kvLines (p : Kv) (s : KvSet) (pages : List (Nat × Nat)) : List (Nat × Nat × Nat) :=
  let n := cdiv (s.dim * (fmtBits s.kvFmt / 8)) 64
  pages.flatMap (fun g => (List.range g.2).flatMap (fun j => (List.range n).flatMap (fun i =>
    let a := p.base + 32768 * g.1 + 128 * j + 64 * i
    [(a, g.1, j), (a + 16384, g.1, j)])))

/-- The attention output of one query and head (R203 to R205), before encode. -/
def kvQuery (p : Kv) (s : KvSet) (deck : Mem) (track row head : Nat) (q : List Ext) : List F32 :=
  let rg := kvRange p s track row head
  let es := s.dim * (fmtBits s.kvFmt / 8)
  let pages := rg.1.map (fun g => (List.range g.2).map (fun j => kvRow p s deck q g.1 j))
  let own := match rg.2 with
    | none => []
    | some k => [[(kvScore s q (kvVec s.kvFmt s.dim (slice k.k (head * es) es)),
        kvVal s (kvVec s.kvFmt s.dim (slice k.v (head * es) es)))]]
  attend s.dim (pages ++ own)

/-- The query vector of one position and head from the OUT tensor of ATTN_BAND. -/
def kvQueryVec (v : TView) (s : KvSet) (row col head : Nat) : List Ext :=
  (List.range s.dim).map (fun e => elemExt v 0 row col (head * s.dim + e))

/-- ATTN_TOKEN (R202 to R205): `bad` names the positions and heads whose range read an uncorrectable line (R211). -/
def opAttnToken (d : Desc) (k : RndCtx) (v : TView) (out : TRec) (p : Kv) (s : KvSet) (deck : Mem)
    (bad : List (Nat × Nat × Nat)) : OpRes :=
  let imgs := imgsOf out []
  let tNew := fld1 d.params 1
  let r := mapVals out k (imgs.map (fun g => { g with h := min g.h tNew })) (fun _ y x =>
    (List.range s.heads).flatMap (fun h =>
      if bad.contains (s.base + x, y, h) then List.replicate s.dim 0x7FC00000
      else kvQuery p s deck (s.base + x) y h (kvQueryVec v s y x h)))
  ⟨r.1, [], r.2, []⟩

/-- The rows of one token as encoded by ATTN_BAND (R200): K bytes, V bytes and the status bits. -/
structure KvProj where
  row : Nat
  col : Nat
  k : List Byte
  v : List Byte
  deriving DecidableEq, Repr

/-- The band phase's projection (R199, R200): the queries written to OUT, and the keys and values of each token. K and V
elements have no tensor record; their draw takes the index of the element in a tensor of the queries' shape and OUT's
tensor ID, so a key, a value and a query of one place share a draw (log entry 7, DESIGN CHOICE). -/
def opAttnBand (d : Desc) (k : RndCtx) (vx : TView) (out : TRec) (tab : Option (List Byte)) (s : KvSet) (acc : AccFn) :
    OpRes × List KvProj :=
  let hd := s.heads * s.dim
  let e := d.params.drop 8
  let imgs := imgsOf out []
  let intPath := fmtIsInt vx.t.fmt
  let r := contractOut out k intPath e tab imgs acc
  -- the key and value channels pass through the same epilogue, encoded with the set's format and scale
  let kvT (scale : F32) : TRec := ⟨s.kvFmt, false, 3, 1, out.h, out.w, hd, scale, 0⟩
  let g0 : Img := imgs.headD ⟨0, 0, out.h, out.w, 0⟩
  let elem (t : TRec) (y x c ch : Nat) : Conv :=
    if intPath && fmtIsInt s.kvFmt then
      epiInt t k.mode e tab ch (acc g0 y x ch).toInt
    else
      let idx := elemIdx g0 hd y x + c
      let v := if intPath then epiIntFloat e tab ch (acc g0 y x ch).toInt else epiFloat e tab ch (acc g0 y x ch)
      encodeElem t k.mode (drawOf k idx) v
  let vec (t : TRec) (y x off : Nat) : List Conv := (List.range hd).map (fun c => elem t y x c (off + c))
  let toB (cs : List Conv) : List Byte := cs.flatMap (fun c => leBytes (fmtBits s.kvFmt / 8) c.code)
  let ps := (List.range out.w).flatMap (fun x => (List.range out.h).map (fun y =>
    let ks := vec (kvT s.kScale) y x hd
    let vs := vec (kvT s.vScale) y x (2 * hd)
    ((⟨y, x, toB ks, toB vs⟩ : KvProj),
      (⟨false, (ks ++ vs).any (fun c => c.sat), (ks ++ vs).any (fun c => c.nan), false⟩ : OpStat))))
  (⟨r.1, [], statOr r.2 (ps.foldl (fun a p => statOr a p.2) OpStat0), []⟩, ps.map (fun p => p.1))

/-- The 64-byte track record (R190). -/
def kvTrackBytes (id : Nat) (t : KvTrack) : List Byte :=
  leBytes 2 id ++ leBytes 1 t.set ++
    leBytes 1 (b2n t.rolling + 2 * b2n t.truncSeen + 4 * b2n t.ueSeen) ++ leBytes 2 t.len ++
    leBytes 1 t.oldest ++ zeros 1 ++ leBytes 8 t.appended ++ leBytes 4 t.truncated ++ leBytes 4 t.recycled ++ zeros 40

/-- The 256-entry page table (R188). -/
def kvTableBytes (t : KvTrack) : List Byte :=
  (List.range 256).flatMap (fun i => leBytes 4 (Tab.get 0 t.table i).toNat)

end Sys2Proof
end

