-- ==== Sys2Proof/Machine/Image.lean ====
section
/-! DEFINITION. Sys2Proof/Machine/Image.lean: the model image container and the crossing table (R222 to R234): what an
image holds, how it is read from its bytes, and the checks of staging (R153, R232). A check that fails answers the byte
offset of what it refused, the DETAIL of IMAGE_INVALID.
-/

namespace Sys2Proof

/-- A crossing-table command (R229). -/
inductive Cmd where
  | op (desc planFirst planCount steps : Nat)
  | load (src space unit addr len : Nat)
  | store (src space unit addr len : Nat)
  | swing (src len : Nat)
  | send (node flag space addr len : Nat)
  | signal (node flag : Nat)
  | collective (raw : List Byte)
  | wait (flag : Nat)
  | refresh (chans count : Nat)
  deriving DecidableEq, Repr

/-- Bay kinds (R228, R237). -/
inductive BayKind where
  | reserved | openBay | refresh | load
  deriving DecidableEq, Repr

/-- A bay entry (R228) with its lists and commands. -/
structure Bay where
  kind : BayKind
  bandRead : Bool
  preempt : Bool
  preds : List Nat
  flags : List Nat
  regions : List Nat
  clusters : Nat
  girders : Nat
  chans : Nat
  cmds : List Cmd
  maxSteps : Nat
  deadline : Nat
  start : Nat
  energyNj : Nat
  deriving DecidableEq, Repr

/-- A placement entry (R230). -/
structure Place where
  tid : Nat
  split : Bool
  space : Nat
  unit : Nat
  addr : Nat
  size : Nat
  deriving DecidableEq, Repr

/-- A tile-plan entry (R231). -/
structure Plan where
  unit : Nat
  flags : Nat
  waves : Nat
  posFirst : Nat
  chunkFirst : Nat
  chunkCount : Nat
  colset : Nat
  deriving DecidableEq, Repr

/-- A crossing table (R227): one load rating. -/
structure Rating where
  idx : Nat
  girders : Nat
  clusters : Nat
  buffers : Nat
  startMode : Nat
  bandLines : Nat
  cportMask : Nat
  prologue : Nat
  vfloor : Nat
  periodNs : Nat
  slackNs : Nat
  energyUj : Nat
  bays : List Bay
  places : List Place
  plans : List Plan
  deriving DecidableEq, Repr

/-- A model image (R222 to R225). -/
structure Image where
  role : Nat
  modelId : Nat
  version : Nat
  size : Nat
  sigOff : Nat
  swing : Bool
  tensors : List TRec
  descs : List Desc
  params : List (List Byte)
  weightsOff : Nat
  weightsSize : Nat
  poolPages : Nat
  poolBase : Nat
  sets : List KvSet
  stream : List Byte
  ratings : List Rating
  deckBytes : Nat
  mem : List (Nat × Nat × Nat)
  deriving DecidableEq, Repr

/-- The first failing check of a list of conditions with their byte offsets. -/
def firstBad : List (Bool × Nat) → Option Nat
  | [] => none
  | (c, o) :: t => if c then firstBad t else some o

/-- An empty image, the reading of nothing. -/
def Image0 : Image := ⟨0, 0, 0, 0, 0, false, [], [], [], 0, 0, 0, 0, [], [], [], 0, []⟩

/-- A directory entry (R223): kind, index, offset, size, and its own offset in the image. -/
structure Sect where
  kind : Nat
  index : Nat
  off : Nat
  size : Nat
  entry : Nat
  deriving DecidableEq, Repr

/-- The section directory (R223). -/
def parseDir (b : List Byte) : List Sect :=
  (List.range (fld b 24 2)).map (fun i =>
    let o := fld b 28 4 + 16 * i
    ⟨fld b o 2, fld1 b (o + 2), fld b (o + 4) 4, fld b (o + 8) 4, o⟩)

/-- Header checks (R222). -/
def headerChecks (b : List Byte) : List (Bool × Nat) :=
  let role := fld b 6 2
  let ns := fld b 24 2
  [(decide (fld b 0 4 = 0x34494D41), 0), (decide (fld b 4 2 = 4), 4), (decide (role ≤ 1), 6),
    (decide (fld b 20 4 = b.length), 20), (decide (1 ≤ ns ∧ ns ≤ 64), 24), (decide (fld1 b 26 < 2), 26),
    (decide (1 ≤ fld1 b 27 ∧ fld1 b 27 ≤ 8), 27),
    (decide (64 ≤ fld b 28 4 ∧ fld b 28 4 + 16 * ns ≤ fld b 32 4), 28), (decide (fld b 32 4 ≤ b.length), 32),
    (allZero (slice b 36 28), 36)]

/-- How often a section kind may occur: (least, most) by role (R224). -/
def kindLimits (role kind : Nat) : Option (Nat × Nat) :=
  match kind with
  | 1 | 2 | 4 | 9 => some (1, 1)
  | 3 | 7 => some (0, 1)
  | 5 => some (0, if role = 0 then 1 else 0)
  | 6 => some (if role = 0 then (1, 1) else (0, 0))
  | 8 => some (1, 8)
  | _ => none

/-- Directory checks (R223, R224). -/
def dirChecks (b : List Byte) (ss : List Sect) : List (Bool × Nat) :=
  let role := fld b 6 2
  let sig := fld b 32 4
  ss.zipIdx.flatMap (fun p =>
    let s := p.1
    [((kindLimits role s.kind).isSome, s.entry),
      (decide (if s.kind = 8 then s.index ≤ 7 else s.index = 0), s.entry + 2), (decide (fld1 b (s.entry + 3) = 0), s.entry + 3),
      (decide (s.off % 64 = 0), s.entry + 4), (decide (s.off + s.size ≤ sig), s.entry + 8),
      (decide (fld b (s.entry + 12) 4 = 0), s.entry + 12),
      ((ss.take p.2).all (fun t => !overlap s.off s.size t.off t.size), s.entry + 4),
      ((ss.take p.2).all (fun t => !(s.kind == 8 && t.kind == 8 && s.index == t.index)), s.entry + 2)]) ++
  [1, 2, 3, 4, 5, 6, 7, 8, 9].map (fun (k : Nat) =>
    let n := (ss.filter (fun s => s.kind = k)).length
    match kindLimits role k with
    | some l => (decide (l.1 ≤ n ∧ n ≤ l.2), 24)
    | none => (true, 24)) ++
  [(decide ((ss.filter (fun s => s.kind = 8)).length = fld1 b 27), 27)]

/-- The section of a kind, empty where absent. -/
def sect (ss : List Sect) (k : Nat) : Sect := (ss.find? (fun s => s.kind = k)).getD ⟨k, 0, 0, 0, 0⟩

/-- A tensor record (R145). -/
def parseTensor (b : List Byte) (o : Nat) : TRec :=
  ⟨(fmtOfCode (fld1 b o % 16)).getD .fp32, bitOf (fld1 b (o + 1)) 2, fld1 b (o + 1) % 4, fld b (o + 2) 2,
    fld b (o + 4) 2, fld b (o + 6) 2, fld b (o + 8) 2, BitVec.ofNat 32 (fld b (o + 12) 4), sx 32 (fld b (o + 16) 4)⟩

/-- Finite and greater than zero. -/
def finitePos (w : F32) : Bool :=
  match f32 w with
  | .fin v => decide (0 < v)
  | _ => false

/-- Checks of one tensor record (R145, R148). -/
def tensorChecks (b : List Byte) (o : Nat) : List (Bool × Nat) :=
  let t := parseTensor b o
  let isInt := fmtIsInt t.fmt
  [(decide (fld1 b o < 16) && (fmtOfCode (fld1 b o % 16)).isSome, o), (decide (fld1 b (o + 1) < 8), o + 1),
    (decide (1 ≤ t.n) && (!t.segd || decide (t.n = 1)), o + 2), (decide (1 ≤ t.h), o + 4), (decide (1 ≤ t.w), o + 6),
    (decide (1 ≤ t.c), o + 8), (decide (fld b (o + 10) 2 = 0), o + 10),
    (if isInt then finitePos t.scale else decide (t.scale = 0x3F800000), o + 12),
    (if isInt && decide (t.role ≠ 1) then decide ((intRange t.fmt).1 ≤ t.zero ∧ t.zero ≤ (intRange t.fmt).2)
      else decide (t.zero = 0), o + 16),
    (allZero (slice b (o + 20) 12), o + 20)]

/-- A descriptor (R152). -/
def parseDesc (b : List Byte) (o : Nat) : Desc :=
  ⟨fld1 b o, bitOf (fld1 b (o + 1)) 2, fld1 b (o + 1) % 4, fld b (o + 2) 2, fld b (o + 4) 2, fld b (o + 6) 2,
    fld b (o + 8) 2, fld b (o + 12) 2, fld b (o + 16) 4, fld b (o + 24) 8, slice b (o + 32) (fld b (o + 10) 2)⟩

/-- Parameter-block size of an operator (R153), none for a reserved OPCODE (R142). -/
def paramLen (op : Nat) : Option Nat :=
  match op with
  | 0x01 => some 56 | 0x02 => some 32 | 0x03 => some 8 | 0x04 => some 32
  | 0x10 | 0x11 | 0x12 | 0x13 | 0x14 => some 16
  | 0x15 => some 32
  | 0x16 | 0x17 | 0x18 | 0x19 => some 16
  | 0x1A => some 16 | 0x1B => some 272 | 0x1C => some 288
  | _ => none

/-- An operand pair of R88. -/
def pairOk (a w : Fmt) : Bool :=
  match a, w with
  | .int4, .int4 | .int8, .int8 | .uint8, .int8 | .int16, .int16 | .bx8, .bx8 | .fp16, .fp16 | .bf16, .bf16 => true
  | .e4m3, .e4m3 | .e4m3, .e5m2 | .e5m2, .e4m3 | .e5m2, .e5m2 => true
  | _, _ => false

/-- The checks of an epilogue block and its table (R160, R161) (log entry 82, DEDUCED). -/
def epiChecks (b : List Byte) (o : Nat) (intPath : Bool) (outInt : Bool) (tab : Option (List Byte)) (entries : Nat)
    (ptabOff : Nat) : List (Bool × Nat) :=
  let act := fld1 b o
  [(decide (act ≤ 5) && !(intPath && outInt && decide (3 ≤ act)), o), (allZero (slice b (o + 1) 3), o + 1),
    (allZero (slice b (o + 16) 8), o + 16),
    ((match tab with
      | none => true
      | some t => decide (t.length = 12 * entries) &&
          (List.range entries).all (fun i =>
            decide (fld1 t (12 * i + 8) ≤ 62) && allZero (slice t (12 * i + 9) 3))), ptabOff)]

/-- The checks of a geometry block (R154). -/
def geoChecks (b : List Byte) (o : Nat) (f : Fmt) (pool : Bool) : List (Bool × Nat) :=
  let pm := fld1 b (o + 20)
  (List.range 6).map (fun i => (decide (1 ≤ fld b (o + 2 * i) 2), o + 2 * i)) ++
  [(decide (pm ≤ 3) && !(pm == 1 && f == .bx8), o + 20), (decide (fld1 b (o + 21) = 0), o + 21),
    (if pool then decide (fld b (o + 22) 2 = 1) else decide (1 ≤ fld b (o + 22) 2), o + 22),
    (decide (pm = 1 ∧ f ≠ .bx8 → fld b (o + 24) 4 < 2 ^ fmtBits f), o + 24), (decide (fld b (o + 28) 4 = 0), o + 28)]

/-- The output record of a geometry agrees with its input record (R149, R153, R155): the same SEGMENTED bit, and the output
size of the whole record, or no less for a SEGMENTED one, whose every output segment then fits (log entry 102, DESIGN
CHOICE). -/
def geoShape (q : Geo) (i o : TRec) : Bool :=
  let h := outSize i.h q.kh q.dh q.sh q.pt q.pb
  let w := outSize i.w q.kw q.dw q.sw q.pl q.pr
  decide (o.n = i.n ∧ o.segd = i.segd) &&
    (if i.segd then decide (h ≤ o.h ∧ w ≤ o.w) else decide ((h = o.h ∧ w = o.w) ∨ h = 0 ∨ w = 0))

/-- Same positions of two tensors. -/
def samePos (a b : TRec) : Bool := decide (a.n = b.n ∧ a.h = b.h ∧ a.w = b.w ∧ a.segd = b.segd)

/-- Same FORMAT, SCALE and ZERO. -/
def sameQ (a b : TRec) : Bool := decide (a.fmt = b.fmt ∧ a.scale = b.scale ∧ a.zero = b.zero)

/-- Verdict code of a rule or FALLBACK: 0x0–0x7 or 0xE. -/
def verdictCode (v : Nat) : Bool := decide (v ≤ 7 ∨ v = 14)

/-- The checks of a VERDICT block (R176, R177). The four bits of byte 8 above the ninth entry of SEVERITY must be zero
(log entry 100, DESIGN CHOICE). -/
def verdictChecks (b : List Byte) (o c : Nat) : List (Bool × Nat) :=
  let nr := fld1 b o
  let sev := (List.range 9).map (fun i => bitsOf (fld b (o + 4) 5) (4 * i + 3) (4 * i))
  [(decide (1 ≤ nr ∧ nr ≤ 16), o), (decide (fld1 b (o + 1) < c), o + 1), (verdictCode (fld1 b (o + 2)), o + 2),
    (decide (fld1 b (o + 3) = 0), o + 3),
    (([0, 1, 2, 3, 4, 5, 6, 7, 14] : List Nat).all (fun v => decide ((sev.filter (fun x => x = v)).length = 1)) &&
      decide (fld b (o + 4) 5 < 2 ^ 36), o + 4), (allZero (slice b (o + 9) 7), o + 9)] ++
  (List.range 16).flatMap (fun i =>
    let r := o + 16 + 16 * i
    if i < nr then
      [(decide (fld1 b r ≤ 3) && (decide (fld1 b r ≠ 0) || decide (fld1 b (r + 3) < c)), r),
        (decide (fld1 b (r + 1) ≤ 3), r + 1), (verdictCode (fld1 b (r + 2)), r + 2),
        (allZero (slice b (r + 12) 4), r + 12)]
    else [(allZero (slice b r 16), r)])

/-- Operator checks (R142 to R180) of the descriptor at `o`; `tr` answers a tensor record, `tab` the parameter
table. NMS holds a SEGMENTED input to 4,096 positions of its whole record (log entry 101, DESIGN CHOICE), SL_COMBINE names no
IN1 (log entry 99, DESIGN CHOICE), and ELTWISE does not compare IN1's SEGMENTED bit (log entry 96, DESIGN CHOICE). -/
def opChecks (b : List Byte) (o : Nat) (tr : Nat → Option TRec) (tab : Nat → Option (List Byte)) (sets : List KvSet) :
    List (Bool × Nat) :=
  let d := parseDesc b o
  let p := o + 32
  let dflt : TRec := ⟨.fp32, false, 0, 1, 1, 1, 1, 0x3F800000, 0⟩
  let x := (tr d.in0).getD dflt
  let y := (tr d.out).getD dflt
  let w := (tr d.in1).getD dflt
  let a := (tr d.aux).getD dflt
  let ip := fmtIsInt x.fmt
  let oi := fmtIsInt y.fmt
  let has1 := (tr d.in1).isSome
  let no1 := (decide (d.in1 = 0xFFFF), o + 6)
  let noAux := (decide (d.aux = 0xFFFF), o + 8)
  let need1 := (has1, o + 6)
  let girder := (decide (d.bound = 0), o + 16)
  let res (off n : Nat) : Bool × Nat := (allZero (slice b (p + off) n), p + off)
  match d.opcode with
  | 0x01 =>
    let q := parseGeo d.params
    let winoF := d.fast && !ip
    [need1, noAux, girder, (pairOk x.fmt w.fmt && decide (w.role = 1) && !w.segd, o + 6)] ++ geoChecks b p x.fmt false ++
    [(decide (x.c = q.groups * w.c), p + 22), (decide (q.groups ≠ 0 ∧ w.n % q.groups = 0), p + 22),
      (decide (y.c = w.n), o + 2),
      (if winoF then decide (w.h = 6 ∧ w.w = 6) else decide (w.h = q.kh ∧ w.w = q.kw), o + 6), (geoShape q x y, o + 2),
      (!d.fast || (decide (q.kh = 3 ∧ q.kw = 3 ∧ q.sh = 1 ∧ q.sw = 1 ∧ q.dh = 1 ∧ q.dw = 1 ∧ q.groups = 1) &&
        decide (x.fmt = .int8 ∨ x.fmt = .uint8 ∨ x.fmt = .fp16 ∨ x.fmt = .bf16)), o + 1)] ++
    epiChecks b (p + 32) ip oi (tab d.ptab) y.c (o + 12)
  | 0x02 =>
    [need1, noAux, girder, (pairOk x.fmt w.fmt, o + 6), (decide (x.c = w.c), o + 6), (!w.segd && decide (w.role ≤ 1), o + 6),
      (decide (w.n * w.h * w.w = y.c), o + 2), (samePos x y, o + 2), res 0 8] ++
    epiChecks b (p + 8) ip oi (tab d.ptab) y.c (o + 12)
  | 0x03 =>
    let pm := x.h * x.w
    let mx : Nat := max (intRange x.fmt).1.natAbs (intRange x.fmt).2.natAbs
    [no1, noAux, girder, (decide (d.round = 0), o + 1), (decide (y.n = 1 ∧ y.h = 1 ∧ y.c = x.c) && (x.segd || decide (y.w = x.n)), o + 2),
      (!ip || sameQ x y, o + 2), (if ip then decide (pm * mx ≤ 2 ^ 31 - 1) else decide (pm ≤ 2 ^ 24), o + 4), res 0 8]
  | 0x04 =>
    let s := sets.find? (fun s => s.id = fld1 b p)
    let hd := match s with
      | some s => s.heads * s.dim
      | none => 0
    let cnt := match s with
      | some s => s.count
      | none => 0
    let t := fld1 b (p + 1)
    [need1, noAux, girder, (s.isSome, p), (decide (1 ≤ t ∧ t ≤ 16), p + 1), res 2 6,
      (decide (x.n = 1 ∧ x.h = t ∧ x.w = cnt) && !x.segd, o + 4),
      (decide (w.n = 3 * hd ∧ w.h = 1 ∧ w.w = 1 ∧ w.c = x.c ∧ w.role = 1) && !w.segd, o + 6),
      (decide (y.n = 1 ∧ y.h = t ∧ y.w = cnt ∧ y.c = hd ∧ y.zero = 0) && !y.segd &&
        decide ((s.map (fun s => s.qFmt)) = some y.fmt), o + 2),
      (pairOk x.fmt w.fmt, o + 6), (decide (fld1 b (p + 8) = 0), p + 8)] ++
    epiChecks b (p + 8) ip oi (tab d.ptab) (3 * hd) (o + 12)
  | 0x10 => [no1, noAux, (samePos x y && decide (x.c = y.c), o + 2), res 0 16]
  | 0x11 => [need1, noAux, (samePos x y && decide (x.c = y.c), o + 2),
      (decide ((w.n = x.n ∨ w.n = 1) ∧ (w.h = x.h ∨ w.h = 1) ∧ (w.w = x.w ∨ w.w = 1) ∧ (w.c = x.c ∨ w.c = 1)), o + 6),
      (decide (fld1 b p ≤ 4), p), res 1 15]
  | 0x12 => [no1, noAux, (samePos x y && decide (x.c = y.c), o + 2), (decide (fld1 b p ≤ 8), p), res 1 3]
  | 0x13 => [no1, noAux, (samePos x y && decide (x.c = y.c), o + 2), res 0 16]
  | 0x14 => [no1, noAux, (samePos x y && decide (x.c = y.c), o + 2), (decide (fld1 b (p + 4) ≤ 1), p + 4), res 5 11,
      (decide (fld1 b (p + 4) = 1 → ((tab d.ptab).map List.length) = some (8 * x.c)), o + 12)]
  | 0x15 => [no1, noAux, (sameQ x y && decide (x.c = y.c), o + 2), (decide (x.fmt ≠ .bx8), o + 4)] ++
      geoChecks b p x.fmt true ++ [(geoShape (parseGeo d.params) x y, o + 2)]
  | 0x16 => [no1, noAux, (decide (y.fmt = .int16 ∧ y.scale = 0x3F800000 ∧ y.zero = 0 ∧ y.c = 1) && samePos x y, o + 2),
      (decide (x.c ≤ 32767), o + 4), res 0 16]
  | 0x17 =>
    let cs := fld b p 2
    let cd := fld b (p + 2) 2
    let cn := fld b (p + 4) 2
    [no1, noAux, (sameQ x y && samePos x y, o + 2), (decide (cs + cn ≤ x.c), p), (decide (cd + cn ≤ y.c), p + 2),
      (decide (x.fmt = .bx8 → cs % 32 = 0 ∧ cd % 32 = 0 ∧ cn % 32 = 0), p), res 6 10]
  | 0x18 => [no1, (decide (y.fmt = .int16 ∧ y.c = 1) && samePos x y, o + 2), (decide (fld b p 2 < x.c), p),
      (decide (fld1 b (p + 2) = 4 ∨ fld1 b (p + 2) = 8), p + 2), res 3 1, res 8 8,
      (decide (1 ≤ d.bound ∧ d.bound ≤ 4096), o + 16), (decide (a.fmt = .uint8 ∧ a.c = 32) && (tr d.aux).isSome &&
        (x.segd || decide (a.n * a.h * a.w = d.bound * x.n)), o + 8)]
  | 0x19 => [need1, noAux, (decide (x.c = 4), o + 4), (samePos x w, o + 6), (decide (y.fmt = .uint8 ∧ y.c = 32) &&
        (x.segd || decide (y.n * y.h * y.w = d.bound * x.n)), o + 2),
      (extLe (.fin 0) (f32 (pf32 d.params 0)) && extLe (f32 (pf32 d.params 0)) (.fin 1), p),
      (decide (fld1 b (p + 8) ≤ 1), p + 8), res 9 7, (decide (1 ≤ d.bound ∧ d.bound ≤ 256), o + 16),
      (decide (x.h * x.w ≤ 4096), o + 4)]
  | 0x1A =>
    let s := sets.find? (fun s => s.id = fld1 b p)
    let t := fld1 b (p + 1)
    [no1, noAux, (decide (d.bound = 0), o + 16), (s.isSome, p), (decide (1 ≤ t ∧ t ≤ 16), p + 1),
      (decide (1 ≤ fld1 b (p + 2) ∧ fld1 b (p + 2) ≤ 64), p + 2), res 3 13,
      (match s with
       | some s => decide (y.n = 1 ∧ y.h = t ∧ y.w = s.count ∧ y.c = s.heads * s.dim)
       | none => true, o + 2)]
  | 0x1B => [(has1 || decide (d.in1 = 0xFFFF), o + 6), noAux] ++ verdictChecks b p x.c
  | 0x1C => [no1, noAux, (decide (x.c ≤ 256), o + 4)] ++ verdictChecks b p x.c ++
      [(decide (fld1 b (p + 272) ≤ 1), p + 272), (decide (fld1 b (p + 273) ≤ 1), p + 273), res 274 14]
  | _ => [(false, o)]

/-- Header checks of a descriptor (R152, R153), then its operator's (log entry 82, DEDUCED). -/
def descChecks (b : List Byte) (o : Nat) (tr : Nat → Option TRec) (tab : Nat → Option (List Byte)) (ntab : Nat)
    (sets : List KvSet) : List (Bool × Nat) :=
  let d := parseDesc b o
  [(decide ((paramLen d.opcode).isSome), o), (decide (fld1 b (o + 1) < 8) && (!d.fast || d.opcode == 1), o + 1),
    (((tr d.out).map (fun y => rndAllowed (rndOfCode d.round) y.fmt)).getD true, o + 1),
    ((tr d.out).isSome || decide (d.opcode = 0x1B ∨ d.opcode = 0x1C), o + 2), ((tr d.in0).isSome, o + 4),
    (decide (some (fld b (o + 10) 2) = paramLen d.opcode), o + 10), (decide (d.ptab < ntab ∨ d.ptab = 0xFFFF ∨ (d.opcode = 0x14 ∧ fld1 d.params 4 = 0)), o + 12),
    (decide (fld b (o + 14) 2 = 0), o + 14), (decide (fld b (o + 20) 4 = 0), o + 20),
    (decide (d.round = 3 ∨ d.seed = 0), o + 24)] ++ opChecks b o tr tab sets

/-- What a descriptor asks of the others: IN0 of ATTN_TOKEN is OUT of its set's ATTN_BAND with the same T_NEW (R202), and
IN1 of VERDICT is a blob table of a CCL or a record table of an NMS (R176). -/
def descLinks (d : Desc) (all : List Desc) : Bool :=
  match d.opcode with
  | 0x1A => all.any (fun e => decide (e.opcode = 4 ∧ fld1 e.params 0 = fld1 d.params 0 ∧ e.out = d.in0 ∧
      fld1 e.params 1 = fld1 d.params 1))
  | 0x1B => decide (d.in1 = 0xFFFF) || all.any (fun e => decide ((e.opcode = 0x18 ∧ e.aux = d.in1) ∨
      (e.opcode = 0x19 ∧ e.out = d.in1)))
  | _ => true

/-- An attention set record (R183). -/
def parseKvSet (b : List Byte) (o : Nat) : KvSet :=
  ⟨fld1 b o, (fmtOfCode (fld1 b (o + 1) % 16)).getD .int8, (fmtOfCode (fld1 b (o + 2) % 16)).getD .int8, fld1 b (o + 3),
    fld1 b (o + 4), bitOf (fld1 b (o + 7)) 2, fld1 b (o + 7) % 4, fld b (o + 8) 2, fld b (o + 10) 2, fld b (o + 12) 2,
    fld b (o + 14) 2, BitVec.ofNat 32 (fld b (o + 16) 4), BitVec.ofNat 32 (fld b (o + 20) 4),
    BitVec.ofNat 32 (fld b (o + 24) 4), fld b (o + 28) 2, fld b (o + 30) 2⟩

/-- A pairing of R184. -/
def kvPairOk (s : KvSet) : Bool :=
  let m16 (mx : Nat) : Bool := decide (16 ≤ s.dim ∧ s.dim ≤ mx ∧ s.dim % 16 = 0)
  match s.kvFmt, s.qFmt with
  | .int8, .int8 => m16 128
  | .e4m3, .e4m3 | .e4m3, .e5m2 | .e5m2, .e4m3 | .e5m2, .e5m2 => m16 128
  | .fp16, .fp16 | .bf16, .bf16 => m16 64
  | _, _ => false

/-- Checks of one set record (R183, R184). -/
def kvSetChecks (b : List Byte) (o : Nat) (others : List KvSet) : List (Bool × Nat) :=
  let s := parseKvSet b o
  let sc (w : F32) : Bool := if s.kvFmt = .int8 then finitePos w else decide (w = 0x3F800000)
  [(decide (s.id ≤ 15) && others.all (fun t => t.id != s.id), o),
    (decide (fld1 b (o + 1) < 16) && (fmtOfCode (fld1 b (o + 1))).isSome && kvPairOk s, o + 1),
    (decide (fld1 b (o + 2) < 16) && (fmtOfCode (fld1 b (o + 2))).isSome, o + 2), (decide (1 ≤ s.heads ∧ s.heads ≤ 16), o + 3),
    (allZero (slice b (o + 5) 2), o + 5), (decide (fld1 b (o + 7) < 8), o + 7),
    (others.all (fun t => !overlap s.base s.count t.base t.count), o + 8),
    (decide (1 ≤ s.count ∧ s.base + s.count ≤ 4096), o + 10), (decide (1 ≤ s.laneW), o + 14), (finitePos s.qkScale, o + 16),
    (sc s.kScale, o + 20), (sc s.vScale, o + 24), (decide (1 ≤ s.window ∧ s.window * s.heads ≤ 256), o + 28),
    (decide (s.reserve ≤ s.window), o + 30)]

/-- The pages that the sets of an image reserve: RESERVE_SLOTS × HEADS over all tracks (R191). -/
def kvReserved (sets : List KvSet) : Nat := (sets.map (fun s => s.count * s.reserve * s.heads)).sum

/-- A command record (R229). The destination of a LOAD is read as SPACE (1 byte), a reserved byte and UNIT (2 bytes);
the source of a SEND as SPACE (1 byte), a reserved byte and ADDR (6 bytes), as R230 gives them (log entry 8, DESIGN CHOICE). -/
def parseCmd (b : List Byte) (o : Nat) : Option Cmd :=
  match fld1 b o with
  | 1 => some (.op (fld b (o + 2) 2) (fld b (o + 4) 4) (fld b (o + 8) 4) (fld b (o + 12) 4))
  | 2 => some (.load (fld b (o + 4) 8) (fld1 b (o + 12)) (fld b (o + 14) 2) (fld b (o + 16) 4) (fld b (o + 20) 4))
  | 3 => some (.store (fld b (o + 4) 8) (fld1 b (o + 12)) (fld b (o + 14) 2) (fld b (o + 16) 4) (fld b (o + 20) 4))
  | 4 => some (.swing (fld b (o + 4) 8) (fld b (o + 12) 4))
  | 5 => some (.send (fld b (o + 4) 2) (fld b (o + 6) 2) (fld1 b (o + 8)) (fld b (o + 10) 6) (fld b (o + 16) 4))
  | 6 => some (.signal (fld b (o + 4) 2) (fld b (o + 6) 2))
  | 7 => some (.collective (slice b (o + 4) 28))
  | 8 => some (.wait (fld b (o + 4) 2))
  | 9 => some (.refresh (fld b (o + 4) 2) (fld b (o + 6) 2))
  | _ => none

/-- A collective descriptor is well formed (R71, R396): its type, its format, its members, and its reserved fields. FORMAT
of CHAIN_SUM is a code of R71 that is not reserved, and every such code but 0x8 stands for INT32, which R71 gives no code
(log entry 103, DESIGN CHOICE). -/
def collectiveOk (r : List Byte) : Bool :=
  decide (fld1 r 0 ≤ 3 ∧ (if fld1 r 0 = 3 then fld1 r 1 ≤ 9 else fld1 r 1 = 0) ∧ 2 ≤ fld r 4 2 ∧ fld r 4 2 ≤ 2048 ∧
    fld r 6 2 < fld r 4 2 ∧ fld r 10 2 = 0 ∧ fld r 13 3 = 0 ∧ fld r 20 4 % 8 = 0 ∧ fld r 24 4 = 0)

/-- A bay entry of the table at section offset `so` (R228). -/
def parseBay (b : List Byte) (so i : Nat) : Bay :=
  let o := so + fld b (so + 24) 4 + 48 * i
  let k := fld1 b o
  let np := fld1 b (o + 1)
  let nl := fld1 b (o + 2)
  let l := so + fld b (so + 32) 4 + fld b (o + 12) 4
  ⟨(match k % 4 with
    | 0 => .reserved | 1 => .openBay | 2 => .refresh | _ => .load), bitOf k 3, bitOf k 2,
    (List.range np).map (fun j => fld1 b (l + j)), (List.range nl).map (fun j => fld b (l + np + 2 * j) 2),
    (List.range (fld b (o + 10) 2)).map (fun j => fld b (l + np + 2 * nl + 2 * j) 2), fld1 b (o + 3), fld b (o + 4) 4,
    fld b (o + 8) 2,
    (List.range (fld b (o + 20) 2)).filterMap (fun j => parseCmd b (so + fld b (so + 28) 4 + 32 * (fld b (o + 16) 4 + j))),
    fld b (o + 24) 4, fld b (o + 28) 4, fld b (o + 32) 4, fld b (o + 36) 4⟩

/-- A placement entry (R230). -/
def parsePlace (b : List Byte) (o : Nat) : Place :=
  ⟨fld b o 2, bitOf (fld1 b (o + 2)) 7, fld1 b (o + 2) % 8, fld b (o + 4) 2, fld b (o + 6) 6, fld b (o + 12) 4⟩

/-- A tile-plan entry (R231). -/
def parsePlan (b : List Byte) (o : Nat) : Plan :=
  ⟨fld1 b o, fld1 b (o + 1), fld b (o + 2) 2, fld b (o + 4) 4, fld b (o + 8) 2, fld b (o + 10) 2, fld b (o + 12) 2⟩

/-- A crossing table (R227). -/
def parseRating (b : List Byte) (so : Nat) : Rating :=
  ⟨fld1 b so, fld1 b (so + 1), fld1 b (so + 2), bitsOf (fld1 b (so + 3)) 3 2 + 2, fld1 b (so + 3) % 4,
    fld b (so + 6) 2, fld1 b (so + 8), fld1 b (so + 9), fld b (so + 10) 2, fld b (so + 12) 4, fld b (so + 16) 4,
    fld b (so + 20) 4, (List.range (fld b (so + 4) 2)).map (parseBay b so),
    (List.range (fld b (so + 40) 4)).map (fun i => parsePlace b (so + fld b (so + 36) 4 + 16 * i)),
    (List.range (fld b (so + 48) 4)).map (fun i => parsePlan b (so + fld b (so + 44) 4 + 16 * i))⟩

/-- Bays reachable from bay `i` through predecessors, `n` levels deep. -/
def predClosure (bays : List Bay) : Nat → List Nat → List Nat
  | 0, l => l
  | n + 1, l =>
    let l2 := (l ++ l.flatMap (fun i => ((bays[i]?).map (fun b => b.preds)).getD [])).eraseDups
    if l2.length = l.length then l else predClosure bays n l2

/-- Every bay that is ordered before bay `i` (R232). -/
def before (bays : List Bay) (i : Nat) : List Nat :=
  predClosure bays bays.length (((bays[i]?).map (fun b => b.preds)).getD [])

/-- Two bays share a unit or a deck channel. -/
def sharesUnits (a b : Bay) : Bool :=
  decide (a.girders &&& b.girders ≠ 0 ∨ a.clusters &&& b.clusters ≠ 0 ∨ a.chans &&& b.chans ≠ 0)

/-- The tile check of R130. -/
def tileOk (p : Plan) : Bool :=
  if p.unit < 0x80 then decide (p.waves + 256 + (if bitOf p.flags 2 then 64 else 0) ≤ 3000) else decide (p.waves ≤ 3000)

/-- The space and unit of a LOAD or STORE (R229, R230): a unit of the rating, and 0 where the space has none. -/
def unitOk (r : Rating) (space unit : Nat) : Bool :=
  match space with
  | 0 => decide (unit < r.girders)
  | 3 => decide (unit < r.clusters)
  | _ => decide (space ≤ 4 ∧ unit = 0)

/-- What R232 asks of one command: its references lie within their section or the deck region, its units within GIRDERS and
CLUSTERS, its channels within the grade's. -/
def cmdOk (r : Rating) (ndesc chans deckBytes : Nat) (c : Cmd) : Bool :=
  match c with
  | .op d pf pc _ => decide (d < ndesc ∧ pf + pc ≤ r.plans.length)
  | .load src sp u _ len => decide (src + len ≤ deckBytes) && unitOk r sp u
  | .store src sp u _ len => decide (src + len ≤ deckBytes) && unitOk r sp u
  | .swing src len => decide (len ≤ 524288 ∧ src + len * r.girders ≤ deckBytes)
  | .refresh m _ => decide (m < 2 ^ chans)
  | .collective x => collectiveOk x
  | _ => true

/-- Checks of one bay and its commands (R228, R229, R232). -/
def bayChecks (b : List Byte) (so size i : Nat) (r : Rating) (standby : Bool) (ndesc chans deckBytes : Nat) : List (Bool × Nat) :=
  let o := so + fld b (so + 24) 4 + 48 * i
  let bay := parseBay b so i
  let ncmd := fld b (o + 20) 2
  let cf := fld b (o + 16) 4
  let cmdOff (j : Nat) : Nat := so + fld b (so + 28) 4 + 32 * (cf + j)
  [(decide (fld1 b o < 16), o), (decide (fld1 b (o + 1) ≤ 8), o + 1), (decide (fld1 b (o + 2) ≤ 4), o + 2),
    (decide (bay.clusters < 2 ^ r.clusters), o + 3), (decide (bay.girders < 2 ^ r.girders), o + 4),
    (decide (bay.chans < 2 ^ chans), o + 8), (decide (fld b (o + 10) 2 ≤ 384), o + 10),
    (decide (fld b (so + 32) 4 + fld b (o + 12) 4 + fld1 b (o + 1) + 2 * fld1 b (o + 2) + 2 * fld b (o + 10) 2 ≤ size), o + 12),
    (bay.preds.all (fun p => decide (p < r.bays.length)), o + 12), (bay.regions.all (fun p => decide (p < 384)), o + 12),
    (!(before r.bays i).contains i, o + 12), (decide (1 ≤ ncmd ∧ ncmd ≤ 4096), o + 20),
    (decide (fld b (so + 28) 4 + 32 * (cf + ncmd) ≤ size), o + 16), (decide (fld b (o + 22) 2 = 0), o + 22),
    (!((bay.kind == .refresh || bay.kind == .load) && bay.preempt), o), (!(bay.kind == .openBay && !bay.preempt), o),
    (!(standby && bay.kind != .reserved), o), (allZero (slice b (o + 40) 8), o + 40)] ++
  (List.range ncmd).flatMap (fun j =>
    let c := cmdOff j
    [((parseCmd b c).isSome, c),
      ((match parseCmd b c with
        | some x => cmdOk r ndesc chans deckBytes x
        | none => true), c + 2)]) ++
  (List.range i).map (fun j =>
    match r.bays[j]? with
    | some other =>
      (!(bay.kind != .openBay && other.kind != .openBay && sharesUnits bay other && !bay.preempt && !other.preempt &&
        !(before r.bays i).contains j && !(before r.bays j).contains i), o)
    | none => (true, o))

/-- Girders that the tile plans of the OPs touching a tensor name (R230). -/
def planGirders (r : Rating) (descs : List Desc) (tid : Nat) : List Nat :=
  (r.bays.flatMap (fun b => b.cmds.flatMap (fun c =>
    match c with
    | .op d pf pc _ =>
      (match descs[d]? with
       | some ds => if ds.in0 = tid ∨ ds.in1 = tid ∨ ds.out = tid ∨ ds.aux = tid then
           ((r.plans.drop pf).take pc).filterMap (fun p => if p.unit < 0x80 then some p.unit else none) else []
       | none => [])
    | _ => []))).eraseDups

/-- Slices of a split placement (R230): the girders that the tile plans name, from UNIT mod 32 upward. -/
def splitGirders (r : Rating) (descs : List Desc) (q : Place) : List Nat :=
  isort (fun a b => decide (a < b)) ((planGirders r descs q.tid).filter (fun g => decide (q.unit % 32 ≤ g)))

/-- The tensors that a rating's OPs touch (R230). -/
def touchedTensors (r : Rating) (descs : List Desc) : List Nat :=
  (r.bays.flatMap (fun b => b.cmds.flatMap (fun c =>
    match c with
    | .op d _ _ _ =>
      (match descs[d]? with
       | some e =>
         ((if e.opcode = 0x1B ∨ e.opcode = 0x1C then [e.in0, e.in1] else [e.out, e.in0, e.in1, e.aux]).filter
           (fun t => decide (t ≠ 0xFFFF)))
       | none => [])
    | _ => []))).eraseDups

/-- The unit of a placement (R230, R232). -/
def placeUnitOk (r : Rating) (q : Place) : Bool :=
  if q.split then decide (q.unit < 320 ∧ q.unit % 32 < r.girders) else unitOk r q.space q.unit

/-- A rating runs a streaming layer on the F(4×4, 3×3) path fed by camera port `p` (R164, R233). -/
def wino4 (r : Rating) (descs : List Desc) (tensors : List TRec) (stream : List Byte) (p : Nat) : Bool :=
  r.bays.any (fun b => b.cmds.any (fun c =>
    match c with
    | .op d _ _ _ =>
      (match descs[d]? with
       | some e => e.opcode == 1 && e.fast && !fmtIsInt (((tensors[e.in0]?).map (fun t => t.fmt)).getD .int8) &&
           decide (Config.streamHalo stream e.in0 ≠ 0 ∧ Config.streamPort stream e.in0 = p)
       | none => false)
    | _ => false))

/-- Checks of one crossing table (R227, R230 to R233). -/
def ratingChecks (b : List Byte) (s : Sect) (standby : Bool) (descs : List Desc) (tensors : List TRec) (stream : List Byte)
    (chans deckBytes : Nat) : List (Bool × Nat) :=
  let so := s.off
  let r := parseRating b so
  let fits (off n : Nat) : Bool := decide (off + n ≤ s.size)
  let pl := so + fld b (so + 36) 4
  [(decide (r.idx = s.index ∧ r.idx ≤ 7), so), (decide (1 ≤ r.girders ∧ r.girders ≤ 32), so + 1),
    (decide (1 ≤ r.clusters ∧ r.clusters ≤ 8), so + 2),
    (decide (fld1 b (so + 3) < 16 ∧ r.startMode ≠ 3), so + 3),
    (decide (1 ≤ r.bays.length ∧ r.bays.length ≤ 256), so + 4),
    (decide (64 ≤ r.bandLines ∧ r.bandLines ≤ 4096) && (List.range 4).all (fun p =>
      let st := Config.streamStride stream p * (if wino4 r descs tensors stream p then 4 else 1)
      !bitOf r.cportMask p || decide (st ≤ 1 ∨ r.bandLines % st = 0) || standby), so + 6),
    (decide (r.cportMask < 16), so + 8), (decide (r.prologue ≤ 32 ∧ r.prologue ≤ r.bays.length), so + 9),
    (decide (600 ≤ r.vfloor ∧ r.vfloor ≤ 850), so + 10), (fits (fld b (so + 24) 4) (48 * r.bays.length), so + 24),
    (fits (fld b (so + 36) 4) (16 * fld b (so + 40) 4), so + 36), (fits (fld b (so + 44) 4) (16 * fld b (so + 48) 4), so + 44),
    ((touchedTensors r descs).all (fun t => r.places.any (fun q => q.tid == t)), so + 36), (allZero (slice b (so + 52) 12), so + 52)] ++
  (r.plans.zipIdx.map (fun p =>
    (tileOk p.1 && (if p.1.unit < 0x80 then decide (p.1.unit < r.girders) else decide (p.1.unit - 0x80 < r.clusters)) &&
      decide (p.1.flags < 8) && decide (fld b (so + fld b (so + 44) 4 + 16 * p.2 + 14) 2 = 0),
      so + fld b (so + 44) 4 + 16 * p.2))) ++
  (r.places.zipIdx.map (fun p =>
    let n := (splitGirders r descs p.1).length
    (decide (p.1.tid < tensors.length ∧ p.1.space ≤ 4 ∧ fld1 b (pl + 16 * p.2 + 2) / 8 % 16 = 0 ∧
        fld1 b (pl + 16 * p.2 + 3) = 0) && placeUnitOk r p.1 &&
      (!p.1.split || (decide (p.1.space = 0 ∧ n ≠ 0 ∧ p.1.size % n = 0 ∧ p.1.addr + p.1.size / n ≤ 524288))) &&
      decide (((r.places.take p.2).filter (fun q => q.tid = p.1.tid)).length = 0), pl + 16 * p.2))) ++
  (List.range r.bays.length).flatMap (fun i => bayChecks b so s.size i r standby descs.length chans deckBytes)

/-- ATTN_TOKEN waits for its ATTN_BAND (R202): its bay's start conditions include that bay, which is another bay. -/
def attnPlaced (r : Rating) (descs : List Desc) : Bool :=
  let bayOps (b : Bay) : List Desc := b.cmds.filterMap (fun c =>
    match c with
    | .op d _ _ _ => descs[d]?
    | _ => none)
  r.bays.zipIdx.all (fun p => (bayOps p.1).all (fun d =>
    d.opcode != 0x1A || r.bays.zipIdx.any (fun q =>
      (before r.bays p.2).contains q.2 && (bayOps q.1).any (fun e =>
        e.opcode == 4 && fld1 e.params 0 == fld1 d.params 0))))

/-- The offsets of the descriptors (R224). -/
def descOffsets (b : List Byte) (s : Sect) : List Nat :=
  (List.range (fld b s.off 4)).map (fun i => s.off + fld b (s.off + 4 + 4 * i) 4)

/-- The parameter tables (R224). -/
def paramTables (b : List Byte) (s : Sect) : List (List Byte) :=
  if s.size = 0 then [] else
    (List.range (fld b s.off 4)).map (fun i => slice b (s.off + fld b (s.off + 4 + 8 * i) 4) (fld b (s.off + 8 + 8 * i) 4))

/-- The image a byte string holds. -/
def parseImage (b : List Byte) : Image :=
  let ss := parseDir b
  let ts := sect ss 1
  let at0 := sect ss 5
  let me := sect ss 9
  ⟨fld b 6 2, fld b 8 8, fld b 16 4, fld b 20 4, fld b 32 4, bitOf (fld1 b 26) 0,
    (List.range (ts.size / 32)).map (fun i => parseTensor b (ts.off + 32 * i)),
    (descOffsets b (sect ss 2)).map (parseDesc b), paramTables b (sect ss 3), (sect ss 4).off, (sect ss 4).size,
    if at0.size = 0 then 0 else fld b at0.off 4, if at0.size = 0 then 0 else fld b (at0.off + 4) 8,
    if at0.size = 0 then [] else (List.range (fld1 b (at0.off + 12))).map (fun i => parseKvSet b (at0.off + 16 + 32 * i)),
    slice b (sect ss 6).off (sect ss 6).size,
    (ss.filter (fun s => s.kind = 8)).map (fun s => parseRating b s.off), fld b me.off 8,
    (List.range ((me.size - 8) / 16)).map (fun i =>
      let o := me.off + 8 + 16 * i
      (fld b o 2, fld b (o + 4) 4, fld b (o + 8) 8))⟩

/-- Every check of staging on the signed content (R153, R222 to R233); `chans` is the grade's deck channel count
(log entry 76, DESIGN CHOICE). -/
def imageChecks (b : List Byte) (chans : Nat) : Option Nat :=
  match firstBad (headerChecks b) with
  | some o => some o
  | none =>
    let ss := parseDir b
    match firstBad (dirChecks b ss) with
    | some o => some o
    | none =>
      let im := parseImage b
      let standby := decide (im.role = 1)
      let ts := sect ss 1
      let dsec := sect ss 2
      let at0 := sect ss 5
      let me := sect ss 9
      let tr (i : Nat) : Option TRec := im.tensors[i]?
      let tab (i : Nat) : Option (List Byte) := im.params[i]?
      let doffs := descOffsets b dsec
      let stored := (List.range im.tensors.length).filter (fun i =>
        match im.tensors[i]? with
        | some t => decide (t.role = 1 ∨ t.role = 2)
        | none => false)
      firstBad (
        [(decide (ts.size % 32 = 0), ts.entry + 8), (!im.swing || decide (im.role = 0), 26)] ++
        (List.range im.tensors.length).flatMap (fun i => tensorChecks b (ts.off + 32 * i)) ++
        (if at0.size = 0 then [] else
          [(decide (1 ≤ im.poolPages ∧ im.poolPages ≤ 131072), at0.off), (decide (im.poolBase % 32768 = 0), at0.off + 4),
            (decide (im.sets.length ≤ 16 ∧ 16 + 32 * im.sets.length ≤ at0.size), at0.off + 12),
            (allZero (slice b (at0.off + 13) 3), at0.off + 13),
            (decide (im.poolBase + 32768 * im.poolPages ≤ im.deckBytes), at0.off + 4)] ++
          (List.range im.sets.length).flatMap (fun i => kvSetChecks b (at0.off + 16 + 32 * i) (im.sets.take i))) ++
        doffs.zipIdx.flatMap (fun p =>
          [(decide (p.1 % 8 = 0 ∧ p.1 + 32 + fld b (p.1 + 10) 2 ≤ dsec.off + dsec.size), dsec.off + 4 + 4 * p.2)] ++
          descChecks b p.1 tr tab im.params.length im.sets ++ [(descLinks (parseDesc b p.1) im.descs, p.1 + 4)]) ++
        (List.range im.mem.length).flatMap (fun i =>
          let o := me.off + 8 + 16 * i
          let e := im.mem.getD i (0, 0, 0)
          let sz := match tr e.1 with
            | some t => tensorBytes t
            | none => 0
          [((tr e.1).isSome, o), (decide (fld b (o + 2) 2 = 0), o + 2), (decide (e.2.1 + sz ≤ im.weightsSize), o + 4),
            (decide (e.2.2 + sz ≤ im.deckBytes), o + 8)]) ++
        [(stored.all (fun i => im.mem.any (fun e => e.1 == i)), me.off)] ++
        (ss.filter (fun s => s.kind = 8)).flatMap (fun s =>
          ratingChecks b s standby im.descs im.tensors im.stream chans im.deckBytes ++
          [(attnPlaced (parseRating b s.off) im.descs, s.off)]))

end Sys2Proof
end

