-- ==== Sys2Proof/Machine/State.lean ====
section
/-! DEFINITION. Sys2Proof/Machine/State.lean: the state of the SG7 as plain data, its reset value, and the fault and
refusal reasons.
-/

namespace Sys2Proof.Machine

/-! ## Slot store (R38 to R70) -/

/-- Slot states (R41). -/
inductive SlotSt where
  | free | open_ | decided | frozen | fired | closed
  deriving DecidableEq, Repr

/-- One stored score set of a second-look buffer (R568, R569, R179): view index 0 for the primary. -/
structure ScoreSet where
  view : Nat
  scores : List F32
  deriving DecidableEq, Repr

/-- A verdict slot: the fields of R40, the first 24 bytes and the TRIG_WINDOW bytes of the policy it opened under (R43, R62,
R70), and what the slot carries beside them; in replay, `freezeAfter` is the COMMITS_BEFORE of its FREEZE record (R267). -/
structure Slot where
  st : SlotSt
  partId : BitVec 64
  detectPos : BitVec 40
  freezePos : BitVec 40
  ejectPos : BitVec 40
  pu : Nat
  cport : Nat
  dflt : BitVec 4
  cur : BitVec 4
  pending : Nat
  gen : BitVec 16
  latX0 : BitVec 16
  latX1 : BitVec 16
  flags : BitVec 16
  sl : Nat
  views : Nat
  primary : BitVec 4
  pconf : BitVec 16
  pol : List Byte
  everDecided : Bool
  late : Option (BitVec 4)
  fireKey : Nat
  lateKey : Nat
  admitted : Bool
  primaryOpen : Bool
  slBuf : List ScoreSet
  slRoom : Bool
  slFlags : BitVec 16
  commits : Nat
  freezeAfter : Option Nat
  deriving DecidableEq, Repr

/-- A FREE slot with generation 0 (R40: all zero but PRIMARY 0xF; PRIMARY_CONF is set at opening). -/
def Slot0 : Slot :=
  ⟨.free, 0, 0, 0, 0, 0, 0, 0, 0, 0, 0, 0, 0, 0, 0, 0, 0xF, 0, [], false, none, 0, 0, false, false, [], false, 0, 0,
    none⟩

/-- A camera port's verdict policy (R54, R55): UNSET, and the 216 bytes of its structure. -/
structure Policy where
  unset : Bool
  raw : List Byte
  deriving DecidableEq, Repr

/-- The reset policy of a port (R54): DEFAULT 1, UNDECIDED_MAP 1, PU_SEL the port, OPTIONS 3, all else zero. -/
def Policy0 (port : Nat) : Policy :=
  ⟨true, [1, 1, BitVec.ofNat 8 port, 3] ++ List.replicate 212 0⟩

/-! ## Deck units (R104 to R141) -/

/-- A weight set of a girder (R104, R108): the descriptor, column set and pass that it serves, and the weights of its
columns. -/
structure WSet where
  desc : Nat
  colset : Nat
  pass : Nat
  cols : List (List Ext)
  deriving DecidableEq, Repr

/-- An empty weight set. -/
def WSet0 : WSet := ⟨0, 0, 0, []⟩

/-- An accumulator bank (R104, R110): the first output position of its block and the column set, its entries, each a 32-bit
word per column, and whether the block is still open. -/
structure AccBank where
  first : Nat
  colset : Nat
  entries : List (List (BitVec 32))
  opened : Bool
  deriving DecidableEq, Repr

/-- An accumulator bank that holds no block. -/
def AccBank0 : AccBank := ⟨0, 0, [], false⟩

/-- What a pre-empted girder spilled to its pier (R131): the open bank, and which weight set it must load again. -/
structure Spill where
  bank : AccBank
  desc : Nat
  colset : Nat
  pass : Nat
  deriving DecidableEq, Repr

/-- A girder: self-test and binding state (R137), its repair map, one (bank, row) a spare row stands for (R134), the swing
image and the share of it that bank 9 holds (R118), the two weight sets, the accumulating and the drained bank, and what it
spilled (R104, R108, R110, R131). -/
structure Girder where
  fused : Bool
  removed : Bool
  bound : Bool
  swing : Bool
  spareExh : BitVec 10
  logical : Nat
  stCode : BitVec 8
  repairs : List (Nat × Nat)
  swingImg : Option Nat
  swingShare : Nat
  active : WSet
  shadow : WSet
  acc : AccBank
  drain : AccBank
  spill : List (Nat × Spill)
  ce : Ctr
  deriving DecidableEq, Repr

/-- Self-test and binding state of a trestle cluster (R138). -/
structure Cluster where
  fused : Bool
  removed : Bool
  bound : Bool
  logical : Nat
  failCore : BitVec 8
  stCode : BitVec 8
  ce : Ctr
  deriving DecidableEq, Repr

/-- Owner and flag of an abutment region (R121). -/
structure Region where
  deck : Bool
  flag : Bool
  deriving DecidableEq, Repr

/-- The deck's memories and units. -/
structure Deck where
  girders : Tab Girder
  clusters : Tab Cluster
  dram : Mem
  pier : Mem
  abut : Mem
  trestle : Mem
  regions : Tab Region
  cOwn : Ctr
  ceAbut : Ctr
  cUe : Ctr
  reload : List (Nat × Nat)
  badLines : List Nat
  deriving DecidableEq, Repr

/-! ## Model images and the crossing sequencer (R214 to R252) -/

/-- What an image index holds (R225, R226, R501). -/
inductive ImgSt where
  | empty | staged | committed
  deriving DecidableEq, Repr

/-- One of the 16 image indices: the image and its bytes, where it was staged, its deck region, its measurement and resident
digest (R502, R526), the owner slot that signed it, the rating of the last crossing under it (R528), and its pages. -/
structure ImgSlot where
  st : ImgSt
  img : Image
  raw : List Byte
  toll : Nat
  deckBase : Nat
  deckSize : Nat
  meas : List Byte
  digest : List Byte
  keySlot : Nat
  lastRating : Option Nat
  kv : Kv
  deriving DecidableEq, Repr

/-- An empty image index. -/
def ImgSlot0 : ImgSlot := ⟨.empty, Image0, [], 0, 0, 0, [], [], 0, none, Kv0⟩

/-- The run of one bay in the present crossing (R235, R236). -/
inductive BaySt where
  | waiting | running | suspended | ended
  deriving DecidableEq, Repr

/-- A bay's status word (R235) and its progress. -/
structure BayRun where
  st : BaySt
  pc : Nat
  ran : Bool
  preempted : Bool
  late : Bool
  carried : Bool
  stepFault : Bool
  stat : OpStat
  effDeadline : Nat
  yieldTo : Option Nat
  credits : Rat
  closing : Bool
  deriving DecidableEq, Repr

/-- A bay that has not started. -/
def BayRun0 : BayRun := ⟨.waiting, 0, false, false, false, false, false, OpStat0, 0, none, 0, false⟩

/-- What kind of background job a job is (R238) (log entry 45, DESIGN CHOICE). -/
inductive JobKind where
  | secondLook | standby
  deriving DecidableEq, Repr

/-- Where a job stands (R238). -/
inductive JobSt where
  | waiting | running | suspended
  deriving DecidableEq, Repr

/-- A background job: a second look of a slot (its views regenerated into `views`, `view` of them done), or a
standby-model job of a JOB queue entry (its input tensors in `input`). `work` holds the tensors that the job has written,
which a suspension keeps (R131). `pos` is the view or bay it is in, and the command; in replay, `stopAt` is the VIEWS_DONE of
its WITHDRAWN record (R267). -/
structure Job where
  id : BitVec 64
  kind : JobKind
  st : JobSt
  img : Nat
  slot : Nat
  gen : BitVec 16
  view : Nat
  outAddr : Nat
  outSize : Nat
  girders : List Nat
  bay : Option Nat
  pos : Nat × Nat
  segs : Tab (List Seg)
  input : List (Nat × List Byte)
  work : Tab (List Byte)
  views : List (Seg × List (Nat × List Byte))
  stat : OpStat
  resumable : Bool
  stopAt : Option Nat
  deriving DecidableEq, Repr

/-- Stop modes (R221). -/
inductive StopMode where
  | none | drain | now
  deriving DecidableEq, Repr

/-- The crossing sequencer; `bufNext` is the next band buffer of each port's ring (R248). -/
structure Sequencer where
  started : Bool
  active : Bool
  due : Bool
  img : Nat
  rated : Bool
  rating : Nat
  vdd : Nat
  crossing : BitVec 64
  launched : Bool
  launch : Nat
  launchArmed : Option (Nat × Nat)
  stop : StopMode
  stopAt : Nat
  t0 : Nat
  endedAt : Nat
  slip : Nat
  bays : List BayRun
  lastBays : List (BitVec 32)
  flags : List (Nat × Nat)
  segs : Tab (List Seg)
  bandOf : List (Option Nat)
  halo : Tab (List Byte)
  newRating : Bool
  lastLength : Nat
  cSlip : Ctr
  cQueued : Ctr
  cDropped : Ctr
  cMissed : Ctr
  cRefresh : Ctr
  slipLast : BitVec 32
  lineSlow : Bool
  clean : Nat
  periodNo : Nat
  dueNo : Nat
  bufNext : Tab Nat
  copying : Nat
  haloBand : List (Option Nat)
  deriving DecidableEq, Repr

/-! ## Recorder and replay (R256 to R269) -/

/-- The recorder; `lotImgs` are the images of the latest LOT record's entries (R264), and `ckQueue` holds the CHECKPOINT
records that the write buffer has still to take, with the records behind them (R258, R265, R266). -/
structure Recorder where
  running : Bool
  gap : Bool
  ckptBusy : Bool
  hostMode : Bool
  overwrite : Bool
  lost : Ctr
  ringBase : Nat
  ringSegs : Nat
  hostBase : Nat
  hostSegs : Nat
  hostReleased : Nat
  segSeq : Nat
  written : Nat
  cur : List Byte
  full : List (List Byte)
  gapCount : Nat
  gapFirst : Nat
  gapLast : Nat
  lotId : BitVec 64
  lotKey : BitVec 64
  seqStart : List (BitVec 48)
  ckptDue : Bool
  ckptReset : Bool
  lotImgs : List (Option Nat)
  ckQueue : List (List Byte)
  deriving DecidableEq, Repr

/-- Replay mode: where the stream lies, the next record (segment place and offset), the stop crossing, the result queue,
the images of the LOT record's entries, whether the origin is still ahead, the first raw line each port needs, how much of a
record split over several has been taken, the configurations that wait for their line (port, LINE_NO, opcode, payload), and
the corrections of each unit with the counts they took effect at (R336). -/
structure Replay where
  mode : Bool
  running : Bool
  host : Bool
  base : Nat
  segs : Nat
  seg : Nat
  segSeq : Nat
  off : Nat
  origin : Nat × Nat
  stopCrossing : BitVec 64
  queue : Nat
  imgs : List Nat
  pre : Bool
  first : List Nat
  part : Nat
  cfgs : List (Nat × Nat × Nat × List Byte)
  corrs : List (Nat × Nat × BitVec 40)
  draining : Bool
  cols : List (List Nat)
  newImgs : List Nat
  deriving DecidableEq, Repr

/-! ## Camera ports and pipelines (R272 to R299) -/

/-- A trigger FIFO entry (R278): the position latched, CUM_CORR at the latch (R336), and the stamp. -/
structure TrigEntry where
  pos : BitVec 40
  corr : BitVec 40
  stamp : Nat
  deriving DecidableEq, Repr

/-- A raw line after pairing: flags, samples per plane of the kept columns, position, stamp, and raw line number from
the launch (none before it). -/
structure RawLine where
  crc : Bool
  trunc : Bool
  lost : Bool
  px : List (List Nat)
  pos : BitVec 40
  corr : BitVec 40
  stamp : Nat
  no : Option Nat
  deriving DecidableEq, Repr

/-- An output line as it reaches the ramp (R291): v16 samples per plane. -/
structure OutLine where
  crc : Bool
  trunc : Bool
  lost : Bool
  px : List (List Nat)
  pos : BitVec 40
  corr : BitVec 40
  stamp : Nat
  no : Option Nat
  deriving DecidableEq, Repr

/-- A table set of a port (R288, R290, R295): linearisation and flat-field bytes. -/
structure TableSet where
  lut : List Byte
  ff : List Byte
  deriving DecidableEq, Repr

/-- A statistics block in the making (R292). -/
structure StatsAcc where
  hist : Tab Nat
  zsum : Tab Nat
  used : Nat
  excluded : Nat
  key : Nat
  deriving DecidableEq, Repr

/-- A camera port with its pipeline treatment; `apIn` is the configuration at the input of its raw ring, and `ringNo` the lines
that the ring has taken (R295, R296). -/
structure Cam where
  configured : Bool
  cfg : List Byte
  discovered : Bool
  connUp : BitVec 4
  pocxpFault : BitVec 4
  pocxpOn : BitVec 4
  fifo : List TrigEntry
  ctrs : List Ctr
  apSet : Bool
  ap : List Byte
  apPending : Option (List Byte)
  active : TableSet
  shadow : TableSet
  shadowNew : Bool
  group : List RawLine
  rawNo : Nat
  outNo : Nat
  ring : List RawLine
  owed : List RawLine
  stats : StatsAcc
  beats : Ctr
  apIn : List Byte
  ringNo : Nat
  deriving DecidableEq, Repr

/-- AP_CONFIG reset bytes: EXPOSURES 1 and all else zero; the manual gives no reset value (log entry 12, DESIGN CHOICE). -/
def apReset : List Byte := [0, 1] ++ List.replicate 30 0

/-- A camera port at reset (R285, R297 to R299). -/
def Cam0 : Cam :=
  ⟨false, List.replicate 32 0, false, 0, 0, 0, [], List.replicate 8 Ctr0, false, apReset, none, ⟨[], []⟩, ⟨[], []⟩,
    false, [], 0, 0, [], [], ⟨[], [], 0, 0, 0⟩, Ctr0, apReset, 0⟩

/-! ## Ramps (R300 to R324) -/

/-- A run of foreground columns of one line. -/
structure Run where
  line : Nat
  c0 : Nat
  c1 : Nat
  deriving DecidableEq, Repr

/-- An object of a port's table (R303 to R308). `firstPos` is the position paired with its first line less CUM_CORR at
that latch (R336); `recent` are the runs a new run may touch. -/
structure Obj where
  first : Nat
  firstPos : BitVec 40
  last : Nat
  c0 : Nat
  c1 : Nat
  area : Nat
  lines : Nat
  recent : List Run
  detected : Bool
  partId : BitVec 64
  slot : Option (Nat × Nat)
  closed : Bool
  truncated : Bool
  closeLine : Nat
  absorb : Bool
  emitted : Bool
  deriving DecidableEq, Repr

/-- A stored crop of the crop ring (R321): the part, its port and columns by lines of v16 samples per plane. -/
structure Crop where
  slot : Nat
  gen : Nat
  px : List (List (List Nat))
  size : Nat
  seg : Seg
  deriving DecidableEq, Repr

/-- A port's ramp. -/
structure Ramp where
  cfg : Option (List Byte)
  seeded : Bool
  bg : Tab Nat
  objs : List Obj
  objFull : Bool
  objFullRel : Option (BitVec 40)
  noSlot : Bool
  noSlotRel : Option (BitVec 40)
  lines : List OutLine
  crops : List Crop
  ctrs : List Ctr
  deriving DecidableEq, Repr

/-- A ramp port at reset (R322 to R324). -/
def Ramp0 : Ramp := ⟨none, false, [], [], false, none, false, none, [], [], List.replicate 5 Ctr0⟩

/-- What a port's ramp holds of earlier lines (R301, R303, R307): the background, the objects, and the lines kept. -/
structure RampSnap where
  seeded : Bool
  bg : Tab Nat
  objs : List Obj
  lines : List OutLine
  deriving DecidableEq, Repr

/-- What a ramp holds of earlier lines. -/
def rampSnap (r : Ramp) : RampSnap := ⟨r.seeded, r.bg, r.objs, r.lines⟩

/-- A band of a camera port (R215, R248 to R250, R317 to R319): its buffer (none: unbuffered), whether its last line has
been segmented, whether it is complete and since when, its segment list, the placement state (E, the current row, and
whether that row holds a segment), samples refused for lack of room, sample writes still due, whether the running
crossing took it, whether it was dropped in mid-crossing, whether it was counted as queued, and the port's part sequence
as it began, with where its buffer lies, and what the port's ramp held before its first line (R265, R324). -/
structure Band where
  cport : Nat
  no : Nat
  buffer : Option Nat
  lined : Bool
  complete : Bool
  doneAt : Nat
  segs : List Seg
  e : Nat
  row : Nat
  used : Bool
  refused : Nat
  writes : List (List (Nat × List Byte))
  taken : Bool
  dropped : Bool
  queued : Bool
  seq0 : BitVec 48
  addr : Nat
  size : Nat
  ramp0 : RampSnap
  deriving DecidableEq, Repr

/-! ## Position units (R325 to R350, R567) -/

/-- Motion states (R332). -/
inductive Motion where
  | stopped | forward | reverse
  deriving DecidableEq, Repr

/-- A position unit; `held` is the latch that an instant `heldAt` takes: the values before the update of that instant (R343). -/
structure Pu where
  cfg : List Byte
  a : Bool
  b : Bool
  count : BitVec 40
  rev : BitVec 24
  cumCorr : BitVec 40
  high : BitVec 40
  motion : Motion
  refPending : Bool
  armed : Bool
  refSeen : Bool
  illegal : Bool
  wrap : Bool
  overspeed : Bool
  wireFault : BitVec 3
  wireBad : BitVec 3
  period : Option Nat
  holdoff : Nat
  lastRise : Option Nat
  lastEdge : Nat
  obsP : BitVec 64
  obsV : BitVec 64
  obsA : BitVec 64
  obsAt : Nat
  cmdLatch : List Byte
  fioLatch : List Byte
  refLatch : List Byte
  ctrs : List Ctr
  overspeedIn : Option Nat
  slotLow : Bool
  heldAt : Nat
  held : List Byte
  deriving DecidableEq, Repr

/-- Reset bytes of PU_CONFIG (R346): MODE 0x02, FILT 4, RESET 0, GAP_G 0x18, GAP_HOLDOFF 4, STOP_US 10,000, the rest
zero. -/
def puReset : List Byte :=
  [2, 4, 0, 0x18, 4, 0, 0, 0] ++ List.replicate 8 0 ++ [0x10, 0x27, 0, 0] ++ List.replicate 28 0

/-- A position unit at cold reset (R348, R350). -/
def Pu0 : Pu :=
  ⟨puReset, false, false, 0, 0, 0, 0, .stopped, false, false, false, false, false, false, 0, 0, none, 0, none, 0, 0, 0,
    0, 0, List.replicate 32 0, List.replicate 32 0, List.replicate 32 0, List.replicate 4 Ctr0, none, false, 0,
    []⟩

/-- A port's line-trigger generator (R339, R347). -/
structure LineGen where
  pu : Nat
  div : Nat
  refSync : Bool
  armed : Bool
  residue : Nat
  lastTrig : Option Nat
  deriving DecidableEq, Repr

/-- The generator of a port at cold reset (R347). -/
def LineGen0 (port : Nat) : LineGen := ⟨port, 1, false, false, 0, none⟩

/-! ## Field die, field link and TRIG pins (R351 to R374) -/

/-- When a pulse on an output ends (R57, R58, R373). -/
inductive PulseEnd where
  | counts (pu : Nat) (target : BitVec 40)
  | time (at_ : Nat)
  deriving DecidableEq, Repr

/-- A pulse driven on TRIG pins and field channels by one slot, or on one pin by a line trigger. -/
structure Pulse where
  trig : BitVec 16
  fio : BitVec 32
  stop : PulseEnd
  slot : Option Nat
  deriving DecidableEq, Repr

/-- The field die: its registers, filters, readback blanking, thermal latches, and safe state. -/
structure FieldDie where
  held : Bool
  regs : Tab Byte
  rbLow : Tab Byte
  filt : Tab Nat
  level : BitVec 32
  blank : Tab Nat
  lastOut : BitVec 32
  cmd : BitVec 32
  ovl : BitVec 32
  safe : Bool
  good : Nat
  deriving DecidableEq, Repr

/-- The field-link controller and the field words (R364, R370, R371); `rewrite` counts the writes at the head of the queue that
the firmware's start put there (R374), and `lineGap` is, per TRIG pin, the count at which a line-trigger pulse that followed
another begins (R373); `lastTick` is the last tick at which a down frame left (R358). -/
structure FieldCtl where
  linkUp : Bool
  safe : Bool
  lplusLow : Bool
  inValid : Bool
  inn : BitVec 32
  out : BitVec 32
  rbf : BitVec 32
  ovl : BitVec 32
  ctrs : List Ctr
  regs : Tab Byte
  wq : List (Nat × Byte)
  safeCmd : Bool
  release : Bool
  host : BitVec 32
  seen : BitVec 32
  down : List (Nat × List Byte)
  up : List (Nat × List Byte)
  lastSeq : Option Nat
  lastUpAt : Nat
  lastDownAt : Nat
  latchDue : List (Nat × Nat)
  rewrite : Nat
  lineGap : Tab Nat
  lastTick : Option Nat
  deriving DecidableEq, Repr

/-- A TRIG pin's entry (R373). -/
structure TrigPin where
  func : Nat
  inv : Bool
  cport : Nat
  width : Nat
  host : Bool
  deriving DecidableEq, Repr

/-- A TRIG pin at reset: OFF. -/
def TrigPin0 : TrigPin := ⟨0, false, 0, 0, false⟩

/-! ## Span links, keystone count and wall clock (R375 to R413) -/

/-- Span port states (R401). -/
inductive SpSt where
  | disabled | train | caps | up | test
  deriving DecidableEq, Repr

/-- A DATA frame of the replay buffer (R388): sequence number, the 256 bytes, when it was sent, and how often it was
replayed in a row. -/
structure TxFrame where
  seq : BitVec 12
  bytes : List Byte
  at_ : Nat
  replays : Nat
  deriving DecidableEq, Repr

/-- A received message: the receive frame it came in (0 for none), its class, and its bytes (R390, R393). -/
structure RxMsg where
  frame : Nat
  cls : Nat
  bytes : List Byte
  deriving DecidableEq, Repr

/-- What a neighbour last reported (R391, R404). -/
structure Neigh where
  gm : Nat
  dist : Nat
  port : Nat
  deriving DecidableEq, Repr

/-- A lane test in force (R384). -/
structure LaneTest where
  lanes : BitVec 4
  pattern : Nat
  inject : Nat
  burst : Nat
  rateExp : Nat
  deriving DecidableEq, Repr

/-- A span port; `checked` are the lanes whose checkers have counted since the last SPAN_READ, and `reads`, the model's own, counts
the SPAN_READs (R385, R401; log entry 116, DESIGN CHOICE). -/
structure SpanPort where
  enabled : Bool
  rate : Nat
  vmin : Nat
  vmax : Nat
  st : SpSt
  mask : BitVec 4
  lanes : BitVec 4
  badLanes : BitVec 4
  version : Nat
  degraded : Bool
  peerChanged : Bool
  peerNode : BitVec 11
  peerPort : Nat
  hadPeer : Bool
  lastWidth : Nat
  trainAt : Nat
  failPosted : Bool
  txSeq : BitVec 12
  rxSeq : BitVec 12
  nakSent : Bool
  replay : List TxFrame
  txCount : List (BitVec 16)
  txLimit : List (BitVec 16)
  rxLimit : List (BitVec 16)
  rxOwed : Nat
  creditOwed : Bool
  txq : List (Nat × List Byte)
  rxNo : Nat
  rxq : List RxMsg
  held : List RxMsg
  crcFails : List Nat
  test : Option LaneTest
  inject : Option (Nat × Nat)
  neigh : Option Neigh
  tx1 : Nat
  exch : Nat
  neighAt : Nat
  checked : BitVec 4
  reads : Nat
  ctrs : List Ctr
  deriving DecidableEq, Repr

/-- A span port at cold reset (R413): DISABLED, offering versions 1 to 3. -/
def SpanPort0 : SpanPort :=
  ⟨false, 0, 1, 3, .disabled, 0, 0, 0, 0, false, false, 0, 0, false, 0, 0, false, 0, 0, false, [], [0, 0, 0], [32, 224, 224],
    [32, 224, 224], 0, false, [], 0, [], [], [], none, none, none, 0, 0, 0, 0, 0, List.replicate 12 Ctr0⟩

/-- Keystone roles (R404). -/
inductive KsRole where
  | off | grandmaster | follower
  deriving DecidableEq, Repr

/-- Sync states (R405). -/
inductive KsSt where
  | unsync | acquire | locked | holdover
  deriving DecidableEq, Repr

/-- A wall-clock write waiting for the next tick (R410). -/
inductive WcWrite where
  | inc (v : BitVec 32)
  | step (ns : Int)
  | set (sec ns : Nat)
  deriving DecidableEq, Repr

/-- Timekeeping: the keystone count (64 bits above a 24-bit fraction), the wall clock and the sync servo. -/
structure Timekeeping where
  ks : BitVec 88
  ksInc : BitVec 32
  internal : Bool
  wcSec : BitVec 48
  wcNs : BitVec 30
  wcFrac : BitVec 24
  wcInc : BitVec 32
  wcPending : List WcWrite
  role : KsRole
  fixedParent : Option Nat
  st : KsSt
  parent : Option Nat
  hops : Nat
  gm : Nat
  offset : Int
  exchNo : Nat
  t1 : Option Nat
  t2 : Nat
  t3 : Nat
  inTol : Nat
  outTol : Nat
  lastFu : Nat
  noParentAt : Option Nat
  conflict : Bool
  lastExch : Option Nat
  deriving DecidableEq, Repr

/-- The span-link stack beside the ports: node ID, routes, copy window, landing bookkeeping. -/
structure SpanStack where
  node : BitVec 11
  ports : Tab SpanPort
  routes : Tab (BitVec 16)
  winBase : Nat
  winMib : Nat
  deriving DecidableEq, Repr

/-! ## Power domains and steward (R414 to R447) -/

/-- Power states of a domain or abutment bank (R415, R427). -/
inductive PdSt where
  | off | retention | on | transition
  deriving DecidableEq, Repr

/-- A PREPARE handshake in progress (R419): target state, when PREPARE was sent, the DELAYs so far in µs, and, after a
DELAY, when PREPARE is sent again. -/
structure Prep where
  target : PdSt
  sentAt : Nat
  delayUs : Nat
  again : Option Nat
  served : Bool
  deriving DecidableEq, Repr

/-- A power domain (index 0 to 63) or an abutment bank (index 64 + i for ABi): R415 to R427, R432. -/
structure Domain where
  st : PdSt
  policy : BitVec 2
  padHold : Bool
  holdPads : Bool
  fused : Bool
  wakeSrc : BitVec 4
  retMask : BitVec 16
  prep : Option Prep
  gaveUp : Bool
  energy : BitVec 48
  ovf : Bool
  deriving DecidableEq, Repr

/-- A domain that is OFF at cold reset (R417, R427). -/
def Domain0 : Domain := ⟨.off, 0, false, false, false, 0, 0, none, false, 0, false⟩

/-- A temperature sensor word (R431). -/
structure Sensor where
  valid : Bool
  temp : BitVec 16
  deriving DecidableEq, Repr

/-- The power steward (R433 to R446). `streak` counts, by rating, the consecutive boundaries of R437; `hold` is the hold of
R439 on LINE_SLOW; `scale` and `pool` are s and the credits left of R442; `base` is the energy in nJ drawn so far by the
domains that P_base counts, `baseStart` its value at the crossing start, `baseLast` its rise over the last ended crossing, and `baseLog` its values of the last 1 ms with
their counts. -/
structure Steward where
  cfg : List Byte
  fix : Option (Nat × Nat)
  boost : Nat
  clean : Nat
  streak : Tab Nat
  noFit : Bool
  hold : Bool
  fitRun : Nat
  throttled : Bool
  rating : Nat
  vdd : Nat
  setpoint : Nat
  settled : Bool
  settleAt : Nat
  pool : Rat
  scale : Rat
  sense : Nat
  base : Nat
  baseStart : Nat
  baseLast : Nat
  baseLog : List (Nat × Nat)
  sensors : Tab Sensor
  alert : Bool
  trip : Bool
  deriving DecidableEq, Repr

/-- Reset bytes of STEWARD_CONFIG (R443); PMBUS_ADDR and PMBUS_PAGE are zero (log entry 14, DESIGN CHOICE). -/
def stewardReset : List Byte :=
  [120, 0, 1, 3, 0xF0, 0x05, 0x90, 0x06, 10, 20, 64, 0, 0, 0, 0xE8, 0x03, 0x52, 0x03, 20] ++ List.replicate 13 0

/-- The power state of the part. -/
structure Power where
  domains : Tab Domain
  lastDomain : Nat
  lastSrc : BitVec 4
  lastReq : BitVec 6
  stamp : Nat
  deriving DecidableEq, Repr

/-! ## Memory, host interface and queues (R448 to R485) -/

/-- One toll channel's arbiter (R460, R461, R463). -/
structure TollCh where
  busy : Bool
  owner : BitVec 4
  req : BitVec 12
  waits : List (BitVec 8)
  deriving DecidableEq, Repr

/-- An arbiter at reset. -/
def TollCh0 : TollCh := ⟨false, 0xF, 0, List.replicate 12 0⟩

/-- A toll byte counter (R463). -/
structure BytesCtr where
  en : BitVec 48
  ovf : Bool
  deriving DecidableEq, Repr

/-- DRAM outside the deck's own use: toll space, host memory seen as bus master, error words and the toll gate. -/
structure MemSys where
  toll : Mem
  hostMem : Mem
  ce : Tab Ctr
  ue : Tab Ctr
  ueLog : BitVec 64
  intervalNo : Nat
  chInterval : Tab Nat
  sramInterval : Tab Nat
  gate : Tab TollCh
  limits : List (BitVec 8)
  bytes : Tab BytesCtr
  tollAt : Nat
  deriving DecidableEq, Repr

/-- Queue states (R473). -/
inductive QSt where
  | free | active | detached
  deriving DecidableEq, Repr

/-- A queue context (R473). -/
structure Queue where
  st : QSt
  content : BitVec 2
  qerr : Bool
  log2 : Nat
  host : Bool
  vector : BitVec 8
  armed : Bool
  base : BitVec 64
  head : BitVec 32
  tail : BitVec 32
  watermark : BitVec 32
  holdoff : BitVec 16
  fw : Bool
  dropped : BitVec 8
  timer : Option Nat
  deriving DecidableEq, Repr

/-- A FREE queue. -/
def Queue0 : Queue := ⟨.free, 0, false, 0, false, 0, false, 0, 0, 0, 0, 0, false, 0, none⟩

/-- What waits for the queue manager (R477, R479, R481): an event record or a camera entry of a queue. -/
structure Prod where
  queue : Nat
  entry : List Byte
  deriving DecidableEq, Repr

/-- The queue manager; `eventTook`: queue 0x0001 has taken a record since the last cold or warm reset (R478). -/
structure QueueMgr where
  queues : Tab Queue
  waiting : List Prod
  eventTook : Bool
  eventLost : Bool
  jobBells : List (Nat × BitVec 32)
  discarded : Ctr
  log : List (List Byte)
  deriving DecidableEq, Repr

/-- The PCIe endpoint and the registers of BAR0 (R464 to R471). -/
structure HostIf where
  perst : Bool
  statusChg : Bool
  mbxDone : BitVec 16
  intEn : BitVec 17
  winBase : BitVec 14
  msix : Mem
  pba : BitVec 64
  bar2Refused : Ctr
  poisoned : Ctr
  deriving DecidableEq, Repr

/-- What leaves the part: interrupt messages, span frames and SYNC blocks, training markers, CAPS blocks and test patterns of a
span port, PMBus setpoints, monitor lines, camera packets. -/
inductive Out where
  | msix (vector : Nat)
  | spanFrame (port : Nat) (bytes : List Byte)
  | sync (port : Nat)
  | spanMarker (port : Nat) (bytes : List Byte)
  | spanCaps (port : Nat) (bytes : List Byte)
  | spanPattern (port : Nat) (bytes : List Byte)
  | pmbus (mv : Nat)
  | uart (line : String) (bytes : List Byte)
  | camera (port : Nat) (bytes : List Byte)
  | abortRead
  deriving DecidableEq, Repr

/-! ## Gatehouse (R486 to R506) -/

/-- Mailbox states (R486). -/
inductive MbxSt where
  | idle | busy | done
  deriving DecidableEq, Repr

/-- An accepted command: the latched header, the payload of a direct request (R488), and whether the session it carries was
open at its acceptance (R495). -/
structure Req where
  op : Nat
  len : Nat
  session : BitVec 16
  rspInd : Bool
  reqInd : Bool
  reqAddr : Nat
  rspAddr : Nat
  rspMax : Nat
  direct : List Byte
  inSession : Bool
  deriving DecidableEq, Repr

/-- A mailbox (R486). -/
structure Mbx where
  opcode : BitVec 16
  reqLen : BitVec 16
  session : BitVec 16
  rspInd : Bool
  reqInd : Bool
  reqAddr : BitVec 64
  rspAddr : BitVec 64
  rspMax : BitVec 32
  st : MbxSt
  dbReject : Bool
  progress : BitVec 8
  status : BitVec 16
  rspLen : BitVec 32
  detail : BitVec 32
  accepted : BitVec 16
  req : Mem
  rsp : Mem
  cmd : Option Req
  deriving DecidableEq, Repr

/-- A mailbox at reset. -/
def Mbx0 : Mbx := ⟨0, 0, 0, false, false, 0, 0, 0, .idle, false, 0, 0, 0, 0, 0, [], [], none⟩

/-- Objects a command names (R492). -/
inductive Objt where
  | port (p : Nat) | pipe (p : Nat) | ramp (p : Nat) | pu (p : Nat) | field | queue (q : Nat) | image (i : Nat)
  | span (p : Nat) | sequencer | flash | units
  deriving DecidableEq, Repr

/-- A long or boundary command under way: its mailbox, opcode, payload, objects, whether it waits for a boundary, the
frame limit of FIO_RELEASE, and, once its work is done, its answer (status, detail, response). -/
structure Running where
  mbx : Nat
  op : Nat
  payload : List Byte
  objs : List Objt
  boundary : Bool
  limit : Nat
  answer : Option (Nat × Nat × List Byte)
  deriving DecidableEq, Repr

/-- A toll allocation in MiB (R451); host software's own. -/
structure Alloc where
  mib : Nat
  size : Nat
  deriving DecidableEq, Repr

/-- The gatehouse. -/
structure Gatehouse where
  mbx : Tab Mbx
  order : List Nat
  running : List Running
  session : Option (BitVec 16)
  lastSession : BitVec 16
  version : Nat
  hostId : BitVec 64
  allocs : List Alloc
  warmAt : Option (Nat × Nat)
  deriving DecidableEq, Repr

/-! ## Boot, trust and update (R507 to R533) -/

/-- Where the gatehouse stands in its boot (R516, R517, R523). -/
inductive BootSt where
  | held | loaded | firmware | ready | recovery
  deriving DecidableEq, Repr

/-- The firmware loaded by the boot ROM. -/
structure Firmware where
  slot : Nat
  seq : Nat
  secVersion : Nat
  fwVersion : BitVec 16
  revoke : BitVec 4
  keySlot : Nat
  meas : List Byte
  sram : List Byte
  opstore : List Byte
  deriving DecidableEq, Repr

/-- No firmware loaded. -/
def Firmware0 : Firmware := ⟨0, 0, 0, 0, 0, 0, [], [], []⟩

/-- OTP, flash, boot and the catwalk monitor. -/
structure Security where
  otp : Mem
  flash : Mem
  boot : BootSt
  fw : Firmware
  bootFlags : BitVec 8
  dramReady : Bool
  dramFail : Bool
  level : Nat
  baud : Nat
  challenge : Option (List Byte)
  invalid : Nat
  lockout : Option Nat
  unlockSlot : Nat
  deriving DecidableEq, Repr

/-! ## Resets, restricted service (R534 to R552) -/

/-- Reset control: the reason word; the times of the watchdog's bites since the last cold reset; the warm reset under way (its
cause and the count at it); the cause of the last cold reset; PFAIL_N low; the last-words record that the firmware has still
to write; and whether it has been reported since the boot. -/
structure ResetCtl where
  rs : BitVec 32
  bites : List Nat
  warm : Option (Nat × Nat)
  coldCause : Nat
  pfail : Bool
  lw : Option (List Byte)
  reported : Bool
  deriving DecidableEq, Repr

/-! ## The whole machine -/

/-- A commit on its way to the slot store (R60, R178 to R180). -/
structure FlightCommit where
  slot : Nat
  gen : BitVec 16
  verdict : BitVec 4
  conf : BitVec 16
  final : Bool
  primary : Bool
  flags : BitVec 16
  views : Nat
  scores : List F32
  deriving DecidableEq, Repr

/-- The slot store with the per-port part bookkeeping (R36 to R70). `instant` holds the commits applied at the last instant, each
with its slot, that instant, and the slot before it: a freeze of the same instant comes first (R45). -/
structure SlotStore where
  tab : Tab Slot
  policies : Tab Policy
  seqs : Tab (BitVec 48)
  epochs : Tab (BitVec 32)
  commits : List FlightCommit
  records : List (Nat × BitVec 16)
  lateRecords : List (Nat × BitVec 16)
  cands : List (Nat × BitVec 16)
  instant : List (Nat × Nat × Slot × FlightCommit)
  stale : Ctr
  duplicate : Ctr
  noSlotCtr : Ctr
  recDrops : Ctr
  deriving DecidableEq, Repr

/-- The grades (R5); a part's grade is fixed when it is made, and no command changes it
(log entry 19, DESIGN CHOICE). -/
inductive Grade where
  | a
  | b
  | c
  deriving DecidableEq, Repr

/-- The state of the SG7. -/
structure State where
  pending : List Instr
  time : Timekeeping
  pus : Tab Pu
  gens : Tab LineGen
  slots : SlotStore
  cams : Tab Cam
  ramps : Tab Ramp
  field : FieldCtl
  die : FieldDie
  trigs : Tab TrigPin
  pulses : List Pulse
  linePulses : Tab Nat
  deck : Deck
  imgs : Tab ImgSlot
  seq : Sequencer
  bands : List Band
  jobs : List Job
  rec_ : Recorder
  replay : Replay
  span : SpanStack
  pwr : Power
  steward : Steward
  mem : MemSys
  host : HostIf
  q : QueueMgr
  gh : Gatehouse
  sec : Security
  rst : ResetCtl
  lineSlow : Bool
  out : List Out
  grade : Grade
  deriving DecidableEq, Repr

/-! ## Stops -/

/-- Why a run stops with a fault. -/
inductive Fault where
  /-- A deck transfer reaches past the end of its space (R450, R451, R117, R120): raised by DECK_LOAD, DECK_STORE,
  SWING_LOAD and SEND. Safe: the manual gives no effect to an address that does not exist. -/
  | noSuchAddress
  deriving DecidableEq, Repr

/-- Why a command is refused. -/
inductive Refusal where
  /-- A command that this model does not yet give a meaning. Safe: nothing is claimed of it. -/
  | notModelled (mnemonic : String)
  deriving DecidableEq, Repr

/-! ## Reset -/

/-- The field die held in undervoltage reset (R351). -/
def FieldDie0 : FieldDie := ⟨true, [], [], [], 0, [], 0, 0, 0, true, 0⟩

/-- The field-link controller at cold reset (R370, R374): SAFE_CMD set; the gatehouse rewrites the field registers as its
firmware starts. -/
def FieldCtl0 : FieldCtl :=
  ⟨false, true, false, false, 0, 0, 0, 0, List.replicate 5 Ctr0, [], [], true, false, 0, 0, [], [], none, 0, 0, [],
    0, [], none⟩

/-- A girder before the self-test: unbound, nothing fused (log entry 15, DESIGN CHOICE)
(log entry 19, DESIGN CHOICE). -/
def Girder0 : Girder :=
  ⟨false, false, false, false, 0, 0, 0xFF, [], none, 0, WSet0, WSet0, AccBank0, AccBank0, [], Ctr0⟩

/-- A cluster before the self-test (log entries 15, DESIGN CHOICE; 19, DESIGN CHOICE). -/
def Cluster0 : Cluster := ⟨false, false, false, 0, 0, 0xFF, Ctr0⟩

/-- An abutment region at reset: owned by APPROACH, flag clear (log entry 16, DESIGN CHOICE). -/
def Region0 : Region := ⟨false, false⟩

/-- The deck at cold reset. -/
def Deck0 : Deck := ⟨[], [], [], [], [], [], [], Ctr0, Ctr0, Ctr0, [], []⟩

/-- The crossing sequencer at reset (R252). -/
def Sequencer0 : Sequencer :=
  ⟨false, false, false, 0, false, 0, 0, 0, false, 0, none, .none, 0, 0, 0, 0, [], [], [], [], [], [], false, 0, Ctr0, Ctr0, Ctr0,
    Ctr0, Ctr0, 0, false, 0, 0, 0, [], 0, []⟩

/-- The recorder at reset (R258). -/
def Recorder0 : Recorder :=
  ⟨false, false, false, false, false, Ctr0, 0, 0, 0, 0, 0, 0, 0, [], [], 0, 0, 0, 0, 0, [], false, false,
    [], []⟩

/-- Replay off. -/
def Replay0 : Replay := ⟨false, false, false, 0, 0, 0, 0, 0, (0, 0), 0, 0, [], false, [], 0, [], [], false, [], []⟩

/-- Timekeeping at cold reset (R403, R408, R409, R413): counts zero, increments one tick of 10 ns, internal timebase,
role OFF. -/
def Timekeeping0 : Timekeeping :=
  ⟨0, 0x0A000000, true, 0, 0, 0, 0x0A000000, [], .off, none, .unsync, none, 0xFF, 0, 0, 0, none, 0, 0, 0, 0, 0, none, false, none⟩

/-- Power at cold reset (R417): AO, PE and every present MC group ON. -/
def Power0 : Power :=
  ⟨[(0, { Domain0 with st := .on }), (59, { Domain0 with st := .on }), (60, { Domain0 with st := .on }),
    (61, { Domain0 with st := .on }), (62, { Domain0 with st := .on }), (63, { Domain0 with st := .on })], 0, 0, 0, 0⟩

/-- The steward at cold reset (R443); VDD_CORE stands at its start-up setpoint of 0.75 V (R557), the sense at 0 mV until
it is read (log entry 14, DESIGN CHOICE). -/
def Steward0 : Steward :=
  ⟨stewardReset, none, 0, 0, [], false, false, 0, false, 0, 0, 750, false, 0, 0, 1, 0, 0, 0, 0, [], [], false, false⟩

/-- Memory and the toll gate at reset (R457, R458, R463). -/
def MemSys0 : MemSys :=
  ⟨[], [], [], [], 0, 0, [], [], [], [4, 4, 4, 4, 4, 16, 16, 8, 8, 2, 8, 255], [], 0⟩

/-- The queue manager at reset (R484). -/
def QueueMgr0 : QueueMgr := ⟨[], [], false, false, [], Ctr0, []⟩

/-- The endpoint at reset (R467): WIN_BASE 0x100, PERST_N asserted until it is released. -/
def HostIf0 : HostIf := ⟨true, false, 0, 0, 0x100, [], 0, Ctr0, Ctr0⟩

/-- The gatehouse before its firmware runs. -/
def Gatehouse0 : Gatehouse := ⟨[], [], [], none, 0, 0, 0, [], none⟩

/-- The boot state at power-on with a blank OTP and an erased flash (log entry 17, DESIGN CHOICE). -/
def Security0 : Security :=
  ⟨[], [], .held, Firmware0, 0, false, false, 0, 115200, none, 0, none, 0⟩

/-- Reset control at cold reset. -/
def ResetCtl0 : ResetCtl := ⟨0, [], none, 6, false, none, false⟩

/-- The slot store at reset: every slot FREE, every policy UNSET, sequences and epochs 0 (R36, R56, R69). -/
def SlotStore0 : SlotStore := ⟨[], [], [], [], [], [], [], [], [], Ctr0, Ctr0, Ctr0, Ctr0⟩

/-- The SG7 right after a cold reset: RESET_N has just been released and the boot ROM has not yet run (R516, R534,
R535, R563); an SG7-A with no fused unit (log entry 19, DESIGN CHOICE). -/
def State.reset : State :=
  { pending := [], time := Timekeeping0, pus := [], gens := [], slots := SlotStore0, cams := [], ramps := [],
    field := FieldCtl0, die := FieldDie0, trigs := [], pulses := [], linePulses := [], deck := Deck0,
    imgs := [], seq := Sequencer0, bands := [], jobs := [], rec_ := Recorder0, replay := Replay0,
    span := ⟨0, [], [], 0, 0⟩, pwr := Power0, steward := Steward0, mem := MemSys0, host := HostIf0, q := QueueMgr0,
    gh := Gatehouse0, sec := Security0, rst := ResetCtl0, lineSlow := false, out := [], grade := .a }

end Sys2Proof.Machine
end

