-- ==== Sys2Proof/Machine/Girder.lean ====
section
/-! DEFINITION. Sys2Proof/Machine/Girder.lean: a girder at work (R104 to R112): the two weight sets, the two accumulator banks,
the blocks of a contraction and the girders that its tile plans name, and what a pre-empted girder spills (R131).
-/

namespace Sys2Proof.Machine

def getGirder (s : State) (n : Nat) : Girder := Tab.get Girder0 s.deck.girders n
def setGirder (n : Nat) (g : Girder) (s : State) : State :=
  { s with deck := { s.deck with girders := Tab.set Girder0 s.deck.girders n g } }

/-! ## Weight sets (R105, R108) -/

/-- Columns of one weight set: 32 column groups in the 16-bit modes, 128 columns in the others (R105). -/
def setCols (f : Fmt) : Nat :=
  match f with
  | .int16 | .fp16 | .bf16 => 32
  | _ => 128

/-- Chunks that one pass takes: two in the 4-bit mode, one in the others (R105). -/
def passChunks (f : Fmt) : Nat := if f = .int4 then 2 else 1

/-- Passes of a contraction of length `n`, and column sets of `n` output channels. -/
def passCount (f : Fmt) (n : Nat) : Nat := cdiv n (128 * passChunks f)
def colsets (f : Fmt) (n : Nat) : Nat := cdiv n (setCols f)

/-- The contraction indices of pass `p` of a list over the contraction index. -/
def passPart (f : Fmt) (p : Nat) (xs : List Ext) : List Ext := (xs.drop (128 * passChunks f * p)).take (128 * passChunks f)

/-- The weight set of pass `p` of column set `k`. -/
def weightSet (q : Contr) (f : Fmt) (desc k p : Nat) : WSet :=
  ⟨desc, k, p, (List.range (min (setCols f) (q.channels - setCols f * k))).map (fun j =>
    passPart f p (q.weights (setCols f * k + j)))⟩

/-- SHADOW fills from the pier, while waves stream against ACTIVE (R108). -/
def fillShadow (w : WSet) (g : Girder) : Girder := { g with shadow := w }

/-- A switch exchanges ACTIVE and SHADOW between two waves; SHADOW is complete (R108). -/
def switchSets (g : Girder) : Girder := { g with active := g.shadow, shadow := g.active }

/-- The set that the next waves need stands in ACTIVE: already, or filled into SHADOW and switched (R108). -/
def needSet (w : WSet) (g : Girder) : Girder := if g.active = w then g else switchSets (fillShadow w g)

/-! ## Accumulator banks and blocks (R110, R111) -/

/-- What the output stage has taken: an output position, its column set, and the accumulators of the columns. -/
abbrev Drained := List (Nat × Nat × List (BitVec 32))

/-- The output stage drains its bank (R110). -/
def drainBank (g : Girder) : Girder × Drained :=
  ({ g with drain := AccBank0 }, g.drain.entries.zipIdx.map (fun e => (g.drain.first + e.2, g.drain.colset, e.1)))

/-- A block ends: its bank passes to the output stage, which has first drained the other; that one is free for the next
block (R110). -/
def closeBlock (g : Girder) : Girder × Drained :=
  let d := drainBank g
  ({ d.1 with drain := { d.1.acc with opened := false }, acc := AccBank0 }, d.2)

/-- A block opens in the free bank, over incoming accumulators where it takes any (R110, R111, R112). -/
def openBlock (first k : Nat) (incoming : List (List (BitVec 32))) (g : Girder) : Girder :=
  { g with acc := ⟨first, k, incoming, true⟩ }

/-- An output position: its image, row and column. -/
abbrev Pos := Img × Nat × Nat

/-- One wave against ACTIVE (R104, R111): every column sums its products into the entry of the wave's position. -/
def wave (q : Contr) (f : Fmt) (w : WSet) (first : Bool) (x : Pos) (e : List (BitVec 32)) : List (BitVec 32) :=
  w.cols.zipIdx.map (fun c => accAdd q.int first (e.getD c.2 0)
    (chunkSum q.int (passPart f w.pass (q.wave x.1 x.2.1 x.2.2 (setCols f * w.colset + c.2))) c.1))

/-- The waves of one pass over a block: one for each position, in order (R107, R111). -/
def passWaves (q : Contr) (f : Fmt) (first : Bool) (xs : List Pos) (g : Girder) : Girder :=
  { g with acc := { g.acc with entries := xs.zipIdx.map (fun x => wave q f g.active first x.1 (g.acc.entries.getD x.2 [])) } }

/-! ## Tile plans (R231, R254) -/

/-- The tile plan that names a position, a pass and a column set (log entry 104, DESIGN CHOICE). -/
def planFor (plans : List Plan) (f : Fmt) (n k p : Nat) : Option Plan :=
  plans.find? (fun t => decide (t.unit < 0x80 ∧ t.colset = k ∧ t.posFirst ≤ n ∧
    n < t.posFirst + t.waves / max 1 (cdiv t.chunkCount (passChunks f)) ∧
    t.chunkFirst ≤ passChunks f * p ∧ passChunks f * p < t.chunkFirst + t.chunkCount))

/-- Logical girders that tile plans name. -/
def girdersOf (plans : List Plan) : List Nat := (plans.filterMap (fun t => if t.unit < 0x80 then some t.unit else none)).eraseDups

/-- The girder of each pass of one position: the one that a tile plan names, else the first that the OP names
(log entry 104, DESIGN CHOICE). -/
def pathOf (plans : List Plan) (f : Fmt) (passes k n : Nat) : List Nat :=
  (List.range passes).map (fun p => ((planFor plans f n k p).map (fun t => t.unit)).getD ((girdersOf plans).headD 0))

/-- Blocks of a column set (R110): runs of at most 64 positions that take the same girders, each by its first position and
its length. -/
def blocksOf (path : Nat → List Nat) (count : Nat) : List (Nat × Nat) :=
  ((List.range count).foldl (fun (bs : List (Nat × Nat)) n =>
    match bs with
    | b :: t => if b.2 < 64 ∧ path b.1 = path n then (b.1, b.2 + 1) :: t else (n, 1) :: bs
    | [] => [(n, 1)]) []).reverse

/-! ## A contraction on the girders -/

/-- A contraction that girders are to run: what each logical girder sees of it, its format and descriptor, its tile plans,
and the physical girder behind each logical one. -/
structure Work where
  contr : Nat → Contr
  fmt : Fmt
  desc : Nat
  plans : List Plan
  phys : Nat → Nat

/-- The girders at work: their state, the girder that holds the present block's accumulators, and what has been drained. -/
structure Working where
  girders : Tab Girder
  at_ : Option Nat
  out : Drained

/-- One pass of a block on girder `l` (R108, R111, R112): a new girder loads the accumulators that the one before handed on
through abutment memory as its incoming ones. -/
def blockPass (w : Work) (xs : List Pos) (first k p l : Nat) (r : Working) : Working :=
  let n := w.phys l
  let g := Tab.get Girder0 r.girders n
  let q := w.contr l
  let opened : Tab Girder × Girder :=
    match r.at_ with
    | none => (r.girders, openBlock first k [] g)
    | some m =>
      if m = n then (r.girders, g)
      else
        let h := Tab.get Girder0 r.girders m
        (Tab.set Girder0 r.girders m { h with acc := AccBank0 }, openBlock first k h.acc.entries g)
  ⟨Tab.set Girder0 opened.1 n (passWaves q w.fmt (p == 0) xs (needSet (weightSet q w.fmt w.desc k p) opened.2)), some n, r.out⟩

/-- A block from its first chunk to its last, in ascending chunk index (R110, R111). -/
def runBlock (w : Work) (ps : List Pos) (passes k : Nat) (b : Nat × Nat) (r : Working) : Working :=
  let xs := (ps.drop b.1).take b.2
  let s := (pathOf w.plans w.fmt passes k b.1).zipIdx.foldl (fun (a : Working) x => blockPass w xs b.1 k x.2 x.1 a) { r with at_ := none }
  match s.at_ with
  | none => s
  | some n =>
    let d := closeBlock (Tab.get Girder0 s.girders n)
    ⟨Tab.set Girder0 s.girders n d.1, none, s.out ++ d.2⟩

/-- The end of an operation on a girder (R107, R110, R131): the last block is drained; its bank stays open where its tile says
so (BANK_OPEN). -/
def endWork (w : Work) (passes : Nat) (r : Working) (l : Nat) : Working :=
  let n := w.phys l
  let g := Tab.get Girder0 r.girders n
  let d := drainBank g
  let open_ := ((planFor w.plans w.fmt g.drain.first g.drain.colset (passes - 1)).map (fun t => bitOf t.flags 2)).getD false
  let g1 := if open_ && !g.drain.entries.isEmpty then { d.1 with acc := { g.drain with opened := true } } else d.1
  ⟨Tab.set Girder0 r.girders n g1, r.at_, r.out ++ d.2⟩

/-- Output positions in raster order, image by image. -/
def positions (imgs : List Img) : List Pos := imgs.flatMap (fun g => (raster g).map (fun p => (g, p.1, p.2)))

/-- A contraction over all its column sets and blocks: the girders after it, and what they drained. -/
def runWork (w : Work) (girders : Tab Girder) : Working :=
  let gs := match girdersOf w.plans with
    | [] => [0]
    | l => l
  let q := w.contr (gs.headD 0)
  let ps := positions q.imgs
  let passes := passCount w.fmt q.len
  let r := (List.range (colsets w.fmt q.channels)).foldl (fun (a : Working) k =>
    (blocksOf (pathOf w.plans w.fmt passes k) ps.length).foldl (fun a b => runBlock w ps passes k b a) a) ⟨girders, none, []⟩
  gs.foldl (endWork w passes) r

/-- The accumulators of a contraction, by image, row, column and channel. -/
def accOf (f : Fmt) (imgs : List Img) (channels : Nat) (d : Drained) : AccFn :=
  let n := (positions imgs).length
  let table := d.foldl (fun (t : Array (List (BitVec 32))) e => t.setIfInBounds (e.2.1 * n + e.1) e.2.2)
    (Array.replicate (colsets f channels * n) [])
  let base (g : Img) : Nat := ((imgs.takeWhile (fun h => h != g)).map (fun h => h.h * h.w)).foldl (fun a x => a + x) 0
  fun g y x c => (table.getD (c / setCols f * n + base g + y * g.w + x) []).getD (c % setCols f) 0

/-! ## Pre-emption (R131) -/

/-- A pre-empted girder spills an open accumulator bank to its pier, kept for the work `k` that was suspended; its weight
registers are not saved (log entry 105, DESIGN CHOICE). -/
def spillGirder (k : Nat) (g : Girder) : Girder :=
  { g with
    active := WSet0, shadow := WSet0, acc := AccBank0, drain := AccBank0,
    spill := if g.acc.opened then (k, ⟨g.acc, g.active.desc, g.active.colset, g.active.pass⟩) :: g.spill else g.spill }

/-- On resume the spilled accumulators are incoming accumulators again, bit for bit; the weight set is loaded again by the
first pass that needs it (R131) (log entry 105, DESIGN CHOICE). -/
def reloadGirder (k : Nat) (g : Girder) : Girder :=
  match g.spill.find? (fun x => x.1 == k) with
  | some x => { openBlock x.2.bank.first x.2.bank.colset x.2.bank.entries g with spill := g.spill.filter (fun y => y.1 != k) }
  | none => g

/-- Girders spill, or reload, for suspended work `k`. -/
def spillAll (k : Nat) (ns : List Nat) (s : State) : State := ns.foldl (fun a n => setGirder n (spillGirder k (getGirder a n)) a) s
def reloadAll (k : Nat) (ns : List Nat) (s : State) : State := ns.foldl (fun a n => setGirder n (reloadGirder k (getGirder a n)) a) s

/-- The number under which a job's spilled banks are kept, beyond those of the bays. -/
def jobKey (x : Job) : Nat :=
  256 + 2 * x.id.toNat + (match x.kind with
    | .secondLook => 0
    | .standby => 1)

end Sys2Proof.Machine
end

