-- ==== Sys2Proof/Machine/Pipeline.lean ====
section
/-! DEFINITION. Sys2Proof/Machine/Pipeline.lean: what a line and a sample become: the approach pipeline (R284 to R293),
segmentation (R301 to R307), sample geometry and augmentation (R309 to R315).
-/

namespace Sys2Proof.Machine

/-- Sample width of a PIXFMT (R284). -/
def pixWidth (f : Nat) : Nat :=
  match f with
  | 0 | 4 => 8
  | 1 | 5 => 10
  | 2 | 6 => 12
  | _ => 16

/-- Planes of a PIXFMT (R284). -/
def pixPlanes (f : Nat) : Nat := if 4 ≤ f then 3 else 1

/-- CONNS of a CAM_CONFIG structure (R285), and its other fields below. -/
def camConns (c : List Byte) : Nat := fld1 c 0
def camRate (c : List Byte) : Nat := fld1 c 1 % 16
def camPixfmt (c : List Byte) : Nat := fld1 c 2
def camTrig (c : List Byte) : Nat := fld1 c 3 % 4
def camWidth (c : List Byte) : Nat := fld c 4 2
def camRoiX0 (c : List Byte) : Nat := fld c 6 2
def camRoiW (c : List Byte) : Nat := fld c 8 2
def camStream (c : List Byte) : Nat := fld1 c 10
def camMaxHz (c : List Byte) : Nat := fld c 12 4
def camLatMin (c : List Byte) : Nat := fld c 16 4
def camLatMax (c : List Byte) : Nat := fld c 20 4
def camEvq (c : List Byte) : Nat := fld c 24 2

/-- Fields of an AP_CONFIG structure (R294). -/
def apAp (a : List Byte) : Nat := fld1 a 0 % 4
def apInline (a : List Byte) : Bool := bitOf (fld1 a 0) 2
def apExp (a : List Byte) : Nat := fld1 a 1
def apLut (a : List Byte) : Bool := bitOf (fld1 a 2) 0
def apFf (a : List Byte) : Bool := bitOf (fld1 a 2) 1
def apStats (a : List Byte) : Bool := bitOf (fld1 a 2) 2
def apU8 (a : List Byte) : Bool := bitOf (fld1 a 2) 3
def apShift (a : List Byte) : Nat := fld1 a 3
def apGain (a : List Byte) (e : Nat) : Nat := fld a (8 + 2 * e) 2
def apPass (a : List Byte) : Nat := fld a 14 2
def apStatsLines (a : List Byte) : Nat := fld a 16 2
def apZones (a : List Byte) : Nat := fld1 a 18
def apZoneX0 (a : List Byte) : Nat := fld a 20 2
def apZoneW (a : List Byte) : Nat := fld a 22 2
def apRing (a : List Byte) : Nat := fld a 24 4

/-- Linearisation of one sample (R288). -/
def linearise (a : List Byte) (t : TableSet) (w c s : Nat) : Nat :=
  if apLut a then
    let i := if w ≤ 12 then s * 2 ^ (12 - w) else s / 16
    fld t.lut (8192 * c + 2 * i) 2
  else s * 2 ^ (16 - w)

/-- The merge weight function of R289. -/
def knee (a : List Byte) (x : Nat) : Nat :=
  let lo := fld a 4 2
  let hi := fld a 6 2
  if x ≤ lo then 65536 else if hi ≤ x then 0 else (hi - x) * 65536 / (hi - lo)

/-- Exposure merge of one sample (R289): the linear values from the longest exposure. -/
def mergeSample (a : List Byte) (xs : List Nat) : Nat :=
  match xs with
  | [] => 0
  | [x] => x
  | _ =>
    let n := xs.length
    let r := xs.zipIdx.foldl (fun (st : Nat × Nat) p =>
      let wt := if p.2 + 1 = n then st.1 else st.1 * knee a p.1 / 65536
      (st.1 - wt, st.2 + wt * (p.1 * apGain a p.2 / 256))) (65536, 0)
    min 65535 ((r.2 + 2 ^ (15 + apShift a)) / 2 ^ (16 + apShift a))

/-- Flat-field correction of plane `c`, kept column `x` (R290). -/
def flatField (a : List Byte) (t : TableSet) (roiW c x m : Nat) : Nat :=
  if apFf a then
    let o := 4 * (roiW * c + x)
    min 65535 (((m - fld t.ff o 2) * fld t.ff (o + 2) 2 + 8192) / 16384)
  else m

/-- Round of v / 256 to nearest, ties to even, saturated to 255 (R291, R313). -/
def toU8 (v : Nat) : Nat := min 255 (roundNat .nearestEven 0 v 256)

/-- The corrected samples v of a group of raw lines (R287 to R290). -/
def pipeLine (a : List Byte) (t : TableSet) (w roiW : Nat) (g : List RawLine) : List (List Nat) :=
  match g with
  | [] => []
  | r0 :: _ =>
    (List.range r0.px.length).map (fun c => (List.range roiW).map (fun x =>
      flatField a t roiW c x (mergeSample a (g.map (fun r => linearise a t w c ((r.px.getD c []).getD x 0))))))

/-- The output line of a group of raw lines (R289, R291): v and the line as the ramp receives it, in v16 units. -/
def outLineOf (a : List Byte) (t : TableSet) (w roiW : Nat) (g : List RawLine) : List (List Nat) × OutLine :=
  match g with
  | [] => ([], ⟨false, false, true, [], 0, 0, 0, none⟩)
  | r0 :: _ =>
    let lost := g.any (fun r => r.lost)
    let v := if lost then [] else pipeLine a t w roiW g
    let o := if apU8 a then v.map (fun p => p.map (fun s => toU8 s * 256)) else v
    (v, ⟨g.any (fun r => r.crc), g.any (fun r => r.trunc), lost, o, r0.pos, r0.corr, r0.stamp,
      r0.no.map (fun n => n / apExp a)⟩)

/-- Adds an output line to the statistics block in the making (R292). -/
def statsAdd (a : List Byte) (l : OutLine) (v : List (List Nat)) (s : StatsAcc) : StatsAcc :=
  if l.crc || l.trunc || l.lost then { s with excluded := s.excluded + 1, key := l.stamp }
  else
    let hist := v.zipIdx.foldl (fun h p => p.1.foldl (fun h x => Tab.upd 0 h (256 * p.2 + x / 256) (· + 1)) h) s.hist
    let zs := v.zipIdx.foldl (fun h p => (List.range (apZones a)).foldl (fun h z =>
      Tab.upd 0 h (64 * p.2 + z) (· + ((p.1.drop (apZoneX0 a + z * apZoneW a)).take (apZoneW a)).foldl (· + ·) 0)) h) s.zsum
    { s with hist := hist, zsum := zs, used := s.used + 1, key := l.stamp }

/-- The 4,672 bytes of a statistics block (R293). -/
def statsBytes (a : List Byte) (port planes blk : Nat) (s : StatsAcc) : List Byte :=
  leBytes 8 (blk * apStatsLines a) ++ leBytes 1 port ++ leBytes 1 planes ++ leBytes 1 (apZones a) ++ zeros 1 ++
    leBytes 4 s.used ++ leBytes 2 (apZoneX0 a) ++ leBytes 2 (apZoneW a) ++ leBytes 4 s.excluded ++ leBytes 8 s.key ++
    zeros 32 ++
    (List.range 768).flatMap (fun i => leBytes 4 (Tab.get 0 s.hist i)) ++
    (List.range 192).flatMap (fun i =>
      let sum := Tab.get 0 s.zsum i
      let d := s.used * apZoneW a
      leBytes 6 sum ++ leBytes 2 (if s.used = 0 then 0 else roundNat .nearestEven 0 sum d))

/-! Fields of an RMP_CONFIG structure (R322). -/

/-- RAMP. -/
def rmpRamp (c : List Byte) : Nat := fld1 c 0 % 2
def rmpCut (c : List Byte) : Bool := fld1 c 1 % 4 == 1
def rmpPack (c : List Byte) : Bool := bitOf (fld1 c 1) 2
def rmpPol (c : List Byte) : Nat := fld1 c 2 % 4
def rmpBgShift (c : List Byte) : Nat := fld1 c 3
def rmpThresh (c : List Byte) : Nat := fld c 4 2
def rmpGapX (c : List Byte) : Nat := fld1 c 6
def rmpGapY (c : List Byte) : Nat := fld1 c 7
def rmpDetLines (c : List Byte) : Nat := fld c 8 2
def rmpMarginX (c : List Byte) : Nat := fld c 10 2
def rmpDetArea (c : List Byte) : Nat := fld c 12 4
def rmpMarginY (c : List Byte) : Nat := fld c 16 2
def rmpMaxLines (c : List Byte) : Nat := fld c 18 2
def rmpCutLines (c : List Byte) : Nat := fld c 20 2
def rmpCutX0 (c : List Byte) : Nat := fld c 22 2
def rmpCutW (c : List Byte) : Nat := fld c 24 2
def rmpCutLanes (c : List Byte) : Nat := fld1 c 26
def rmpGeom (c : List Byte) : Nat := fld1 c 27
def rmpTw (c : List Byte) : Nat := fld c 30 2
def rmpTh (c : List Byte) : Nat := fld c 32 2
def rmpFill (c : List Byte) : Nat := fld c 34 2
def rmpS2d (c : List Byte) : Nat := 2 ^ bitsOf (fld1 c 36) 3 2
def rmpInt16 (c : List Byte) : Bool := fld1 c 36 % 4 == 1
def rmpAug (c : List Byte) : Nat := fld1 c 37
def rmpCropKib (c : List Byte) : Nat := fld c 44 4

/-- Foreground of one line before gap filling (R302). -/
def fgRaw (cfg : List Byte) (bg : Tab Nat) (l : OutLine) (x : Nat) : Bool :=
  l.px.zipIdx.any (fun p =>
    let d : Int := ((p.1.getD x 0 * 256 : Nat) : Int) - (Tab.get 0 bg (65536 * p.2 + x) : Nat)
    let t : Int := (rmpThresh cfg * 256 : Nat)
    match rmpPol cfg with
    | 1 => decide (t ≤ -d)
    | 2 => decide (t ≤ d)
    | _ => decide (t ≤ d ∨ t ≤ -d))

/-- The runs of a line (R302): maximal stretches of foreground columns after filling gaps of at most GAP_X. -/
def runsOf (gapX line : Nat) : List Nat → List Run
  | [] => []
  | x :: xs =>
    match runsOf gapX line xs with
    | [] => [⟨line, x, x⟩]
    | r :: rs => if r.c0 ≤ x + gapX + 1 then { r with c0 := x } :: rs else ⟨line, x, x⟩ :: r :: rs

/-- Background after a line (R301). -/
def bgUpdate (cfg : List Byte) (seeded : Bool) (runs : List Run) (bg : Tab Nat) (l : OutLine) : Tab Nat :=
  if l.lost then bg
  else
    l.px.zipIdx.foldl (fun bg p => p.1.zipIdx.foldl (fun bg q =>
      let key := 65536 * p.2 + q.2
      if !seeded then Tab.set 0 bg key (q.1 * 256)
      else if runs.any (fun r => decide (r.c0 ≤ q.2 + rmpGapX cfg ∧ q.2 ≤ r.c1 + rmpGapX cfg)) then bg
      else
        let b : Int := (Tab.get 0 bg key : Nat)
        let d : Int := ((q.1 * 256 : Nat) : Int) - b
        Tab.set 0 bg key (b + d / ((2 ^ rmpBgShift cfg : Nat) : Int)).toNat) bg) bg

/-- An open object counts against the 512 (R303, R305). -/
def objOpen (o : Obj) : Bool := !o.closed || o.absorb

/-- A run overlaps or touches diagonally a run the object took in one of the previous GAP_Y + 1 lines (R303). -/
def touches (gapY : Nat) (r : Run) (o : Obj) : Bool :=
  objOpen o && o.recent.any (fun q =>
    decide (q.line < r.line ∧ r.line ≤ q.line + gapY + 1 ∧ q.c0 ≤ r.c1 + 1 ∧ r.c0 ≤ q.c1 + 1))

/-- The index of the object a run joins (R303): lowest first line, then lowest first column, among the objects as they
stood before the line. -/
def joinIdx (gapY : Nat) (r : Run) (objs : List Obj) : Option Nat :=
  let c := (objs.zipIdx.filter (fun p => touches gapY r p.1)).map (fun p => (p.1.first, p.1.c0, p.2))
  match c with
  | [] => none
  | a :: t => some (t.foldl (fun b x => if x.1 < b.1 ∨ (x.1 = b.1 ∧ x.2.1 < b.2.1) then x else b) a).2.2

/-- An object that takes a run; a truncated one only absorbs it (R305). -/
def objTake (o : Obj) (r : Run) : Obj :=
  if o.closed then { o with recent := o.recent ++ [r] }
  else
    { o with
      last := r.line, c0 := min o.c0 r.c0, c1 := max o.c1 r.c1, area := o.area + (r.c1 + 1 - r.c0),
      lines := if o.recent.any (fun q => q.line == r.line) then o.lines else o.lines + 1,
      recent := o.recent ++ [r] }

/-- A new object from a run. -/
def objNew (r : Run) (pos : BitVec 40) : Obj :=
  ⟨r.line, pos, r.line, r.c0, r.c1, r.c1 + 1 - r.c0, 1, [r], false, 0, none, false, false, 0, false, false⟩

/-- Takes the runs of a line into the object table (R303): the table and the number of runs not tracked. `old` is the
table before the line (log entry 61, DEDUCED). -/
def takeRuns (gapY : Nat) (pos : BitVec 40) (old : List Obj) : List Run → List Obj → List Obj × Nat
  | [], objs => (objs, 0)
  | r :: rs, objs =>
    match joinIdx gapY r old with
    | some i => takeRuns gapY pos old rs (modAt objs i (fun o => objTake o r))
    | none =>
      if (objs.filter objOpen).length < 512 then takeRuns gapY pos old rs (objs ++ [objNew r pos])
      else
        let q := takeRuns gapY pos old rs objs
        (q.1, q.2 + 1)

/-- π in 128 fraction bits. -/
def pi128 : Nat := 0x3243F6A8885A308D313198A2E03707344

/-- Terms of the Taylor series of a sine or cosine in 128 fraction bits: `t` the present term, `k` its degree. -/
def trigSeries (x2 : Nat) : Nat → Int → Nat → Int
  | 0, _, _ => 0
  | n + 1, t, k => t + trigSeries x2 n (-(t * (x2 : Int)) / ((2 ^ 128 * ((k + 1) * (k + 2)) : Nat) : Int)) (k + 2)

/-- C and S of R310: the integers nearest to 2^16 cos θ and 2^16 sin θ, θ = k π / 11,520. -/
def rotCS (k : Int) : Int × Int :=
  let th : Nat := k.natAbs * pi128 / 11520
  let x2 := th * th / 2 ^ 128
  let rnd (v : Int) : Int := (v + 2 ^ 111) / 2 ^ 112
  let s := rnd (trigSeries x2 24 (th : Int) 1)
  (rnd (trigSeries x2 24 (2 ^ 128) 0), if k < 0 then -s else s)

/-- One plane of an image in rows. -/
abbrev Plane := Array (Array Nat)

/-- Pixel of a plane. -/
def pixAt (p : Plane) (y x : Nat) : Nat := (p.getD y #[]).getD x 0

/-- A plane built from a function. -/
def mkPlane (h w : Nat) (f : Nat → Nat → Nat) : Plane :=
  ((List.range h).map (fun y => ((List.range w).map (fun x => f y x)).toArray)).toArray

/-- The augmentation-dependent parameters of a view (R315). -/
structure ViewPar where
  qturn : Nat
  flipH : Bool
  flipV : Bool
  angle : Int
  gain : Int
  offset : Int
  deriving DecidableEq, Repr

/-- Integer uniform over −J to J from a draw (R314). -/
def uniJ (d j : Nat) : Int := -(j : Int) + ((d * (2 * j + 1) / 2 ^ 32 : Nat) : Int)

/-- The parameters of view `v` of sample `no` (R315). -/
def viewPar (c : List Byte) (v no : Nat) : ViewPar :=
  let g := rmpGeom c
  let a := rmpAug c
  let seed := fld c 48 8
  let on := decide (1 ≤ v) || bitOf a 7
  let d (n : Nat) : Nat := draw32 seed no n
  let aj := fld c 38 2
  let gj := fld c 40 2
  let oj := fld c 42 2
  ⟨if on && bitOf a 2 then (bitsOf g 2 1 + d 0 / 2 ^ 30) % 4 else bitsOf g 2 1,
    if on && bitOf a 0 then bitOf g 3 != bitOf (d 1) 31 else bitOf g 3,
    if on && bitOf a 1 then bitOf g 4 != bitOf (d 2) 31 else bitOf g 4,
    if on && decide (1 ≤ aj) then sx 16 (fld c 28 2) + uniJ (d 3) aj else sx 16 (fld c 28 2),
    if on && decide (1 ≤ gj) then 4096 + uniJ (d 4) gj else 4096,
    if on && decide (1 ≤ oj) then uniJ (d 5) oj else 0⟩

/-- Flip and quarter turn (R309): the plane and its size, height first. -/
def flipTurn (q : ViewPar) (p : Plane) (h w : Nat) : Plane × Nat × Nat :=
  let inp (r x : Nat) : Nat := pixAt p (if q.flipV then h - 1 - r else r) (if q.flipH then w - 1 - x else x)
  match q.qturn with
  | 1 => (mkPlane w h (fun y x => inp (h - 1 - x) y), w, h)
  | 2 => (mkPlane h w (fun y x => inp (h - 1 - y) (w - 1 - x)), h, w)
  | 3 => (mkPlane w h (fun y x => inp x (w - 1 - y)), w, h)
  | _ => (mkPlane h w inp, h, w)

/-- The four-tap combination of R310. -/
def blend4 (fx fy a b c d : Nat) : Nat :=
  ((256 - fx) * (256 - fy) * a + fx * (256 - fy) * b + (256 - fx) * fy * c + fx * fy * d + 32768) / 65536

/-- Fine rotation (R310). -/
def rotate (k : Int) (fill : Nat) (p : Plane) (h w : Nat) : Plane :=
  if k = 0 then p
  else
    let cs := rotCS k
    let tap (y x : Int) : Nat := if 0 ≤ y ∧ y < h ∧ 0 ≤ x ∧ x < w then pixAt p y.toNat x.toNat else fill
    mkPlane h w (fun y x =>
      let dx : Int := 2 * (x : Int) - ((w : Int) - 1)
      let dy : Int := 2 * (y : Int) - ((h : Int) - 1)
      let u := cs.1 * dx + cs.2 * dy + ((w : Int) - 1) * 65536
      let v := -(cs.2 * dx) + cs.1 * dy + ((h : Int) - 1) * 65536
      let ix := u / 131072
      let iy := v / 131072
      blend4 (u / 512 % 256).toNat (v / 512 % 256).toNat (tap iy ix) (tap iy (ix + 1)) (tap (iy + 1) ix)
        (tap (iy + 1) (ix + 1)))

/-- Resize (R311): mode 0 nearest, 1 bilinear, 2 area; and whether an area resize was replaced by bilinear. -/
def resize (mode th tw : Nat) (p : Plane) (h w : Nat) : Plane × Bool :=
  let lin : Plane := mkPlane th tw (fun y x =>
    let t (i s n : Nat) : Nat := (max (0 : Int) (((((2 * i + 1) * s : Nat) : Int) - (n : Int)) * 256 / ((2 * n : Nat) : Int))).toNat
    let tx := t x w tw
    let ty := t y h th
    let x1 := min (tx / 256 + 1) (w - 1)
    let y1 := min (ty / 256 + 1) (h - 1)
    blend4 (tx % 256) (ty % 256) (pixAt p (ty / 256) (tx / 256)) (pixAt p (ty / 256) x1) (pixAt p y1 (tx / 256)) (pixAt p y1 x1))
  match mode with
  | 0 => (mkPlane th tw (fun y x => pixAt p ((2 * y + 1) * h / (2 * th)) ((2 * x + 1) * w / (2 * tw))), false)
  | 2 =>
    if w < tw ∨ h < th then (lin, true)
    else (mkPlane th tw (fun y x =>
      let x0 := x * w / tw
      let x1 := (x + 1) * w / tw
      let y0 := y * h / th
      let y1 := (y + 1) * h / th
      let s := (List.range (y1 - y0)).foldl (fun a i => (List.range (x1 - x0)).foldl (fun a j => a + pixAt p (y0 + i) (x0 + j)) a) 0
      roundNat .nearestEven 0 s ((x1 - x0) * (y1 - y0))), false)
  | _ => (lin, false)

/-- Intensity (R312). -/
def intensity (g o : Int) (v : Nat) : Nat := (min 65535 (max 0 (((v : Int) * g + 2048) / 4096 + o))).toNat

/-- One plane through R309 to R312: rows of v′, and whether an area resize was replaced. -/
def viewPlane (c : List Byte) (q : ViewPar) (crop : List (List Nat)) : Plane × Bool :=
  let h := crop.length
  let w := (crop.headD []).length
  let a := flipTurn q ((crop.map List.toArray).toArray) h w
  let b := rotate q.angle (rmpFill c) a.1 a.2.1 a.2.2
  let r := resize (bitsOf (rmpGeom c) 6 5) (rmpTh c) (rmpTw c) b a.2.1 a.2.2
  (mkPlane (rmpTh c) (rmpTw c) (fun y x => intensity q.gain q.offset (pixAt r.1 y x)), r.2)

/-- The sample of a view (R309 to R313): codes per output position in raster order, channels ascending, and whether an
area resize was replaced. The crop is lines by planes by columns. -/
def sampleCodes (c : List Byte) (q : ViewPar) (crop : List (List (List Nat))) : List (List (List Nat)) × Bool :=
  let planes := (crop.headD []).length
  let ps := (List.range planes).map (fun k => viewPlane c q (crop.map (fun l => l.getD k [])))
  let f := rmpS2d c
  let out (v : Nat) : Nat := if rmpInt16 c then v / 2 else toU8 v
  ((List.range (rmpTh c / f)).map (fun y => (List.range (rmpTw c / f)).map (fun x =>
    (List.range f).flatMap (fun dy => (List.range f).flatMap (fun dx =>
      ps.map (fun p => out (pixAt p.1 (y * f + dy) (x * f + dx))))))), ps.any (fun p => p.2))

/-- Segment width and height of a ramp configuration (R313). -/
def segW (c : List Byte) : Nat := rmpTw c / rmpS2d c
def segH (c : List Byte) : Nat := rmpTh c / rmpS2d c

/-- The writes of a sample at column X0 of a packed tensor (R143, R319). -/
def sampleWrites (t : TRec) (x0 : Nat) (codes : List (List (List Nat))) : List (Nat × List Byte) :=
  codes.zipIdx.flatMap (fun r => r.1.zipIdx.map (fun p => (posIdx t 0 r.2 (x0 + p.2) * posBytes t, packCodes t p.1)))

/-- Placement of a segment by R317: its X0 and the row start it lies in, or none when the last row has no room. `fuel`
bounds the rows tried. -/
def placeSeg (stride rowW rows : Nat) : Nat → Nat → Nat → Nat → Option (Nat × Nat)
  | 0, _, _, _ => none
  | n + 1, e, r, ws =>
    let x0 := alignUp (max e r) stride
    if rows * rowW ≤ r then none
    else if x0 + ws ≤ r + rowW then some (x0, r)
    else placeSeg stride rowW rows n e (r + rowW) ws

/-- The bytes of a segment list (R320) (log entry 61, DEDUCED). -/
def segListBytes (band cport : Nat) (segs : List Seg) : List Byte :=
  leBytes 8 band ++ leBytes 2 segs.length ++ leBytes 1 cport ++ zeros 5 ++ segs.flatMap (fun s =>
    leBytes 2 s.x0 ++ leBytes 2 s.ws ++ leBytes 2 s.hs ++ zeros 1 ++ leBytes 1 s.views ++ leBytes 8 s.no ++
      leBytes 2 s.confLo.toNat ++ leBytes 2 s.confHi.toNat ++ leBytes 2 s.slot ++ leBytes 2 s.gen ++ leBytes 2 s.latX0 ++
      leBytes 2 s.latX1 ++ zeros 4)

end Sys2Proof.Machine
end

