-- ==== Sys2Proof/Machine/Position.lean ====
section
/-! DEFINITION. Sys2Proof/Machine/Position.lean: one position unit: decoding, the counter, references, motion, latches
and the tracking observer (R326 to R345). What an update does to the slots and the line triggers of the unit is in
Encoder.lean.
-/

namespace Sys2Proof.Machine

/-! Fields of a PU_CONFIG structure (R346). -/

/-- COUNT mode. -/
def puMode (c : List Byte) : Nat := fld1 c 0 % 4
def puRefSrc (c : List Byte) : Nat := bitsOf (fld1 c 0) 3 2
def puDirInv (c : List Byte) : Bool := bitOf (fld1 c 0) 4
def puFilt (c : List Byte) : Nat := fld1 c 1 % 16
def puResetMode (c : List Byte) : Nat := fld1 c 2 % 4
def puGapG (c : List Byte) : Nat := fld1 c 3
def puHoldoff (c : List Byte) : Nat := fld1 c 4
def puPulseB (c : List Byte) : Bool := bitOf (fld1 c 5) 0
def puRevHyst (c : List Byte) : Nat := fld c 6 2
def puRefValue (c : List Byte) : Int := sx 64 (fld c 8 8)
def puStopUs (c : List Byte) : Nat := fld c 16 4
def puK1 (c : List Byte) : Nat := fld c 20 2
def puK2 (c : List Byte) : Nat := fld c 24 4
def puK3 (c : List Byte) : Nat := fld c 28 4

/-- d(p, target) of R47: the difference modulo 2^40 read as 40-bit two's complement. -/
def posD (p t : BitVec 40) : Int := (p - t).toInt

/-- A position counts as reached when d is zero or more (R47). -/
def reached (p t : BitVec 40) : Bool := decide (0 ≤ posD p t)

/-- The count of a legal transition to levels (a, b), before DIR_INVERT (R329): +1, −1 or 0 for none. -/
def decodeStep (c : List Byte) (a0 b0 a b : Bool) : Int :=
  let rise := !a0 && a
  let fall := a0 && !a
  match puMode c with
  | 0 => if rise then (if b then -1 else 1) else 0
  | 1 => if rise then (if b then -1 else 1) else if fall then (if b then 1 else -1) else 0
  | 2 =>
    let ph (x y : Bool) : Int := if x then (if y then 2 else 1) else (if y then 3 else 0)
    let d := (ph a b - ph a0 b0) % 4
    if d = 1 then 1 else if d = 3 then -1 else 0
  | _ => if rise then (if puPulseB c && b then -1 else 1) else 0

/-- The count with DIR_INVERT applied (R329). -/
def decodeDir (c : List Byte) (a0 b0 a b : Bool) : Int :=
  let d := decodeStep c a0 b0 a b
  if puDirInv c then -d else d

/-- A latch record (R342). -/
def latchRec (count : BitVec 40) (rev : BitVec 24) (edge now : Nat) (v : BitVec 64) : List Byte :=
  leBytes 5 count.toNat ++ leBytes 3 rev.toNat ++ leBytes 8 edge ++ leBytes 8 now ++ leBytes 8 v.toNat

/-- The latch a unit would take at count `now` (R343): on the instant of an update, the values before it. -/
def puLatchNow (u : Pu) (now : Nat) : List Byte :=
  if u.held.length = 32 ∧ now ≤ u.heldAt then u.held.take 16 ++ leBytes 8 now ++ u.held.drop 24
  else latchRec u.count u.rev u.lastEdge now u.obsV

/-- The unit with its values kept for a latch on the instant of the update that follows (R343). -/
def holdLatch (stamp : Nat) (u : Pu) : Pu := { u with heldAt := stamp, held := latchRec u.count u.rev u.lastEdge stamp u.obsV }

/-- COUNT and REV after ±1 (R331), with WRAP. -/
def countStep (u : Pu) (d : Int) : Pu :=
  if d = 1 then
    if u.count = BitVec.allOnes 40 then { u with count := 0, rev := u.rev + 1, wrap := true } else { u with count := u.count + 1 }
  else if d = -1 then
    if u.count = 0 then { u with count := BitVec.allOnes 40, rev := u.rev - 1, wrap := true } else { u with count := u.count - 1 }
  else u

/-- The gap interval rule at a rising edge of A (R334): the unit and whether a gap reference is raised
(log entry 62, DEDUCED). -/
def gapStep (u : Pu) (positive : Bool) (stamp : Nat) : Pu × Bool :=
  let u1 := { u with lastRise := some stamp }
  match u.lastRise with
  | none => (u1, false)
  | some t0 =>
    let i := stamp - t0
    if 0 < u.holdoff then ({ u1 with holdoff := u.holdoff - 1 }, false)
    else if !positive then (u1, false)
    else
      match u.period with
      | none => ({ u1 with period := some i }, false)
      | some p =>
        let g := puGapG u.cfg
        if g * p < 16 * i ∨ g * i < 16 * p then ({ u1 with holdoff := puHoldoff u.cfg }, true)
        else ({ u1 with period := some i }, false)

/-- A reference (R335, R336): the unit and the correction its slots take (log entry 62, DEDUCED). -/
def takeRef (u : Pu) (stamp : Nat) : Pu × BitVec 40 :=
  let m := puResetMode u.cfg
  let load := m == 1 || (m == 2 && u.armed)
  let lat := { u with refLatch := latchRec u.count u.rev stamp stamp u.obsV, refSeen := true, ctrs := modAt u.ctrs 1 ctrBump }
  if load then
    let v := puRefValue u.cfg
    let c := BitVec.ofInt 40 v - u.count
    ({ lat with count := BitVec.ofInt 40 v, rev := BitVec.ofInt 24 (v / 2 ^ 40), high := u.high + c,
                obsP := u.obsP + (c.zeroExtend 64 <<< 24), cumCorr := u.cumCorr + c,
                armed := if m = 2 then false else u.armed }, c)
  else (lat, 0)

/-- High mark and motion state after a counted edge (R332) (log entry 87, DEDUCED). -/
def motionStep (u : Pu) : Pu :=
  let d := posD u.count u.high
  if 0 ≤ d then { u with high := u.count, motion := .forward }
  else if d < -(puRevHyst u.cfg : Int) then
    (if u.motion = .reverse then u else { u with motion := .reverse, period := none })
  else if u.motion = .stopped then { u with motion := .forward } else u

/-- A speed narrowed to signed 16.48; a sum outside it is a free value (log entry 13, DESIGN CHOICE). -/
def narrowV (v : Int) : BitVec 64 :=
  if -(2 ^ 63) ≤ v ∧ v < 2 ^ 63 then BitVec.ofInt 64 v else Config.obsSpeedOverflow v

/-- An acceleration narrowed to signed 1.63; a sum outside it is a free value (log entry 13, DESIGN CHOICE). -/
def narrowA (v : Int) : BitVec 64 :=
  if -(2 ^ 63) ≤ v ∧ v < 2 ^ 63 then BitVec.ofInt 64 v else Config.obsAccelOverflow v

/-- Arithmetic shift right, rounding toward minus infinity. -/
def asr (x : Int) (k : Nat) : Int := x / ((2 ^ k : Nat) : Int)

/-- The prediction of R344 over the time since the last update. -/
def obsPredict (u : Pu) (now : Nat) : Pu :=
  let dt : Int := (now - u.obsAt : Nat)
  let v := u.obsV.toInt
  let a := u.obsA.toInt
  { u with obsP := u.obsP + BitVec.ofInt 64 (asr (v * dt) 24 + asr (a * dt * dt) 40),
           obsV := narrowV (v + asr (a * dt) 15), obsAt := now }

/-- The correction of R344 by the error e. -/
def obsCorrect (u : Pu) (e : Int) : Pu :=
  { u with obsP := u.obsP + BitVec.ofInt 64 (asr ((puK1 u.cfg : Int) * e) 16),
           obsV := narrowV (u.obsV.toInt + asr ((puK2 u.cfg : Int) * e) 16),
           obsA := narrowA (u.obsA.toInt + asr ((puK3 u.cfg : Int) * e) 25) }

/-- z × 2^24 − p modulo 2^64 as a signed number (R344). -/
def obsErr (u : Pu) : Int := ((u.count.zeroExtend 64 <<< 24) - u.obsP).toInt

/-- The observer at a counted edge (R344). -/
def obsEdge (u : Pu) (now : Nat) (gapRef : Bool) : Pu :=
  let p := obsPredict u now
  if gapRef then { p with obsP := p.count.zeroExtend 64 <<< 24 } else obsCorrect p (obsErr p)

/-- The observer at a tick (R344): the error beyond the band. -/
def obsTick (u : Pu) (now : Nat) : Pu :=
  let p := obsPredict u now
  let b : Int := (if puRefSrc u.cfg = 3 then 2 else 1) * 2 ^ 24
  let e := obsErr p
  obsCorrect p (if b < e then e - b else if e < -b then e + b else 0)

/-- What one counter update did to the unit, for the slots and generators. -/
structure PuUpdate where
  pu : Pu
  corr : BitVec 40
  ref : Bool
  advance : Nat
  leftMotion : Bool
  deriving DecidableEq, Repr

/-- Steps 1 to 3 of a counter update (R337): the count, the reference, the high mark and motion. -/
def puUpdate (u : Pu) (d : Int) (riseA : Bool) (stamp : Nat) : PuUpdate × Bool :=
  let positive := decide (d = 1)
  let u1 := countStep u d
  let g := if !riseA then (u1, false)
    else if puRefSrc u.cfg = 3 then gapStep u1 positive stamp
    else ({ u1 with lastRise := some stamp }, false)
  let take := positive && (g.2 || g.1.refPending)
  let u2 := { g.1 with refPending := false }
  let r := if take then takeRef u2 stamp else (u2, 0)
  let u3 := motionStep r.1
  let adv := (posD u3.high r.1.high).toNat
  ({ pu := { u3 with lastEdge := stamp }, corr := r.2, ref := take, advance := adv,
     leftMotion := decide (u3.motion = .reverse ∧ u.motion ≠ .reverse) }, g.2 && take)

/-- Predicted time to reach a target in ns (R345); none for "never". -/
def predictNs (u : Pu) (q : BitVec 40) : Option Nat :=
  let r := -posD (BitVec.ofNat 40 (u.obsP.toNat / 2 ^ 24)) q
  if reached u.count q || decide (r ≤ 0) then some 0
  else if u.obsV.toInt ≤ 0 then none
  else some (r * 2 ^ 48 / u.obsV.toInt).toNat

/-- PU_STATUS (R348); `lt` holds the armed generators on the unit. -/
def puStatus (u : Pu) (lt : Nat) : Nat :=
  b2n u.armed <<< 31 + b2n u.refSeen <<< 30 + b2n u.illegal <<< 29 + b2n u.wrap <<< 28 + b2n u.overspeed <<< 27 +
    (match u.motion with
     | .stopped => 0
     | .forward => 1
     | .reverse => 2) <<< 25 + u.wireFault.toNat <<< 22 + puMode u.cfg <<< 20 + puRefSrc u.cfg <<< 18 +
    puResetMode u.cfg <<< 16 + (lt % 16) <<< 12

end Sys2Proof.Machine
end

