-- ==== Sys2Proof/Machine/FieldLink.lean ====
section
/-! DEFINITION. Sys2Proof/Machine/FieldLink.lean: frames of the isolation link, the field die's registers, filters,
readback and safe state (R351 to R364).
-/

namespace Sys2Proof.Machine

/-- One byte through the CRC-8 of R362. -/
def crc8Byte (crc : Nat) (b : Nat) : Nat :=
  (List.range 8).foldl (fun c _ => if bitOf c 7 then (c * 2 % 256) ^^^ 0x2F else c * 2 % 256) (crc ^^^ b)

/-- CRC-8: polynomial 0x2F, initial value 0xFF, no reflection, no final XOR (R362). -/
def crc8 (bs : List Byte) : Nat := bs.foldl (fun c b => crc8Byte c b.toNat) 0xFF

/-- Reset value of a field register (R351, R368): DIR_FN 0x10, FILT_US 3, OPTS 0, RB_DELAY_US 100. -/
def fieldRegReset (addr : Nat) : Byte :=
  if addr < 160 then
    (match addr % 5 with
     | 0 => 0x10
     | 1 => 3
     | 3 => 100
     | _ => 0)
  else 0

/-- A field register; an unlisted one reads as its reset value. -/
def fReg (t : Tab Byte) (addr : Nat) : Nat := (Tab.get (fieldRegReset addr) t addr).toNat

/-- Writes a field register, keeping the table canonical. -/
def fRegSet (t : Tab Byte) (addr : Nat) (v : Byte) : Tab Byte := Tab.set (fieldRegReset addr) t addr v

/-- Fields of channel `n` in a register table (R360, R368). -/
def chOutput (t : Tab Byte) (n : Nat) : Bool := bitOf (fReg t (5 * n)) 7
def chInvert (t : Tab Byte) (n : Nat) : Bool := bitOf (fReg t (5 * n)) 6
def chFunc (t : Tab Byte) (n : Nat) : Nat := fReg t (5 * n) % 64
def chFilt (t : Tab Byte) (n : Nat) : Nat := fReg t (5 * n + 1)
def chSafeOn (t : Tab Byte) (n : Nat) : Bool := bitOf (fReg t (5 * n + 2)) 0
def chParallel (t : Tab Byte) (n : Nat) : Bool := bitOf (fReg t (5 * (n / 4 * 4) + 2)) 1
def chRb (t : Tab Byte) (n : Nat) : Nat := fReg t (5 * n + 3) + 256 * fReg t (5 * n + 4)

/-- The channel whose command, filter and readback delay channel `n` takes: channel 4g of a paralleled group (R357). -/
def chSrc (t : Tab Byte) (n : Nat) : Nat := if chParallel t n then n / 4 * 4 else n

/-- A down frame (R360). -/
def downFrame (seq : Nat) (safe release : Bool) (out : BitVec 32) (w : Option (Nat × Byte)) : List Byte :=
  let body := leBytes 1 (seq % 16 * 16 + b2n safe * 8 + b2n release * 4 + b2n w.isSome * 2) ++ leBytes 4 out.toNat ++
    (match w with
     | some p => leBytes 1 p.1 ++ [p.2]
     | none => zeros 2)
  body ++ leBytes 1 (crc8 body)

/-- A write of a field register at the die (R359 step 1, R360); a new RB_DELAY_US takes effect with its high byte. -/
def dieWrite (d : FieldDie) (addr : Nat) (v : Byte) : FieldDie :=
  if addr < 160 then
    if addr % 5 = 3 then { d with rbLow := Tab.set (fieldRegReset addr) d.rbLow (addr / 5) v }
    else if addr % 5 = 4 then
      { d with regs := fRegSet (fRegSet d.regs (addr - 1) (Tab.get (fieldRegReset (addr - 1)) d.rbLow (addr / 5))) addr v }
    else { d with regs := fRegSet d.regs addr v }
  else if addr < 164 then
    { d with ovl := d.ovl &&& ~~~(BitVec.ofNat 32 (v.toNat * 2 ^ (8 * (addr - 160)))) }
  else d

/-- The echo of a register (R360, R361); the low byte of RB_DELAY_US echoes what was last written to it. -/
def dieEcho (d : FieldDie) (addr : Nat) : Nat :=
  if addr < 160 then
    (if addr % 5 = 3 then (Tab.get (fieldRegReset addr) d.rbLow (addr / 5)).toNat else fReg d.regs addr)
  else 0

/-- The commanded level of channel `n` at the die: inverted, then its safe value in the safe state, off when its group
has tripped (R355, R357, R363, R369). -/
def dieDrive (d : FieldDie) (n : Nat) : Bool :=
  let s := chSrc d.regs n
  let group := (List.range 4).map (fun i => n / 4 * 4 + i)
  let tripped := if chParallel d.regs n then group.any (fun i => d.ovl.getLsbD i) else d.ovl.getLsbD n
  if !chOutput d.regs n || tripped then false
  else if d.safe then chSafeOn d.regs s
  else d.cmd.getLsbD s != chInvert d.regs s

/-- The level readback is compared with: what is commanded, thermal trips aside (R356) (log entry 63, DEDUCED). -/
def dieExpect (d : FieldDie) (n : Nat) : Bool :=
  let s := chSrc d.regs n
  if d.safe then chSafeOn d.regs s else d.cmd.getLsbD s != chInvert d.regs s

/-- One step of an input filter (R353): the counter, which saturates at 0 and at FILT_US, and the filtered level. -/
def filtStep (filtUs cnt : Nat) (level raw : Bool) : Nat × Bool :=
  let c := if raw then min (cnt + 1) filtUs else min cnt filtUs - 1
  (c, if c = filtUs then true else if c = 0 then false else level)

/-- A 32-bit word built bit by bit. -/
def word32 (f : Nat → Bool) : BitVec 32 := BitVec.ofNat 32 ((List.range 32).foldl (fun a n => a + b2n (f n) * 2 ^ n) 0)

/-- The application of a good down frame at the field die (R359, R363): the die, the readback mismatches of this
frame (log entry 63, DEDUCED). -/
def dieApply (d : FieldDie) (fr : List Byte) (raw : BitVec 32) : FieldDie × BitVec 32 :=
  let ctrl := fld1 fr 0
  let d1 := { d with good := d.good + 1 }
  let d2 := if bitOf ctrl 1 then dieWrite d1 (fld1 fr 5) (BitVec.ofNat 8 (fld1 fr 6)) else d1
  let d3 := if bitOf ctrl 3 then { d2 with safe := true }
    else if bitOf ctrl 2 && decide (8 ≤ d.good) then { d2 with safe := false } else d2
  let d4 := { d3 with cmd := BitVec.ofNat 32 (fld fr 1 4) }
  let exp := word32 (dieExpect d4)
  let chg := exp ^^^ d4.lastOut
  let blank := (List.range 32).foldl (fun t n =>
    if chg.getLsbD n then Tab.set 0 t n (chRb d4.regs (chSrc d4.regs n)) else Tab.set 0 t n (Tab.get 0 t n - 1)) d4.blank
  let fs := (List.range 32).map (fun n =>
    filtStep (chFilt d4.regs (chSrc d4.regs n)) (Tab.get 0 d4.filt n) (d4.level.getLsbD n) (raw.getLsbD n))
  let filt := fs.zipIdx.foldl (fun t p => Tab.set 0 t p.2 p.1.1) d4.filt
  let level := word32 (fun n => (fs.getD n (0, false)).2)
  let d5 := { d4 with lastOut := exp, blank := blank, filt := filt, level := level }
  (d5, word32 (fun n => chOutput d5.regs n && decide (Tab.get 0 blank n = 0) && (level.getLsbD n != exp.getLsbD n)))

/-- An up frame (R361). -/
def upFrame (fr : List Byte) (d : FieldDie) (rbf : BitVec 32) (lplusLow : Bool) : List Byte :=
  let body := leBytes 1 (fld1 fr 0 / 16 * 16 + b2n d.safe * 8 + b2n lplusLow * 4) ++ leBytes 4 d.level.toNat ++
    leBytes 4 rbf.toNat ++ leBytes 4 d.ovl.toNat ++ leBytes 1 (fld1 fr 5) ++ leBytes 1 (dieEcho d (fld1 fr 5))
  body ++ leBytes 1 (crc8 body)

end Sys2Proof.Machine
end

