-- ==== Sys2Proof/Machine/Crypto.lean ====
section
/-! DEFINITION. Sys2Proof/Machine/Crypto.lean: CRC-32 of R259, SHA-256, and the RSASSA-PSS verification of R507 and
R508.
-/

namespace Sys2Proof

/-- One byte through the reflected CRC-32 (R259). -/
def crc32Byte (c : BitVec 32) (b : Byte) : BitVec 32 :=
  (List.range 8).foldl (fun c _ => if c.getLsbD 0 then (c >>> 1) ^^^ 0xEDB88320#32 else c >>> 1) (c ^^^ b.zeroExtend 32)

/-- CRC-32 of IEEE 802.3 (R259). -/
def crc32 (bs : List Byte) : Nat := ((bs.foldl crc32Byte 0xFFFFFFFF#32) ^^^ 0xFFFFFFFF#32).toNat

/-- Whether `p` is prime, by trial division. -/
def isPrime (p : Nat) : Bool := decide (2 ≤ p) && (List.range p).all (fun d => decide (d < 2) || p % d != 0)

/-- The first 64 primes, from which SHA-256 takes its constants. -/
def primes64 : List Nat := (List.range 312).filter isPrime

/-- Largest r with r^k ≤ n, found bit by bit from 2^(bits − 1). -/
def rootNat (k n : Nat) : Nat → Nat → Nat
  | 0, r => r
  | b + 1, r => rootNat k n b (if (r + 2 ^ b) ^ k ≤ n then r + 2 ^ b else r)

/-- Round constants of SHA-256: the first 32 bits of the fractions of the cube roots of the primes. -/
def shaK : List (BitVec 32) := primes64.map (fun p => BitVec.ofNat 32 (rootNat 3 (p * 2 ^ 96) 40 0))

/-- Initial hash words: the first 32 bits of the fractions of the square roots of the first eight primes. -/
def shaH0 : List (BitVec 32) := (primes64.take 8).map (fun p => BitVec.ofNat 32 (rootNat 2 (p * 2 ^ 64) 40 0))

/-- Rotate right. -/
def rotr (x : BitVec 32) (n : Nat) : BitVec 32 := x.rotateRight n

/-- Big-endian value of a byte string. -/
def beVal (bs : List Byte) : Nat := bs.foldl (fun a b => a * 256 + b.toNat) 0

/-- The `n` big-endian bytes of `v`. -/
def beBytes (n v : Nat) : List Byte := (leBytes n v).reverse

/-- The message padded to whole 64-byte blocks. -/
def shaPad (m : List Byte) : List Byte :=
  m ++ [0x80] ++ List.replicate ((119 - m.length % 64) % 64) 0 ++ beBytes 8 (8 * m.length)

/-- The message schedule of one block, newest word first. -/
def shaSched (w : List (BitVec 32)) : Nat → List (BitVec 32)
  | 0 => w
  | n + 1 =>
    let x := w.getD 14 0
    let y := w.getD 1 0
    let s0 := rotr x 7 ^^^ rotr x 18 ^^^ (x >>> 3)
    let s1 := rotr y 17 ^^^ rotr y 19 ^^^ (y >>> 10)
    shaSched ((w.getD 15 0 + s0 + w.getD 6 0 + s1) :: w) n

/-- The eight working words of SHA-256. -/
structure Sha where
  a : BitVec 32
  b : BitVec 32
  c : BitVec 32
  d : BitVec 32
  e : BitVec 32
  f : BitVec 32
  g : BitVec 32
  h : BitVec 32
  deriving DecidableEq, Repr

/-- One round. -/
def shaRound (s : Sha) (kw : BitVec 32) : Sha :=
  let s1 := rotr s.e 6 ^^^ rotr s.e 11 ^^^ rotr s.e 25
  let ch := (s.e &&& s.f) ^^^ (~~~s.e &&& s.g)
  let t1 := s.h + s1 + ch + kw
  let s0 := rotr s.a 2 ^^^ rotr s.a 13 ^^^ rotr s.a 22
  let mj := (s.a &&& s.b) ^^^ (s.a &&& s.c) ^^^ (s.b &&& s.c)
  ⟨t1 + (s0 + mj), s.a, s.b, s.c, s.d + t1, s.e, s.f, s.g⟩

/-- One block. -/
def shaBlock (ks : List (BitVec 32)) (s : Sha) (block : List Byte) : Sha :=
  let w16 := (List.range 16).map (fun i => BitVec.ofNat 32 (beVal (slice block (4 * i) 4)))
  let w := (shaSched w16.reverse 48).reverse
  let t := (List.zipWith (· + ·) ks w).foldl shaRound s
  ⟨s.a + t.a, s.b + t.b, s.c + t.c, s.d + t.d, s.e + t.e, s.f + t.f, s.g + t.g, s.h + t.h⟩

/-- All blocks of a padded message. -/
def shaBlocks (ks : List (BitVec 32)) : Nat → Sha → List Byte → Sha
  | 0, s, _ => s
  | n + 1, s, m => shaBlocks ks n (shaBlock ks s (m.take 64)) (m.drop 64)

/-- SHA-256. -/
def sha256 (m : List Byte) : List Byte :=
  let p := shaPad m
  let i := fun k => shaH0.getD k 0
  let s := shaBlocks shaK (p.length / 64) ⟨i 0, i 1, i 2, i 3, i 4, i 5, i 6, i 7⟩ p
  [s.a, s.b, s.c, s.d, s.e, s.f, s.g, s.h].flatMap (fun x => beBytes 4 x.toNat)

/-- x^e mod n by repeated squaring over the low `k` bits of e. -/
def powMod (n : Nat) : Nat → Nat → Nat → Nat
  | 0, _, _ => 1 % n
  | k + 1, x, e =>
    let r := powMod n k (x * x % n) (e / 2)
    if e % 2 = 1 then r * x % n else r

/-- MGF1 with SHA-256. -/
def mgf1 (seed : List Byte) (len : Nat) : List Byte :=
  ((List.range (cdiv len 32)).flatMap (fun i => sha256 (seed ++ beBytes 4 i))).take len

/-- EMSA-PSS-VERIFY of RFC 8017 with emBits 3071, SHA-256, salt length 32 and trailer 0xBC, given the message hash. -/
def pssVerify (em mHash : List Byte) : Bool :=
  let masked := em.take 351
  let h := slice em 351 32
  let db0 := List.zipWith (· ^^^ ·) masked (mgf1 h 351)
  let db := match db0 with
    | [] => []
    | b :: t => (b &&& 0x7F) :: t
  decide (em.length = 384) && em.getD 383 0 == 0xBC && decide ((em.getD 0 0).toNat < 128) && allZero (db.take 318) &&
    db.getD 318 0 == 1 && decide (sha256 (zeros 8 ++ mHash ++ db.drop 319) = h)

/-- RSASSA-PSS verification with an RSA-3072 key and exponent 65,537. -/
def rsaVerify (modulus sig mHash : List Byte) : Bool :=
  let n := beVal modulus
  let s := beVal sig
  decide (s < n) && pssVerify (beBytes 384 (powMod n 17 s 65537)) mHash

/-- The key hash of a signature block (R508). -/
def keyHash (blk : List Byte) : List Byte := sha256 (slice blk 8 4 ++ slice blk 16 384)

/-- OTP fields (R509). -/
def otpHash (otp : Mem) (cls slot : Nat) : List Byte := memRead otp (128 * cls + 32 * slot) 32
def otpProgrammed (otp : Mem) (cls slot : Nat) : Bool := !allZero (otpHash otp cls slot)
def otpRevoked (otp : Mem) (cls slot : Nat) : Bool := bitOf (memVal otp 0x100 1) (4 * cls + slot)

/-- Whether a signature block is valid over a message with the given hash (R507, R508). -/
def sigValid (otp : Mem) (blk mHash : List Byte) (cls : Nat) : Bool :=
  let slot := fld1 blk 5
  decide (blk.length = 784) && decide (fld blk 0 4 = 0x4E474953) && decide (fld1 blk 4 = cls) && decide (slot < 4) &&
    allZero (slice blk 6 2) && allZero (slice blk 12 4) && decide (beVal (slice blk 8 4) = 65537) &&
    otpProgrammed otp cls slot && !otpRevoked otp cls slot && decide (keyHash blk = otpHash otp cls slot) &&
    rsaVerify (slice blk 16 384) (slice blk 400 384) mHash

end Sys2Proof
end

