-- ==== Sys2Proof/Machine/Ops.lean ====
section
/-! DEFINITION. Sys2Proof/Machine/Ops.lean: the named operations shared by every meaning: time, table access, counters,
events, interrupt messages, device status, restricted service, the recorder's write, and toll memory.
-/

namespace Sys2Proof.Machine

/-! ## Time -/

/-- The keystone count in ns (R403). -/
def now (s : State) : Nat := s.time.ks.toNat / 2 ^ 24

/-! ## Table reads and updates -/

def getPu (s : State) (p : Nat) : Pu := Tab.get Pu0 s.pus p
def setPu (s : State) (p : Nat) (u : Pu) : State := { s with pus := Tab.set Pu0 s.pus p u }
def getGen (s : State) (p : Nat) : LineGen := Tab.get (LineGen0 p) s.gens p
def setGen (s : State) (p : Nat) (g : LineGen) : State := { s with gens := Tab.set (LineGen0 p) s.gens p g }
def getCam (s : State) (p : Nat) : Cam := Tab.get Cam0 s.cams p
def setCam (s : State) (p : Nat) (c : Cam) : State := { s with cams := Tab.set Cam0 s.cams p c }
def getRamp (s : State) (p : Nat) : Ramp := Tab.get Ramp0 s.ramps p
def setRamp (s : State) (p : Nat) (r : Ramp) : State := { s with ramps := Tab.set Ramp0 s.ramps p r }
def getSlot (s : State) (i : Nat) : Slot := Tab.get Slot0 s.slots.tab i
def setSlot (s : State) (i : Nat) (t : Slot) : State :=
  { s with slots := { s.slots with tab := Tab.set Slot0 s.slots.tab i t } }
def getPolicy (s : State) (p : Nat) : Policy := Tab.get (Policy0 p) s.slots.policies p
def getTrig (s : State) (n : Nat) : TrigPin := Tab.get TrigPin0 s.trigs n
def getImg (s : State) (i : Nat) : ImgSlot := Tab.get ImgSlot0 s.imgs i
def setImg (s : State) (i : Nat) (x : ImgSlot) : State := { s with imgs := Tab.set ImgSlot0 s.imgs i x }
def getSpan (s : State) (p : Nat) : SpanPort := Tab.get SpanPort0 s.span.ports p
def setSpan (s : State) (p : Nat) (x : SpanPort) : State :=
  { s with span := { s.span with ports := Tab.set SpanPort0 s.span.ports p x } }
def getDom (s : State) (d : Nat) : Domain := Tab.get Domain0 s.pwr.domains d
def setDom (s : State) (d : Nat) (x : Domain) : State :=
  { s with pwr := { s.pwr with domains := Tab.set Domain0 s.pwr.domains d x } }
def getQ (s : State) (q : Nat) : Queue := Tab.get Queue0 s.q.queues q
def setQ (s : State) (q : Nat) (x : Queue) : State := { s with q := { s.q with queues := Tab.set Queue0 s.q.queues q x } }
def getMbx (s : State) (m : Nat) : Mbx := Tab.get Mbx0 s.gh.mbx m
def setMbx (s : State) (m : Nat) (x : Mbx) : State := { s with gh := { s.gh with mbx := Tab.set Mbx0 s.gh.mbx m x } }

/-- The model running crossings. -/
def runImage (s : State) : Image := (getImg s s.seq.img).img

/-- The crossing table of the running rating; an empty table where there is none. -/
def Rating0 : Rating := ⟨0, 0, 0, 0, 2, 0, 0, 0, 0, 0, 0, 0, [], [], []⟩
def ratingOf (im : Image) (r : Nat) : Rating := (im.ratings.find? (fun x => x.idx == r)).getD Rating0
def runRating (s : State) : Rating := ratingOf (runImage s) s.seq.rating

/-- Leaves the part (log entry 24, DESIGN CHOICE). -/
def emit (o : Out) (s : State) : State := { s with out := s.out ++ [o] }

/-! ## Counter words (R11, R13, R548) -/

/-- A counter word as read: SAT in bit 31, COUNT below (R548). -/
def ctrBytes (c : Ctr) : List Byte := leBytes 4 (ctrWord c)

/-- Counter words as read. -/
def ctrsBytes (cs : List Ctr) : List Byte := cs.flatMap ctrBytes

/-! ## Interrupt messages (R468) -/

/-- Reset byte of the MSI-X table: every vector's mask bit is set, as PCI Express gives it (log entry 18, PRESUMED). -/
def msixReset (a : Nat) : Byte := if a % 16 = 12 then 1 else 0

/-- A byte of the MSI-X table. -/
def msixByte (s : State) (a : Nat) : Byte := Tab.get (msixReset a) s.host.msix a

/-- Whether vector `v` is masked. -/
def vecMasked (s : State) (v : Nat) : Bool := (msixByte s (16 * v + 12)).getLsbD 0

/-- Sends vector `v`: a masked vector sets its pending bit instead (R468). -/
def sendVector (v : Nat) (s : State) : State :=
  if vecMasked s v then { s with host := { s.host with pba := s.host.pba ||| (1#64 <<< v) } } else emit (.msix v) s

/-! ## Device status (R467) -/

/-- FW_READY (R467, R517). -/
def fwReady (s : State) : Bool := s.sec.boot == .ready

/-- The deck and toll channels present on the grade, and the first toll channel (R5, R448, R450)
(log entry 19, DESIGN CHOICE). -/
def deckChans (s : State) : Nat := if s.grade = .c then 6 else 12
def tollChans (s : State) : Nat := if s.grade = .c then 2 else 4

/-- Girder engines and trestle clusters of the grade (R5). -/
def gradeGirders (s : State) : Nat :=
  match s.grade with
  | .a => 32
  | .b => 28
  | .c => 24
def gradeClusters (s : State) : Nat :=
  match s.grade with
  | .a => 8
  | .b => 7
  | .c => 6

/-- Deck channel of a deck address, and toll channel of a toll address: stripes of 2 KiB (R448, R450). -/
def deckChan (s : State) (a : Nat) : Nat := a / 2048 % deckChans s
def tollChan (s : State) (a : Nat) : Nat := deckChans s + a / 2048 % tollChans s

/-- The controller group that holds the toll channels, and the groups that hold deck channels (R414, R448)
(log entry 19, DESIGN CHOICE). -/
def tollGroup (s : State) : Nat := if s.grade = .c then 60 else 62
def deckGroup (s : State) (d : Nat) : Bool := decide (59 ≤ d ∧ d ≤ (if s.grade = .c then 60 else 61))

/-- GRADE (R263, R466, R498, R528). -/
def gradeByte (s : State) : Byte :=
  match s.grade with
  | .a => 0
  | .b => 1
  | .c => 2

/-- Sizes of the deck space and of the toll space in MiB (R451) (log entry 19, DESIGN CHOICE). -/
def deckMib (s : State) : Nat := 3584 * deckChans s
def tollMib (s : State) : Nat := 3584 * tollChans s

/-- DEV_STATUS, BAR0 0x0010 (R467). -/
def devStatus (s : State) : Nat :=
  b2n (fwReady s) <<< 31 + b2n s.sec.dramReady <<< 30 + b2n s.sec.dramFail <<< 29 + b2n s.time.internal <<< 28 +
    b2n s.seq.started <<< 27 + b2n (s.rst.rs != 0) <<< 26 + b2n s.lineSlow <<< 25 + b2n s.replay.mode <<< 24

/-- INT_CAUSE, BAR0 0x0100 (R467). -/
def intCause (s : State) : Nat := s.host.mbxDone.toNat + b2n s.host.statusChg <<< 16

/-- Whether vector 0 is due (R468). -/
def intActive (s : State) : Bool := (intCause s &&& s.host.intEn.toNat) != 0

/-- What follows every command: a changed DEV_STATUS bit sets STATUS_CHG (R467), and vector 0 is sent when the AND of
INT_CAUSE and INT_EN becomes nonzero (R468). -/
def settle (old s : State) : State :=
  let s1 := if devStatus old = devStatus s then s else { s with host := { s.host with statusChg := true } }
  if intActive s1 && !intActive old then sendVector 0 s1 else s1

/-- A meaning that always goes on: the effect, then what follows every command. -/
def done (f : State → State) (s : State) : Host.Outcome State Fault Refusal := .next (settle s (f s))

/-! ## Events (R485, R546) -/

/-- The event record of R485; FLAGS is filled when the queue takes it (log entry 80, DEDUCED). -/
def eventRec (s : State) (code inst dom a0 a1 : Nat) : List Byte :=
  leBytes 2 code ++ leBytes 1 dom ++ leBytes 1 inst ++ leBytes 4 a0 ++ leBytes 8 (now s) ++ leBytes 4 s.time.wcNs.toNat ++
    leBytes 6 s.time.wcSec.toNat ++ leBytes 2 0 ++ leBytes 4 a1

/-- Posts an event: its record waits for the queue manager (R477, R485), and the monitor's log keeps the newest 64
(R532) (log entry 80, DEDUCED). -/
def post (code inst dom a0 a1 : Nat) (s : State) : State :=
  let r := eventRec s code inst dom a0 a1
  { s with q := { s.q with waiting := s.q.waiting ++ [⟨1, r⟩], log := (r :: s.q.log).take 64 } }

/-- Posts an event that carries the stamp of what it follows from (R338). -/
def postAt (stamp code inst dom a0 a1 : Nat) (s : State) : State :=
  let r0 := eventRec s code inst dom a0 a1
  let r := r0.take 8 ++ leBytes 8 stamp ++ r0.drop 16
  { s with q := { s.q with waiting := s.q.waiting ++ [⟨1, r⟩], log := (r :: s.q.log).take 64 } }

/-- Applies `f` when the condition holds. -/
def when_ (c : Bool) (f : State → State) (s : State) : State := if c then f s else s

/-! ## Restricted service (R549 to R552) -/

/-- Sets reason bit `b`, with RESTRICTED_ENTER when it was clear (R547, R551): the new word and a mask of the bit newly set
(log entry 71, DEDUCED). -/
def rsSet (b : Nat) (s : State) : State :=
  if s.rst.rs.getLsbD b then s
  else
    let w := s.rst.rs ||| (1#32 <<< b)
    post 0x2805 0 0 w.toNat (2 ^ b) { s with rst := { s.rst with rs := w } }

/-! ## The recorder's write (R256, R259 to R261) -/

/-- Bytes of records a segment holds (R259). -/
def segRoom : Nat := 262112

/-- A record: header and payload, padded to whole 8 bytes (R260). -/
def recBytes (typ stamp : Nat) (payload : List Byte) : List Byte :=
  let len := alignUp (16 + payload.length) 8
  leBytes 2 typ ++ leBytes 2 0 ++ leBytes 4 len ++ leBytes 8 stamp ++ payload ++ zeros (len - 16 - payload.length)

/-- The write buffer of two segments with a record more, where there is room (R256). -/
def bufPut (r : List Byte) (b : Recorder) : Option Recorder :=
  if b.cur.length + r.length ≤ segRoom then some { b with cur := b.cur ++ r }
  else if b.full.isEmpty then some { b with full := [b.cur], cur := r }
  else none

/-- Records that wait move into the write buffer as far as there is room. -/
def flowRecs : List (List Byte) → Recorder → Recorder
  | [], b => { b with ckQueue := [], ckptBusy := false }
  | r :: t, b =>
    match bufPut r b with
    | some c => flowRecs t c
    | none => { b with ckQueue := r :: t, ckptBusy := true }

/-- A checkpoint under way goes on; a loss is reported first (R256, R258, R265). -/
def recFlow (b : Recorder) : Recorder := if 0 < b.gapCount then b else flowRecs b.ckQueue b

/-- A record that is lost (R256). -/
def recLose (stamp : Nat) (b : Recorder) : Recorder :=
  { b with lost := ctrBump b.lost, gapCount := b.gapCount + 1, gapFirst := if b.gapCount = 0 then stamp else b.gapFirst,
           gapLast := stamp }

/-- Puts a record into the write buffer; with no room, or after a loss not yet reported, the record is discarded and counted
(R256). While a checkpoint is being written a record waits behind it, since CHECKPOINT records are consecutive (R266)
(log entry 55, DESIGN CHOICE). -/
def recPut (typ stamp : Nat) (payload : List Byte) (s : State) : State :=
  if !s.rec_.running then s
  else
    let r := recBytes typ stamp payload
    let b := s.rec_
    { s with rec_ :=
        if 0 < b.gapCount then recLose stamp b
        else if b.ckptBusy then { b with ckQueue := b.ckQueue ++ [r] }
        else (bufPut r b).getD (recLose stamp b) }

/-- A FAULT record (R255, R261). -/
def recFault (code unit place : Nat) (s : State) : State :=
  recPut 0x10 (now s) (leBytes 2 code ++ leBytes 2 unit ++ zeros 4 ++ leBytes 8 place) s

/-- A CONFIG record: a copy of the mailbox request of a configuration command, with the first raw line it applies to
(R261, R262) (log entry 36, DESIGN CHOICE). -/
def recConfigAt (line port opcode : Nat) (payload : List Byte) (s : State) : State :=
  recPut 2 (now s) (leBytes 8 (if s.seq.launched then line else 2 ^ 64 - 1) ++ leBytes 1 port ++ zeros 7 ++
    leBytes 2 payload.length ++ leBytes 2 opcode ++ zeros 4 ++ payload) s

/-- A CONFIG record of a command that applies from the next raw line of its port (log entry 36, DESIGN CHOICE). -/
def recConfig (port : Nat) (opcode : Nat) (payload : List Byte) (s : State) : State :=
  recConfigAt (getCam s port).rawNo port opcode payload s

/-! ## Toll memory (R450, R451) -/

/-- First byte past the firmware region, and past the toll space. -/
def fwEnd : Nat := 0x10000000
def tollEnd (s : State) : Nat := tollMib s * 2 ^ 20

/-- A toll address range lies wholly in allocated memory (R451, R487): each of its MiB belongs to an allocation. -/
def inAlloc (s : State) (a n : Nat) : Bool :=
  (List.range (cdiv (a % 2 ^ 20 + n) (2 ^ 20))).all (fun i =>
    s.gh.allocs.any (fun b => decide (b.mib ≤ a / 2 ^ 20 + i ∧ a / 2 ^ 20 + i < b.mib + b.size)))

/-- A toll range is in the toll space and outside the firmware region. -/
def tollOk (s : State) (a n : Nat) : Bool := decide (fwEnd ≤ a ∧ a + n ≤ tollEnd s)

/-- Reads and writes of toll space. -/
def tollRead (s : State) (a n : Nat) : List Byte := memRead s.mem.toll a n
def tollWrite (a : Nat) (bs : List Byte) (s : State) : State :=
  { s with mem := { s.mem with toll := memWrite s.mem.toll a bs, tollAt := now s } }

/-- A power domain or bank is ON. -/
def isOn (s : State) (d : Nat) : Bool := (getDom s d).st == .on

/-- Starts a wake of a domain or bank that is OFF or in RETENTION and not FUSED, recording its source and requester
(R422, R426); a wake that no requester caused leaves the requester a free value. After a thermal trip or a power failure
every domain but AO stays OFF (R446, R540). -/
def wakeDom (d src : Nat) (req : Option Nat) (s : State) : State :=
  let x := getDom s d
  if x.fused || s.steward.trip || s.rst.pfail || (x.st != .off && x.st != .retention) then s
  else
    let s1 := setDom s d { x with st := .transition, wakeSrc := BitVec.ofNat 4 src, prep := none }
    { s1 with pwr := { s1.pwr with lastDomain := if d < 64 then d else 41, lastSrc := BitVec.ofNat 4 src,
                                   lastReq := BitVec.ofNat 6 (req.getD (Config.noRequester src d)), stamp := now s } }

/-- An access reaches a domain or bank: one that is not ON wakes on demand for its requester, and one that was sent PREPARE
answers it with REFUSE (R421, R423). -/
def accessDom (req d : Nat) (s : State) : State :=
  let x := getDom s d
  match x.prep with
  | some p => setDom s d { x with prep := some { p with served := true } }
  | none => wakeDom d 5 (some req) s

/-- An access to toll DRAM by a requester of R458 (R423, R444). -/
def tollUse (req : Nat) (s : State) : State := accessDom req (tollGroup s) { s with mem := { s.mem with tollAt := now s } }

/-- An access to deck DRAM outside a crossing (R423). -/
def deckUse (req : Nat) (s : State) : State := ([59, 60, 61].filter (deckGroup s)).foldl (fun a d => accessDom req d a) s

/-- The steward's wake for a configuration, where the policy leaves it free to (R426, R444). -/
def wakeCfg (d : Nat) (s : State) : State := if (getDom s d).policy.toNat < 2 then wakeDom d 3 none s else s

/-- A warm reset or a power failure holds the outputs safe and stops the sequencer and every firing (R537, R540). -/
def halted (s : State) : Bool := s.rst.warm.isSome || s.rst.pfail

/-- Crossings run or one is due (R493). -/
def crossingLive (s : State) : Bool := s.seq.started

end Sys2Proof.Machine
end

