-- ==== Sys2Proof/Machine/Mailbox.lean ====
section
/-! DEFINITION. Sys2Proof/Machine/Mailbox.lean: how the gatehouse takes an accepted command, checks it in the order of
R491, and answers it (R486 to R501); status codes of R499.
-/

namespace Sys2Proof.Machine

/-! ## Status codes (R499) -/

def stOk : Nat := 0x0000
def stBusy : Nat := 0x0001
def stBusyRunning : Nat := 0x0002
def stBusySlots : Nat := 0x0003
def stInUse : Nat := 0x0004
def stNoSpace : Nat := 0x0005
def stNoSession : Nat := 0x0010
def stSessionActive : Nat := 0x0011
def stVersion : Nat := 0x0012
def stOpcode : Nat := 0x0013
def stUnsupported : Nat := 0x0014
def stLength : Nat := 0x0015
def stReserved : Nat := 0x0016
def stParam : Nat := 0x0017
def stNotFound : Nat := 0x0018
def stState : Nat := 0x0019
def stReplay : Nat := 0x001A
def stFault : Nat := 0x001B
def stTimeout : Nat := 0x001C
def stImageInvalid : Nat := 0x0020
def stImageUnfit : Nat := 0x0021
def stSignature : Nat := 0x0022
def stRollback : Nat := 0x0023
def stLifecycle : Nat := 0x0024
def stRefclk : Nat := 0x0030
def stVrm : Nat := 0x0031

/-- An answer: STATUS, DETAIL and the response bytes. -/
structure Reply where
  status : Nat
  detail : Nat
  resp : List Byte
  deriving DecidableEq, Repr

/-- OK with a response. -/
def okWith (r : List Byte) : Reply := ⟨stOk, 0, r⟩

/-- A refusal. -/
def refuse (st : Nat) : Reply := ⟨st, 0, []⟩

/-- INVALID_PARAM naming the payload offset of the field. -/
def badParam (off : Nat) : Reply := ⟨stParam, off, []⟩

/-! ## What the command tables say of one command (R490, R501) -/

/-- Request size rules. -/
inductive LenRule where
  | fixed (n : Nat)
  | entries (size most : Nat)
  | routes
  | camCtrl
  deriving DecidableEq, Repr

/-- The size a request must have, or none where it has it (BAD_LENGTH carries the bytes needed). -/
def lenNeeded (r : LenRule) (len : Nat) (p : List Byte) : Option Nat :=
  match r with
  | .fixed n => if len = n then none else some n
  | .entries size most => if len % size = 0 ∧ size ≤ len ∧ len ≤ size * most then none
      else some (size * (if len < size then 1 else min most (cdiv len size)))
  | .routes => let n := 8 + 2 * fld1 p 2
    if 8 ≤ len ∧ len = n then none else some n
  | .camCtrl => let n := 24 + (if fld1 p 8 = 1 then fld p 16 2 else 0)
    if 24 ≤ len ∧ len = n then none else some n

/-- A reserved field: payload offset, size, and the mask of its reserved bits. -/
abbrev Rsv := Nat × Nat × Nat

/-- First reserved field written with other than zero (R12). -/
def rsvBad (rs : List Rsv) (p : List Byte) : Option Nat :=
  (rs.find? (fun r => (fld p r.1 r.2.1 &&& r.2.2) != 0)).map (fun r => r.1)

/-- A whole reserved field of `n` bytes. -/
def rsvAll (off n : Nat) : Rsv := (off, n, 2 ^ (8 * n) - 1)

/-- One command of the tables of R501: opcode, version that introduced it, request size, response size, reserved
fields, range checks and objects. -/
structure Spec where
  op : Nat
  ver : Nat
  lens : LenRule
  resp : State → List Byte → Nat
  rsv : List Byte → List Rsv
  ranges : State → List Byte → Option Reply
  objs : List Byte → List Objt

/-- The reserved bytes of the select prefix (R500). -/
def selRsv : List Rsv := [rsvAll 1 7]

/-- OBJECT of the select prefix, below `n`. -/
def selRange (n : Nat) (p : List Byte) : Option Reply := if fld1 p 0 < n then none else some (badParam 0)

/-- First failing range check: a condition that shall hold, and the payload offset it names. -/
def rangesOf : List (Bool × Nat) → Option Reply
  | [] => none
  | (c, o) :: t => if c then rangesOf t else some (badParam o)

/-- Every opcode of R501. -/
def opcodes : List Nat :=
  [0x0001, 0x0002, 0x0003, 0x0101, 0x0102, 0x0103, 0x0104, 0x0105, 0x0106, 0x0107, 0x0108, 0x0201, 0x0202, 0x0203, 0x0204,
    0x0205, 0x0301, 0x0302, 0x0401, 0x0402, 0x0501, 0x0502, 0x0503, 0x0504, 0x0505, 0x0506, 0x0507, 0x0601, 0x0602, 0x0603,
    0x0604, 0x0605, 0x0606, 0x0607, 0x0701, 0x0702, 0x0703] ++
  [0x0801, 0x0802, 0x0803, 0x0804, 0x0805, 0x0806, 0x0901, 0x0902, 0x0903, 0x0A01, 0x0A02, 0x0A03, 0x0A04, 0x0A05, 0x0A06,
    0x0A07, 0x0A08, 0x0B01, 0x0B02, 0x0B03, 0x0B04, 0x0B05, 0x0B06, 0x0B07, 0x0B08, 0x0B09] ++
  [0x0C01, 0x0C02, 0x0C03, 0x0C04, 0x0C05, 0x0C06, 0x0C07, 0x0D01, 0x0D02, 0x0D03, 0x0D04, 0x0D05, 0x0E01, 0x0E02, 0x0F01,
    0x1001, 0x1002, 0x1003, 0x1004, 0x1005, 0x1006, 0x1007, 0x1101]

/-- Commands refused with REPLAY_ACTIVE in replay mode (R494): the configuring commands of the camera, pipeline, ramp,
position-unit, field I/O and verdict-policy families, and six commands by name. -/
def replayRefused : List Nat :=
  [0x0201, 0x0202, 0x0203, 0x0204, 0x0301, 0x0302, 0x0401, 0x0501, 0x0502, 0x0503, 0x0505, 0x0506, 0x0507, 0x0601, 0x0602,
    0x0603, 0x0605, 0x0606, 0x0607, 0x0701, 0x0703, 0x0802, 0x0803, 0x0901, 0x0902, 0x1006]

/-! ## Acceptance order -/

/-- The request at the head of the acceptance order, when it is mailbox `m`'s and carries `op` (R492). -/
def headReq (s : State) (m op : Nat) : Option Req :=
  match s.gh.order with
  | h :: _ => if h = m then (getMbx s m).cmd.bind (fun r => if r.op = op then some r else none) else none
  | [] => none

/-- The command leaves the acceptance order: it has been taken (R492). -/
def takeReq (s : State) : State := { s with gh := { s.gh with order := s.gh.order.drop 1 } }

/-- The payload of a request (R487). -/
def reqPayload (s : State) (r : Req) : List Byte := if r.reqInd then tollRead s r.reqAddr r.len else padTo r.len r.direct

/-- Completion (R489): the response and RSP_LEN, then STATUS and DETAIL, then DONE and MBX_DONE. A reply without a
response leaves the response area as it was (log entry 35, DEDUCED). -/
def finish (m : Nat) (rep : Reply) (s : State) : State :=
  let x := getMbx s m
  let ind := (x.cmd.map (fun r => r.rspInd)).getD false
  let addr := (x.cmd.map (fun r => r.rspAddr)).getD 0
  let s1 := if ind then tollWrite addr rep.resp s else s
  let x1 := { x with rsp := if ind then x.rsp else memWrite x.rsp 0 rep.resp, rspLen := BitVec.ofNat 32 rep.resp.length,
                     status := BitVec.ofNat 16 rep.status, detail := BitVec.ofNat 32 rep.detail, st := .done,
                     progress := if rep.status = stOk ∧ x.progress ≠ 0 then 100 else x.progress, cmd := none }
  let s2 := setMbx s1 m x1
  { s2 with host := { s2.host with mbxDone := s2.host.mbxDone ||| (1#16 <<< m) } }

/-! ## The checks of R491 -/

/-- Lifecycle refusal in RETURNED (R511): session, diagnostics, attestation and reset families and FW_INFO remain. -/
def lifecycleCode (s : State) : Nat := memVal s.sec.otp 0x101 1 % 8

/-- Lifecycle state as R528 numbers it: 0 BLANK, 1 PROVISIONED, 2 PRODUCTION, 3 RETURNED (R511). -/
def lifecycle (s : State) : Nat :=
  match lifecycleCode s with
  | 0 => 0
  | 1 => 1
  | 3 => 2
  | _ => 3

/-- An indirect address that breaks R487. -/
def indirectBad (s : State) (a n : Nat) : Bool := !(a % 64 == 0 && inAlloc s a n && tollOk s a n)

/-- Whether two commands name an object in common (R492). -/
def objClash (s : State) (os : List Objt) : Bool :=
  s.gh.running.any (fun r => r.objs.any (fun o => os.contains o))

/-- Device-state refusals (R491 order 4, R453, R494, R511). -/
def deviceRefusal (s : State) (op : Nat) : Option Reply :=
  let fam := op / 256
  if s.sec.dramFail && !([0x00, 0x10, 0x11].contains fam) then some (refuse stFault)
  else if s.replay.mode && replayRefused.contains op then some (refuse stReplay)
  else if lifecycle s = 3 ∧ !([0x00, 0x0F, 0x10, 0x11].contains fam) ∧ op ≠ 0x0E02 then some (refuse stLifecycle)
  else none

/-- Session refusal (R495): a command accepted under a session that has ended since still runs. -/
def sessionBad (s : State) (r : Req) : Bool := r.op != 1 && !r.inSession && s.gh.session != some r.session

/-- Length checks (R490, R491 order 5) (log entry 35, DEDUCED). -/
def lengthRefusal (s : State) (r : Req) (c : Spec) (p : List Byte) : Option Reply :=
  if !r.reqInd && decide (256 < r.len) then some ⟨stLength, 256, []⟩
  else if r.reqInd && r.len == 0 then some ⟨stLength, (lenNeeded c.lens 0 p).getD 1, []⟩
  else
    match lenNeeded c.lens r.len p with
    | some n => some ⟨stLength, n, []⟩
    | none =>
      let n := c.resp s p
      if n > (if r.rspInd then r.rspMax else 256) then some ⟨stLength, n, []⟩
      else if r.reqInd && indirectBad s r.reqAddr r.len then some ⟨stParam, 0x80000008, []⟩
      else if r.rspInd && indirectBad s r.rspAddr n then some ⟨stParam, 0x80000010, []⟩
      else none

/-- The first failing check of R491, orders 1 to 8 (the object exclusion; state rules follow in the command)
(log entry 35, DEDUCED). -/
def firstRefusal (s : State) (r : Req) (c : Spec) (p : List Byte) : Option Reply :=
  if sessionBad s r then some (refuse stNoSession)
  else if s.gh.version < c.ver ∧ c.op ≠ 1 then some (refuse stUnsupported)
  else (deviceRefusal s c.op).or ((lengthRefusal s r c p).or (((rsvBad (c.rsv p) p).map (fun o => ⟨stReserved, o, []⟩)).or
    ((c.ranges s p).or (if objClash s (c.objs p) then some (refuse stBusy) else none))))

/-- Takes mailbox `m`'s command when it is next in acceptance order and carries this opcode; checks it (R491); carries it
out. A body that answers none has left the command under way (L and B commands) (log entry 33, DESIGN CHOICE). -/
def command (m : Nat) (c : Spec) (body : State → List Byte → State × Option Reply) (s : State) : State :=
  match headReq s m c.op with
  | none => s
  | some r =>
    let s1 := takeReq s
    let p := reqPayload s1 r
    match firstRefusal s1 r c p with
    | some rep => finish m rep s1
    | none =>
      let o := body s1 p
      match o.2 with
      | some rep => finish m rep o.1
      | none => o.1

/-- Answers with no change of state. -/
def no (s : State) (r : Reply) : State × Option Reply := (s, some r)

/-- Completes with OK. -/
def yes (s : State) (resp : List Byte) : State × Option Reply := (s, some (okWith resp))

/-- Leaves a command under way (L, B): it holds its objects until COMMAND_COMPLETE publishes its answer (R489, R492). -/
def hold (m : Nat) (op : Nat) (p : List Byte) (objs : List Objt) (boundary : Bool) (ans : Option Reply) (s : State) :
    State × Option Reply :=
  let s1 := { s with gh := { s.gh with running := s.gh.running ++
    [⟨m, op, p, objs, boundary, 0, ans.map (fun r => (r.status, r.detail, r.resp))⟩] } }
  (setMbx s1 m { getMbx s1 m with progress := if boundary then 0 else 1 }, none)

/-- Stores the answer of a command under way. -/
def answerRunning (m : Nat) (r : Reply) (s : State) : State :=
  { s with gh := { s.gh with running := s.gh.running.map (fun x =>
    if x.mbx = m then { x with answer := some (r.status, r.detail, r.resp), boundary := false } else x) } }

/-- A request of `n` bytes with no reserved fields, no ranges and no objects. -/
def plain (op ver n resp : Nat) : Spec := ⟨op, ver, .fixed n, fun _ _ => resp, fun _ => [], fun _ _ => none, fun _ => []⟩

/-- GO (R488): accepted when FW_READY is set and the mailbox is IDLE or DONE; otherwise DB_REJECT. -/
def goWrite (m : Nat) (s : State) : State :=
  let x := getMbx s m
  if fwReady s && x.st != .busy then
    let r : Req := ⟨x.opcode.toNat, x.reqLen.toNat, x.session, x.rspInd, x.reqInd, x.reqAddr.toNat, x.rspAddr.toNat,
      x.rspMax.toNat, memRead x.req 0 256, s.gh.session == some x.session⟩
    let s1 := setMbx s m { x with cmd := some r, accepted := x.accepted + 1, st := .busy, progress := 0 }
    { s1 with gh := { s1.gh with order := s1.gh.order ++ [m] } }
  else setMbx s m { x with dbReject := true }

/-- The command of mailbox `m` under way whose work is done. -/
def readyAnswer (s : State) (m : Nat) : Option Reply :=
  (s.gh.running.find? (fun r => r.mbx = m)).bind (fun r => r.answer.map (fun a => ⟨a.1, a.2.1, a.2.2⟩))

/-- A crossing runs with the port in its CPORT_MASK. -/
def portRuns (s : State) (p : Nat) : Bool := s.seq.started && bitOf (runRating s).cportMask p

/-- The output line that the port's pipeline begins next. -/
def nextOut (c : Cam) : Nat := if c.group.isEmpty then c.outNo else c.outNo + 1

/-- The first raw line that a change of the port's pipeline governs (R286, R295): of the output line at its next table
boundary, or, while no crossing runs with the port, of the next line the pipeline begins. -/
def apFirstLine (s : State) (p : Nat) : Nat :=
  let c := getCam s p
  apExp c.ap * (if portRuns s p then alignUp (nextOut c) (max 1 (apStatsLines c.ap)) else nextOut c)

/-- What the end of a long command brings: a completed AP_TABLE makes its shadow set complete, and is recorded with the first
line it governs (R286, R295). -/
def completed (r : Running) (s : State) : State :=
  let i := fld1 r.payload 0
  if r.op = 0x0302 then recConfigAt (apFirstLine s i) i 0x0302 r.payload (setCam s i { getCam s i with shadowNew := true }) else s

/-- Publishing (R489): a finished long or boundary command is answered and its objects released; a command at the head
of the acceptance order whose opcode is not defined is answered INVALID_OPCODE (R491 order 2). -/
def publish (m : Nat) (s : State) : State :=
  match readyAnswer s m with
  | some rep =>
    let s1 := match s.gh.running.find? (fun r => r.mbx = m) with
      | some r => completed r s
      | none => s
    finish m rep { s1 with gh := { s1.gh with running := s1.gh.running.filter (fun r => r.mbx != m) } }
  | none =>
    match s.gh.order with
    | h :: _ =>
      match (getMbx s m).cmd with
      | some r => if h = m ∧ !(opcodes.contains r.op) then
          finish m (refuse (if sessionBad s r then stNoSession else stOpcode)) (takeReq s)
        else s
      | none => s
    | [] => s

end Sys2Proof.Machine
end

