-- ==== Sys2Proof/Machine/Slots.lean ====
section
/-! DEFINITION. Sys2Proof/Machine/Slots.lean: verdict slots (R35 to R70, R568): opening, freeze, firing, commits, marking,
records and release.
-/

namespace Sys2Proof.Machine

/-! ## Verdict policy fields (R54, R55) -/

def vpDefault (r : List Byte) : Nat := fld1 r 0 % 16
def vpMap (r : List Byte) : Nat := fld1 r 1 % 16
def vpPu (r : List Byte) : Nat := fld1 r 2 % 4
def vpLateComplete (r : List Byte) : Bool := bitOf (fld1 r 3) 0
def vpRecordDrop (r : List Byte) : Bool := bitOf (fld1 r 3) 1
def vpEject (r : List Byte) : Nat := fld r 4 4
def vpLead (r : List Byte) : Nat := fld r 8 4
def vpConfLo (r : List Byte) : BitVec 16 := BitVec.ofNat 16 (fld r 12 2)
def vpConfHi (r : List Byte) : BitVec 16 := BitVec.ofNat 16 (fld r 14 2)
def vpViews (r : List Byte) : Nat := fld1 r 16
def vpQueue (r : List Byte) : Nat := fld r 18 2
def vpMargin (r : List Byte) : Nat := fld r 20 4

/-- CHANNEL_SET entry of verdict `v`. -/
def vpSet (r : List Byte) (v : Nat) : List Byte := slice r (24 + 16 * v) 16
def csTrig (e : List Byte) : BitVec 16 := BitVec.ofNat 16 (fld e 0 2)
def csFio (e : List Byte) : BitVec 32 := BitVec.ofNat 32 (fld e 2 4)
def csLen (e : List Byte) : Nat := fld e 6 2
def csLateral (e : List Byte) : Bool := bitOf (fld1 e 8) 1
def csUs (e : List Byte) : Bool := bitOf (fld1 e 8) 0

/-- TRIG_WINDOW of a pin: first and last column. -/
def vpWindow (r : List Byte) (n : Nat) : Nat × Nat := (fld r (152 + 4 * n) 2, fld r (154 + 4 * n) 2)

/-- What a slot keeps of its policy as it opens (R43, R62, R70): the fields before CHANNEL_SET, and TRIG_WINDOW. -/
def slotPolicy (r : List Byte) : List Byte := padTo 24 r ++ slice r 152 64

/-- TRIG_WINDOW of a pin in what a slot keeps. -/
def slotWindow (r : List Byte) (n : Nat) : Nat × Nat := (fld r (24 + 4 * n) 2, fld r (26 + 4 * n) 2)

/-! ## Flags (R64) -/

def flLate : BitVec 16 := 1
def flDefaulted : BitVec 16 := 2
def flCorrupt : BitVec 16 := 4
def flEcc : BitVec 16 := 16
def flOverrun : BitVec 16 := 32
def flReplayed : BitVec 16 := 64
def flSuppressed : BitVec 16 := 128
def flMapped : BitVec 16 := 256

/-- A slot is marked corrupt, and so refuses final commits (R61). -/
def isCorrupt (t : Slot) : Bool := t.flags.getLsbD 2

/-! ## Occupation -/

/-- Slots of a unit in a state other than FREE, by index (R38). -/
def unitSlots (s : State) (pu : Nat) : List Nat :=
  (s.slots.tab.filter (fun c => c.2.st != .free && c.2.pu == pu)).map (fun c => c.1)

/-- Slots of a camera port that are not FREE. -/
def portSlots (s : State) (p : Nat) : List Nat :=
  (s.slots.tab.filter (fun c => c.2.st != .free && c.2.cport == p)).map (fun c => c.1)

/-- The lowest FREE slot (the choice is the model's, log entry 21, DESIGN CHOICE). -/
def freeSlot (s : State) : Option Nat :=
  let used := (s.slots.tab.filter (fun c => c.2.st != .free)).map (fun c => c.1)
  let r := used.foldl (fun (a : Nat × Bool) i => if a.2 && i == a.1 then (a.1 + 1, true) else (a.1, a.2 && decide (i < a.1))) (0, true)
  if r.1 < 16384 then some r.1 else none

/-- SLOT_LOW (R68): posted when the number in use first reaches 3,584, and again only after it fell below 3,072. -/
def slotLow (pu : Nat) (s : State) : State :=
  let n := (unitSlots s pu).length
  let u := getPu s pu
  if 3584 ≤ n ∧ !u.slotLow then post 0x1001 pu 0 n pu (setPu s pu { u with slotLow := true })
  else if n < 3072 ∧ u.slotLow then setPu s pu { u with slotLow := false }
  else s

/-! ## Release -/

/-- A slot in CLOSED returns to FREE when PENDING is zero and no late record of it waits (R42, R67); its second-look
buffer is freed (R568) and it keeps its generation (R40). -/
def maybeFree (i : Nat) (s : State) : State :=
  let t := getSlot s i
  if t.st = .closed ∧ t.pending = 0 ∧ !s.slots.lateRecords.contains (i, t.gen) then
    slotLow t.pu { setSlot s i { Slot0 with gen := t.gen } with
      slots := { s.slots with tab := Tab.set Slot0 s.slots.tab i { Slot0 with gen := t.gen },
                              cands := s.slots.cands.filter (fun c => c.1 != i) } }
  else s

/-- The primary job of a slot is complete (R44). -/
def primaryDone (i : Nat) (s : State) : State :=
  let t := getSlot s i
  if t.primaryOpen then maybeFree i (setSlot s i { t with primaryOpen := false, pending := t.pending - 1 }) else s

/-- `k` views of a slot are complete or withdrawn (R44, R180). -/
def viewsDone (i k : Nat) (s : State) : State :=
  let t := getSlot s i
  maybeFree i (setSlot s i { t with pending := t.pending - k })

/-- Marks a slot CORRUPT and DEFAULTED (R61): a verdict already written stands. -/
def markCorrupt (i : Nat) (s : State) : State :=
  let t := getSlot s i
  if t.st = .free ∨ t.everDecided then s else setSlot s i { t with flags := t.flags ||| flCorrupt ||| flDefaulted }

/-! ## Freeze and firing -/

/-- An ADMIT record (R261), with the stamp of what it follows from. -/
def recAdmitAt (stamp bay dec views slot gen girders : Nat) (s : State) : State :=
  recPut 0xA stamp (leBytes 8 s.seq.crossing.toNat ++ leBytes 1 bay ++ leBytes 1 dec ++ leBytes 1 views ++ zeros 1 ++
    leBytes 2 slot ++ leBytes 2 gen ++ leBytes 4 girders ++ zeros 4) s

/-- An ADMIT record of a decision taken now. -/
def recAdmit (bay dec views slot gen girders : Nat) (s : State) : State := recAdmitAt (now s) bay dec views slot gen girders s

/-- A candidate that freezes while queued gets NOT_ADMITTED (R63). -/
def dropCandidate (i stamp : Nat) (s : State) : State :=
  let t := getSlot s i
  if s.slots.cands.contains (i, t.gen) then
    let s1 := setSlot s i { t with sl := 3 }
    recAdmitAt stamp 0 1 0 i t.gen.toNat 0
      { s1 with slots := { s1.slots with cands := s1.slots.cands.filter (fun c => c != (i, t.gen)) } }
  else s

/-- Views in flight at freeze when LATE_COMPLETE is 0 (R568): of a job that does not run, every view is withdrawn; of one that
runs, those not yet started, and it stops at its next tile boundary. PENDING falls by each view withdrawn. In replay the
stream's ADMIT record decides (R267) (log entry 42, DEDUCED). -/
def withdrawViews (i stamp : Nat) (s : State) : State :=
  let t := getSlot s i
  if !t.admitted || vpLateComplete t.pol || s.replay.mode then s
  else
    let mine (j : Job) : Bool := j.kind == .secondLook && j.slot == i && j.gen == t.gen
    match s.jobs.find? mine with
    | none => s
    | some j =>
      let rec_ := recAdmitAt stamp (j.bay.getD 0) 3 j.view i t.gen.toNat (j.girders.foldl (fun a g => a ||| 2 ^ g) 0)
      if j.st ≠ .running then
        rec_ (viewsDone i (vpViews t.pol)
          { setSlot s i { t with admitted := false } with jobs := s.jobs.filter (fun x => !mine x) })
      else
        rec_ (viewsDone i (vpViews t.pol - (j.view + 1))
          { s with jobs := s.jobs.map (fun x => if mine x then { x with resumable := false } else x) })

/-- The freeze of a slot (R42, R45, R63): OPEN takes DEFAULTED; the FREEZE record carries the commits applied before. -/
def freezeSlot (i : Nat) (stamp : Nat) (s : State) : State :=
  let t := getSlot s i
  if t.st = .open_ ∨ t.st = .decided then
    let s1 := setSlot s i { t with st := .frozen, flags := if t.st = .open_ then t.flags ||| flDefaulted else t.flags }
    let s2 := recPut 8 stamp (leBytes 2 i ++ leBytes 2 t.gen.toNat ++ leBytes 1 (min 2 t.commits) ++ zeros 11) s1
    withdrawViews i stamp (dropCandidate i stamp s2)
  else s

/-- The TRIG pins a firing drives: the selected ones, with LATERAL only those whose window, kept since the slot opened (R70),
overlaps the part (R57). -/
def fireTrigs (e : List Byte) (t : Slot) : BitVec 16 :=
  BitVec.ofNat 16 ((List.range 16).foldl (fun a n =>
    let w := slotWindow t.pol n
    let on := (csTrig e).getLsbD n && (!csLateral e || decide (w.1 ≤ t.latX1.toNat ∧ t.latX0.toNat ≤ w.2))
    a + b2n on * 2 ^ n) 0)

/-- Field outputs can be driven (R59, R364). -/
def fieldLive (s : State) : Bool := s.field.linkUp && !s.field.safe

/-- The firing of a slot (R42, R57 to R59): its outputs are driven unless `quiet` (R50); outputs not driven set
SUPPRESSED; the fire record then waits for RECORD_POST. -/
def fireSlot (i : Nat) (stamp : Nat) (quiet : Bool) (s : State) : State :=
  let t := getSlot s i
  if t.st != .frozen then s
  else
    let pol := (getPolicy s t.cport).raw
    let e := vpSet pol t.cur.toNat
    let trig := if quiet || s.replay.mode then 0 else fireTrigs e t
    let fio := if quiet || s.replay.mode || !fieldLive s then 0 else csFio e
    let sup := quiet || (csFio e != 0 && !fieldLive s && !s.replay.mode)
    let stop := if csUs e then PulseEnd.time (stamp + 1000 * csLen e) else PulseEnd.counts t.pu (t.ejectPos + BitVec.ofNat 40 (csLen e))
    let s1 := setSlot s i { t with st := .fired, fireKey := stamp, flags := if sup then t.flags ||| flSuppressed else t.flags }
    let s2 := if trig = 0 ∧ fio = 0 then s1 else { s1 with pulses := s1.pulses ++ [⟨trig, fio, stop, some i⟩] }
    recPut 9 stamp (leBytes 2 i ++ leBytes 2 t.gen.toNat ++ leBytes 1 (b2n sup) ++ zeros 3)
      { s2 with slots := { s2.slots with records := s2.slots.records ++ [(i, t.gen)] } }

/-! ## Opening -/

/-- NO_SLOT is set when a part finds no slot, and starts its release when a slot opens normally (R68). -/
def noSlotSet (p : Nat) (s : State) : State := setRamp s p { getRamp s p with noSlot := true, noSlotRel := none }
def noSlotEnd (p : Nat) (s : State) : State :=
  let r := getRamp s p
  if r.noSlot && r.noSlotRel.isNone then
    let pol := (getPolicy s p).raw
    setRamp s p { r with noSlotRel := some ((getPu s (vpPu pol)).high + BitVec.ofNat 40 (vpEject pol)) }
  else s

/-- A part finds no slot (R68): counted, posted, recorded, and the latch set. -/
def exhausted (p : Nat) (part : BitVec 64) (s : State) : State :=
  let s1 := { s with slots := { s.slots with noSlotCtr := ctrBump s.slots.noSlotCtr } }
  noSlotSet p (post 0x3002 p 0 (part.toNat % 2 ^ 32) (part.toNat / 2 ^ 32)
    (recPut 7 (now s) (leBytes 8 part.toNat ++ leBytes 2 0xFFFF ++ zeros 6) s1))

/-- The contents of a slot as it opens (R40, R42 to R44, R46). -/
def newSlot (p : Nat) (part : BitVec 64) (detect : BitVec 40) (x0 x1 : Nat) (pol : List Byte) (gen : BitVec 16) : Slot :=
  let eject := detect + BitVec.ofNat 40 (vpEject pol)
  { Slot0 with
      st := .open_, partId := part, detectPos := detect, ejectPos := eject,
      freezePos := eject - BitVec.ofNat 40 (vpLead pol), pu := vpPu pol, cport := p, dflt := BitVec.ofNat 4 (vpDefault pol),
      cur := BitVec.ofNat 4 (vpDefault pol), pending := 1, primaryOpen := true, gen := gen, latX0 := BitVec.ofNat 16 x0,
      latX1 := BitVec.ofNat 16 x1, primary := 0xF, pconf := 0x7E00, pol := slotPolicy pol }

/-- Opens slot `i` for a part, freezing and firing it at once where its positions are already reached (R42, R50); in replay
freezes and firings come from the stream (R267) (log entry 21, DESIGN CHOICE). -/
def openAt (i p : Nat) (part : BitVec 64) (detect : BitVec 40) (x0 x1 : Nat) (s : State) : State :=
  let pol := (getPolicy s p).raw
  let t := newSlot p part detect x0 x1 pol ((getSlot s i).gen + 1)
  let s1 := slotLow t.pu (noSlotEnd p (setSlot s i t))
  let s2 := recPut 7 (now s) (leBytes 8 part.toNat ++ leBytes 2 i ++ leBytes 2 t.gen.toNat ++ zeros 4) s1
  let c := (getPu s t.pu).count
  if s.replay.mode then s2
  else
    let s3 := if reached c t.freezePos then freezeSlot i (now s) s2 else s2
    if reached c t.ejectPos then fireSlot i (now s) true s3 else s3

/-- The handle of a part whose slot a replay origin has restored (R265, R267). -/
def restored (s : State) (part : BitVec 64) : Option (Nat × Nat) :=
  if s.replay.mode then (s.slots.tab.find? (fun e => e.2.st != .free && e.2.partId == part)).map (fun e => (e.1, e.2.gen.toNat))
  else none

/-- A place beside the slot store for a part whose SLOT record a replay has not reached yet (R267)
(log entry 57, DEDUCED). -/
def tempSlot (s : State) : Nat :=
  65536 + ((List.range (s.slots.tab.length + 1)).find? (fun k => (getSlot s (65536 + k)).st == .free)).getD 0

/-- Opens a slot for a detected part (R38, R42, R68): the state, and the slot's handle when one was found. In replay the
stream's SLOT record says which slot it is, or that there was none (R267). -/
def openSlot (p : Nat) (part : BitVec 64) (detect : BitVec 40) (x0 x1 : Nat) (s : State) : State × Option (Nat × Nat) :=
  let pu := vpPu (getPolicy s p).raw
  match restored s part with
  | some h => (s, some h)
  | none =>
    match if s.replay.mode then some (tempSlot s) else freeSlot s with
    | some i =>
      if s.replay.mode ∨ (unitSlots s pu).length < 4096 then (openAt i p part detect x0 x1 s, some (i, ((getSlot s i).gen + 1).toNat))
      else (exhausted p part s, none)
    | none => (exhausted p part s, none)

/-- The next part ID of a port (R35, R36): its sequence counts, and a wrap increments the epoch. -/
def nextPart (p : Nat) (s : State) : BitVec 64 × State :=
  let q := Tab.get 0 s.slots.seqs p
  let id := BitVec.ofNat 64 (s.span.node.toNat * 2 ^ 53 + p * 2 ^ 48 + q.toNat)
  let s1 := { s with slots := { s.slots with
    seqs := Tab.set 0 s.slots.seqs p (q + 1),
    epochs := if q = BitVec.allOnes 48 then Tab.set 0 s.slots.epochs p (Tab.get 0 s.slots.epochs p + 1) else s.slots.epochs } }
  (id, s1)

/-- The correction a reference adds to every slot of a unit (R51, R336). -/
def shiftSlots (pu : Nat) (c : BitVec 40) (s : State) : State :=
  { s with slots := { s.slots with tab := s.slots.tab.map (fun e =>
    if e.2.st != .free && e.2.pu == pu then
      (e.1, { e.2 with detectPos := e.2.detectPos + c, freezePos := e.2.freezePos + c, ejectPos := e.2.ejectPos + c })
    else e) } }

/-! ## Commits (R60 to R62, R568) -/

/-- The verdict a commit writes (R53): UNDECIDED becomes the slot's mapped code. -/
def mappedVerdict (t : Slot) (v : BitVec 4) : BitVec 4 := if v = 0xE then BitVec.ofNat 4 (vpMap t.pol) else v

/-- PRIMARY and PRIMARY_CONF of a slot after a commit (R40, R60) (log entry 41, DEDUCED). -/
def notePrimary (c : FlightCommit) (v : BitVec 4) (t : Slot) : Slot :=
  if c.primary then { t with primary := v, pconf := c.conf } else t

/-- The slot after a commit that its state takes up (R60): `t` already carries the deck flags
(log entry 41, DEDUCED). -/
def commitSlot (c : FlightCommit) (at_ : Nat) (t : Slot) : Slot :=
  let v := mappedVerdict t c.verdict
  let t1 := notePrimary c v (if c.verdict = 0xE then { t with flags := t.flags ||| flMapped } else t)
  match t.st with
  | .open_ =>
    if c.final then
      { t1 with cur := v, st := .decided, everDecided := true, sl := if c.primary then t.sl else 1,
                views := if c.primary then t.views else c.views }
    else t1
  | _ =>
    { t1 with late := some v, lateKey := at_, flags := t1.flags ||| flLate, views := if c.primary then t.views else c.views }

/-- Whether a commit is refused (corrupt slot, R61) or discarded as a duplicate (DECIDED, R60). -/
def commitTaken (c : FlightCommit) (t : Slot) : Bool := t.st != .decided && !(isCorrupt t && c.final)

/-- A borderline primary commit makes an OPEN slot a second-look candidate when K is 1 or more (R62, R568)
(log entry 26, DESIGN CHOICE). -/
def addCandidate (i : Nat) (c : FlightCommit) (s : State) : State :=
  let t := getSlot s i
  let room := Config.slBufRoom i t.gen.toNat
  let s1 := setSlot s i { t with slRoom := room, slBuf := if room then [⟨0, c.scores⟩] else [] }
  { s1 with slots := { s1.slots with cands := s1.slots.cands ++ [(i, t.gen)] } }

/-- Notes a commit with the slot before it, for a freeze of the same instant (R45). -/
def noteInstant (c : FlightCommit) (s : State) : State :=
  if s.replay.mode then s
  else
    { s with slots := { s.slots with
        instant := s.slots.instant.filter (fun e => e.1 == now s) ++ [(now s, c.slot, getSlot s c.slot, c)] } }

/-- A commit reaches the slot store (R39, R44, R60, R61). -/
def applyCommit (c : FlightCommit) (s0 : State) : State :=
  let s := noteInstant c s0
  let t := getSlot s c.slot
  if t.st = .free ∨ t.gen ≠ c.gen then
    post 0x2003 0 0 c.slot c.gen.toNat { s with slots := { s.slots with stale := ctrBump s.slots.stale } }
  else
    let t1 := { t with flags := t.flags ||| c.flags, commits := t.commits + 1 }
    let taken := commitTaken c t
    let s1 := setSlot s c.slot (if taken then commitSlot c (now s) t1 else t1)
    let s2 := when_ (t.st == .decided)
      (fun x => post 0x1004 t.cport 0 c.slot c.gen.toNat { x with slots := { x.slots with duplicate := ctrBump x.slots.duplicate } }) s1
    let s3 := when_ (taken && t.st == .open_ && !c.final && c.primary && decide (1 ≤ vpViews t.pol)) (addCandidate c.slot c) s2
    let s4 := when_ (taken && t.st == .closed)
      (fun x => { x with slots := { x.slots with lateRecords := x.slots.lateRecords ++ [(c.slot, t.gen)] } }) s3
    if c.primary then primaryDone c.slot s4 else viewsDone c.slot c.views s4

/-- A slot as it stood before a commit, but for what other events have changed since (R45). -/
def uncommit (b t : Slot) : Slot :=
  { t with
    st := b.st, cur := b.cur, everDecided := b.everDecided, sl := b.sl, views := b.views, primary := b.primary,
    pconf := b.pconf, pending := b.pending, primaryOpen := b.primaryOpen, commits := b.commits, slBuf := b.slBuf,
    slRoom := b.slRoom }

/-- What a commit that was discarded as a duplicate posted and counted is taken back, where it still can be (R45). -/
def undoDuplicate (e : Nat × Nat × Slot × FlightCommit) (s : State) : State :=
  if e.2.2.1.st = .decided ∧ e.2.2.2.gen = e.2.2.1.gen then
    let r := eventRec s 0x1004 e.2.2.1.cport 0 e.2.1 e.2.2.2.gen.toNat
    { s with
      slots := { s.slots with duplicate := if s.slots.duplicate.sat then s.slots.duplicate
        else { s.slots.duplicate with n := s.slots.duplicate.n - 1 } }
      q := { s.q with waiting := s.q.waiting.erase ⟨1, r⟩, log := s.q.log.erase r } }
  else s

/-- The freeze of a slot at an instant (R45): it comes before the commits of the same instant, which are then late. -/
def freezeFirst (i stamp : Nat) (s : State) : State :=
  match s.slots.instant.filter (fun e => e.1 == stamp && e.2.1 == i && e.2.2.2.gen == (getSlot s i).gen) with
  | [] => freezeSlot i stamp s
  | e :: es =>
    let s1 := (e :: es).foldl (fun a x => undoDuplicate x a) s
    let s2 := setSlot s1 i (uncommit e.2.2.1 (getSlot s1 i))
    let s3 := { s2 with slots := { s2.slots with
      cands := s2.slots.cands.filter (fun c => c.1 != i || (e :: es).all (fun x => x.2.2.2.final || !x.2.2.2.primary)),
      instant := s2.slots.instant.filter (fun x => x.2.1 != i) } }
    (e :: es).foldl (fun a x => applyCommit x.2.2.2 a) (freezeSlot i stamp s3)

/-- Replay holds the commits of a slot once as many have been applied as came before its recorded freeze (R45, R267). -/
def commitHeld (s : State) (c : FlightCommit) : Bool :=
  let t := getSlot s c.slot
  s.replay.mode && t.gen == c.gen && (t.st == .open_ || t.st == .decided) &&
    (match t.freezeAfter with
      | some k => decide (k < 2 ∧ k ≤ t.commits)
      | none => false)

/-- SLOT_COMMIT (R60): the oldest commit in flight reaches the slot store. In replay one that its slot's freeze comes before
waits, and those behind it go first (R267). -/
def slotCommit (s : State) : State :=
  match s.slots.commits.find? (fun c => !commitHeld s c) with
  | some c => applyCommit c { s with slots := { s.slots with commits := s.slots.commits.erase c } }
  | none => s

def execSlotCommit (s : State) : Host.Outcome State Fault Refusal := done slotCommit s

/-! ## Records (R64 to R67) -/

/-- A verdict record (R64). -/
def verdictRec (i : Nat) (t : Slot) (lateRec replayed : Bool) : List Byte :=
  let flags := if replayed then t.flags ||| flReplayed else t.flags
  let hi := if lateRec then (t.late.getD 0xF) else (t.late.getD t.primary)
  leBytes 8 t.partId.toNat ++ leBytes 8 (if lateRec then t.lateKey else t.fireKey) ++ leBytes 5 t.ejectPos.toNat ++
    leBytes 1 (b2n lateRec * 64 + t.sl % 4 * 16) ++ leBytes 2 flags.toNat ++ leBytes 1 (hi.toNat * 16 + t.cur.toNat) ++
    leBytes 1 t.views ++ leBytes 2 t.pconf.toNat ++ leBytes 2 i ++ leBytes 2 t.gen.toNat

/-- Occupancy o of a queue (R474). -/
def occupancy (x : Queue) : Nat := (x.tail - x.head).toNat

/-- A produced queue has room for one more entry beside those that wait for it (R474, R478, R482). -/
def hasRoom (s : State) (q : Nat) : Bool :=
  let x := getQ s q
  x.st == .active && decide (occupancy x + (s.q.waiting.filter (fun w => w.queue == q)).length < 2 ^ x.log2)

/-- Whether a record of this slot may be dropped when there is no room (R67, R267). -/
def mayDrop (s : State) (t : Slot) : Bool := vpRecordDrop t.pol && !s.replay.mode

/-- The queue a slot's records go to (R54, R269). -/
def recordQueue (s : State) (t : Slot) : Nat := if s.replay.mode then s.replay.queue else vpQueue t.pol

/-- Hands a record to the queue manager, or drops and counts it (R67) (log entry 89, DEDUCED). -/
def postRecord (t : Slot) (r : List Byte) (s : State) : State :=
  if hasRoom s (recordQueue s t) then { s with q := { s.q with waiting := s.q.waiting ++ [⟨recordQueue s t, r⟩] } }
  else { s with slots := { s.slots with recDrops := ctrBump s.slots.recDrops } }

/-- The first record of each port that can be posted or dropped now; records of one port keep their order (R479)
(log entry 89, DEDUCED). -/
def nextRecord (s : State) (l : List (Nat × BitVec 16)) : Option (Nat × BitVec 16) :=
  ([0, 1, 2, 3].filterMap (fun p => l.find? (fun e => (getSlot s e.1).cport == p))).find? (fun e =>
    let t := getSlot s e.1
    hasRoom s (recordQueue s t) || mayDrop s t)

/-- RECORD_POST (R42, R64, R67): the next fire record is posted or dropped, and its slot moves to CLOSED. -/
def recordPost (s : State) : State :=
  match nextRecord s s.slots.records with
  | none => s
  | some e =>
    let t := getSlot s e.1
    let s1 := postRecord t (verdictRec e.1 t false s.replay.mode)
      { s with slots := { s.slots with records := s.slots.records.erase e } }
    maybeFree e.1 (setSlot s1 e.1 { t with st := .closed })

def execRecordPost (s : State) : Host.Outcome State Fault Refusal := done recordPost s

/-- LATE_RECORD_POST (R65, R67): the next late record is posted or dropped, and its slot may return to FREE. -/
def lateRecordPost (s : State) : State :=
  match nextRecord s s.slots.lateRecords with
  | none => s
  | some e =>
    let t := getSlot s e.1
    maybeFree e.1 (postRecord t (verdictRec e.1 t true s.replay.mode)
      { s with slots := { s.slots with lateRecords := s.slots.lateRecords.erase e } })

def execLateRecordPost (s : State) : Host.Outcome State Fault Refusal := done lateRecordPost s

/-! ## Verdict-policy commands -/

/-- STATE_PU code of a slot state (R41). -/
def slotCode (x : SlotSt) : Nat :=
  match x with
  | .free => 0
  | .open_ => 1
  | .decided => 2
  | .frozen => 3
  | .fired => 4
  | .closed => 5

/-- The 40 bytes of SLOT_READ (R40) (log entry 41, DEDUCED). -/
def slotBytes (t : Slot) : List Byte :=
  leBytes 8 t.partId.toNat ++ leBytes 5 t.detectPos.toNat ++ leBytes 5 t.freezePos.toNat ++ leBytes 5 t.ejectPos.toNat ++
    leBytes 1 (slotCode t.st * 32 + t.pu * 8) ++ leBytes 1 (t.dflt.toNat * 16 + t.cur.toNat) ++ leBytes 1 t.pending ++
    leBytes 2 t.gen.toNat ++ leBytes 2 t.latX0.toNat ++ leBytes 2 t.latX1.toNat ++ leBytes 2 t.flags.toNat ++
    leBytes 1 (t.sl * 64 + t.views) ++ leBytes 1 t.primary.toNat ++ leBytes 2 t.pconf.toNat ++ zeros 2

def specSlotRead : Spec :=
  { plain 0x1003 0x0100 8 40 with
    rsv := fun _ => [rsvAll 2 6],
    ranges := fun _ p => rangesOf [(decide (fld p 0 2 < 16384), 0)] }

/-- SLOT_READ (R40). -/
def bodySlotRead (s : State) (p : List Byte) : State × Option Reply := yes s (slotBytes (getSlot s (fld p 0 2)))

def execSlotRead (m : Fin 16) (s : State) : Host.Outcome State Fault Refusal := done (command m specSlotRead bodySlotRead) s

/-- An entry that selects an output (R55). -/
def csSelects (e : List Byte) : Bool := csTrig e != 0 || csFio e != 0

/-- Reserved fields of a VP_SET request: the prefix, then R54 and R55 at offset 8; MODE only in entries that select an
output (R55) (log entry 81, DEDUCED). -/
def vpRsv (p : List Byte) : List Rsv :=
  selRsv ++ [(8, 1, 0xF0), (9, 1, 0xF0), (10, 1, 0xFC), (11, 1, 0xFC), rsvAll 25 1] ++
    (List.range 8).flatMap (fun i =>
      (if csSelects (vpSet (p.drop 8) i) then [(32 + 16 * i + 8, 1, 0xFC)] else []) ++ [rsvAll (32 + 16 * i + 9) 7])

/-- Whole paralleled groups only (R367). -/
def groupsWhole (s : State) (fio : BitVec 32) : Bool :=
  (List.range 8).all (fun g => !chParallel s.field.regs (4 * g) ||
    (fio >>> (4 * g)).toNat % 16 == 0 || (fio >>> (4 * g)).toNat % 16 == 15)

/-- What VP_SET checks of one CHANNEL_SET entry (R55, R59, R367): pulse length, then TRIG pins in COMPARE, then field
channels in COMPARE and whole groups (log entry 81, DEDUCED). -/
def setChecks (s : State) (i : Nat) (e : List Byte) : List (Bool × Nat) :=
  let o := 32 + 16 * i
  [(!csSelects e || decide (1 ≤ csLen e), o + 6),
   ((List.range 16).all (fun n => !(csTrig e).getLsbD n || (getTrig s n).func % 4 == 2), o),
   ((List.range 32).all (fun n => !(csFio e).getLsbD n || (chOutput s.field.regs n && chFunc s.field.regs n == 1)), o + 2),
   (groupsWhole s (csFio e), o + 2)]

def specVpSet : Spec :=
  { plain 0x0701 0x0100 224 0 with
    rsv := fun p => vpRsv p,
    ranges := fun s p =>
      let r := p.drop 8
      (selRange 4 p).or (rangesOf ([(decide (vpDefault r ≤ 7), 8), (decide (vpMap r ≤ 7), 9),
        (decide (1 ≤ vpEject r), 12), (decide (vpLead r ≤ vpEject r), 16), (decide (vpViews r ≤ 16), 24),
        (decide (0x10 ≤ vpQueue r), 26)] ++ (List.range 8).flatMap (fun i => setChecks s i (vpSet r i)) ++
        [((getRamp s (fld1 p 0)).cfg.isNone || (getGen s (fld1 p 0)).pu == vpPu r, 10),
         (vpViews r == 0 || ((getRamp s (fld1 p 0)).cfg.map (fun c => rmpCropKib c != 0)).getD true, 24)])),
    objs := fun p => [.port (fld1 p 0)] }

/-- VP_SET (R54 to R56, R59, R70, R321, R340). -/
def bodyVpSet (s : State) (p : List Byte) : State × Option Reply :=
  let i := fld1 p 0
  let r := p.drop 8
  let old := (getPolicy s i).raw
  let q := getQ s (vpQueue r)
  if !(q.st == .active && q.content == 0) then no s (refuse stNotFound)
  else if !(portSlots s i).isEmpty && (vpPu r != vpPu old || vpEject r != vpEject old || vpLead r != vpLead old) then
    no s (refuse stBusySlots)
  else
    yes (recConfig i 0x0701 p { s with slots := { s.slots with policies := Tab.set (Policy0 i) s.slots.policies i ⟨false, r⟩ } }) []

def execVpSet (m : Fin 16) (s : State) : Host.Outcome State Fault Refusal := done (command m specVpSet bodyVpSet) s

/-- A request of the select prefix alone. -/
def specSel (op n resp : Nat) (objs : Nat → List Objt) : Spec :=
  { plain op 0x0100 8 resp with
    rsv := fun _ => selRsv, ranges := fun _ p => selRange n p, objs := fun p => objs (fld1 p 0) }

/-- VP_READ (R54). -/
def bodyVpRead (s : State) (p : List Byte) : State × Option Reply := yes s (getPolicy s (fld1 p 0)).raw

def execVpRead (m : Fin 16) (s : State) : Host.Outcome State Fault Refusal :=
  done (command m (specSel 0x0702 4 216 (fun i => [.port i])) bodyVpRead) s

def specSeqSet : Spec :=
  { plain 0x0703 0x0100 16 0 with
    rsv := fun _ => selRsv ++ [rsvAll 14 2], ranges := fun _ p => selRange 4 p, objs := fun p => [.port (fld1 p 0)] }

/-- SEQ_SET (R36, R504). -/
def bodySeqSet (s : State) (p : List Byte) : State × Option Reply :=
  let i := fld1 p 0
  if portRuns s i then no s (refuse stBusyRunning)
  else
    yes (recConfig i 0x0703 p
      { s with slots := { s.slots with seqs := Tab.set 0 s.slots.seqs i (BitVec.ofNat 48 (fld p 8 6)) } }) []

def execSeqSet (m : Fin 16) (s : State) : Host.Outcome State Fault Refusal := done (command m specSeqSet bodySeqSet) s

end Sys2Proof.Machine
end

