-- ==== Sys2Proof/Machine/Field.lean ====
section
/-! DEFINITION. Sys2Proof/Machine/Field.lean: field inputs and outputs (R351 to R371) and the TRIG pins (R372 to R374):
levels on the processor side, the frame exchange, the FIO and TRIG commands, and pulse ends.
-/

namespace Sys2Proof.Machine

/-! ## Levels -/

/-- TRACK_LOST of a port (R68). -/
def trackLost (s : State) (p : Nat) : Bool := (getRamp s p).noSlot || (getRamp s p).objFull

/-- The processor-side level of channel `n` by its function (R366). -/
def fioLevel (s : State) (n : Nat) : Bool :=
  if !chOutput s.field.regs n then false
  else
    match chFunc s.field.regs n with
    | 0 => s.field.host.getLsbD n
    | 1 => s.pulses.any (fun x => x.fio.getLsbD n)
    | 2 => s.lineSlow
    | 3 => s.rst.rs != 0
    | 4 => trackLost s 0
    | 5 => trackLost s 1
    | 6 => trackLost s 2
    | 7 => trackLost s 3
    | 8 => s.seq.started
    | _ => false

/-- All processor-side levels. -/
def fioLevels (s : State) : BitVec 32 := word32 (fioLevel s)

/-- Notes the levels that are active now for the next down frame (R365). -/
def sawLevels (s : State) : State := { s with field := { s.field with seen := s.field.seen ||| fioLevels s } }

/-- Clears reason bit `b`, with RESTRICTED_EXIT when it was set (R547, R551): the new word and a mask of the bit
cleared; REPLACE_ADVISED was active until now (R365) (log entry 71, DEDUCED). -/
def rsClear (b : Nat) (s : State) : State :=
  if s.rst.rs.getLsbD b then
    let w := s.rst.rs &&& ~~~(1#32 <<< b)
    post 0x1806 0 0 w.toNat (2 ^ b) { sawLevels s with rst := { s.rst with rs := w } }
  else s

/-- LINE_SLOW as asserted or released. -/
def setLineSlow (b : Bool) (s : State) : State := { sawLevels s with lineSlow := b }

/-- The level on TRIG pin `n`: none where it is high-impedance (R373, R446, R537), and in replay, which drives none (R267,
R374). A pulse that follows another on an active pin leaves it inactive for 10 ns first (R373). -/
def trigLevel (s : State) (n : Nat) : Option Bool :=
  let t := getTrig s n
  if s.steward.trip || s.replay.mode || t.func == 0 then none
  else
    let active := match t.func with
      | 1 => t.host
      | 2 => s.pulses.any (fun x => x.trig.getLsbD n) && !halted s
      | _ => Tab.get 0 s.linePulses n != 0 && decide (Tab.get 0 s.field.lineGap n ≤ now s) && !halted s
    some (active != t.inv)

/-! ## Pulse ends (R58, R338) -/

/-- Ends the pulses that `f` picks; each output keeps the OR of the rest. -/
def endPulses (f : Pulse → Bool) (s : State) : State :=
  if s.pulses.any f then { sawLevels s with pulses := s.pulses.filter (fun x => !f x) } else s

/-- A pulse in µs whose time has come. -/
def dueUs (now_ : Nat) (x : Pulse) : Bool :=
  match x.stop with
  | .time t => decide (t ≤ now_)
  | .counts _ _ => false

def execPulseEndUs (s : State) : Host.Outcome State Fault Refusal := done (fun s => endPulses (dueUs (now s)) s) s

/-- LINE_TRIG_PULSE_END (R373): the pin returns inactive WIDTH_NS after the pulse started. -/
def lineTrigPulseEnd (n : Nat) (s : State) : State :=
  if Tab.get 0 s.linePulses n ≤ now s then { s with linePulses := Tab.set 0 s.linePulses n 0 } else s

def execLineTrigPulseEnd (n : Fin 16) (s : State) : Host.Outcome State Fault Refusal := done (lineTrigPulseEnd n) s

/-- A line trigger on the port's LINE_TRIG pin (R373): an active pin goes inactive for 10 ns before the new pulse
(log entry 86, DEDUCED). -/
def lineTrigPulse (p stamp : Nat) (s : State) : State :=
  match (List.range 16).find? (fun n => (getTrig s n).func == 3 && (getTrig s n).cport == p) with
  | none => s
  | some n =>
    let busy := decide (stamp < Tab.get 0 s.linePulses n)
    let start := stamp + (if busy then 10 else 0)
    { s with
      linePulses := Tab.set 0 s.linePulses n (start + (getTrig s n).width),
      field := { s.field with lineGap := Tab.set 0 s.field.lineGap n (if busy then start else 0) } }

/-! ## Latches by field inputs (R343, R367) -/

/-- FIO_LATCH of a unit with LATCH_KEYSTONE `at_`. -/
def fioLatch (p at_ : Nat) (s : State) : State :=
  let u := getPu s p
  setPu s p { u with fioLatch := puLatchNow u at_ }

/-- Takes the latches that are due. -/
def takeLatches (s : State) : State :=
  let due := s.field.latchDue.filter (fun e => decide (e.2 ≤ now s))
  due.foldl (fun s e => fioLatch e.1 e.2 s)
    { s with field := { s.field with latchDue := s.field.latchDue.filter (fun e => !decide (e.2 ≤ now s)) } }

/-! ## The frame exchange -/

/-- Ends a command of opcode `op` under way. -/
def answerOp (op : Nat) (r : Reply) (s : State) : State :=
  match s.gh.running.find? (fun x => x.op == op && x.answer.isNone) with
  | some x => answerRunning x.mbx r s
  | none => s

/-- FIO_RELEASE counts the frames that have passed without SAFE reading 0 (R504). -/
def releaseFrames (s : State) : State :=
  { s with gh := { s.gh with running := s.gh.running.map (fun x =>
    if x.op = 0x0603 ∧ x.answer.isNone then
      (if x.limit = 0 then { x with answer := some (stState, 0, []) } else { x with limit := x.limit - 1 })
    else x) } }

/-- FIELD_FRAME_TICK (R358, R360, R365): due latches, then down frame k with the levels active since the last tick and
the oldest pending register write, which is repeated until it is echoed; a tick is a count that is a multiple of 1,000, and
one frame leaves at each (log entry 63, DEDUCED). -/
def fieldFrameTick (s0 : State) : State :=
  let s := takeLatches s0
  if now s % 1000 ≠ 0 ∨ s.field.lastTick = some (now s) then s else sendDown s
where
  sendDown (s : State) : State :=
  let lv := fioLevels s
  let out := s.field.seen ||| lv
  let k := now s / 1000
  let fr := downFrame k (s.field.safeCmd || s.replay.mode) s.field.release out s.field.wq.head?
  releaseFrames { s with field := { s.field with
    out := out, seen := lv, release := false, lastTick := some (now s), down := s.field.down ++ [(k, fr)] } }

def execFieldFrameTick (s : State) : Host.Outcome State Fault Refusal := done fieldFrameTick s

/-- FIELD_DOWN_FRAME_APPLY (R358, R359, R361, R363): the oldest down frame, k, is applied by the field die at tick k + 1,000. A
bad frame is not applied; a die held in reset answers nothing. -/
def fieldDownApply (good : Bool) (levels : BitVec 32) (lplusLow : Bool) (s : State) : State :=
  match s.field.down with
  | [] => s
  | fr :: t =>
    let s1 := { s with field := { s.field with down := t } }
    if now s < 1000 * fr.1 + 1000 then s
    else if s.die.held then s1
    else if !good then { s1 with die := { s1.die with good := 0 } }
    else
      let r := dieApply s.die fr.2 levels
      { s1 with die := r.1, field := { s1.field with
          lastDownAt := now s, up := s1.field.up ++ [(fr.1, upFrame fr.2 r.1 r.2 lplusLow)] } }

def execFieldDownFrameApply (good : Bool) (levels : BitVec 32) (lplusLow : Bool) (s : State) :
    Host.Outcome State Fault Refusal := done (fieldDownApply good levels lplusLow) s

/-- Filtered levels as the SG7 reports them: INVERT applied to inputs (R369). -/
def reportedIn (t : Tab Byte) (raw : Nat) : BitVec 32 :=
  word32 (fun n => bitOf raw n != (!chOutput t n && chInvert t n))

/-- One changed input (R354, R364, R367): its record, and the latch of a PU_LATCHn rising edge. -/
def inputChange (n : Nat) (level resync : Bool) (stamp : Nat) (s : State) : State :=
  let s1 := recPut 5 stamp (leBytes 1 n ++ leBytes 1 (b2n level) ++ leBytes 1 (b2n resync) ++ zeros 5) s
  let f := chFunc s.field.regs n
  if level && !resync && decide (0x11 ≤ f ∧ f ≤ 0x14) then
    { s1 with field := { s1.field with latchDue := s1.field.latchDue ++ [(f - 0x11, stamp + 1000)] } }
  else s1

/-- All changed inputs of a frame, in channel order. -/
def inputChanges (old new_ : BitVec 32) (resync : Bool) (stamp : Nat) (s : State) : State :=
  (List.range 32).foldl (fun s n =>
    if !chOutput s.field.regs n && (old.getLsbD n != new_.getLsbD n) then inputChange n (new_.getLsbD n) resync stamp s
    else s) s

/-- Set bits of a word. -/
def popcount (w : BitVec 32) : Nat := ((List.range 32).filter (fun n => w.getLsbD n)).length

/-- Readback faults of a frame (R356): newly latched channels are posted and counted (log entry 63, DEDUCED). -/
def readbackFaults (rbf : BitVec 32) (s : State) : State :=
  let new_ := rbf &&& ~~~s.field.rbf
  if new_ = 0 then s
  else post 0x2403 0 0 new_.toNat 0 { s with field := { s.field with
    rbf := s.field.rbf ||| new_, ctrs := modAt s.field.ctrs 3 (fun c => ctrAdd c (popcount new_)) } }

/-- Thermal latches of a frame (R355, R371) (log entry 63, DEDUCED). -/
def thermalLatches (ovl : BitVec 32) (s : State) : State :=
  { s with field := { s.field with
    ovl := ovl, ctrs := modAt s.field.ctrs 4 (fun c => ctrAdd c (popcount (ovl &&& ~~~s.field.ovl))) } }

/-- Writes of a FIO_CONFIG are pending (R370): those of the firmware's start and of FIO_CLEAR are none. -/
def cfgPending (s : State) : Bool := (s.field.wq.drop s.field.rewrite).any (fun w => decide (w.1 < 160))

/-- The echo of the register write in flight (R361, R368): the gatehouse's copy takes the value, and a level that its old
function gave has been active until now (R365); with its last write echoed, FIO_CONFIG is complete. -/
def takeEcho (addr : Nat) (v : Byte) (s : State) : State :=
  match s.field.wq with
  | [] => s
  | w :: t =>
    if w.1 = addr ∧ (w.2 = v ∨ 160 ≤ addr) then
      let s0 := sawLevels s
      let s1 := { s0 with field := { s0.field with
        wq := t, rewrite := s.field.rewrite - 1, regs := if addr < 160 then fRegSet s.field.regs addr v else s.field.regs } }
      if cfgPending s1 then s1 else answerOp 0x0601 (okWith []) s1
    else s

/-- Link-up at a good up frame (R364). -/
def linkReturn (missed : Nat) (s : State) : State :=
  if s.field.linkUp then s
  else post 0x1405 0 0 missed 0 { s with field := { s.field with linkUp := true, inValid := true } }

/-- A good up frame of down frame `k` (R354, R364, R504); in replay mode the inputs come from the stream (R267, R354). -/
def goodUp (k : Nat) (fr : List Byte) (s : State) : State :=
  let resync := !s.field.linkUp
  let missed := (s.field.lastSeq.map (fun l => k - l - 1)).getD 0
  let new_ := if s.replay.mode then s.field.inn else reportedIn s.field.regs (fld fr 1 4)
  let old := s.field.inn
  let s1 := { s with field := { s.field with
    lastUpAt := now s, lastSeq := some k, safe := bitOf (fld1 fr 0) 3, lplusLow := bitOf (fld1 fr 0) 2, inn := new_,
    ctrs := modAt s.field.ctrs 1 (fun c => ctrAdd c missed) } }
  let s2 := inputChanges old new_ resync (1000 * k + 1000) (linkReturn missed s1)
  let s3 := thermalLatches (BitVec.ofNat 32 (fld fr 9 4)) (readbackFaults (BitVec.ofNat 32 (fld fr 5 4)) s2)
  let s4 := takeEcho (fld1 fr 13) (BitVec.ofNat 8 (fld1 fr 14)) s3
  takeLatches (if s4.field.safe then s4 else answerOp 0x0603 (okWith []) s4)

/-- FIELD_UP_FRAME (R364, R371): the oldest up frame arrives; one that fails its CRC is counted. -/
def fieldUpFrame (good : Bool) (s : State) : State :=
  match s.field.up with
  | [] => s
  | fr :: t =>
    let s1 := { s with field := { s.field with up := t } }
    if good then goodUp fr.1 fr.2 s1 else { s1 with field := { s1.field with ctrs := modAt s1.field.ctrs 0 ctrBump } }

def execFieldUpFrame (good : Bool) (s : State) : Host.Outcome State Fault Refusal := done (fieldUpFrame good) s

/-- FIELD_LINK_TIMEOUT (R364, R504): no good up frame for 8 µs. -/
def fieldLinkTimeout (s : State) : State :=
  if s.field.linkUp && decide (s.field.lastUpAt + 8000 ≤ now s) then
    answerOp 0x0603 (refuse stState) (post 0x2404 0 0 ((s.field.lastSeq.getD 0) % 16) 0 { s with field := { s.field with
      linkUp := false, inValid := false, ctrs := modAt s.field.ctrs 2 ctrBump } })
  else s

def execFieldLinkTimeout (s : State) : Host.Outcome State Fault Refusal := done fieldLinkTimeout s

/-- FIELD_DIE_SAFE_TIMEOUT (R363): no good down frame applied for 8 µs. -/
def fieldDieTimeout (s : State) : State :=
  if !s.die.held && decide (s.field.lastDownAt + 8000 ≤ now s) then { s with die := { s.die with safe := true, good := 0 } }
  else s

def execFieldDieSafeTimeout (s : State) : Host.Outcome State Fault Refusal := done fieldDieTimeout s

/-- FIELD_UVLO (R351): below the lockout the die is held in reset; above it the die starts from reset values, safe. -/
def fieldUvlo (low : Bool) (s : State) : State :=
  if low then { s with die := FieldDie0 }
  else if s.die.held then { s with die := { FieldDie0 with held := false } }
  else s

def execFieldUvlo (low : Bool) (s : State) : Host.Outcome State Fault Refusal := done (fieldUvlo low) s

/-- FIO_THERMAL_TRIP (R355, R357): the tripped channel's latch; `dieDrive` turns its group off. -/
def fioThermalTrip (ch : Nat) (s : State) : State :=
  if s.die.held || !chOutput s.die.regs ch then s else { s with die := { s.die with ovl := s.die.ovl ||| (1#32 <<< ch) } }

def execFioThermalTrip (ch : Fin 32) (s : State) : Host.Outcome State Fault Refusal := done (fioThermalTrip ch) s

/-! ## FIO commands -/

/-- Entry `i` of a request of 8-byte entries. -/
def entry8 (p : List Byte) (i : Nat) : List Byte := slice p (8 * i) 8

/-- Number of 8-byte entries. -/
def entries8 (p : List Byte) : Nat := p.length / 8

/-- The direction that R366 gives a function; none for a code that is not in it. -/
def funcOutput (f : Nat) : Option Bool :=
  if f ≤ 8 then some true else if 0x10 ≤ f ∧ f ≤ 0x14 then some false else none

/-- The registers of an entry, DIR_FN last (R360, R368). -/
def fioWrites (e : List Byte) : List (Nat × Byte) :=
  let b := 5 * (fld1 e 0 % 32)
  [(b + 1, BitVec.ofNat 8 (fld1 e 2)), (b + 2, BitVec.ofNat 8 (fld1 e 3)), (b + 3, BitVec.ofNat 8 (fld1 e 4)),
   (b + 4, BitVec.ofNat 8 (fld1 e 5)), (b, BitVec.ofNat 8 (fld1 e 1))]

/-- The registers as they will stand once every pending write has been echoed. -/
def regsAfter (t : Tab Byte) (ws : List (Nat × Byte)) : Tab Byte :=
  ws.foldl (fun t w => if w.1 < 160 then fRegSet t w.1 w.2 else t) t

/-- Whether some policy selects field channel `n` (R367). -/
def policySelectsFio (s : State) (n : Nat) : Bool :=
  (List.range 4).any (fun p => (List.range 8).any (fun v => (csFio (vpSet (getPolicy s p).raw v)).getLsbD n))

/-- Whether some policy selects TRIG pin `n` (R373). -/
def policySelectsTrig (s : State) (n : Nat) : Bool :=
  (List.range 4).any (fun p => (List.range 8).any (fun v => (csTrig (vpSet (getPolicy s p).raw v)).getLsbD n))

/-- Range checks of one FIO_CONFIG entry (R357, R368, R369), `t` being the registers with the request applied. -/
def fioEntryChecks (t : Tab Byte) (i : Nat) (e : List Byte) : List (Bool × Nat) :=
  let c := fld1 e 0 % 32
  let g := c / 4 * 4
  [(funcOutput (fld1 e 1 % 64) == some (bitOf (fld1 e 1) 7), 8 * i + 1),
   (decide (1 ≤ fld1 e 2), 8 * i + 2),
   (!bitOf (fld1 e 3) 1 || c % 4 == 0, 8 * i + 3),
   (decide (10 ≤ fld e 4 2 ∧ fld e 4 2 ≤ 10000), 8 * i + 4),
   (!chParallel t g || (List.range 4).all (fun k => chOutput t (g + k)), 8 * i + (if c % 4 = 0 then 3 else 1))]

/-- The registers with a request's entries applied to what is already pending. -/
def fioPlanned (s : State) (p : List Byte) : Tab Byte :=
  regsAfter s.field.regs (s.field.wq ++ (List.range (entries8 p)).flatMap (fun i => fioWrites (entry8 p i)))

def specFioConfig : Spec :=
  { plain 0x0601 0x0100 8 0 with
    lens := .entries 8 32,
    rsv := fun p => (List.range (entries8 p)).flatMap (fun i => [(8 * i, 1, 0xE0), (8 * i + 3, 1, 0xFC), rsvAll (8 * i + 6) 2]),
    ranges := fun s p => rangesOf ((List.range (entries8 p)).flatMap (fun i => fioEntryChecks (fioPlanned s p) i (entry8 p i))),
    objs := fun _ => [.field] }

/-- FIO_CONFIG (R367, R368): its writes go out by the down frames; it completes when all are echoed. -/
def bodyFioConfig (m : Nat) (s : State) (p : List Byte) : State × Option Reply :=
  let es := (List.range (entries8 p)).map (entry8 p)
  let cur := regsAfter s.field.regs s.field.wq
  if es.any (fun e =>
      let c := fld1 e 0 % 32
      policySelectsFio s c && (chFunc cur c != fld1 e 1 % 64 || chOutput cur c != bitOf (fld1 e 1) 7)) then
    no s (refuse stBusySlots)
  else
    hold m 0x0601 p [.field] false none (recConfig 0 0x0601 p { s with field := { s.field with
      wq := s.field.wq ++ es.flatMap fioWrites } })

def execFioConfig (m : Fin 16) (s : State) : Host.Outcome State Fault Refusal := done (command m specFioConfig (bodyFioConfig m)) s

def specFioSet : Spec :=
  { plain 0x0602 0x0100 8 0 with
    ranges := fun s p => rangesOf [((List.range 32).all (fun n => !bitOf (fld p 0 4) n ||
      (chOutput s.field.regs n && chFunc s.field.regs n == 0)), 0)],
    objs := fun _ => [.field] }

/-- FIO_SET (R366): HOST levels from the next frame. -/
def bodyFioSet (s : State) (p : List Byte) : State × Option Reply :=
  let mask := BitVec.ofNat 32 (fld p 0 4)
  let s1 := sawLevels s
  yes (recConfig 0 0x0602 p { s1 with field := { s1.field with
    host := (s1.field.host &&& ~~~mask) ||| (BitVec.ofNat 32 (fld p 4 4) &&& mask) } }) []

def execFioSet (m : Fin 16) (s : State) : Host.Outcome State Fault Refusal := done (command m specFioSet bodyFioSet) s

def specFioRelease : Spec := { plain 0x0603 0x0100 0 0 with objs := fun _ => [.field] }

/-- FIO_RELEASE (R363, R446, R504): RELEASE in one frame with SAFE_CMD clear; it completes when SAFE reads 0. -/
def bodyFioRelease (m : Nat) (s : State) (p : List Byte) : State × Option Reply :=
  if !s.field.linkUp then no s (refuse stState)
  else
    let s1 := recConfig 0 0x0603 p { s with field := { s.field with safeCmd := s.steward.trip, release := true } }
    let r := hold m 0x0603 p [.field] false (if s.field.safe then none else some (okWith [])) s1
    ({ r.1 with gh := { r.1.gh with running := r.1.gh.running.map (fun x => if x.mbx = m then { x with limit := 17 } else x) } },
     r.2)

def execFioRelease (m : Fin 16) (s : State) : Host.Outcome State Fault Refusal :=
  done (command m specFioRelease (bodyFioRelease m)) s

/-- FIO_LINK (R370). -/
def fioLinkWord (s : State) : Nat :=
  b2n s.field.linkUp <<< 31 + b2n s.field.safe <<< 30 + b2n s.field.lplusLow <<< 29 + b2n s.field.inValid <<< 28 +
    b2n (cfgPending s) <<< 27

/-- FIO_READ (R370, R371): the counters clear as they are read. -/
def bodyFioRead (s : State) (_ : List Byte) : State × Option Reply :=
  yes { s with field := { s.field with ctrs := List.replicate 5 Ctr0 } }
    (leBytes 4 (fioLinkWord s) ++ leBytes 4 s.field.inn.toNat ++ leBytes 4 s.field.out.toNat ++ leBytes 4 s.field.rbf.toNat ++
      leBytes 4 s.field.ovl.toNat ++ ctrsBytes s.field.ctrs)

def specFioRead : Spec := { plain 0x0604 0x0100 0 40 with objs := fun _ => [.field] }

def execFioRead (m : Fin 16) (s : State) : Host.Outcome State Fault Refusal := done (command m specFioRead bodyFioRead) s

def specFioClear : Spec := { plain 0x0605 0x0100 8 0 with objs := fun _ => [.field] }

/-- FIO_CLEAR (R370): readback latches clear here, thermal latches at the field die through registers 0xA0 to 0xA3. -/
def bodyFioClear (s : State) (p : List Byte) : State × Option Reply :=
  let ws := (List.range 4).filterMap (fun i => if fld1 p (4 + i) = 0 then none else some (160 + i, BitVec.ofNat 8 (fld1 p (4 + i))))
  yes (recConfig 0 0x0605 p { s with field := { s.field with
    rbf := s.field.rbf &&& ~~~BitVec.ofNat 32 (fld p 0 4), wq := s.field.wq ++ ws } }) []

def execFioClear (m : Fin 16) (s : State) : Host.Outcome State Fault Refusal := done (command m specFioClear bodyFioClear) s

/-! ## TRIG pins -/

/-- Fields of a TRIG_CONFIG entry (R373). -/
def tePin (e : List Byte) : Nat := fld1 e 0 % 16
def teFunc (e : List Byte) : Nat := fld1 e 1 % 4
def teInv (e : List Byte) : Bool := bitOf (fld1 e 1) 7
def tePort (e : List Byte) : Nat := fld1 e 2 % 4
def teWidth (e : List Byte) : Nat := fld e 4 2

/-- The pins with a request's entries applied. -/
def trigsAfter (s : State) (es : List (List Byte)) : Tab TrigPin :=
  es.foldl (fun t e =>
    let old := Tab.get TrigPin0 t (tePin e)
    Tab.set TrigPin0 t (tePin e) ⟨teFunc e, teInv e, tePort e, teWidth e, old.host⟩) s.trigs

/-- Range checks of one entry (R373). -/
def trigEntryChecks (s : State) (es : List (List Byte)) (i : Nat) (e : List Byte) : List (Bool × Nat) :=
  let t := trigsAfter s (es.take (i + 1))
  let c := getCam s (tePort e)
  [(teFunc e != 3 || decide (20 ≤ teWidth e) && (!c.configured || decide (teWidth e * camMaxHz c.cfg < 10 ^ 9)), 8 * i + 4),
   (teFunc e != 3 || decide (((List.range 16).filter (fun n =>
      let x := Tab.get TrigPin0 t n
      x.func == 3 && x.cport == tePort e)).length ≤ 1), 8 * i + 1)]

def specTrigConfig : Spec :=
  { plain 0x0606 0x0100 8 0 with
    lens := .entries 8 16,
    rsv := fun p => (List.range (entries8 p)).flatMap (fun i =>
      [(8 * i, 1, 0xF0), (8 * i + 1, 1, 0x7C), (8 * i + 2, 1, 0xFC), rsvAll (8 * i + 3) 1, rsvAll (8 * i + 6) 2]),
    ranges := fun s p =>
      let es := (List.range (entries8 p)).map (entry8 p)
      rangesOf (es.zipIdx.flatMap (fun x => trigEntryChecks s es x.2 x.1)) }

/-- TRIG_CONFIG (R373). -/
def bodyTrigConfig (s : State) (p : List Byte) : State × Option Reply :=
  let es := (List.range (entries8 p)).map (entry8 p)
  let t := trigsAfter s es
  if es.any (fun e => teFunc e == 3 && !(getCam s (tePort e)).configured) then no s (refuse stState)
  else if (List.range 16).any (fun n =>
      let a := getTrig s n
      let b := Tab.get TrigPin0 t n
      policySelectsTrig s n && (a.func != b.func || a.inv != b.inv)) then no s (refuse stBusySlots)
  else yes (recConfig 0 0x0606 p { s with trigs := t }) []

def execTrigConfig (m : Fin 16) (s : State) : Host.Outcome State Fault Refusal := done (command m specTrigConfig bodyTrigConfig) s

def specTrigSet : Spec :=
  { plain 0x0607 0x0100 8 0 with
    rsv := fun _ => [rsvAll 4 4],
    ranges := fun s p => rangesOf [((List.range 16).all (fun n => !bitOf (fld p 0 2) n || (getTrig s n).func == 1), 0)] }

/-- TRIG_SET (R373). -/
def bodyTrigSet (s : State) (p : List Byte) : State × Option Reply :=
  yes (recConfig 0 0x0607 p { s with trigs := (List.range 16).foldl (fun t n =>
    if bitOf (fld p 0 2) n then Tab.set TrigPin0 t n { Tab.get TrigPin0 t n with host := bitOf (fld p 2 2) n } else t) s.trigs }) []

def execTrigSet (m : Fin 16) (s : State) : Host.Outcome State Fault Refusal := done (command m specTrigSet bodyTrigSet) s

end Sys2Proof.Machine
end

