-- ==== Sys2Proof/Machine/Timebase.lean ====
section
/-! DEFINITION. Sys2Proof/Machine/Timebase.lean: sessions (R495 to R498), the timebase switch (R429), the keystone count and
its role and launch (R403, R404, R408, R270), the wall clock (R409 to R411), and the 10 ns tick.
-/

namespace Sys2Proof.Machine

/-! ## The tick -/

/-- The wall clock after one increment (R409): NANOSECONDS carries into SECONDS at 10^9. -/
def wcTick (t : Timekeeping) : Timekeeping :=
  let f := t.wcNs.toNat * 2 ^ 24 + t.wcFrac.toNat + t.wcInc.toNat
  let c := decide (1000000000 * 2 ^ 24 ≤ f)
  let g := if c then f - 1000000000 * 2 ^ 24 else f
  { t with wcNs := BitVec.ofNat 30 (g / 2 ^ 24), wcFrac := BitVec.ofNat 24 (g % 2 ^ 24),
           wcSec := if c then t.wcSec + 1 else t.wcSec }

/-- Adds signed nanoseconds to the wall clock, carrying or borrowing whole seconds modulo 2^48 (R410). -/
def wcAdd (ns : Int) (t : Timekeeping) : Timekeeping :=
  let x := (t.wcSec.toNat : Int) * 1000000000 + t.wcNs.toNat + ns
  { t with wcSec := BitVec.ofInt 48 (x / 1000000000), wcNs := BitVec.ofNat 30 (x % 1000000000).toNat }

/-- One pending wall-clock write, applied at the tick in the order received (R410). -/
def wcApply (t : Timekeeping) : WcWrite → Timekeeping
  | .inc v => { t with wcInc := v }
  | .step ns => wcAdd ns t
  | .set sec ns => { t with wcSec := BitVec.ofNat 48 sec, wcNs := BitVec.ofNat 30 ns, wcFrac := 0 }

/-- The keystone count after one increment: it sticks at its largest value (R403, R548). -/
def ksTick (t : Timekeeping) : Timekeeping :=
  { t with ks := if 2 ^ 88 ≤ t.ks.toNat + t.ksInc.toNat then BitVec.allOnes 88 else t.ks + t.ksInc.zeroExtend 88 }

/-- One 10 ns tick of timekeeping (R403, R409, R410): pending wall-clock writes, the wall clock, the keystone count with
KEYSTONE_MAX where it sticks (log entry 1, DESIGN CHOICE). -/
def tick (s : State) : State :=
  let t := wcTick (s.time.wcPending.foldl wcApply { s.time with wcPending := [] })
  let s1 := { s with time := ksTick t }
  when_ (decide (2 ^ 88 ≤ t.ks.toNat + t.ksInc.toNat) && t.ks != BitVec.allOnes 88) (post 0x1807 0 0 0 0) s1

/-! ## Sessions -/

/-- The protocol versions of R497 (log entry 34, DEDUCED). -/
def versions : List Nat := [0x0100, 0x0101, 0x0102, 0x0200, 0x0201, 0x0202, 0x0203]

/-- The highest version in both ranges (R497) (log entry 34, DEDUCED). -/
def negotiate (lo hi : Nat) : Option Nat := (versions.filter (fun v => decide (lo ≤ v ∧ v ≤ hi))).getLast?

/-- The next session ID: counting up from 1, skipping 0 (R495). -/
def nextSession (x : BitVec 16) : BitVec 16 := if x + 1 = 0 then 1 else x + 1

/-- The HELLO response (R496). -/
def helloResp (version : Nat) (session : BitVec 16) (prev : BitVec 64) (ks : Nat) : List Byte :=
  leBytes 2 version ++ leBytes 2 session.toNat ++ leBytes 2 0x0100 ++ leBytes 2 0x0203 ++ leBytes 2 0x0302 ++ [2, 0] ++
    leBytes 8 prev.toNat ++ leBytes 8 ks ++ zeros 4

def specHello : Spec := { plain 0x0001 0 16 32 with rsv := fun _ => [(4, 1, 0xFE), rsvAll 5 3] }

/-- HELLO (R495 to R497, R551) (log entry 34, DEDUCED). -/
def bodyHello (s : State) (p : List Byte) : State × Option Reply :=
  if s.gh.session.isSome && !bitOf (fld1 p 4) 0 then no s (refuse stSessionActive)
  else
    match negotiate (fld p 0 2) (fld p 2 2) with
    | none => no s ⟨stVersion, 0, helloResp 0 0 0 0⟩
    | some v =>
      let id := nextSession s.gh.lastSession
      let prev := s.gh.hostId
      let s1 := { s with gh := { s.gh with session := some id, lastSession := id, version := v,
                                           hostId := BitVec.ofNat 64 (fld p 8 8) } }
      yes (when_ (s.rst.rs != 0) (post 0x2805 0 0 s.rst.rs.toNat 0) s1) (helloResp v id prev (now s))

def execHello (m : Fin 16) (s : State) : Host.Outcome State Fault Refusal := done (command m specHello bodyHello) s

def specGoodbye : Spec := plain 0x0002 0x0100 0 0

/-- GOODBYE ends the session (R495). -/
def bodyGoodbye (s : State) (_ : List Byte) : State × Option Reply :=
  yes { s with gh := { s.gh with session := none } } []

def execGoodbye (m : Fin 16) (s : State) : Host.Outcome State Fault Refusal := done (command m specGoodbye bodyGoodbye) s

/-- Bound girders and clusters (R32, R33). -/
def boundGirders (s : State) : Nat := ((List.range 32).filter (fun g => (Tab.get Girder0 s.deck.girders g).bound)).length
def boundClusters (s : State) : Nat := ((List.range 8).filter (fun k => (Tab.get Cluster0 s.deck.clusters k).bound)).length

/-- GET_CAPS response (R33, R498): the grade's, reduced by the units that are fused or removed. -/
def capsResp (s : State) : List Byte :=
  [gradeByte s, 0xB0] ++ leBytes 2 0x0302 ++ [2, 16] ++ leBytes 2 s.span.node.toNat ++ leBytes 1 (boundGirders s) ++
    leBytes 1 (8 * boundClusters s) ++ leBytes 2 (5 * boundGirders s) ++ [24, 8] ++ leBytes 2 (4 * (deckChans s + tollChans s)) ++ [16, 8, 4, 32] ++
    leBytes 2 16384 ++ leBytes 2 4096 ++ leBytes 4 65536 ++ leBytes 2 4096 ++ zeros 2 ++ leBytes 4 (deckMib s) ++
    leBytes 4 (tollMib s) ++ leBytes 4 131072 ++ zeros 20

def specGetCaps : Spec := plain 0x0003 0x0100 0 64

/-- GET_CAPS (R498). -/
def bodyGetCaps (s : State) (_ : List Byte) : State × Option Reply := yes s (capsResp s)

def execGetCaps (m : Fin 16) (s : State) : Host.Outcome State Fault Refusal := done (command m specGetCaps bodyGetCaps) s

/-! ## Timebase -/

def specTimebase : Spec := plain 0x0101 0x0100 0 0

/-- TIMEBASE_SWITCH (R429): `hz` is what the gatehouse measures of REFCLK. -/
def bodyTimebase (hz : Nat) (s : State) (_ : List Byte) : State × Option Reply :=
  if !s.time.internal then yes s []
  else if 95000000 ≤ hz ∧ hz ≤ 105000000 then yes { s with time := { s.time with internal := false } } []
  else no s (refuse stRefclk)

def execTimebaseSwitch (m : Fin 16) (hz : BitVec 32) (s : State) : Host.Outcome State Fault Refusal :=
  done (command m specTimebase (bodyTimebase hz.toNat)) s

def specTimeRead : Spec := plain 0x0102 0x0100 0 24

/-- TIME_READ (R411, R501). -/
def bodyTimeRead (s : State) (_ : List Byte) : State × Option Reply :=
  yes s (leBytes 8 (now s) ++ leBytes 8 s.time.wcSec.toNat ++ leBytes 4 s.time.wcNs.toNat ++ zeros 4)

def execTimeRead (m : Fin 16) (s : State) : Host.Outcome State Fault Refusal := done (command m specTimeRead bodyTimeRead) s

/-- Adds a wall-clock write for the next tick (R410). -/
def wcWrite (w : WcWrite) (s : State) : State := { s with time := { s.time with wcPending := s.time.wcPending ++ [w] } }

def specWcInc : Spec :=
  { plain 0x0103 0x0100 8 0 with
    rsv := fun _ => [rsvAll 4 4],
    ranges := fun _ p => rangesOf [(decide (0x09000000 ≤ fld p 0 4 ∧ fld p 0 4 ≤ 0x0B000000), 0)] }

/-- WC_INC_SET (R410). -/
def bodyWcInc (s : State) (p : List Byte) : State × Option Reply := yes (wcWrite (.inc (BitVec.ofNat 32 (fld p 0 4))) s) []

def execWcIncSet (m : Fin 16) (s : State) : Host.Outcome State Fault Refusal := done (command m specWcInc bodyWcInc) s

def specWcStep : Spec :=
  { plain 0x0104 0x0100 8 0 with
    ranges := fun _ p => rangesOf [(decide (-(2 ^ 40) ≤ sx 64 (fld p 0 8) ∧ sx 64 (fld p 0 8) ≤ 2 ^ 40), 0)] }

/-- WC_STEP (R410). -/
def bodyWcStep (s : State) (p : List Byte) : State × Option Reply := yes (wcWrite (.step (sx 64 (fld p 0 8))) s) []

def execWcStep (m : Fin 16) (s : State) : Host.Outcome State Fault Refusal := done (command m specWcStep bodyWcStep) s

def specWcSet : Spec :=
  { plain 0x0105 0x0100 16 0 with
    rsv := fun _ => [rsvAll 6 2, rsvAll 12 4],
    ranges := fun _ p => rangesOf [(decide (fld p 8 4 ≤ 999999999), 8)] }

/-- WC_SET (R410). -/
def bodyWcSet (s : State) (p : List Byte) : State × Option Reply := yes (wcWrite (.set (fld p 0 6) (fld p 8 4)) s) []

def execWcSet (m : Fin 16) (s : State) : Host.Outcome State Fault Refusal := done (command m specWcSet bodyWcSet) s

/-! ## Keystone role, launch and status -/

/-- A signed nanosecond value in 1/128 ns units, rounded toward minus infinity to whole ns (log entry 65, DEDUCED). -/
def offNs (t : Timekeeping) : Int := t.offset / 128

/-- Leaving LOCKED (R407): a pending launch is cancelled with LAUNCH_ABORT; running crossings go on, with KS_UNLOCKED. -/
def leaveLocked (s : State) : State :=
  let s1 :=
    match s.seq.launchArmed with
    | some l => post 0x250A 0 0 (l.1 % 2 ^ 32) (l.1 / 2 ^ 32) { s with seq := { s.seq with launchArmed := none } }
    | none => s
  when_ s.seq.started (post 0x250B 0 0 (ux 32 (offNs s.time)) 0) s1

/-- Moves the sync state (R405); leaving LOCKED acts under R407. -/
def ksMove (st : KsSt) (s : State) : State :=
  let s1 := when_ (s.time.st == .locked && st != .locked) leaveLocked s
  { s1 with time := { s1.time with st := st, inTol := 0, outTol := 0 } }

/-- The keystone count is synchronised in the sense of R270 (R405) (log entry 65, DEDUCED). -/
def synced (s : State) : Bool := s.time.st == .locked || s.time.role == .grandmaster

/-- The parent port a follower chooses (R404): the fixed port, or the UP port of least distance among those that name
the lowest grandmaster, ties to the lowest port number. -/
def chooseParent (s : State) : Option (Nat × Neigh) :=
  let cand := (List.range 8).filterMap (fun p =>
    let x := getSpan s p
    match x.neigh with
    | some n => if x.st == .up && n.dist != 0xFF then some (p, n) else none
    | none => none)
  match s.time.fixedParent with
  | some f => cand.find? (fun c => c.1 == f)
  | none =>
    let gm := cand.foldl (fun a c => min a c.2.gm) 2048
    (cand.filter (fun c => c.2.gm == gm)).foldl (fun b c =>
      match b with
      | none => some c
      | some x => if c.2.dist < x.2.dist then some c else some x) none

/-- Takes up the parent choice (R404, R405): a follower whose parent port has left UP enters HOLDOVER; one without a
parent starts the 10 ms of R405. -/
def reparent (s : State) : State :=
  if s.time.role != .follower then s
  else
    let c := chooseParent s
    let lost := match s.time.parent with
      | some p => (getSpan s p).st != .up
      | none => false
    let s1 := when_ (lost && (s.time.st == .acquire || s.time.st == .locked)) (ksMove .holdover) s
    { s1 with time := { s1.time with
        parent := c.map (fun x => x.1),
        hops := match c with
          | some x => min 0xFF (x.2.dist + 1)
          | none => 0xFF,
        gm := match c with
          | some x => x.2.gm
          | none => s1.time.gm,
        noParentAt := match c with
          | some _ => none
          | none => s1.time.noParentAt.or (some (now s1)),
        t1 := if c.map (fun x => x.1) = s.time.parent then s1.time.t1 else none } }

/-- The role a ROLE byte names. -/
def ksRole (v : Nat) : KsRole :=
  match v with
  | 1 => .grandmaster
  | 2 => .follower
  | _ => .off

/-- Sets the keystone role (R404, R504): a change of role enters UNSYNC (R405); outside FOLLOWER there is no parent and
KS_INC is exactly 10 ns (R403); a follower chooses its parent, or takes the fixed port, at once (R404). -/
def setRole (role : KsRole) (fixed : Option Nat) (s : State) : State :=
  let s1 := if s.time.role = role then s else ksMove .unsync s
  reparent { s1 with time := { s1.time with
      role := role, fixedParent := fixed,
      parent := if role = .follower then s1.time.parent else none,
      hops := if role = .grandmaster then 0 else if role = .follower then s1.time.hops else 0xFF,
      gm := if role = .grandmaster then s1.span.node.toNat else s1.time.gm,
      ksInc := if role = .follower then s1.time.ksInc else 0x0A000000,
      noParentAt := if role = .follower then s1.time.noParentAt else none } }

def specKsConfig : Spec :=
  { plain 0x0106 0x0200 8 0 with
    rsv := fun _ => [(1, 1, 0x78), rsvAll 2 6],
    ranges := fun _ p => rangesOf [(decide (fld1 p 0 ≤ 2), 0)] }

/-- KS_CONFIG (R404). -/
def bodyKsConfig (s : State) (p : List Byte) : State × Option Reply :=
  yes (setRole (ksRole (fld1 p 0)) (if bitOf (fld1 p 1) 7 then some (fld1 p 1 % 8) else none) s) []

def execKsConfig (m : Fin 16) (s : State) : Host.Outcome State Fault Refusal := done (command m specKsConfig bodyKsConfig) s

/-- The image a launch runs: the present one, else the lowest committed ACTIVE image
(log entry 20, DESIGN CHOICE). -/
def launchImage (s : State) : Option Nat :=
  let ok := fun i => (getImg s i).st == .committed && (getImg s i).img.role == 0
  (if ok s.seq.img then some s.seq.img else none).or ((List.range 16).find? ok)

def specLaunch : Spec := { plain 0x0107 0x0200 8 8 with objs := fun _ => [.sequencer] }

/-- KEYSTONE_LAUNCH (R270, R505) (log entry 58, DESIGN CHOICE). -/
def bodyLaunch (s : State) (p : List Byte) : State × Option Reply :=
  if s.time.internal || !synced s || s.seq.started || s.seq.launchArmed.isSome then no s (refuse stState)
  else if fld p 0 8 < now s + 1000000 then no s (badParam 0)
  else
    match launchImage s with
    | none => no s (refuse stNotFound)
    | some i =>
      yes { s with seq := { s.seq with
        launchArmed := some (fld p 0 8, i), img := i, rated := false,
        rating := (((getImg s i).img.ratings.head?).map (fun r => r.idx)).getD 0,
        crossing := BitVec.allOnes 64, flags := [] } } (leBytes 8 (now s))

def execKeystoneLaunch (m : Fin 16) (s : State) : Host.Outcome State Fault Refusal := done (command m specLaunch bodyLaunch) s

/-- KS_STATUS (R408). -/
def ksStatus (s : State) : Nat :=
  let t := s.time
  let st := match t.st with
    | .unsync => 0
    | .acquire => 1
    | .locked => 2
    | .holdover => 3
  st <<< 30 + b2n (t.role == .grandmaster) <<< 29 + b2n s.seq.launchArmed.isSome <<< 28 + (t.parent.getD 0 % 8) <<< 25 +
    (t.hops % 256) <<< 16 + ux 16 (max (-32767) (min 32767 (offNs t)))

def specKsRead : Spec := plain 0x0108 0x0200 0 16

/-- KS_READ (R408). -/
def bodyKsRead (s : State) (_ : List Byte) : State × Option Reply :=
  yes s (leBytes 4 (ksStatus s) ++ zeros 4 ++ leBytes 8 (now s))

def execKsRead (m : Fin 16) (s : State) : Host.Outcome State Fault Refusal := done (command m specKsRead bodyKsRead) s

end Sys2Proof.Machine
end

