-- ==== Sys2Proof/Machine/Span.lean ====
section
/-! DEFINITION. Sys2Proof/Machine/Span.lean: span links (R375 to R402): bring-up, lane test, frames with replay and credits,
messages and routing, landing, toll copies; and the exchange of stamps that keeps the keystone count (R404, R405).
-/

namespace Sys2Proof.Machine

/-! ## Bring-up (R379 to R383) -/

/-- Lanes chosen from a good-lane mask (R380). -/
def chooseLanes (m : BitVec 4) : BitVec 4 :=
  if m = 0xF then 0xF
  else if m &&& 3 = 3 then 3
  else if m &&& 0xC = 0xC then 0xC
  else if m.getLsbD 0 then 1
  else if m.getLsbD 1 then 2
  else if m.getLsbD 2 then 4
  else if m.getLsbD 3 then 8
  else 0

/-- Lanes set in a mask. -/
def laneCount (m : BitVec 4) : Nat := b2n (m.getLsbD 0) + b2n (m.getLsbD 1) + b2n (m.getLsbD 2) + b2n (m.getLsbD 3)

/-- Bumps counter word `w` of a port (R402). -/
def spBump (w k : Nat) (x : SpanPort) : SpanPort := { x with ctrs := modAt x.ctrs w (fun c => ctrAdd c k) }

/-- Posts an event of a span port. -/
def spPost (code p a0 a1 : Nat) (s : State) : State := post code p (51 + p) a0 a1 s

/-- The alignment markers of a port's four lanes (R376, R379): lane, port, good-lane mask, and TRAIN (0) or LOCKED (1).
A lane repeats its marker; the model sends each once when what it says is set (log entry 116, DESIGN CHOICE). -/
def sendMarkers (p : Nat) (locked : Bool) (s : State) : State :=
  (List.range 4).foldl (fun a i => emit (.spanMarker p (leBytes 1 i ++ leBytes 1 p ++ leBytes 1 (getSpan s p).mask.toNat ++
    leBytes 1 (b2n locked))) a) s

/-- A port goes (back) to TRAIN, keeping its link-layer state, and all its lanes send (R379, R382, R389). -/
def startTrain (p : Nat) (s : State) : State :=
  let x := getSpan s p
  sendMarkers p false <| reparent <| setSpan s p
    { x with
      st := .train, trainAt := now s, lanes := 0, version := 0, neigh := none, test := none, mask := 0,
      lastWidth := if x.st = .up then laneCount x.lanes else x.lastWidth }

/-- A retrain (R382): the lanes that are its cause become bad, and the counter of retrains moves. -/
def retrain (p : Nat) (bad : BitVec 4) (s : State) : State :=
  let x := getSpan s p
  startTrain p (setSpan s p (spBump 7 1 { x with badLanes := x.badLanes ||| bad }))

/-- DEGRADED of the ports and restricted service (R383, R549). -/
def degradedRs (s : State) : State :=
  if (List.range 8).any (fun p => (getSpan s p).degraded) then rsSet 2 s else rsClear 2 s

/-! ## Frames (R386 to R390) -/

/-- The 16-byte frame header and trailer around a payload of whole messages. -/
def spFrame (x : SpanPort) (ftype : Nat) (nak : Bool) (msgs : List Byte) : List Byte :=
  let body := leBytes 1 ftype ++ [0] ++ leBytes 2 (if ftype % 4 = 1 then x.txSeq.toNat else 0) ++
    leBytes 2 (2 ^ 15 + (if nak then 2 ^ 14 + x.rxSeq.toNat else (x.rxSeq - 1).toNat)) ++
    x.rxLimit.flatMap (fun c => leBytes 2 c.toNat) ++ leBytes 2 msgs.length ++ zeros 2 ++ padTo 236 msgs
  body ++ leBytes 4 (crc32 body)

/-- The frame as it is sent, with the error LANE_TEST asks for on one frame of a live link (R384)
(log entry 25, DESIGN CHOICE). -/
def spWire (x : SpanPort) (f : List Byte) : List Byte :=
  match x.inject with
  | none => f
  | some i =>
    let b0 := Config.injectBit x.txSeq.toNat % 2048
    (List.range i.2).foldl (fun g j =>
      let b := (b0 + j) % 2048
      modAt g (b / 8) (fun v => v ^^^ BitVec.ofNat 8 (2 ^ (b % 8)))) f

/-- Sends a NULL frame with the acknowledgement and credits owed (R386, R387). -/
def sendNull (p : Nat) (nak : Bool) (s : State) : State :=
  let x := getSpan s p
  if x.st != .up then s
  else
    emit (.spanFrame p (spWire x (spFrame x 2 nak []))) (setSpan s p { x with rxOwed := 0, creditOwed := false, inject := none })

/-- Sends one DATA frame holding one message, if the class has credit and the replay buffer room (R388, R390). -/
def trySend (p cls : Nat) (msg : List Byte) (s : State) : Option State :=
  let x := getSpan s p
  let n := x.txCount.getD cls 0
  let room := decide (0 < (x.txLimit.getD cls 0 - n).toInt)
  if x.st == .up && room && decide (x.replay.length < 512) then
    let f := spFrame x (4 * cls + 1) false msg
    let x1 := { x with txSeq := x.txSeq + 1, txCount := setAt x.txCount cls (n + 1), rxOwed := 0, creditOwed := false,
                       replay := x.replay ++ [⟨x.txSeq, f, now s, 0⟩], inject := none }
    some (emit (.spanFrame p (spWire x f)) (setSpan s p x1))
  else none

/-- A waiting message as it leaves: version 1 has no VC 1, so it leaves in BULK0 with VC 0 (R399, R400). -/
def asSent (version : Nat) (x : Nat × List Byte) : Nat × List Byte :=
  if version = 1 ∧ x.1 = 2 then (1, leBytes 1 (setBits (fld1 x.2 0) 6 6 0) ++ x.2.drop 1) else x

/-- Sends what waits, in order; a class without credit blocks only itself (R390). -/
def pumpList (p : Nat) : List (Nat × List Byte) → List (Nat × List Byte) → State → State
  | [], kept, s => setSpan s p { getSpan s p with txq := kept }
  | x :: t, kept, s =>
    let v := (getSpan s p).version
    let y := asSent v x
    if kept.any (fun k => (asSent v k).1 == y.1) then pumpList p t (kept ++ [x]) s
    else
      match trySend p y.1 y.2 s with
      | some s1 => pumpList p t kept s1
      | none => pumpList p t (kept ++ [x]) s

def pump (p : Nat) (s : State) : State := pumpList p (getSpan s p).txq [] s

/-- Hands a message to a port, in the class of its type and VC (R391) (log entry 64, DEDUCED). -/
def sendMsg (p : Nat) (msg : List Byte) (s : State) : State :=
  let x := getSpan s p
  let t := fld1 msg 0
  let ctrl := t % 64 == 3 || t % 64 == 4
  let vc := bitOf t 6 && !ctrl
  let m := leBytes 1 (setBits t 6 6 (b2n vc)) ++ msg.drop 1
  pump p (setSpan s p { x with txq := x.txq ++ [((if ctrl then 0 else if vc then 2 else 1), m)] })

/-- Drops acknowledged frames: those up to sequence `a` (R387, R388). -/
def ackTo (a : BitVec 12) (x : SpanPort) : SpanPort :=
  { x with replay := x.replay.filter (fun f => decide (2048 ≤ (a - f.seq).toNat)) }

/-- Resends every unacknowledged frame in order (R388); the eighth replay in a row of one frame retrains (R382). -/
def replayAll (p : Nat) (s : State) : State :=
  let x := getSpan s p
  let fs := x.replay.map (fun f => { f with at_ := now s, replays := f.replays + 1 })
  let s1 := fs.foldl (fun a f => emit (.spanFrame p f.bytes) a)
    (setSpan s p (spBump 6 fs.length { x with replay := fs }))
  if fs.any (fun f => decide (8 ≤ f.replays)) then retrain p x.lanes s1 else s1

/-- Whole messages packed in a frame's payload (R386, R391). -/
def splitMsgs : Nat → List Byte → List (List Byte)
  | 0, _ => []
  | n + 1, b => if b.length < 16 then [] else
      let k := 16 + fld1 b 15
      b.take k :: splitMsgs n (b.drop k)

/-- A received message has left its buffer: the credit of its frame returns with the frame's last message (R390). -/
def freeMsg (p : Nat) (m : RxMsg) (s : State) : State :=
  let x := getSpan s p
  if m.frame = 0 ∨ (x.rxq ++ x.held).any (fun y => y.frame = m.frame) then s
  else setSpan s p { x with rxLimit := modAt x.rxLimit m.cls (· + 1), creditOwed := true }

/-- Loss bookkeeping of a frame that fails its CRC (R382). -/
def crcFail (p : Nat) (s : State) : State :=
  let x := getSpan s p
  let fails := x.crcFails.filter (fun t => decide (now s < t + 1000000)) ++ [now s]
  let s1 := setSpan s p (spBump 5 1 { x with crcFails := fails, nakSent := true })
  let s2 := when_ (!x.nakSent) (sendNull p true) s1
  if 64 < fails.length then retrain p x.lanes s2 else s2

/-- Acknowledgement and credits carried by a good frame (R386 to R390). -/
def takeAck (p : Nat) (f : List Byte) (s : State) : State :=
  let x := getSpan s p
  let ack := fld f 4 2
  let seq := BitVec.ofNat 12 ack
  let x1 := { x with txLimit := (List.range 3).map (fun i => BitVec.ofNat 16 (fld f (6 + 2 * i) 2)) }
  if !bitOf ack 15 then setSpan s p x1
  else if bitOf ack 14 then replayAll p (setSpan s p (ackTo (seq - 1) x1))
  else setSpan s p (ackTo seq x1)

/-- A DATA frame in sequence is accepted: its messages wait for their handling (R387). -/
def acceptData (p : Nat) (f : List Byte) (s : State) : State :=
  let x := getSpan s p
  let cls := bitsOf (fld1 f 0) 3 2
  let msgs := splitMsgs 16 (slice f 16 (fld f 12 2))
  let fno := x.rxNo + 1
  let x1 : SpanPort :=
    { x with rxSeq := x.rxSeq + 1, nakSent := false, rxOwed := x.rxOwed + 1, rxNo := fno,
             rxq := x.rxq ++ msgs.map (fun m => ⟨fno, cls, m⟩) }
  let x2 : SpanPort := if msgs.isEmpty then { x1 with rxLimit := modAt x1.rxLimit cls (· + 1), creditOwed := true } else x1
  when_ (decide (32 ≤ x2.rxOwed)) (sendNull p false) (setSpan s p x2)

/-- SPAN_FRAME_RECEIVE (R386 to R390): CRC, sequence, acknowledgement or NAK, credits, messages. A frame that is discarded
is discarded whole, with the acknowledgement and credits it carries (R387) (log entry 64, DEDUCED). -/
def frameReceive (p : Nat) (f : List Byte) (s : State) : State :=
  let x := getSpan s p
  if x.st != .up || s.replay.mode then s
  else if f.length != 256 || crc32 (f.take 252) != fld f 252 4 || decide (236 < fld f 12 2) then crcFail p s
  else
    let kind := fld1 f 0 % 4
    pump p
      (if kind = 2 then takeAck p f s
      else if kind != 1 || bitsOf (fld1 f 0) 3 2 = 3 then s
      else if BitVec.ofNat 12 (fld f 2 2) = x.rxSeq then takeAck p f (acceptData p f s)
      else when_ (!x.nakSent) (sendNull p true) (setSpan s p { x with nakSent := true }))

def execSpanFrameReceive (p : Fin 8) (frame : List Byte) (s : State) : Host.Outcome State Fault Refusal :=
  done (frameReceive p frame) s

/-- SPAN_REPLAY_TIMEOUT (R388): the oldest unacknowledged frame has waited 10 µs. -/
def replayTimeout (p : Nat) (s : State) : State :=
  match (getSpan s p).replay with
  | f :: _ => if f.at_ + 10000 ≤ now s ∧ (getSpan s p).st = .up then replayAll p s else s
  | [] => s

def execSpanReplayTimeout (p : Fin 8) (s : State) : Host.Outcome State Fault Refusal := done (replayTimeout p) s

/-- SPAN_ACK_TIMER (R386): a NULL frame while acknowledgements or credits are owed. -/
def ackTimer (p : Nat) (s : State) : State :=
  let x := getSpan s p
  when_ (decide (0 < x.rxOwed) || x.creditOwed) (sendNull p false) s

def execSpanAckTimer (p : Fin 8) (s : State) : Host.Outcome State Fault Refusal := done (ackTimer p) s

/-! ## Message headers and routing (R391, R394) -/

def msgType (m : List Byte) : Nat := fld1 m 0 % 64
def msgFin (m : List Byte) : Bool := bitOf (fld1 m 0) 7
def msgDst (m : List Byte) : Nat := fld m 2 2 % 2048
def msgSrc (m : List Byte) : Nat := fld m 4 2 % 2048
def msgData (m : List Byte) : List Byte := slice m 16 (fld1 m 15)

/-- A WRITE or SIGNAL message as the source forms it (R391, R392). -/
def msgHead (typ : Nat) (fin vc : Bool) (dst src flag xno off dlen : Nat) : List Byte :=
  leBytes 1 (b2n fin * 128 + b2n vc * 64 + typ) ++ [63] ++ leBytes 2 dst ++ leBytes 2 src ++ leBytes 2 flag ++ leBytes 4 xno ++
    leBytes 3 off ++ leBytes 1 dlen

/-- The WRITE messages of a SEND (R392): up to 216 bytes each, FIN on the last. -/
def sendMsgs (dst src flag xno : Nat) (data : List Byte) : List (List Byte) :=
  let n := cdiv data.length 216
  (List.range n).map (fun i =>
    let d := slice data (216 * i) 216
    msgHead 1 (decide (i + 1 = n)) false dst src flag xno (216 * i) d.length ++ d)

/-- Routes a message that is here (R394): local delivery, or out by its route entry with TTL decremented; `p` is the port
it came by, 8 for the node's own (log entry 64, DEDUCED). In replay mode landings come from the stream, so a WRITE or
SIGNAL for this node is not delivered (R267, R413). -/
def routeMsg (p : Nat) (m : List Byte) (s : State) : State :=
  let dst := msgDst m
  let deliver := fun (s : State) =>
    if s.replay.mode && msgType m != 5 then s else
    let x := getSpan s 8
    setSpan s 8 { x with rxq := x.rxq ++ [⟨0, 1, m⟩] }
  if dst = s.span.node.toNat then deliver s
  else
    let e := (Tab.get 0 s.span.routes dst).toNat
    let ttl := fld1 m 1 - 1
    let drop := fun (why : Nat) (s : State) =>
      post 0x2505 (p % 8) (51 + p % 8) (msgSrc m * 2 ^ 16 + dst) why (setSpan s p (spBump 8 1 (getSpan s p)))
    if ttl = 0 then drop 0 s
    else if !bitOf e 15 then drop 1 s
    else if bitOf e 3 then deliver s
    else
      let t := if bitOf e 14 then setBits (fld1 m 0) 6 6 1 else fld1 m 0
      sendMsg (e % 8) (leBytes 1 t ++ leBytes 1 ttl ++ m.drop 2) s

/-- Routes a list of messages of the node's own, in order. -/
def routeOwn (ms : List (List Byte)) (s : State) : State := ms.foldl (fun a m => routeMsg 8 m a) s

/-- The oldest waiting message of a port that satisfies `f`, provided it is the first of its class (links keep order,
R392), and the port without it. -/
def takeMsg (p : Nat) (f : List Byte → Bool) (s : State) : Option (RxMsg × State) :=
  let x := getSpan s p
  let first := fun c => x.rxq.find? (fun y => y.cls == c)
  match ([0, 1, 2].filterMap first).find? (fun y => f y.bytes) with
  | some m => some (m, setSpan s p { x with rxq := x.rxq.erase m })
  | none => none

/-- MESSAGE_FORWARD (R394): the next message for another node leaves by its route entry. -/
def messageForward (p : Nat) (s : State) : State :=
  match takeMsg p (fun m => [1, 2, 5].contains (msgType m) && msgDst m != s.span.node.toNat) s with
  | some r => freeMsg p r.1 (routeMsg p r.1.bytes r.2)
  | none => s

def execMessageForward (p : Fin 9) (s : State) : Host.Outcome State Fault Refusal := done (messageForward p) s

/-! ## Landing (R393) -/

/-- The landing buffer of a flag under the running rating. -/
def landingPlace (s : State) (f : Nat) : Option Place := (runRating s).places.find? (fun q => q.tid == f && q.space == 4)

/-- Regions of a half of a landing buffer (R393). -/
def halfRegions (q : Place) (h : Nat) : List Nat :=
  let a := q.addr + h * (q.size / 2)
  (List.range (cdiv (q.size / 2) 65536)).map (fun i => a / 65536 + i)

/-- Gives regions to DECK and sets their flags (R121). -/
def regionsToDeck (rs : List Nat) (s : State) : State :=
  { s with deck := { s.deck with regions := rs.foldl (fun t r => Tab.set Region0 t r ⟨true, true⟩) s.deck.regions } }

/-- Returns regions to APPROACH (R121). -/
def regionsToApproach (rs : List Nat) (s : State) : State :=
  { s with deck := { s.deck with regions := rs.foldl (fun t r => Tab.set Region0 t r Region0) s.deck.regions } }

/-- An approach write into a region owned by DECK is discarded, counted and posted (R122); requester 12 stands for the
span links. -/
def ownFault (region requester : Nat) (s : State) : State :=
  post 0x2105 0 41 region requester { s with deck := { s.deck with cOwn := ctrBump s.deck.cOwn } }

/-- Regions a byte range lies in (R121). -/
def regionsOf (a n : Nat) : List Nat := if n = 0 then [] else (List.range ((a + n - 1) / 65536 + 1 - a / 65536)).map (fun i => a / 65536 + i)

/-- The part of a write that lies in region `r`: its address and its bytes. -/
def regionPart (a : Nat) (bs : List Byte) (r : Nat) : Nat × List Byte :=
  let lo := max a (65536 * r)
  (lo, (bs.drop (lo - a)).take (65536 * (r + 1) - lo))

/-- A write through the abutment approach port (R120 to R122): region by region; what lies in a region owned by DECK is
discarded, but for the data that a duplicate FIN still writes (R393). -/
def approachWrite (requester a : Nat) (bs : List Byte) (force : Bool) (s : State) : State :=
  (regionsOf a bs.length).foldl (fun s0 r =>
    let s := accessDom requester (64 + r / 32) s0
    if (Tab.get Region0 s.deck.regions r).deck && !force then ownFault r requester s
    else
      let x := regionPart a bs r
      { s with deck := { s.deck with abut := memWrite s.deck.abut x.1 x.2 } }) s

/-- Abutment banks behind a range that are not ON (R124). -/
def approachAsleep (s : State) (a n : Nat) : List Nat :=
  (((regionsOf a n).map (fun r => 64 + r / 32)).eraseDups).filter (fun d => !isOn s d)

/-- The first access wakes a bank that is not ON, and the writer stalls until it is ready (R124, R423). -/
def approachWake (requester a n : Nat) (s : State) : State :=
  (approachAsleep s a n).foldl (fun s d => wakeDom d 5 (some requester) s) s

/-- X of R393: the low 32 bits of the present CROSSING_NO, −1 until crossing 0 starts. -/
def xNow (s : State) : BitVec 32 := s.seq.crossing.setWidth 32

/-- LANDING records of a half that has landed (R261, R393) (log entry 36, DESIGN CHOICE). -/
def recLanding (src f : Nat) (crossing : BitVec 64) (bytes : List Byte) (s : State) : State :=
  (List.range (cdiv bytes.length 262072)).foldl (fun a i =>
    recPut 0xB (now s) (leBytes 2 src ++ leBytes 2 f ++ zeros 4 ++ leBytes 8 crossing.toNat ++ slice bytes (262072 * i) 262072) a) s

/-- Where a message for this node would land through the approach port (R393): its address and length; length 0 where it
lands nothing. -/
def landTarget (s : State) (m : List Byte) : Nat × Nat :=
  let xno := BitVec.ofNat 32 (fld m 8 4)
  let off := fld m 12 3
  match landingPlace s (fld m 6 2) with
  | some q =>
    if (!s.seq.started && s.seq.launchArmed.isNone) || decide (2 ≤ (xno - xNow s).toNat) || decide (q.size / 2 < off + fld1 m 15) then (0, 0)
    else (q.addr + xno.toNat % 2 * (q.size / 2) + off, fld1 m 15)
  | none => (0, 0)

/-- The message's bank is not ON (R124, R423). -/
def landAsleep (s : State) (m : List Byte) : Bool := !(approachAsleep s (landTarget s m).1 (landTarget s m).2).isEmpty

/-- The bank of a message that cannot land yet wakes. -/
def landWake (m : List Byte) (s : State) : State := approachWake 12 (landTarget s m).1 (landTarget s m).2 s

/-- What becomes of a WRITE or SIGNAL message for this node (R393); none when it is held (log entry 64, DEDUCED). -/
def landMsg (p : Nat) (m : List Byte) (s : State) : Option State :=
  let f := fld m 6 2
  let xno := BitVec.ofNat 32 (fld m 8 4)
  let diff := xno - xNow s
  let off := fld m 12 3
  let dlen := fld1 m 15
  let bump := fun (w : Nat) (s : State) => setSpan s p (spBump w 1 (getSpan s p))
  if !s.seq.started && s.seq.launchArmed.isNone then some (bump 9 s)
  else if 2 ≤ diff.toNat ∧ diff.toNat < 2 ^ 31 then none
  else if 2 ^ 31 ≤ diff.toNat then some (spPost 0x2506 (p % 8) f xno.toNat (bump 10 s))
  else
    match landingPlace s f with
    | none => some (spPost 0x2508 (p % 8) f off (bump 11 s))
    | some q =>
      if q.size / 2 < off + dlen then some (spPost 0x2508 (p % 8) f off (bump 11 s))
      else
        let h := xno.toNat % 2
        let set := s.seq.flags.contains (f, h)
        let a := q.addr + h * (q.size / 2)
        let s1 := if dlen = 0 then s else approachWrite 12 (a + off) (msgData m) (set && msgFin m) s
        if !msgFin m then some s1
        else if set then some (spPost 0x1507 (p % 8) f xno.toNat (bump 10 s1))
        else
          let s2 := regionsToDeck (halfRegions q h) { s1 with seq := { s1.seq with flags := s1.seq.flags ++ [(f, h)] } }
          some (recLanding (msgSrc m) f (s.seq.crossing + diff.zeroExtend 64) (memRead s2.deck.abut a (q.size / 2)) s2)

/-- A WRITE or SIGNAL message for this node is taken up: landed, discarded or held (R393); it waits where its bank is not ON
(R423), and while a replay runs (R267). -/
def messageIn (typ p : Nat) (s : State) : State :=
  if s.replay.mode then s else
  match takeMsg p (fun m => msgType m == typ && (p == 8 || msgDst m == s.span.node.toNat)) s with
  | none => s
  | some r =>
    if landAsleep s r.1.bytes then landWake r.1.bytes s
    else
    match landMsg p r.1.bytes r.2 with
    | some s1 => freeMsg p r.1 s1
    | none => setSpan r.2 p { getSpan r.2 p with held := (getSpan r.2 p).held ++ [r.1] }

def execWriteMessage (p : Fin 9) (s : State) : Host.Outcome State Fault Refusal := done (messageIn 1 p) s
def execSignalMessage (p : Fin 9) (s : State) : Host.Outcome State Fault Refusal := done (messageIn 2 p) s

/-- Releases of held messages of one port whose crossing is near enough (R244, R393); one whose bank is not ON waits in the
receive buffer again (R423). -/
def releasePort (p : Nat) (s : State) : State :=
  let x := getSpan s p
  let z := x.held.filter (fun m => landAsleep s m.bytes)
  let s0 := z.foldl (fun a m => landWake m.bytes a)
    (if z.isEmpty then s else setSpan s p { x with held := x.held.filter (fun m => !landAsleep s m.bytes), rxq := z ++ x.rxq })
  (getSpan s0 p).held.foldl (fun a m =>
    match landMsg p m.bytes a with
    | some b => freeMsg p m (setSpan b p { getSpan b p with held := (getSpan b p).held.erase m })
    | none => a) s0

def releaseHeld (s : State) : State := if s.replay.mode then s else (List.range 9).foldl (fun a p => releasePort p a) s

/-! ## Toll copies (R398, R399) -/

/-- TOLL_WRITE (R399): into the copy window, or discarded with SPAN_BOUNDS, as every one is while the window is closed;
FIN posts COPY_LANDED. -/
def tollWriteMsg (p : Nat) (s : State) : State :=
  match takeMsg p (fun m => msgType m == 5 && (p == 8 || msgDst m == s.span.node.toNat)) s with
  | none => s
  | some r =>
    let m := r.1.bytes
    let off := fld m 6 6
    let ok := s.span.winMib ≠ 0 ∧ off + fld1 m 15 ≤ s.span.winMib * 2 ^ 20
    let s1 := if ok then tollWrite (s.span.winBase + off) (msgData m) (tollUse 7 r.2)
      else spPost 0x2508 (p % 8) 0xFFFF (off % 2 ^ 32) (setSpan r.2 p (spBump 11 1 (getSpan r.2 p)))
    let s2 := when_ (msgFin m) (spPost 0x150D (p % 8) (fld m 12 3) (msgSrc m)) s1
    freeMsg p r.1 s2

def execTollWrite (p : Fin 9) (s : State) : Host.Outcome State Fault Refusal := done (tollWriteMsg p) s

/-- The messages of a SPAN_COPY (R399). -/
def copyMsgs (dst src id off : Nat) (data : List Byte) : List (List Byte) :=
  let n := cdiv data.length 216
  (List.range n).map (fun i =>
    let d := slice data (216 * i) 216
    leBytes 1 (b2n (decide (i + 1 = n)) * 128 + 64 + 5) ++ [63] ++ leBytes 2 dst ++ leBytes 2 src ++
      leBytes 6 (off + 216 * i) ++ leBytes 3 id ++ leBytes 1 d.length ++ d)

def specSpanCopy : Spec :=
  { plain 0x0C07 0x0200 32 0 with
    rsv := fun _ => [(0, 2, 0xF800), rsvAll 2 2, rsvAll 28 4],
    ranges := fun s p => rangesOf
      [(tollOk s (fld p 8 8) (fld p 24 4), 8), (decide (fld p 16 8 % 8 = 0 ∧ fld p 16 8 < 2 ^ 48), 16),
       (decide (fld p 24 4 % 64 = 0 ∧ 64 ≤ fld p 24 4 ∧ fld p 24 4 ≤ 2 ^ 30), 24)] }

/-- SPAN_COPY (R399): the source completes when its last message has been handed to the stack
(log entry 64, DEDUCED). -/
def bodySpanCopy (m : Nat) (s : State) (p : List Byte) : State × Option Reply :=
  hold m 0x0C07 p [] false (some (okWith []))
    (routeOwn (copyMsgs (fld p 0 2) s.span.node.toNat (fld p 4 4 % 2 ^ 24) (fld p 16 8) (tollRead s (fld p 8 8) (fld p 24 4)))
      (tollUse 7 s))

def execSpanCopy (m : Fin 16) (s : State) : Host.Outcome State Fault Refusal := done (command m specSpanCopy (bodySpanCopy m)) s

def specSpanWindow : Spec :=
  { plain 0x0C06 0x0200 16 0 with
    rsv := fun _ => [rsvAll 12 4],
    ranges := fun s p =>
      let b := fld p 0 8
      let n := fld p 8 4
      rangesOf [(decide (b % 2 ^ 20 = 0), 0), (decide (n ≤ 16384), 8),
        (decide (n = 0) || (tollOk s b (n * 2 ^ 20) && inAlloc s b (n * 2 ^ 20)), 0)] }

/-- SPAN_WINDOW (R398). -/
def bodySpanWindow (s : State) (p : List Byte) : State × Option Reply :=
  yes { s with span := { s.span with winBase := fld p 0 8, winMib := fld p 8 4 } } []

def execSpanWindow (m : Fin 16) (s : State) : Host.Outcome State Fault Refusal := done (command m specSpanWindow bodySpanWindow) s

/-! ## Configuration commands (R384, R395, R412) -/

/-- Nodes that the running crossing table sends to. -/
def tableNodes (s : State) : List Nat :=
  (runRating s).bays.flatMap (fun b => b.cmds.flatMap (fun c =>
    match c with
    | .send n _ _ _ _ => [n]
    | .signal n _ => [n]
    | .collective raw => (List.range (fld raw 4 2)).map (fun i => fld raw 2 2 + i)
    | _ => []))

/-- A port in use by the running crossing table (R412). -/
def portInUse (s : State) (p : Nat) : Bool :=
  (tableNodes s).any (fun n =>
    let e := (Tab.get 0 s.span.routes n).toNat
    n != s.span.node.toNat && bitOf e 15 && !bitOf e 3 && e % 8 == p)

/-- Entry of port `p` in a SPAN_CONFIG request. -/
def spanEntry (p : List Byte) (i : Nat) : List Byte := slice p (8 + 4 * i) 4

/-- Whether an entry leaves a port as it is. -/
def spanSame (x : SpanPort) (e : List Byte) : Bool :=
  x.enabled == bitOf (fld1 e 0) 0 && x.rate == fld1 e 1 && x.vmin == fld1 e 2 && x.vmax == fld1 e 3

def specSpanConfig : Spec :=
  { plain 0x0C01 0x0200 40 0 with
    rsv := fun _ => [(0, 2, 0xF800), rsvAll 3 5] ++ (List.range 8).map (fun i => (8 + 4 * i, 1, 0xFE)),
    ranges := fun _ p => rangesOf ((decide (fld1 p 2 ≤ 2), 2) :: (List.range 8).flatMap (fun i =>
      let e := spanEntry p i
      [(decide (fld1 e 1 ≤ 3), 9 + 4 * i), (decide (1 ≤ fld1 e 2 ∧ fld1 e 2 ≤ 3), 10 + 4 * i),
       (decide (fld1 e 2 ≤ fld1 e 3 ∧ fld1 e 3 ≤ 3), 11 + 4 * i)])),
    objs := fun _ => (List.range 8).map Objt.span }

/-- Takes up one port's entry: enabling leaves DISABLED for TRAIN once the port's domain is ON (R379, R412, R422)
(log entry 64, DEDUCED). -/
def spanApply (i : Nat) (e : List Byte) (s : State) : State :=
  let x := getSpan s i
  if spanSame x e then s
  else
    let x1 := { x with enabled := bitOf (fld1 e 0) 0, rate := fld1 e 1, vmin := fld1 e 2, vmax := fld1 e 3 }
    if !x1.enabled then reparent (setSpan s i { x1 with st := .disabled, lanes := 0, version := 0, neigh := none, test := none })
    else if isOn s (51 + i) then startTrain i (setSpan s i x1)
    else wakeCfg (51 + i) (setSpan s i x1)

/-- SPAN_CONFIG (R412, R504). -/
def bodySpanConfig (s : State) (p : List Byte) : State × Option Reply :=
  let node := BitVec.ofNat 11 (fld p 0 2)
  let busy := s.seq.started && (node != s.span.node ||
    (List.range 8).any (fun i => portInUse s i && !spanSame (getSpan s i) (spanEntry p i)))
  if busy then no s (refuse stBusyRunning)
  else
    let s1 := { s with span := { s.span with node := node } }
    let s2 := setRole (ksRole (fld1 p 2)) s1.time.fixedParent s1
    yes ((List.range 8).foldl (fun a i => spanApply i (spanEntry p i) a) s2) []

def execSpanConfig (m : Fin 16) (s : State) : Host.Outcome State Fault Refusal := done (command m specSpanConfig bodySpanConfig) s

def specSpanRoute : Spec :=
  { plain 0x0C02 0x0200 8 0 with
    lens := .routes,
    rsv := fun p => rsvAll 3 5 :: (List.range (fld1 p 2)).map (fun i => (8 + 2 * i, 2, 0x3FF0)),
    ranges := fun _ p => rangesOf [(decide (1 ≤ fld1 p 2 ∧ fld1 p 2 ≤ 64), 2), (decide (fld p 0 2 + fld1 p 2 ≤ 2048), 0)] }

/-- SPAN_ROUTE (R395) (log entry 64, DEDUCED). -/
def bodySpanRoute (s : State) (p : List Byte) : State × Option Reply :=
  let es := (List.range (fld1 p 2)).map (fun i => (fld p 0 2 + i, fld p (8 + 2 * i) 2))
  if es.any (fun e => bitOf e.2 14 && (getSpan s (e.2 % 8)).version == 1) then no s (refuse stUnsupported)
  else yes { s with span := { s.span with routes := es.foldl (fun t e => Tab.set 0 t e.1 (BitVec.ofNat 16 e.2)) s.span.routes } } []

def execSpanRoute (m : Fin 16) (s : State) : Host.Outcome State Fault Refusal := done (command m specSpanRoute bodySpanRoute) s

/-- A request naming a span port in byte 0. -/
def specPort (op resp : Nat) : Spec :=
  { plain op 0x0200 8 resp with
    rsv := fun _ => [rsvAll 1 7],
    ranges := fun _ p => rangesOf [(decide (fld1 p 0 < 8), 0)],
    objs := fun p => [.span (fld1 p 0)] }

/-- SPAN_RETRAIN (R383). -/
def bodySpanRetrain (s : State) (p : List Byte) : State × Option Reply :=
  if (getSpan s (fld1 p 0)).st = .disabled then no s (refuse stState) else yes (retrain (fld1 p 0) 0 s) []

def execSpanRetrain (m : Fin 16) (s : State) : Host.Outcome State Fault Refusal :=
  done (command m (specPort 0x0C03 0) bodySpanRetrain) s

def specLaneTest : Spec :=
  { plain 0x0C04 0x0200 16 0 with
    rsv := fun _ => [(0, 1, 0xF8), (1, 1, 0xF0), (3, 1, 0xCF), rsvAll 7 9],
    ranges := fun _ p =>
      let inj := bitsOf (fld1 p 3) 5 4
      rangesOf [(decide (fld1 p 2 ≤ 3), 2), (inj != 2 || decide (1 ≤ fld1 p 4), 4),
        (inj != 3 || decide (3 ≤ fld1 p 5 ∧ fld1 p 5 ≤ 12), 5), (decide (fld1 p 6 ≤ 1), 6)],
    objs := fun p => [.span (fld1 p 0)] }

/-- LANE_TEST (R384, R497): in TEST every lane under test sends the chosen pattern, with the errors asked for, and its checker
runs. -/
def bodyLaneTest (s : State) (p : List Byte) : State × Option Reply :=
  let i := fld1 p 0
  let x := getSpan s i
  let inj := bitsOf (fld1 p 3) 5 4
  if x.st = .disabled then no s (refuse stState)
  else if fld1 p 6 = 1 then (if x.st = .test then yes (retrain i 0 s) [] else no s (refuse stState))
  else if x.st = .up ∧ s.gh.version < 0x0203 then no s (refuse stUnsupported)
  else if x.st = .up ∧ (inj = 1 ∨ inj = 2) then
    yes (setSpan s i { x with inject := some (inj, if inj = 1 then 1 else fld1 p 4) }) []
  else
    yes (emit (.spanPattern i (slice p 1 5))
      (reparent (setSpan s i { x with st := .test, lanes := 0, version := 0, neigh := none,
                                      lastWidth := if x.st = .up then laneCount x.lanes else x.lastWidth,
                                      checked := x.checked ||| BitVec.ofNat 4 (fld1 p 1),
                                      test := some ⟨BitVec.ofNat 4 (fld1 p 1), fld1 p 2, inj, fld1 p 4, fld1 p 5⟩ }))) []

def execLaneTest (m : Fin 16) (s : State) : Host.Outcome State Fault Refusal := done (command m specLaneTest bodyLaneTest) s

/-- SP_STATUS (R401). -/
def spStatusWord (x : SpanPort) : Nat :=
  let st := match x.st with
    | .disabled => 0
    | .train => 1
    | .caps => 2
    | .up => 3
    | .test => 4
  let w := match laneCount x.lanes with
    | 0 => 0
    | 1 => 1
    | 2 => 2
    | _ => 3
  b2n (x.st == .up) <<< 31 + st <<< 28 + w <<< 26 + x.lanes.toNat <<< 22 + x.badLanes.toNat <<< 18 + (x.version % 4) <<< 16 +
    (x.rate % 4) <<< 14 + b2n x.degraded <<< 13 + b2n x.peerChanged <<< 12 + x.peerNode.toNat

/-- Words 0 to 3 of port `p`'s counters (R385, R402): the bit errors that the checkers of the lanes under test have counted
since they were last read are free values (log entry 116, DESIGN CHOICE). -/
def laneErrors (p : Nat) (x : SpanPort) : SpanPort :=
  (List.range 4).foldl (fun y i => if x.checked.getLsbD i then spBump i (Config.bitErrors p i x.reads) y else y) x

/-- SPAN_READ (R401, R402): the counters clear as they are read. -/
def bodySpanRead (s : State) (p : List Byte) : State × Option Reply :=
  let x := laneErrors (fld1 p 0) (getSpan s (fld1 p 0))
  yes (setSpan s (fld1 p 0) { x with
      ctrs := List.replicate 12 Ctr0, checked := (x.test.map (fun t => t.lanes)).getD 0, reads := x.reads + 1 })
    (leBytes 4 (spStatusWord x) ++ zeros 4 ++ ctrsBytes x.ctrs)

def execSpanRead (m : Fin 16) (s : State) : Host.Outcome State Fault Refusal :=
  done (command m (specPort 0x0C05 56) bodySpanRead) s

/-! ## Bring-up events -/

/-- This end's CAPS block (R381): node ID, port number, Zhoaris version range and width, in that order
(log entry 116, DESIGN CHOICE). -/
def capsBlock (s : State) (p : Nat) : List Byte :=
  let x := getSpan s p
  leBytes 2 s.span.node.toNat ++ leBytes 1 p ++ leBytes 1 x.vmin ++ leBytes 1 x.vmax ++ leBytes 1 (laneCount x.lanes)

/-- SPAN_WIDTH_CHOSEN (R380, R381): the good lanes found here and the partner's advertised mask choose width and lanes; the
port sends LOCKED markers and its CAPS block. With no lane left training restarts. -/
def widthChosen (p : Nat) (good partner : BitVec 4) (s : State) : State :=
  let x := getSpan s p
  if x.st != .train then s
  else
    let m := good &&& partner &&& ~~~x.badLanes
    if m = 0 then sendMarkers p false (setSpan s p { x with mask := good })
    else
      let s1 := sendMarkers p true (setSpan s p { x with mask := good, lanes := chooseLanes m, st := .caps })
      emit (.spanCaps p (capsBlock s1 p)) s1

def execSpanWidthChosen (p : Fin 8) (good partner : BitVec 4) (s : State) : Host.Outcome State Fault Refusal :=
  done (widthChosen p good partner) s

/-- A NEIGHBOR message of this node on port `p` (R391). -/
def neighborMsg (s : State) (p : Nat) : List Byte :=
  msgHead 4 true false 0 s.span.node.toNat 0 0 0 8 ++ leBytes 2 s.time.gm ++ leBytes 1 s.time.hops ++ leBytes 1 p ++ zeros 4

/-- Another peer on the port (R389): the replay buffer is discarded, sequences and credits start again, and every message
discarded counts as lost. What waits unsent goes to the new peer; what was received still lands, and its credits are no
longer owed (log entry 64, DEDUCED). -/
def newPeer (x : SpanPort) : SpanPort :=
  let keep (l : List RxMsg) : List RxMsg := l.map (fun m => { m with frame := 0 })
  spBump 8 x.replay.length
    { x with replay := [], txSeq := 0, rxSeq := 0, nakSent := false, txCount := [0, 0, 0],
             txLimit := [32, 224, 224], rxLimit := [32, 224, 224], rxOwed := 0, creditOwed := false, rxq := keep x.rxq,
             held := keep x.held }

/-- SPAN_CAPS (R381, R383, R389, R400): agreeing widths bring the port UP with the highest common version. -/
def capsIn (p : Nat) (c : SpanCaps) (s : State) : State :=
  let x := getSpan s p
  if x.st != .caps || laneCount x.lanes != c.width.toNat then s
  else
    let v := min x.vmax c.vmax.toNat
    if v < max x.vmin c.vmin.toNat then
      spPost 0x2504 p c.vmin.toNat c.vmax.toNat (startTrain p s)
    else
      let changed := x.hadPeer && (x.peerNode != c.node || x.peerPort != c.port.val)
      let w := laneCount x.lanes
      let deg := decide (w < x.lastWidth) || (decide (w < 4) && x.badLanes != 0)
      let x1 := if changed then { newPeer x with peerChanged := true } else x
      let x2 := { x1 with st := .up, version := v, peerNode := c.node, peerPort := c.port.val, hadPeer := true, degraded := deg,
                          failPosted := false, lastWidth := w, crcFails := [], neighAt := now s }
      let s1 := when_ changed (spPost 0x1503 p x.peerNode.toNat c.node.toNat) (setSpan s p x2)
      let s2 := when_ deg (spPost 0x2502 p x.lanes.toNat x.badLanes.toNat) s1
      pump p (sendMsg p (neighborMsg s p) (degradedRs s2))

def execSpanCaps (p : Fin 8) (caps : SpanCaps) (s : State) : Host.Outcome State Fault Refusal := done (capsIn p caps) s

/-- SPAN_TRAIN_TIMEOUT (R381): 2 ms after TRAIN the port starts over; the event is posted once until it has been UP
(log entry 32, DESIGN CHOICE). -/
def trainTimeout (p : Nat) (s : State) : State :=
  let x := getSpan s p
  if (x.st = .train ∨ x.st = .caps) ∧ x.trainAt + 2000000 ≤ now s then
    let s1 := when_ (!x.failPosted) (spPost 0x2501 p x.mask.toNat 0) s
    startTrain p (setSpan s1 p (spBump 7 1 { x with failPosted := true }))
  else s

def execSpanTrainTimeout (p : Fin 8) (s : State) : Host.Outcome State Fault Refusal := done (trainTimeout p) s

/-- SPAN_LOCK_LOSS (R377, R382): lanes in use that lost lock become bad, and the port retrains
(log entry 117, DESIGN CHOICE). -/
def lockLoss (p : Nat) (lanes : BitVec 4) (s : State) : State :=
  let x := getSpan s p
  let l := lanes &&& x.lanes
  if x.st != .up || l = 0 then s else retrain p l (setSpan s p (spBump 4 (laneCount l) x))

def execSpanLockLoss (p : Fin 8) (lanes : BitVec 4) (s : State) : Host.Outcome State Fault Refusal := done (lockLoss p lanes) s

/-! ## Keystone exchange (R404, R405) -/

/-- NEIGHBOR (R404): what the neighbour reports, the parent choice, and two grandmasters. -/
def neighborIn (p : Nat) (s : State) : State :=
  match takeMsg p (fun m => msgType m == 4) s with
  | none => s
  | some r =>
    let d := msgData r.1.bytes
    let n : Neigh := ⟨fld d 0 2 % 2048, fld1 d 2, fld1 d 3⟩
    let s1 := freeMsg p r.1 (setSpan r.2 p { getSpan r.2 p with neigh := some n })
    let s2 := reparent s1
    let gms := (List.range 8).filterMap (fun i => ((getSpan s2 i).neigh.filter (fun x => x.dist != 0xFF)).map (fun x => x.gm))
    let two := gms.any (fun g => gms.any (fun h => g != h))
    let other := (gms.filter (fun g => g != s2.time.gm)).foldl max 0
    let s3 := { s2 with time := { s2.time with conflict := two && s2.time.role == .follower } }
    when_ (two && !s.time.conflict && s2.time.role == .follower) (spPost 0x1509 p s2.time.gm other) s3

def execNeighborMsg (p : Fin 8) (s : State) : Host.Outcome State Fault Refusal := done (neighborIn p) s

/-- `per` ns of the count have passed since `t` (a step of R405 may have moved the count back). -/
def passed (t per : Nat) (s : State) : Bool := decide (now s < t) || decide (t + per ≤ now s)

/-- NEIGHBOR_SEND (R391): each UP port sends NEIGHBOR every 1 ms. -/
def neighborSend (s : State) : State :=
  (List.range 8).foldl (fun a p =>
    let x := getSpan a p
    if x.st = .up ∧ passed x.neighAt 1000000 s then sendMsg p (neighborMsg a p) (setSpan a p { x with neighAt := now s }) else a) s

def execNeighborSend (s : State) : Host.Outcome State Fault Refusal := done neighborSend s

/-- A stamp in 1/64 ns of the count (R400, R404). -/
def stamp64 (s : State) : Nat := s.time.ks.toNat / 2 ^ 18

/-- SYNC_EXCHANGE (R404), every 100,000 ns of the own count: SYNC blocks leave on every UP port, stamped t3 on the parent port
and t1 on the others (log entry 64, DEDUCED). -/
def syncExchange (s : State) : State :=
  if !((s.time.lastExch.map (fun t => passed t 100000 s)).getD true) then s else
  (List.range 8).foldl (fun a p =>
    let x := getSpan a p
    if x.st != .up || a.time.role == .off then a
    else if a.time.role == .follower && a.time.parent == some p then
      emit (.sync p) { a with time := { a.time with t3 := stamp64 a, exchNo := (a.time.exchNo + 1) % 2 ^ 16 } }
    else emit (.sync p) (setSpan a p { x with tx1 := stamp64 a }))
    { s with time := { s.time with lastExch := some (now s) } }

def execSyncExchange (s : State) : Host.Outcome State Fault Refusal := done syncExchange s

/-- A SYNC_FU message: exchange number in FLAG, the 56-bit stamp in XNO and OFFSET (R391). -/
def syncFu (src exch stamp : Nat) : List Byte := msgHead 3 true false 0 src exch (stamp % 2 ^ 32) (stamp / 2 ^ 32 % 2 ^ 24) 0

/-- A stamp as a link of the given version carries it: 1/64 ns at version 3, else whole ns (R400). -/
def wireStamp (version t : Nat) : Nat := (if version = 3 then t else t / 64) % 2 ^ 56

/-- SYNC_BLOCK (R404): stamped t2 on the follower; on the parent t4, answered with t1 and then t4 in SYNC_FU messages. -/
def syncBlock (p : Nat) (s : State) : State :=
  let x := getSpan s p
  if x.st != .up || s.time.role == .off then s
  else if s.time.role == .follower && s.time.parent == some p then { s with time := { s.time with t2 := stamp64 s } }
  else
    let e := (x.exch + 1) % 2 ^ 16
    let s1 := setSpan s p { x with exch := e }
    sendMsg p (syncFu s.span.node.toNat e (wireStamp x.version (stamp64 s)))
      (sendMsg p (syncFu s.span.node.toNat e (wireStamp x.version x.tx1)) s1)

def execSyncBlock (p : Fin 8) (s : State) : Host.Outcome State Fault Refusal := done (syncBlock p) s

/-- A difference of two 56-bit stamps, signed. -/
def stampDiff (a b : Nat) : Int := sx 56 ((a + 2 ^ 56 - b % 2 ^ 56) % 2 ^ 56)

/-- A completed exchange (R404, R405): the offset, in 1/128 ns, then a step or a slew of at most 50 ns per exchange, and
the sync state (log entry 65, DEDUCED). -/
def exchangeDone (off : Int) (s : State) : State :=
  let t := s.time
  let inTol := if off.natAbs ≤ 4 * 128 then t.inTol + 1 else 0
  let outTol := if 16 * 128 < off.natAbs then t.outTol + 1 else 0
  let first := t.st == .unsync || t.st == .holdover
  let s1 := { s with time := { t with offset := off, lastFu := now s } }
  if (first || t.st == .acquire) && decide (1000 * 128 < off.natAbs) && !s.seq.started && s.seq.launchArmed.isNone then
    let step := -off / 128
    let s2 := { s1 with time := { s1.time with ks := BitVec.ofInt 88 ((t.ks.toNat : Int) - off * 2 ^ 17), st := .acquire,
                                               inTol := 0, outTol := 0, ksInc := 0x0A000000 } }
    post 0x150C 0 0 (ux 64 step % 2 ^ 32) (ux 64 step / 2 ^ 32) s2
  else
    let corr := max (-(50 * 128)) (min (50 * 128) off)
    let inc := BitVec.ofInt 32 (0x0A000000 - corr * 2 ^ 17 / 10000)
    let s2 := { s1 with time := { s1.time with ksInc := inc } }
    let s3 :=
      if first then ksMove .acquire s2
      else if t.st == .locked && decide (4 ≤ outTol) then ksMove .acquire s2
      else if t.st == .acquire && decide (16 ≤ inTol) then ksMove .locked s2
      else s2
    if s3.time.st = t.st then { s3 with time := { s3.time with inTol := inTol, outTol := outTol } }
    else { s3 with time := { s3.time with inTol := if first then b2n (decide (0 < inTol)) else 0 } }

/-- SYNC_FU (R404): the follower takes t1, then t4, of an exchange from its parent, and computes the offset. -/
def syncFuIn (p : Nat) (s : State) : State :=
  match takeMsg p (fun m => msgType m == 3) s with
  | none => s
  | some r =>
    let s1 := freeMsg p r.1 r.2
    if s.time.role != .follower || s.time.parent != some p then s1
    else
      let s1 := { s1 with time := { s1.time with lastFu := now s } }
      let m := r.1.bytes
      let st := fld m 8 4 + 2 ^ 32 * fld m 12 3
      let t := if (getSpan s p).version = 3 then st else st * 64 % 2 ^ 56
      match s1.time.t1 with
      | none => { s1 with time := { s1.time with t1 := some t } }
      | some t1 =>
        exchangeDone (stampDiff (s1.time.t2 % 2 ^ 56) t1 - stampDiff t (s1.time.t3 % 2 ^ 56))
          { s1 with time := { s1.time with t1 := none } }

def execSyncFu (p : Fin 8) (s : State) : Host.Outcome State Fault Refusal := done (syncFuIn p) s

/-- KS_HOLDOVER_TIMEOUT (R405): no SYNC_FU for 1 ms. -/
def holdoverTimeout (s : State) : State :=
  if s.time.role = .follower ∧ (s.time.st = .acquire ∨ s.time.st = .locked) ∧ s.time.lastFu + 1000000 ≤ now s then
    ksMove .holdover s
  else s

def execKsHoldoverTimeout (s : State) : Host.Outcome State Fault Refusal := done holdoverTimeout s

/-- KS_PARENT_TIMEOUT (R405): no parent for 10 ms. -/
def parentTimeout (s : State) : State :=
  match s.time.noParentAt with
  | some t => if s.time.role = .follower ∧ t + 10000000 ≤ now s then ksMove .unsync s else s
  | none => s

def execKsParentTimeout (s : State) : Host.Outcome State Fault Refusal := done parentTimeout s

end Sys2Proof.Machine
end

