-- ==== Sys2Proof/Machine/Ramp.lean ====
section
/-! DEFINITION. Sys2Proof/Machine/Ramp.lean: what a ramp does with an output line (R300 to R308, R317 to R321): background,
objects, detection, samples, packing, bands; its commands; sample writes and band completion.
-/

namespace Sys2Proof.Machine

/-! ## The lot record (R264) -/

/-- Committed images in index order. -/
def committedImages (s : State) : List Nat := (List.range 16).filter (fun i => (getImg s i).st == .committed)

/-- The payload of a LOT record. -/
def lotRecord (s : State) : List Byte :=
  let im := committedImages s
  leBytes 8 s.rec_.lotId.toNat ++ leBytes 2 s.span.node.toNat ++ [gradeByte s, 0xB0] ++ leBytes 2 0x0302 ++ leBytes 2 2 ++
    (List.range 4).flatMap (fun p => leBytes 4 (Tab.get 0 s.slots.epochs p).toNat) ++
    (List.range 4).flatMap (fun p => leBytes 8 (s.rec_.seqStart.getD p 0).toNat) ++
    leBytes 1 im.length ++ zeros 7 ++ leBytes 8 s.rec_.lotKey.toNat ++ zeros 48 ++
    im.flatMap (fun i => leBytes 8 (getImg s i).img.modelId ++ leBytes 4 (getImg s i).img.version ++ zeros 4 ++
      padTo 32 (getImg s i).meas)

/-- Writes a LOT record; image indices of the stream follow its entries from here on (R264). -/
def recLot (s : State) : State :=
  recPut 1 (now s) (lotRecord s) { s with rec_ := { s.rec_ with lotImgs := (committedImages s).map some } }

/-! ## Bands -/

/-- The STREAM section of the running image, and the packed input tensor and its placement for a port (R316). -/
def streamOf (s : State) : List Byte := (runImage s).stream
def packId (s : State) (p : Nat) : Nat := Config.streamTensor (streamOf s) p
def TRec0 : TRec := ⟨.uint8, false, 0, 0, 0, 0, 0, 0, 0⟩
def packTensor (s : State) (p : Nat) : TRec := ((runImage s).tensors[packId s p]?).getD TRec0
def Place0 : Place := ⟨0, false, 1, 0, 0, 0⟩
def placeOf (r : Rating) (tid : Nat) : Place := (r.places.find? (fun q => q.tid == tid)).getD Place0

/-- Byte address of band buffer `b` of a port in abutment memory (R248; log entry 10, DEDUCED). -/
def bandAddr (s : State) (p b : Nat) : Nat :=
  let q := placeOf (runRating s) (packId s p)
  q.addr + b * q.size

/-- Size of a band buffer (log entry 10, DEDUCED). -/
def bandSize (s : State) (p : Nat) : Nat := (placeOf (runRating s) (packId s p)).size

/-- Changes a band. -/
def updBand (p no : Nat) (f : Band → Band) (s : State) : State :=
  { s with bands := s.bands.map (fun b => if b.cport = p ∧ b.no = no then f b else b) }

/-- A band of a port. -/
def getBand (s : State) (p no : Nat) : Option Band := s.bands.find? (fun b => b.cport == p && b.no == no)

/-- The next band buffer of a port's ring, where it is free (R248). -/
def freeBuffer (s : State) (p : Nat) : Option Nat :=
  let k := Tab.get 0 s.seq.bufNext p % max 1 (runRating s).buffers
  if (runRating s).buffers = 0 || s.bands.any (fun b => b.cport == p && b.buffer == some k) then none else some k

/-- The ring moves past a buffer that a band took (R248). -/
def nextBuffer (s : State) (p : Nat) : Tab Nat := Tab.set 0 s.seq.bufNext p ((Tab.get 0 s.seq.bufNext p + 1) % max 1 (runRating s).buffers)

/-- The toll requester number of the ramps (R458). -/
def rampRequester : Nat := 4

/-- The first row of a band arrives (R248): it takes the next buffer of the ring, whose gap columns and empty rows read zero
(R319), or it is unbuffered for its whole length. A buffer in a bank that is not ON is cleared once the bank is awake (R124,
R423). `r0` is the port's ramp before that row. -/
def startBand (p no : Nat) (r0 : Ramp) (s : State) : State :=
  if (getBand s p no).isSome then s
  else
    let k := freeBuffer s p
    let b : Band := ⟨p, no, k, false, false, 0, [], 0, 0, false, 0, [], false, false, false, Tab.get 0 s.slots.seqs p,
      (k.map (bandAddr s p)).getD 0, bandSize s p, rampSnap r0⟩
    let s1 := { s with bands := s.bands ++ [b] }
    match k with
    | some j =>
      let a := bandAddr s p j
      let s2 := { s1 with seq := { s1.seq with bufNext := nextBuffer s p } }
      if (approachAsleep s a (bandSize s p)).isEmpty then approachWrite rampRequester a (zeros (bandSize s p)) false s2
      else approachWake rampRequester a (bandSize s p) (updBand p no (fun b => { b with writes := [[(a, zeros (bandSize s p))]] }) s2)
    | none => s1

/-! ## Samples (R307, R308, R317 to R321) -/

/-- SAMPLE_NO of a view of a part (R151). -/
def sampleNo (part : BitVec 64) (view : Nat) : Nat := (part.toNat % 2 ^ 50 * 32 + view) % 2 ^ 64

/-- The crop's columns (R307): first and last kept column. -/
def cropCols (c : List Byte) (roiW : Nat) (o : Obj) : Nat × Nat :=
  if rmpCut c then (o.c0, o.c1) else (o.c0 - rmpMarginX c, min (roiW - 1) (o.c1 + rmpMarginX c))

/-- The crop's output lines (R307). -/
def cropLines (c : List Byte) (r : Ramp) (o : Obj) : List OutLine :=
  let my := if rmpCut c then 0 else rmpMarginY c
  r.lines.filter (fun l =>
    match l.no with
    | some n => decide (o.first - my ≤ n ∧ n ≤ o.last + my)
    | none => false)

/-- The crop's samples: lines by planes by columns. -/
def cropPx (cols : Nat × Nat) (ls : List OutLine) : List (List (List Nat)) :=
  ls.map (fun l => l.px.map (fun pl => (pl.drop cols.1).take (cols.2 + 1 - cols.1)))

/-- The segment list entry of a sample placed at X0 (R320). -/
def segOf (c : List Byte) (p x0 view : Nat) (part : BitVec 64) (h : Nat × Nat) (t : Slot) : Seg :=
  ⟨x0, segW c, segH c, sampleNo part view, vpConfLo t.pol, vpConfHi t.pol, vpViews t.pol, h.1, h.2, t.latX0.toNat,
    t.latX1.toNat, p, 0⟩

/-- Stores a crop in the port's crop ring, which overwrites the oldest (R321) (log entry 26, DESIGN CHOICE). -/
def storeCrop (p : Nat) (x : Crop) (s : State) : State :=
  let r := getRamp s p
  let cap := 1024 * ((r.cfg.map rmpCropKib).getD 0)
  let l := x :: r.crops
  let keep := (l.foldl (fun (st : List Crop × Nat × Bool) y =>
    let n := st.2.1 + y.size
    if st.2.2 && decide (n ≤ cap) then (st.1 ++ [y], n, true) else (st.1, n, false)) ([], 0, true)).1
  setRamp s p { r with crops := keep }

/-- Counts an event in one of the ramp's counter words (R323). -/
def rmpCount (p w : Nat) (s : State) : State :=
  let r := getRamp s p
  setRamp s p { r with ctrs := modAt r.ctrs w ctrBump }

/-- A sample that is not packed: its slot's primary job is complete (R44). -/
def unpacked (h : Option (Nat × Nat)) (mark : Bool) (s : State) : State :=
  match h with
  | some x => primaryDone x.1 (if mark then markCorrupt x.1 s else s)
  | none => s

/-- A corrupt sample or one without a slot closes the band's current row if it holds a segment (R318). -/
def closeRow (rowW : Nat) (b : Band) : Band := if b.used then { b with row := b.row + rowW, used := false } else b

/-- Packs a good sample (R317 to R319, R321) (log entry 61, DEDUCED). -/
def packSample (p no : Nat) (c : List Byte) (o : Obj) (h : Nat × Nat) (px : List (List (List Nat))) (s : State) : State :=
  match getBand s p no with
  | none => unpacked (some h) false s
  | some b =>
    let st := streamOf s
    let rowW := Config.streamRowW st p
    let rows := Config.streamRows st p
    let ws := segW c
    let place := if 1024 ≤ b.segs.length ∨ 0 < b.refused then none
      else placeSeg (max 1 (Config.streamStride st p)) rowW rows (rows + 1) b.e b.row ws
    match place with
    | none => rmpCount p 2 (unpacked (some h) true (updBand p no (fun b => { b with refused := b.refused + 1 }) s))
    | some xr =>
      let t := getSlot s h.1
      let no0 := sampleNo o.partId 0
      let codes := sampleCodes c (viewPar c 0 no0) px
      let ws0 := match b.buffer with
        | some _ => [(sampleWrites (packTensor s p) xr.1 codes.1).map (fun w => (b.addr + w.1, w.2))]
        | none => []
      let sg := segOf c p xr.1 0 o.partId h t
      let s1 := updBand p no (fun b => { b with
        segs := b.segs ++ [sg], e := xr.1 + max ws (Config.streamSpacing st p), row := xr.2, used := true,
        writes := b.writes ++ ws0 }) s
      let s2 := if codes.2 && b.buffer.isSome then rmpCount p 4 s1 else s1
      if 1 ≤ vpViews t.pol then
        storeCrop p ⟨h.1, h.2, px, Config.cropBytes (px.foldl (fun a l => a + l.foldl (fun a q => a + q.length) 0) 0), sg⟩ s2
      else s2

/-- The sample of object `o` closes on line `n` (R307, R308, R317, R318). -/
def closeSample (p n : Nat) (c : List Byte) (o : Obj) (s : State) : State :=
  let r := getRamp s p
  let ls := cropLines c r o
  let bad := ls.any (fun l => l.crc || l.trunc || l.lost)
  let s1 := if bad then rmpCount p 0 s else s
  let s2 := if o.truncated then rmpCount p 1 s1 else s1
  if !rmpPack c || !portRuns s2 p then unpacked o.slot (bad || o.truncated) s2
  else
    let no := n / (runRating s2).bandLines
    let rowW := Config.streamRowW (streamOf s2) p
    if bad || o.truncated then unpacked o.slot true (updBand p no (closeRow rowW) s2)
    else
      match o.slot with
      | none => updBand p no (closeRow rowW) s2
      | some h => packSample p no c o h (cropPx (cropCols c (camRoiW (getCam s2 p).cfg) o) ls) s2

/-! ## Detection and closing (R304 to R306) -/

/-- An object is detected: the next part ID, a LOT record at an epoch increment (R264), and a slot (R36, R42, R304). -/
def detectObj (p : Nat) (o : Obj) (s : State) : State × Obj :=
  let q := nextPart p s
  let s1 := if q.2.slots.epochs = s.slots.epochs then q.2 else recLot q.2
  let roi := camRoiX0 (getCam s p).cfg
  let pos := o.firstPos + (getPu s1 (vpPu (getPolicy s1 p).raw)).cumCorr
  let r := openSlot p q.1 pos (roi + o.c0) (roi + o.c1) s1
  (r.1, { o with detected := true, partId := q.1, slot := r.2 })

/-- Puts an object back into a port's table. -/
def putObj (p i : Nat) (o : Obj) (s : State) : State :=
  let r := getRamp s p
  setRamp s p { r with objs := setAt r.objs i o }

/-- Detects the objects at the given places of the table, in that order. -/
def detectAll (p : Nat) (is : List Nat) (s : State) : State :=
  is.foldl (fun s i =>
    match (getRamp s p).objs[i]? with
    | some o =>
      let r := detectObj p o s
      putObj p i r.2 r.1
    | none => s) s

/-- Places of the objects that meet a condition, in ascending first column. -/
def objsBy (f : Obj → Bool) (objs : List Obj) : List Nat :=
  (isort (fun a b => decide (a.1.c0 < b.1.c0)) (objs.zipIdx.filter (fun q => f q.1))).map (fun q => q.2)

/-- LAT_X0 and LAT_X1 of a slot follow its object (R304). -/
def followLat (p : Nat) (o : Obj) (s : State) : State :=
  match o.slot with
  | none => s
  | some h =>
    let t := getSlot s h.1
    let roi := camRoiX0 (getCam s p).cfg
    if t.st = .free ∨ t.gen.toNat ≠ h.2 then s
    else setSlot s h.1 { t with latX0 := BitVec.ofNat 16 (roi + o.c0), latX1 := BitVec.ofNat 16 (roi + o.c1) }

/-- An object at the end of line `n` (R305, R307): closing, truncation, the end of absorption. -/
def endOfLine (c : List Byte) (n : Nat) (o : Obj) : Obj :=
  let gy := rmpGapY c
  let o1 := { o with recent := o.recent.filter (fun q => decide (n ≤ q.line + gy)) }
  if o.closed then (if o.absorb && o1.recent.isEmpty then { o1 with absorb := false } else o1)
  else if o.last = n ∧ rmpMaxLines c ≤ n + 1 - o.first then
    { o1 with closed := true, truncated := true, absorb := true, closeLine := o.last + max (rmpMarginY c) (gy + 1),
              emitted := !o.detected }
  else if o.last + gy + 1 ≤ n then
    { o1 with closed := true, closeLine := o.last + max (rmpMarginY c) (gy + 1), emitted := !o.detected }
  else o1

/-- Closes the samples due on line `n`, in close order (R317): ascending LAT_X0, then ascending sequence. -/
def closeDue (p n : Nat) (c : List Byte) (s : State) : State :=
  let due := (getRamp s p).objs.zipIdx.filter (fun q => q.1.closed && !q.1.emitted && decide (q.1.closeLine ≤ n))
  let ord := isort (fun (a b : Obj × Nat) => decide (a.1.c0 < b.1.c0 ∨ (a.1.c0 = b.1.c0 ∧ a.1.partId.toNat < b.1.partId.toNat))) due
  ord.foldl (fun s q => putObj p q.2 { q.1 with emitted := true } (closeSample p n c q.1 s)) s

/-- Objects and lines that are still needed after line `n` (R305, R307): the previous 256 lines and those of every object
whose sample is open. -/
def tidy (p n : Nat) (c : List Byte) (s : State) : State :=
  let r := getRamp s p
  let objs := r.objs.filter (fun o => !o.emitted || o.absorb)
  let from_ := objs.foldl (fun a o => if o.emitted then a else min a (o.first - rmpMarginY c)) (n + 1 - 256)
  setRamp s p { r with objs := objs, lines := r.lines.filter (fun l => decide (from_ ≤ l.no.getD 0)) }

/-- OBJ_FULL starts its release once the table has room again (R68). -/
def objRoom (p : Nat) (s : State) : State :=
  let r := getRamp s p
  if r.objFull && r.objFullRel.isNone && decide ((r.objs.filter objOpen).length < 512) then
    let pol := (getPolicy s p).raw
    setRamp s p { r with objFullRel := some ((getPu s (vpPu pol)).high + BitVec.ofNat 40 (vpEject pol)) }
  else s

/-- Runs not tracked (R303): counted, posted, and OBJ_FULL set. -/
def objOverflow (p n k : Nat) (s : State) : State :=
  (List.range k).foldl (fun s _ =>
    let s1 := rmpCount p 3 s
    post 0x2304 p 50 (n % 2 ^ 32) 0 (setRamp s1 p { getRamp s1 p with objFull := true, objFullRel := none })) s

/-- DETECT mode: the runs of line `n` (R303 to R305) (log entry 61, DEDUCED). -/
def detectLine (p n : Nat) (c : List Byte) (l : OutLine) (runs : List Run) (s : State) : State :=
  let r := getRamp s p
  let q := takeRuns (rmpGapY c) (l.pos - l.corr) r.objs runs r.objs
  let s1 := objOverflow p n q.2 (setRamp s p { r with objs := q.1 })
  let s2 := q.1.foldl (fun s o => if o.detected && !o.closed && o.last == n then followLat p o s else s) s1
  let s3 := detectAll p (objsBy (fun o => !o.detected && !o.closed && o.last == n && decide (rmpDetLines c ≤ o.lines) &&
    decide (rmpDetArea c ≤ o.area)) (getRamp s2 p).objs) s2
  let r3 := getRamp s3 p
  setRamp s3 p { r3 with objs := r3.objs.map (endOfLine c n) }

/-- CUT mode: the lanes of a new web segment, each detected on its first line (R306). -/
def cutLine (p n : Nat) (c : List Byte) (l : OutLine) (s : State) : State :=
  if n % rmpCutLines c = 0 then
    let r := getRamp s p
    let k := r.objs.length
    let last := n + rmpCutLines c - 1
    let lane (j : Nat) : Obj :=
      let x := rmpCutX0 c + j * rmpCutW c
      ⟨n, l.pos - l.corr, last, x, x + rmpCutW c - 1, 0, 0, [], false, 0, none, true, false, last, false, false⟩
    let s1 := setRamp s p { r with objs := r.objs ++ (List.range (rmpCutLanes c)).map lane }
    detectAll p ((List.range (rmpCutLanes c)).map (fun j => k + j)) s1
  else s

/-- The last line of a band has been segmented (R318, R319): its segment list is final, and refused samples are posted
(log entry 61, DEDUCED). -/
def endBand (p n : Nat) (s : State) : State :=
  let bl := (runRating s).bandLines
  if portRuns s p && decide ((n + 1) % bl = 0) then
    let no := n / bl
    match getBand s p no with
    | none => s
    | some b =>
      when_ (b.refused != 0) (post 0x3305 p 50 (no % 2 ^ 32) b.refused) (updBand p no (fun b => { b with lined := true }) s)
  else s

/-- A numbered output line (R303 to R308, R317 to R319). -/
def rampNumbered (p n : Nat) (c : List Byte) (l : OutLine) (runs : List Run) (r0 : Ramp) (s : State) : State :=
  let s0 := if portRuns s p then startBand p (n / (runRating s).bandLines) r0 s else s
  let r := getRamp s0 p
  let s1 := setRamp s0 p { r with lines := r.lines ++ [l] }
  let s2 := if rmpCut c then cutLine p n c l s1 else detectLine p n c l runs s1
  endBand p n (objRoom p (tidy p n c (closeDue p n c s2)))

/-- A line reaches the ramp (R300 to R306): lines before the launch only update the background. -/
def rampLine (p : Nat) (l : OutLine) (s : State) : State :=
  let r := getRamp s p
  match r.cfg with
  | none => s
  | some c =>
    let w := (l.px.headD []).length
    let cols := if rmpCut c || l.lost || !r.seeded then [] else (List.range w).filter (fgRaw c r.bg l)
    let runs := runsOf (rmpGapX c) (l.no.getD 0) cols
    let s1 := if rmpCut c then s
      else setRamp s p { r with bg := bgUpdate c r.seeded runs r.bg l, seeded := r.seeded || !l.lost }
    match l.no with
    | none => s1
    | some n => rampNumbered p n c l runs r s1

/-! ## Sample writes and band completion (R319) -/

/-- SAMPLE_WRITE (R120, R319): the port's oldest sample still due is written into its place through the approach port; a
bank that is not ON wakes first, and the ramp stalls (R124, R423). -/
def sampleWrite (p : Nat) (s : State) : State :=
  match s.bands.find? (fun b => b.cport == p && !b.writes.isEmpty) with
  | none => s
  | some b =>
    let ws := b.writes.headD []
    match ws.find? (fun w => !(approachAsleep s w.1 w.2.length).isEmpty) with
    | some w => approachWake rampRequester w.1 w.2.length s
    | none =>
      let s1 := updBand p b.no (fun b => { b with writes := b.writes.drop 1 }) s
      ws.foldl (fun s w => approachWrite rampRequester w.1 w.2 false s) s1

def execSampleWrite (p : Fin 4) (s : State) : Host.Outcome State Fault Refusal := done (sampleWrite p) s

/-- BAND_COMPLETE (R215, R319): every sample written and the segment list final; the band's regions pass to DECK. -/
def bandComplete (p no : Nat) (s : State) : State :=
  match getBand s p no with
  | none => s
  | some b =>
    if b.lined && b.writes.isEmpty && !b.complete then
      let s1 := updBand p no (fun b => { b with complete := true, doneAt := now s }) s
      match b.buffer with
      | some _ => regionsToDeck (regionsOf b.addr b.size) s1
      | none => s1
    else s

def execBandComplete (p : Fin 4) (band : Nat) (s : State) : Host.Outcome State Fault Refusal := done (bandComplete p band) s

/-! ## RMP_CONFIG and RMP_READ -/

/-- Range checks of an RMP_CONFIG request (R311, R313, R315, R321, R322, R340); offsets count from the structure. -/
def rmpRanges (s : State) (p : List Byte) : List (Bool × Nat) :=
  let c := p.drop 8
  let i := fld1 p 0
  let cam := getCam s i
  let f := rmpS2d c
  let ang := sx 16 (fld c 28 2)
  let within (lo x hi : Nat) : Bool := decide (lo ≤ x ∧ x ≤ hi)
  [(decide (fld1 c 1 % 4 ≤ 1), 9)] ++
  (if rmpCut c then
    [(within 1 (rmpCutLines c) 16384, 28), (decide (1 ≤ rmpCutW c), 32), (within 1 (rmpCutLanes c) 64, 34),
     (!cam.configured || decide (rmpCutX0 c + rmpCutLanes c * rmpCutW c ≤ camRoiW cam.cfg), 32)]
   else
    [(decide (rmpPol c ≠ 0), 10), (within 1 (rmpBgShift c) 15, 11), (decide (1 ≤ rmpThresh c), 12),
     (decide (rmpGapX c ≤ 15), 14), (decide (rmpGapY c ≤ 15), 15), (within 1 (rmpDetLines c) 64, 16),
     (decide (rmpMarginX c ≤ 255), 18), (within 1 (rmpDetArea c) 16777216, 20), (decide (rmpMarginY c ≤ 255), 24),
     (within 1 (rmpMaxLines c) 16384, 26)]) ++
  [(decide (bitsOf (rmpGeom c) 6 5 ≤ 2), 35), (decide (-2880 ≤ ang ∧ ang ≤ 2880), 36), (within 1 (rmpTw c) 4096 && decide (rmpTw c % f = 0), 38),
   (within 1 (rmpTh c) 4096 && decide (rmpTh c % f = 0), 40), (decide (fld1 c 36 % 4 ≤ 1), 44),
   (decide (fld c 38 2 ≤ 2880 ∧ ang.natAbs + fld c 38 2 ≤ 2880), 46), (decide (fld c 40 2 ≤ 2048), 48),
   (decide (fld c 42 2 ≤ 8192), 50), (rmpCropKib c == 0 || within 1024 (rmpCropKib c) 1048576, 52),
   (!(rmpCropKib c == 0 && decide (1 ≤ vpViews (getPolicy s i).raw)), 52),
   ((getGen s i).pu == vpPu (getPolicy s i).raw, 0)]

/-- Reserved fields of R322 at payload offset 8. -/
def rmpRsv : List Rsv :=
  selRsv ++ [(8, 1, 0xFE), (9, 1, 0xF8), (10, 1, 0xFC), (35, 1, 0x81), (44, 1, 0xF0), (45, 1, 0x78), rsvAll 64 16]

def specRmpConfig : Spec :=
  { plain 0x0401 0x0100 80 0 with
    rsv := fun _ => rmpRsv,
    ranges := fun s p => (selRange 4 p).or (rangesOf (rmpRanges s p)),
    objs := fun p => [.ramp (fld1 p 0)] }

/-- RMP_CONFIG (R56, R285, R301, R322): the port's background is learned afresh (log entry 84, DEDUCED). -/
def bodyRmpConfig (s : State) (p : List Byte) : State × Option Reply :=
  let i := fld1 p 0
  if !(getCam s i).configured || (getPolicy s i).unset then no s (refuse stState)
  else if portRuns s i then no s (refuse stBusyRunning)
  else
    let r := getRamp s i
    yes (wakeCfg 50 (recConfigAt (apExp (getCam s i).ap * (getCam s i).outNo) i 0x0401 p (setRamp s i { r with
      cfg := some (p.drop 8), seeded := false, bg := [], objs := [], lines := [], crops := [] }))) []

def execRmpConfig (m : Fin 16) (s : State) : Host.Outcome State Fault Refusal := done (command m specRmpConfig bodyRmpConfig) s

/-- RMP_READ (R323): the counters clear as they are read. -/
def bodyRmpRead (s : State) (p : List Byte) : State × Option Reply :=
  let i := fld1 p 0
  let r := getRamp s i
  yes (setRamp s i { r with ctrs := List.replicate 5 Ctr0 }) (ctrsBytes r.ctrs)

def execRmpRead (m : Fin 16) (s : State) : Host.Outcome State Fault Refusal :=
  done (command m (specSel 0x0402 4 20 (fun i => [.ramp i])) bodyRmpRead) s

end Sys2Proof.Machine
end

