-- ==== Sys2Proof/Machine/Deck.lean ====
section
/-! DEFINITION. Sys2Proof/Machine/Deck.lean: the deck's memories and the crossing-table commands (R104 to R131, R182 to
R212, R229 to R231, R392, R397): how a tensor is found in memory, how an operator runs, and the commands of bays and
background jobs.
-/

namespace Sys2Proof.Machine

/-! ## Memories and placements (R114, R120, R125, R225, R230) -/

/-- A memory of the deck; `nowhere` is what a unit finds where it has no path (R113, R116, R118). -/
inductive DeckMem where
  | pier | abut | dram | trestle | nowhere
  deriving DecidableEq, Repr

def pierBytes : Nat := 0x500000
def bankBytes : Nat := 0x80000
def abutBytes : Nat := 0x1800000
def abutBankBytes : Nat := 0x200000
def localBytes : Nat := 0x100000

/-- A memory, and a memory replaced (log entry 8, DESIGN CHOICE). -/
def deckMem (m : DeckMem) (s : State) : Mem :=
  match m with
  | .pier => s.deck.pier
  | .abut => s.deck.abut
  | .dram => s.deck.dram
  | .trestle => s.deck.trestle
  | .nowhere => []
def setDeckMem (m : DeckMem) (x : Mem) (s : State) : State :=
  match m with
  | .pier => { s with deck := { s.deck with pier := x } }
  | .abut => { s with deck := { s.deck with abut := x } }
  | .dram => { s with deck := { s.deck with dram := x } }
  | .trestle => { s with deck := { s.deck with trestle := x } }
  | .nowhere => s

/-- A run of bytes in one memory. -/
abbrev Piece := DeckMem × Nat × Nat

/-- What a thread runs: the image, its table, the logical girders a job was given (none: the table's own numbering), the
job, and the physical girders whose piers its present unit reaches (none: every pier, R116). -/
structure Ctx where
  img : Nat
  table : Rating
  girders : List Nat
  job : Option Nat
  piers : Option (List Nat)
  deriving DecidableEq, Repr

def getCluster (s : State) (k : Nat) : Cluster := Tab.get Cluster0 s.deck.clusters k
def setCluster (k : Nat) (c : Cluster) (s : State) : State :=
  { s with deck := { s.deck with clusters := Tab.set Cluster0 s.deck.clusters k c } }

/-- A girder or cluster that the grade has (R5): not fused off, and among the grade's count in ascending order; the others are
fused off (log entry 110, DESIGN CHOICE). -/
def girderPresent (s : State) (n : Nat) : Bool :=
  !(getGirder s n).fused && decide (((List.range n).filter (fun i => !(getGirder s i).fused)).length < gradeGirders s)
def clusterPresent (s : State) (k : Nat) : Bool :=
  !(getCluster s k).fused && decide (((List.range k).filter (fun i => !(getCluster s i).fused)).length < gradeClusters s)

/-- The physical girder bound to a logical girder (R32, R137). -/
def physGirder (s : State) (l : Nat) : Nat :=
  ((List.range 32).find? (fun n => (getGirder s n).bound && (getGirder s n).logical == l)).getD l

/-- The physical cluster bound to a logical cluster (R135, R138). -/
def physCluster (s : State) (l : Nat) : Nat :=
  ((List.range 8).find? (fun k => (getCluster s k).bound && (getCluster s k).logical == l)).getD l

/-- The physical girder behind girder `l` of a thread's table. -/
def ctxGirder (s : State) (c : Ctx) (l : Nat) : Nat := physGirder s (c.girders.getD l l)

/-- A piece as the present unit reaches it (R113, R116): a pier that is neither its own nor open to it is nowhere
(log entry 106, DESIGN CHOICE). -/
def reach (c : Ctx) (p : Piece) : Piece :=
  match p.1, c.piers with
  | .pier, some gs => if gs.contains (p.2.1 / pierBytes) then p else (.nowhere, p.2)
  | _, _ => p

/-- The half of every landing buffer that the present crossing reads (R244). -/
def landHalf (s : State) : Nat := s.seq.crossing.toNat % 2

/-- The landing buffer whose first half holds an address, moved to the present crossing's half (R244, R393). -/
def landAddr (s : State) (c : Ctx) (a : Nat) : Nat :=
  match c.table.places.find? (fun q => q.space == 4 && decide (q.addr ≤ a ∧ a < q.addr + q.size / 2)) with
  | some q => a + landHalf s * (q.size / 2)
  | none => a

/-- Bytes `a` to `a + n − 1` of a space (R230); none where the space does not hold them. -/
def spacePiece (s : State) (c : Ctx) (space unit a n : Nat) : Option Piece :=
  match space with
  | 0 => if unit < 32 ∧ a + n ≤ pierBytes then some (reach c (.pier, pierBytes * ctxGirder s c unit + a, n)) else none
  | 1 => if a + n ≤ abutBytes then some (.abut, a, n) else none
  | 2 => if a + n ≤ (getImg s c.img).deckSize then some (.dram, (getImg s c.img).deckBase + a, n) else none
  | 3 => if unit < 8 ∧ a + n ≤ localBytes then some (.trestle, localBytes * physCluster s unit + a, n) else none
  | 4 => if landAddr s c a + n ≤ abutBytes then some (.abut, landAddr s c a, n) else none
  | _ => none

/-- The pieces a placement covers (R230): slices of a split placement in ascending logical girder. -/
def placePieces (s : State) (c : Ctx) (q : Place) : List Piece :=
  if q.split then
    let gs := splitGirders c.table (getImg s c.img).img.descs q
    let n := if gs.length = 0 then 0 else q.size / gs.length
    gs.map (fun g => reach c (.pier, pierBytes * ctxGirder s c g + bankBytes * (q.unit / 32) + q.addr, n))
  else
    let a := if q.space = 4 then q.addr + landHalf s * (q.size / 2) else q.addr
    match q.space with
    | 0 => [reach c (.pier, pierBytes * ctxGirder s c q.unit + a, q.size)]
    | 2 => [(.dram, (getImg s c.img).deckBase + a, q.size)]
    | 3 => [(.trestle, localBytes * physCluster s q.unit + a, q.size)]
    | _ => [(.abut, a, q.size)]

/-- Reads one piece; what a unit reads where it has no path is a free value (log entry 106, DESIGN CHOICE). -/
def readPiece (s : State) (p : Piece) : List Byte :=
  match p.1 with
  | .nowhere => (List.range p.2.2).map (fun i => BitVec.ofNat 8 (Config.noPath (p.2.1 + i)))
  | m => memRead (deckMem m s) p.2.1 p.2.2

/-- Reads pieces in order. -/
def readPieces (s : State) (ps : List Piece) : List Byte := ps.flatMap (readPiece s)

/-- Where a unit's writes land: bank 9 of a pier that belongs to the swing span takes them from swing-span loads alone
(R118) (log entry 106, DESIGN CHOICE). -/
def writable (s : State) (ps : List Piece) : List Piece :=
  ps.flatMap (fun p =>
    let off := p.2.1 % pierBytes
    if p.1 = .pier ∧ (getGirder s (p.2.1 / pierBytes)).swing ∧ 9 * bankBytes < off + p.2.2 then
      let k := 9 * bankBytes - off
      [(.pier, p.2.1, k), (.nowhere, p.2.1 + k, p.2.2 - k)]
    else [p])

/-- Writes bytes at an offset of the concatenated pieces. -/
def writePieces : List Piece → Nat → List Byte → State → State
  | [], _, _, s => s
  | p :: t, off, bs, s =>
    if p.2.2 ≤ off then writePieces t (off - p.2.2) bs s
    else
      let n := p.2.2 - off
      let s1 := setDeckMem p.1 (memWrite (deckMem p.1 s) (p.2.1 + off) (bs.take n)) s
      if bs.length ≤ n then s1 else writePieces t 0 (bs.drop n) s1

/-- Clears pieces to zero. -/
def clearPieces (ps : List Piece) (s : State) : State :=
  ps.foldl (fun a p => setDeckMem p.1 (memClear (deckMem p.1 a) p.2.1 p.2.2) a) s

/-- Abutment banks and controller groups behind pieces (R124, R423); deck addresses go round the deck
channels of the grade (R450). -/
def pieceBanks (s : State) (ps : List Piece) : List Nat :=
  ps.flatMap (fun p =>
    match p.1 with
    | .abut => (List.range (cdiv (p.2.1 % abutBankBytes + p.2.2) abutBankBytes)).map (fun i => 64 + p.2.1 / abutBankBytes + i)
    | .dram => ((List.range (min (deckChans s) (cdiv (p.2.1 % 2048 + p.2.2) 2048))).map (fun i => 59 + deckChan s (p.2.1 + 2048 * i) / 4)).eraseDups
    | _ => [])

/-- Those of them that are not ON (R124, R423). -/
def sleepingBanks (s : State) (ps : List Piece) : List Nat := (pieceBanks s ps).filter (fun d => !isOn s d)

/-- A deck access reaches its banks and groups (R421). -/
def touchBanks (ps : List Piece) (s : State) : State := (pieceBanks s ps).foldl (fun a d => accessDom 0x3F d a) s

/-- Regions that the approach port fills under the running rating: band rings and landing buffers (R121, R248, R393). -/
def approachRegions (s : State) : List Nat :=
  let r := runRating s
  (List.range 4).flatMap (fun p => if bitOf r.cportMask p then regionsOf (bandAddr s p 0) (r.buffers * bandSize s p) else []) ++
    (r.places.filter (fun q => q.space == 4)).flatMap (fun q => regionsOf q.addr q.size)

/-- The deck never reads a region owned by APPROACH (R121): a read of one waits until it is DECK's
(log entry 107, DESIGN CHOICE). -/
def ownedAway (s : State) (ps : List Piece) : Bool :=
  ps.any (fun p => p.1 == .abut && (regionsOf p.2.1 p.2.2).any (fun r =>
    (approachRegions s).contains r && !(Tab.get Region0 s.deck.regions r).deck))

/-- Wakes what a deck access found asleep; the bay waits until it is ready (R124, R423, R426). -/
def wakeBanks (ds : List Nat) (s : State) : State := ds.foldl (fun a d => wakeDom d 5 (some 0x3F) a) s

/-! ## Tensors -/

/-- The port whose packed input tensor a tensor of the running image is (R316). -/
def bandPort (s : State) (c : Ctx) (tid : Nat) : Option Nat :=
  if c.job.isSome then none
  else (List.range 4).find? (fun p => bitOf c.table.cportMask p && packId s p == tid)

/-- The band of a port that the running crossing took. -/
def bandTaken (s : State) (p : Nat) : Option Nat := (s.seq.bandOf.getD p none)

/-- The pieces of a tensor: a taken band's buffer, or its placement. -/
def tensorPieces (s : State) (c : Ctx) (tid : Nat) : List Piece :=
  match bandPort s c tid with
  | some p =>
    match (bandTaken s p).bind (fun no => (getBand s p no).bind (fun b => b.buffer.map (fun _ => b))) with
    | some b => [(.abut, b.addr, b.size)]
    | none => []
  | none =>
    match c.table.places.find? (fun q => q.tid == tid) with
    | some q => placePieces s c q
    | none => []

/-- What a job's own input holds for a tensor: the regenerated view of a second look in the tensor its first operator
reads, or an input tensor of a standby job. -/
def jobInput (s : State) (c : Ctx) (tid : Nat) (t : TRec) : Option (List Byte) :=
  match c.job.bind (fun j => s.jobs[j]?) with
  | none => none
  | some j =>
    match j.kind with
    | .standby => (j.input.find? (fun e => e.1 == tid)).map (fun e => e.2)
    | .secondLook =>
      if j.input.any (fun e => e.1 == tid) then
        (j.views[j.pos.1]?).map (fun v => memRead (v.2.foldl (fun m w => memWrite m w.1 w.2) []) 0 (tensorBytes t))
      else none

/-- A tensor that a job has itself written: spilled and reloaded with the job, so that no other job's work reaches it
(R131, R238). -/
def jobWork (s : State) (c : Ctx) (tid : Nat) : Option (List Byte) :=
  (c.job.bind (fun j => s.jobs[j]?)).bind (fun j => (j.work.find? (fun e => e.1 == tid)).map (fun e => e.2))

/-- The bytes of a tensor. -/
def tensorData (s : State) (c : Ctx) (tid : Nat) (t : TRec) : List Byte :=
  match (jobWork s c tid).or (jobInput s c tid t) with
  | some b => padTo (tensorBytes t) b
  | none => padTo (tensorBytes t) (readPieces s (tensorPieces s c tid))

/-- A tensor record of a thread's image. -/
def tensorRec (s : State) (c : Ctx) (tid : Nat) : Option TRec := (getImg s c.img).img.tensors[tid]?

/-- A tensor with its bytes; an empty one where the ID names none. -/
def tensorView (s : State) (c : Ctx) (tid : Nat) : TView :=
  match tensorRec s c tid with
  | some t => ⟨t, (tensorData s c tid t).toArray⟩
  | none => ⟨TRec0, #[]⟩

/-- Segment list of a tensor in a thread (R148): of the crossing, or of the job's present view. -/
def tensorSegs (s : State) (c : Ctx) (tid : Nat) : List Seg :=
  match c.job.bind (fun j => s.jobs[j]?) with
  | none => Tab.get [] s.seq.segs tid
  | some j => Tab.get [] j.segs tid

/-- Changes a job. -/
def updJob (j : Nat) (f : Job → Job) (s : State) : State := { s with jobs := modAt s.jobs j f }

/-- Stores the segment list of an output. -/
def setSegs (c : Ctx) (tid : Nat) (l : List Seg) (s : State) : State :=
  match c.job with
  | none => { s with seq := { s.seq with segs := Tab.set [] s.seq.segs tid l } }
  | some j => updJob j (fun x => { x with segs := Tab.set [] x.segs tid l }) s

/-- ORs deck flags into every sample of a port whose columns meet x0 to x1 (R210). -/
def flagSegs (p x0 x1 f : Nat) (s : State) : State :=
  { s with seq := { s.seq with segs := s.seq.segs.map (fun e => (e.1, e.2.map (fun g =>
    if g.cport = p ∧ g.latX0 ≤ x1 ∧ x0 ≤ g.latX1 then { g with flags := g.flags ||| f } else g))) } }

/-! ## Halo rows (R233) -/

/-- The input of a geometry operator with the halo rows of the previous band above it: the top padding shrinks by as many
rows as the halo supplies. A SEGMENTED tensor has no halo, since its segments are images of their own (R148)
(log entry 50, DEDUCED). -/
def withHalo (s : State) (c : Ctx) (d : Desc) (v : TView) : Desc × TView :=
  let h := Config.streamHalo (getImg s c.img).img.stream d.in0
  let old := Tab.get [] s.seq.halo d.in0
  let e := min h (fld d.params 12 2)
  if c.job.isSome || v.t.segd || v.t.n != 1 || e = 0 || old.isEmpty then (d, v)
  else
    let row := v.t.w * posBytes v.t
    ({ d with params := putAt2 d.params (fld d.params 12 2 - e) },
      ⟨{ v.t with h := v.t.h + e }, ((old.drop (old.length - e * row)) ++ v.bytes.toList).toArray⟩)
where
  /-- The geometry block with another PAD_TOP. -/
  putAt2 (p : List Byte) (v : Nat) : List Byte := p.take 12 ++ leBytes 2 v ++ p.drop 14

/-- A port's taken band was dropped in mid-crossing (R250). -/
def droppedTaken (s : State) (p : Nat) : Bool :=
  (((bandTaken s p).bind (getBand s p)).map (fun b => b.dropped)).getD false

/-- The halo rows that a finished crossing leaves for the next band: the last rows of every streaming tensor whose port had
a band, and none after a dropped one (log entry 50, DEDUCED). -/
def saveHalo (s : State) : State :=
  let im := runImage s
  let c : Ctx := ⟨s.seq.img, runRating s, [], none, none⟩
  let rows := (List.range im.tensors.length).foldl (fun t i =>
    let h := Config.streamHalo im.stream i
    let v := tensorView s c i
    if droppedTaken s (Config.streamPort im.stream i) then Tab.set [] t i []
    else if h = 0 || v.t.segd || v.t.n != 1 || (bandTaken s (Config.streamPort im.stream i)).isNone then t
    else Tab.set [] t i (v.bytes.toList.drop (v.bytes.size - h * v.t.w * posBytes v.t))) s.seq.halo
  let of (p : Nat) : Option Nat :=
    match bandTaken s p with
    | some n => if droppedTaken s p then none else some n
    | none => s.seq.haloBand.getD p none
  { s with seq := { s.seq with halo := rows, haloBand := (List.range 4).map of } }

/-- The halo that band `n` of a port finds: the rows of band n − 1, and none for the first band after a dropped one (R233)
(log entry 50, DEDUCED). -/
def haloFor (p n : Nat) (s : State) : State :=
  if (s.seq.haloBand.getD p none).map (fun h => h + 1) = some n then s
  else { s with seq := { s.seq with halo := s.seq.halo.filter (fun e => Config.streamPort (runImage s).stream e.1 != p) } }

/-! ## Key-value events (R196, R211, R212) -/

/-- KV_SHARED_EMPTY is armed again once the shared free count has risen to an eighth of the pool (R212). -/
def kvRearm (i : Nat) (s : State) : State :=
  let x := getImg s i
  if x.kv.pages ≠ 0 ∧ x.kv.pages ≤ 8 * kvShared x.kv ∧ !x.kv.emptyArmed then
    setImg s i { x with kv := { x.kv with emptyArmed := true } }
  else s

/-- KV_SHARED_EMPTY (R212): posted when an append finds the shared free count at zero, and armed again at an eighth of the
pool. A count that is zero at the commit already posts it at the first append (log entries 75, DEDUCED; 111, DESIGN
CHOICE). -/
def kvEmptyCheck (i : Nat) (s : State) : State :=
  let x := getImg s i
  if x.kv.pages ≠ 0 ∧ kvShared x.kv = 0 ∧ x.kv.emptyArmed then
    post 0x1205 0 0 i x.kv.pages (setImg s i { x with kv := { x.kv with emptyArmed := false } })
  else kvRearm i s

/-- Columns of a track's lane (R183): first and last. -/
def laneCols (q : KvSet) (track : Nat) : Nat × Nat :=
  let a := q.laneX0 + (track - q.base) * q.laneW
  (a, a + q.laneW - 1)

/-- The lines of pages that leave a track hold no uncorrectable error any more for it (R211) (log entry 67, DEDUCED). -/
def cleanPages (p : Kv) (pages : List Nat) (s : State) : State :=
  { s with deck := { s.deck with badLines := s.deck.badLines.filter (fun a =>
    !(pages.any (fun n => decide (p.base + 32768 * n ≤ a ∧ a < p.base + 32768 * (n + 1))))) } }

/-- Appends one token (R194 to R196, R211, R212): events and the CTX_TRUNC flag; a recycled slot's pages are clean. -/
def appendTok (i : Nat) (q : KvSet) (k : KvProj) (s : State) : State :=
  let x := getImg s i
  let track := q.base + k.col
  let r := kvAppend x.kv q s.deck.dram track k.row k.k k.v
  let s1 := kvEmptyCheck i (setDeckMem .dram r.2.1 (setImg s i { x with kv := r.1 }))
  match r.2.2 with
  | .unstored first =>
    let l := laneCols q track
    when_ first (post 0x2204 0 0 track i) (flagSegs q.cport l.1 l.2 8 s1)
  | .recycled =>
    let t := kvTrack x.kv track
    cleanPages x.kv ((List.range q.heads).map (kvPage q t t.oldest)) s1
  | .stored => s1

/-- A line of deck DRAM holds an uncorrectable error (log entry 67, DEDUCED). -/
def badLine (s : State) (a : Nat) : Bool := s.deck.badLines.contains (a / 64 * 64)

/-- Uncorrectable reads of one query's range (R203, R211): the lines with their page and row
(log entry 67, DEDUCED). -/
def badReads (s : State) (p : Kv) (q : KvSet) (track row head : Nat) : List (Nat × Nat × Nat) :=
  (kvLines p q (kvRange p q track row head).1).filter (fun l => badLine s l.1)

/-- The effect of one query's bad reads (R211): counted each, the event once per track, the flag on the samples. -/
def kvUe (i : Nat) (q : KvSet) (track : Nat) (bad : List (Nat × Nat × Nat)) (s : State) : State :=
  match bad with
  | [] => s
  | l :: _ =>
    let x := getImg s i
    let t := kvTrack x.kv track
    let c := laneCols q track
    let s1 := setImg s i { x with kv := kvPutTrack { x.kv with cUe := ctrAdd x.kv.cUe bad.length } track { t with ueSeen := true } }
    let s2 := flagSegs q.cport c.1 c.2 16 s1
    if t.ueSeen then s2
    else recFault 0x3203 track (l.2.1 * 2 ^ 16 + l.2.2) (post 0x3203 0 0 (track * 2 ^ 16 + l.2.2) l.2.1 s2)

/-! ## Running an operator (R142 to R181, R240) -/

/-- Rounding of a descriptor (R83, R87). -/
def opRnd (d : Desc) : RndCtx := ⟨rndOfCode d.round, d.seed, d.out⟩

/-- Whether IN1 of VERDICT is a blob table, and the records it holds per image (R171, R174, R176). -/
def tableKind (im : Image) (tid : Nat) : Bool × Nat :=
  match im.descs.find? (fun e => e.opcode == 0x18 && e.aux == tid) with
  | some e => (true, e.bound)
  | none =>
    match im.descs.find? (fun e => e.opcode == 0x19 && e.out == tid) with
    | some e => (false, e.bound)
    | none => (false, 0)

/-- A parameter table of a descriptor. -/
def ptabOf (im : Image) (d : Desc) : Option (List Byte) := im.params[d.ptab]?

/-- The result of an operator that only computes a tensor; `acc` are the accumulators of its contraction. -/
def pureOp (d : Desc) (v w old : TView) (out : TRec) (tab : Option (List Byte)) (segs : List Seg) (acc : AccFn) : OpRes :=
  let k := opRnd d
  match d.opcode with
  | 0x01 => opConv d k v w out tab segs acc
  | 0x02 => opMatmul d k v out tab segs acc
  | 0x03 => opGap k v out segs
  | 0x10 => opConvert k v out segs
  | 0x11 => opEltwise d k v w out segs
  | 0x12 => opAct d k v out segs
  | 0x13 => opSoftmax k v out segs
  | 0x14 => opNorm d k v out tab segs
  | 0x15 => opMaxpool d v out segs
  | 0x16 => opArgmax v out segs
  | 0x17 => opCopy d v old segs
  | 0x18 => opCcl d v out segs
  | 0x19 => opNms d v w segs
  | _ => ⟨[], [], OpStat0, []⟩

/-- A job keeps what it wrote into a tensor (log entry 49, DEDUCED). -/
def keepWork (c : Ctx) (tid : Nat) (ws : List (Nat × List Byte)) (fresh : Bool) (s : State) : State :=
  match c.job, tensorRec s c tid with
  | some j, some t =>
    let old := if fresh then zeros (tensorBytes t) else tensorData s c tid t
    let m := ws.foldl (fun m w => memWrite m w.1 w.2) (memWrite [] 0 old)
    updJob j (fun x => { x with work := Tab.set [] x.work tid (memRead m 0 (tensorBytes t)) }) s
  | _, _ => s

/-- Writes a result: gap positions of a SEGMENTED output are zero (R148), and its segment list follows. -/
def applyRes (c : Ctx) (d : Desc) (r : OpRes) (s : State) : State :=
  let po := writable s (tensorPieces s c d.out)
  let pa := writable s (tensorPieces s c d.aux)
  let seg := ((tensorRec s c d.out).map (fun t => t.segd)).getD false
  let s1 := if seg then clearPieces po s else s
  let s2 := r.out.foldl (fun a w => writePieces po w.1 w.2 a) s1
  let s3 := r.aux.foldl (fun a w => writePieces pa w.1 w.2 a) s2
  keepWork c d.aux r.aux false (keepWork c d.out r.out seg (setSegs c d.out r.segs s3))

/-- EMPTY_OUTPUT that an operator sets for its input (R156, R218): no segment, or an empty one. -/
def emptyIn (v : TView) (segs : List Seg) : Bool := (v.t.segd && segs.isEmpty) || anyEmpty (imgsOf v.t segs)

/-- The set an attention operator names. -/
def opSet (im : Image) (d : Desc) : Option KvSet := im.sets.find? (fun q => q.id == fld1 d.params 0)

/-- The input of an operator with its halo rows, and the descriptor that fits it. -/
def opInput (s : State) (c : Ctx) (d : Desc) : Desc × TView :=
  let v := tensorView s c d.in0
  if d.opcode = 0x01 ∨ d.opcode = 0x15 then withHalo s c d v else (d, v)

/-- The physical girders of an OP's tile plans. -/
def opGirders (s : State) (c : Ctx) (plans : List Plan) : List Nat := ((girdersOf plans).map (ctxGirder s c)).eraseDups

/-- The piers that the units of an OP reach (R113, R116): those of its girders; a trestle cluster reaches none, and an OP
whose plans name no girder is not held to any (log entry 106, DESIGN CHOICE). -/
def opCtx (s : State) (c : Ctx) (plans : List Plan) (d : Desc) : Ctx :=
  if 0x10 ≤ d.opcode then { c with piers := some [] }
  else if (girdersOf plans).isEmpty then c
  else { c with piers := some (opGirders s c plans) }

/-- The contraction of a girder operator as one girder sees it, which reaches its own pier alone (R113). -/
def opContr (s : State) (c : Ctx) (plans : List Plan) (d : Desc) (l : Nat) : Contr :=
  let c1 := if (girdersOf plans).isEmpty then c else { c with piers := some [ctxGirder s c l] }
  let dv := opInput s c1 d
  let w := tensorView s c1 d.in1
  let out := ((tensorRec s c d.out).getD TRec0)
  match d.opcode with
  | 0x01 => convContr dv.1 dv.2 w out (tensorSegs s c d.in0)
  | 0x02 => matmulContr dv.2 w out.c (imgsOf dv.2.t (tensorSegs s c d.in0))
  | _ => matmulContr dv.2 w (3 * out.c) (imgsOf out [])

/-- The contraction of a girder operator on its girders (R104 to R112): the girders after it and the accumulators it leaves;
the F(4×4, 3×3) path has accumulators of its own (R164) (log entry 104, DESIGN CHOICE). -/
def runContr (c : Ctx) (plans : List Plan) (d : Desc) (s : State) : State × AccFn :=
  let dv := opInput s c d
  if (d.opcode != 0x01 && d.opcode != 0x02 && d.opcode != 0x04) || isWino4 d dv.2 then (s, fun _ _ _ _ => 0)
  else
    let gs := match girdersOf plans with
      | [] => [0]
      | l => l
    let cs := gs.map (fun l => (l, opContr s c plans d l))
    let q := ((cs.head?).map (fun x => x.2)).getD (opContr s c plans d 0)
    let w : Work := ⟨fun l => (((cs.find? (fun x => x.1 == l))).map (fun x => x.2)).getD q, dv.2.t.fmt,
      ((getImg s c.img).img.descs).idxOf d, plans, ctxGirder s c⟩
    let r := runWork w s.deck.girders
    ({ s with deck := { s.deck with girders := r.girders } }, accOf dv.2.t.fmt q.imgs q.channels r.out)

/-- ATTN_BAND (R199 to R201): with no band from the set's port it computes nothing. -/
def runAttnBand (c : Ctx) (d : Desc) (acc : AccFn) (s : State) : State × OpStat :=
  match opSet (getImg s c.img).img d with
  | none => (s, OpStat0)
  | some q =>
    if (bandTaken s q.cport).isNone then (s, { OpStat0 with empty := true })
    else
      let out := ((tensorRec s c d.out).getD TRec0)
      let r := opAttnBand d (opRnd d) (tensorView s c d.in0) out (ptabOf (getImg s c.img).img d) q acc
      let s1 := applyRes c d r.1 s
      (r.2.foldl (fun a k => appendTok c.img q k a) s1, r.1.stat)

/-- ATTN_TOKEN (R202 to R211). -/
def runAttnToken (c : Ctx) (d : Desc) (s : State) : State × OpStat :=
  match opSet (getImg s c.img).img d with
  | none => (s, OpStat0)
  | some q =>
    if (bandTaken s q.cport).isNone then (s, { OpStat0 with empty := true })
    else
      let out := ((tensorRec s c d.out).getD TRec0)
      let kv := (getImg s c.img).kv
      let qs := (List.range q.count).flatMap (fun w => (List.range (fld1 d.params 1)).flatMap (fun h =>
        (List.range q.heads).map (fun e => (q.base + w, h, e))))
      let bad := (qs.map (fun x => (x, badReads s kv q x.1 x.2.1 x.2.2))).filter (fun x => !x.2.isEmpty)
      let r := opAttnToken d (opRnd d) (tensorView s c d.in0) out kv q s.deck.dram (bad.map (fun x => x.1))
      (bad.foldl (fun a x => kvUe c.img q x.1.1 x.2 a) (applyRes c d r s), r.stat)

/-- A commit of VERDICT on its way to the slot store (R178). -/
def flightOf (x : Commit) : FlightCommit :=
  ⟨x.slot, BitVec.ofNat 16 x.gen, BitVec.ofNat 4 x.verdict, x.conf, x.final, x.primary, BitVec.ofNat 16 x.flags, x.views, x.scores⟩

/-- Commits leave for the slot store in issue order. -/
def sendCommits (l : List FlightCommit) (s : State) : State := { s with slots := { s.slots with commits := s.slots.commits ++ l } }

/-- VERDICT (R176 to R178). -/
def runVerdict (c : Ctx) (d : Desc) (s : State) : State × OpStat :=
  let im := (getImg s c.img).img
  let v := tensorView s c d.in0
  let segs := tensorSegs s c d.in0
  let k := tableKind im d.in1
  let tab := (tensorRec s c d.in1).map (fun _ => tensorView s c d.in1)
  (sendCommits ((opVerdict d v tab k.1 k.2 segs).map flightOf) s, { OpStat0 with empty := emptyIn v segs })

/-- SL_COMBINE of one view (R179, R180): the view's scores enter the slot's buffer; the view that completes the set issues
the combined commit. -/
def runCombine (c : Ctx) (d : Desc) (s : State) : State × OpStat :=
  match c.job.bind (fun j => s.jobs[j]?) with
  | none => (s, OpStat0)
  | some j =>
    let v := tensorView s c d.in0
    let segs := tensorSegs s c d.in0
    let t := getSlot s j.slot
    let view := j.pos.1 + 1
    let k := vpViews t.pol
    let buf := t.slBuf.filter (fun e => e.view != view) ++ [⟨view, scoresAt v segs 0⟩]
    let fl := segs.foldl (fun a g => a ||| BitVec.ofNat 16 g.flags) t.slFlags
    let s1 := setSlot s j.slot { t with slBuf := buf, slFlags := fl }
    let st : OpStat := { OpStat0 with empty := emptyIn v segs }
    if (buf.filter (fun e => e.view != 0)).length < k then (s1, st)
    else
      let incl := bitOf (fld1 d.params 273) 0
      let sets := (isort (fun a b => decide (a.view < b.view)) (buf.filter (fun e => incl || e.view != 0))).map (fun e => e.scores)
      let r := slCombine d.params v.t.c sets
      (sendCommits [⟨j.slot, j.gen, BitVec.ofNat 4 r.1, toF16 (f32 r.2), true, false, fl, k, []⟩] s1, st)

/-- An operator over the accumulators of its contraction. -/
def finishOp (c : Ctx) (d : Desc) (acc : AccFn) (s : State) : State × OpStat :=
  match d.opcode with
  | 0x04 => runAttnBand c d acc s
  | 0x1A => runAttnToken c d s
  | 0x1B => runVerdict c d s
  | 0x1C => runCombine c d s
  | _ =>
    let dv := opInput s c d
    let segs := tensorSegs s c d.in0
    let out := ((tensorRec s c d.out).getD TRec0)
    let r := pureOp dv.1 dv.2 (tensorView s c d.in1) (tensorView s c d.out) out (ptabOf (getImg s c.img).img d) segs acc
    (applyRes c d r s, statOr r.stat { OpStat0 with empty := emptyIn (tensorView s c d.in0) segs })

/-- Runs an operator descriptor over its tile plans: the contraction on the girders, and the rest of the operator. -/
def runOp (c : Ctx) (plans : List Plan) (d : Desc) (s : State) : State × OpStat :=
  let r := runContr c plans d s
  finishOp (opCtx s c plans d) d r.2 r.1

/-- The tensors an operator reads, and all that it touches. -/
def opReads (s : State) (c : Ctx) (d : Desc) : List Piece :=
  ([d.in0, d.in1].filter (fun t => t != 0xFFFF)).flatMap (tensorPieces s c)
def opPieces (s : State) (c : Ctx) (d : Desc) : List Piece :=
  opReads s c d ++ ([d.out, d.aux].filter (fun t => t != 0xFFFF)).flatMap (tensorPieces s c)

/-! ## Threads: bays of the running table and background jobs -/

/-- The run of bay `b`. -/
def bayRun (s : State) (b : Nat) : BayRun := (s.seq.bays[b]?).getD BayRun0

/-- Changes the run of a bay. -/
def updBay (b : Nat) (f : BayRun → BayRun) (s : State) : State := { s with seq := { s.seq with bays := modAt s.seq.bays b f } }

/-- The order in which a JOB table's bays run as one job: each after its predecessors, lowest index first (R236, R238). -/
def bayOrder (bays : List Bay) : Nat → List Nat → List Nat
  | 0, done_ => done_
  | n + 1, done_ =>
    match (List.range bays.length).find? (fun i => !done_.contains i &&
        (((bays[i]?).map (fun b => b.preds)).getD []).all (fun p => done_.contains p)) with
    | some i => bayOrder bays n (done_ ++ [i])
    | none => done_

/-- The JOB table of a standby image: its first (R216, R238). -/
def jobTable (im : Image) : Rating := (im.ratings.head?).getD Rating0

/-- The commands a job runs in its present view or bay. -/
def jobCmds (s : State) (j : Job) : List Cmd :=
  match j.kind with
  | .secondLook => ((j.bay.bind (fun b => (runRating s).bays[b]?)).map (fun b => b.cmds)).getD []
  | .standby =>
    let t := jobTable (getImg s j.img).img
    ((((bayOrder t.bays t.bays.length [])[j.pos.1]?).bind (fun i => t.bays[i]?)).map (fun b => b.cmds)).getD []

/-- Jobs of one open bay that share a girder run one after another, in the order of the jobs (R238)
(log entry 43, DESIGN CHOICE). -/
def jobTurn (s : State) (j : Nat) (x : Job) : Bool :=
  (s.jobs.take j).all (fun y => y.bay.isNone || y.bay != x.bay || y.girders.all (fun g => !x.girders.contains g))

/-- The context and the present command of a thread that runs; none where it does not, where a reset, a power failure or a
thermal trip holds the deck (R446, R537, R540), where a job's views were withdrawn while it ran (R568), or where replay holds
a job at its recorded VIEWS_DONE (R267). -/
def threadCmd (s : State) (t : Thread) : Option (Ctx × Cmd) :=
  if halted s || s.steward.trip then none
  else
  match t with
  | .bay b =>
    match (runRating s).bays[b.val]? with
    | some y =>
      if s.seq.active && (bayRun s b).st == .running && y.kind != .openBay then
        (y.cmds[(bayRun s b).pc]?).map (fun x => (⟨s.seq.img, runRating s, [], none, none⟩, x))
      else none
    | none => none
  | .job j =>
    match s.jobs[j]? with
    | some x =>
      if x.st = .running ∧ x.resumable ∧ jobTurn s j x ∧ x.stopAt.all (fun v => decide (x.view < v)) then
        ((jobCmds s x)[x.pos.2]?).map (fun y =>
          ((match x.kind with
            | .secondLook => ⟨s.seq.img, runRating s, [], some j, none⟩
            | .standby => ⟨x.img, jobTable (getImg s x.img).img, x.girders, some j, none⟩), y))
      else none
    | none => none

/-- A job past its command: the next command, or the next view or bay, whose segment list starts from its own view. -/
def jobNext (s : State) (x : Job) : Job :=
  if x.pos.2 + 1 < (jobCmds s x).length then { x with pos := (x.pos.1, x.pos.2 + 1) }
  else
    let n := x.pos.1 + 1
    match x.kind with
    | .secondLook =>
      { x with pos := (n, 0), view := n, work := [], segs := match x.views[n]? with
          | some v => x.input.foldl (fun t e => Tab.set [] t e.1 [v.1]) []
          | none => [] }
    | .standby => { x with pos := (n, 0) }

/-- A second look whose last view is done leaves the jobs (R63, R180). -/
def jobRetire (j : Nat) (s : State) : State :=
  match s.jobs[j]? with
  | some x => if x.kind = .secondLook ∧ x.views.length ≤ x.view ∧ 0 < x.views.length then { s with jobs := s.jobs.eraseIdx j } else s
  | none => s

/-- Status bits enter the status word of a bay (R84, R181, R235). -/
def bayStat (b : Nat) (st : OpStat) (s : State) : State := updBay b (fun r => { r with stat := statOr r.stat st }) s

/-- A thread's command completes: its status bits enter the status word of its bay, a job's that of the open bay it runs in,
and the next command stands ready. -/
def advance (t : Thread) (st : OpStat) (s : State) : State :=
  match t with
  | .bay b => updBay b (fun r => { r with pc := r.pc + 1 }) (bayStat b st s)
  | .job j =>
    let s1 := match (s.jobs[j]?).bind (fun x => x.bay) with
      | some b => bayStat b st s
      | none => s
    jobRetire j (updJob j (fun x => { jobNext s x with stat := statOr x.stat st }) s1)

/-- Writes the pieces of a tensor that `keep` admits; `off` is the offset of the first piece. -/
def loadPieces (keep : Piece → Bool) (bs : List Byte) : List Piece → Nat → State → State
  | [], _, s => s
  | p :: t, off, s =>
    loadPieces keep bs t (off + p.2.2) (if keep p then writePieces [p] 0 (slice bs off p.2.2) s else s)

/-- Copies the weights that a thread's table places in piers from the deck region to the pieces that `keep` admits
(R118, R140, R238) (log entry 44, DEDUCED). -/
def loadWeights (c : Ctx) (keep : Piece → Bool) (s : State) : State :=
  let x := getImg s c.img
  x.img.mem.foldl (fun a e =>
    match c.table.places.find? (fun q => q.tid == e.1 && q.space == 0) with
    | some q =>
      loadPieces keep (memRead a.deck.dram (x.deckBase + e.2.2) (((x.img.tensors[e.1]?).map tensorBytes).getD 0))
        (placePieces s c q) 0 a
    | none => a) s

/-- A piece in bank 9 of the pier of a physical girder (R118). -/
def inSwing (n : Nat) (p : Piece) : Bool :=
  decide (p.1 = .pier ∧ p.2.1 / pierBytes = n ∧ 9 * bankBytes ≤ p.2.1 % pierBytes)

/-- Girders of a standby job whose swing span does not hold its weights, or holds another girder's share of them, each with
its share (R238, R242). -/
def swingMissing (s : State) (img : Nat) (gs : List Nat) : List (Nat × Nat) :=
  gs.zipIdx.filter (fun g => (getGirder s (physGirder s g.1)).swingImg != some img || (getGirder s (physGirder s g.1)).swingShare != g.2)

/-- The SWING_LOAD that a standby job needs before it runs (R118, R238): the weights of its image that its table places in
bank 9, into every girder whose swing span does not hold them. -/
def swingReady (c : Ctx) (s : State) : State :=
  match c.job.bind (fun j => s.jobs[j]?) with
  | some x =>
    let gs := swingMissing s x.img x.girders
    if x.kind = .secondLook ∨ gs.isEmpty then s
    else
      let s1 := loadWeights c (fun p => gs.any (fun g => inSwing (physGirder s g.1) p)) s
      gs.foldl (fun a g => setGirder (physGirder a g.1)
        { getGirder a (physGirder a g.1) with swingImg := some x.img, swingShare := g.2 } a) s1
  | none => s

/-! ## The commands -/

/-- A bay of the table holds an ATTN_BAND that has not run yet. -/
def bandPhaseAhead (s : State) (b : Nat) : Bool :=
  match (runRating s).bays[b]? with
  | some y =>
    let r := bayRun s b
    y.kind != .openBay && r.st != .ended && (y.cmds.drop r.pc).any (fun x =>
      match x with
      | .op desc _ _ _ => (((runImage s).descs[desc]?).map (fun d => d.opcode == 0x04)).getD false
      | _ => false)
  | none => false

/-- Attention sets take the last pages in the order of the table (R197): an ATTN_BAND waits for those of the bays before its
own that are not ordered after it and share no unit with it (log entry 108, DESIGN CHOICE). -/
def appendTurn (s : State) (t : Thread) (d : Desc) : Bool :=
  match t with
  | .job _ => true
  | .bay b =>
    d.opcode != 0x04 || (List.range b.val).all (fun i =>
      !bandPhaseAhead s i || (before (runRating s).bays i).contains b.val ||
        (match (runRating s).bays[i]?, (runRating s).bays[b.val]? with
          | some x, some y => sharesUnits x y
          | _, _ => false))

/-- An operator's command may run: the regions it reads are DECK's (R121) and its appends are in turn (R197). -/
def opMayRun (s : State) (t : Thread) (c : Ctx) (d : Desc) : Bool := !ownedAway s (opReads s c d) && appendTurn s t d

/-- DECK_OP (R229): the thread's present command runs its descriptor over its tile plans, whose division changes no bit
(R254) (log entry 33, DESIGN CHOICE). -/
def deckOp (t : Thread) (s : State) : State :=
  match threadCmd s t with
  | some (c, .op desc first count _) =>
    match (getImg s c.img).img.descs[desc]? with
    | some d =>
      if !opMayRun s t c d then s
      else
        let z := sleepingBanks s (opPieces s c d)
        if z.isEmpty then
          let r := runOp c ((c.table.plans.drop first).take count) d (swingReady c (touchBanks (opPieces s c d) s))
          advance t r.2 r.1
        else wakeBanks z s
    | none => advance t OpStat0 s
  | _ => s

def execDeckOp (t : Thread) (s : State) : Host.Outcome State Fault Refusal := done (deckOp t) s

/-- A transfer between pieces of equal length, once every abutment bank it touches is ON and the regions it reads are DECK's
(R121, R124) (log entry 8, DESIGN CHOICE). -/
def moveBytes (t : Thread) (src dst : Piece) (s : State) : State :=
  if ownedAway s [src] then s
  else
    let z := sleepingBanks s [src, dst]
    if z.isEmpty then advance t OpStat0 (writePieces (writable s [dst]) 0 (readPieces s [src]) (touchBanks [src, dst] s)) else wakeBanks z s

/-- DECK_LOAD (R229): from the deck region; a transfer past the end of a space does not exist. -/
def execDeckLoad (t : Thread) (s : State) : Host.Outcome State Fault Refusal :=
  match threadCmd s t with
  | some (c, .load src space unit a len) =>
    match spacePiece s c 2 0 src len, spacePiece s c space unit a len with
    | some x, some y => done (moveBytes t x y) s
    | _, _ => .fault .noSuchAddress
  | _ => done id s

/-- DECK_STORE (R229): to the deck region. -/
def execDeckStore (t : Thread) (s : State) : Host.Outcome State Fault Refusal :=
  match threadCmd s t with
  | some (c, .store src space unit a len) =>
    match spacePiece s c space unit a len, spacePiece s c 2 0 src len with
    | some x, some y => done (moveBytes t x y) s
    | _, _ => .fault .noSuchAddress
  | _ => done id s

/-- Writes standby weights into bank 9 of each girder (R118, R229): `len` bytes per girder, girders in ascending order. -/
def swingWrite (img src len : Nat) (gs : List Nat) (s : State) : State :=
  let x := getImg s img
  gs.zipIdx.foldl (fun a g =>
    let n := physGirder a g.1
    let d := memRead a.deck.dram (x.deckBase + src + len * g.2) len
    setGirder n { getGirder a n with swingImg := some img, swingShare := g.2 }
      (setDeckMem .pier (memWrite a.deck.pier (pierBytes * n + bankBytes * 9) d) a)) s

/-- SWING_LOAD (R118, R229). -/
def execSwingLoad (t : Thread) (s : State) : Host.Outcome State Fault Refusal :=
  match threadCmd s t with
  | some (c, .swing src len) =>
    let gs := match c.job with
      | some _ => c.girders
      | none => List.range c.table.girders
    if src + len * gs.length ≤ (getImg s c.img).deckSize ∧ len ≤ bankBytes then
      done (fun x => advance t OpStat0 (swingWrite c.img src len gs x)) s
    else .fault .noSuchAddress
  | _ => done id s

/-- XNO of a message of the running crossing (R391). -/
def xnoOf (s : State) : Nat := s.seq.crossing.toNat % 2 ^ 32

/-- SEND (R229, R392): the buffer's bytes leave as WRITE messages. -/
def sendBuffer (t : Thread) (p : Piece) (node flag : Nat) (s : State) : State :=
  if ownedAway s [p] then s
  else
    let z := sleepingBanks s [p]
    if z.isEmpty then
      advance t OpStat0 (routeOwn (sendMsgs node s.span.node.toNat flag (xnoOf s) (readPieces s [p])) (touchBanks [p] s))
    else wakeBanks z s

/-- A thread's context for a command that no girder carries out, so that no pier is within reach (R116). -/
def noPier (c : Ctx) : Ctx := { c with piers := some [] }

def execSendCmd (t : Thread) (s : State) : Host.Outcome State Fault Refusal :=
  match threadCmd s t with
  | some (c, .send node flag space a len) =>
    match spacePiece s (noPier c) space 0 a len with
    | some p => done (sendBuffer t p node flag) s
    | none => .fault .noSuchAddress
  | _ => done id s

/-- A SIGNAL message (R391, R392). -/
def signalMsg (s : State) (node flag : Nat) : List Byte := msgHead 2 true false node s.span.node.toNat flag (xnoOf s) 0 0

/-- SIGNAL (R229, R392). -/
def signalSend (t : Thread) (s : State) : State :=
  match threadCmd s t with
  | some (_, .signal node flag) => advance t OpStat0 (routeOwn [signalMsg s node flag] s)
  | _ => s

def execSignalCmd (t : Thread) (s : State) : Host.Outcome State Fault Refusal := done (signalSend t) s

/-- A landing flag is set for the running crossing (R393). -/
def flagSet (s : State) (f : Nat) : Bool := s.seq.flags.contains (f, landHalf s)

/-- WAIT (R229): ends once its landing flag is set (log entry 77, DEDUCED). -/
def waitFlag (t : Thread) (s : State) : State :=
  match threadCmd s t with
  | some (_, .wait f) => if flagSet s f then advance t OpStat0 s else s
  | _ => s

def execWaitCmd (t : Thread) (s : State) : Host.Outcome State Fault Refusal := done (waitFlag t) s

/-- REFRESH (R229, R237): refresh changes no bit. -/
def refreshChans (t : Thread) (s : State) : State :=
  match threadCmd s t with
  | some (_, .refresh _ _) => advance t OpStat0 s
  | _ => s

def execRefreshCmd (t : Thread) (s : State) : Host.Outcome State Fault Refusal := done (refreshChans t) s

/-! ## Collectives (R396, R397) -/

def coType (r : List Byte) : Nat := fld1 r 0
def coFormat (r : List Byte) : Nat := fld1 r 1
def coFirst (r : List Byte) : Nat := fld r 2 2
def coCount (r : List Byte) : Nat := fld r 4 2
def coRoot (r : List Byte) : Nat := fld r 6 2
def coFlag0 (r : List Byte) : Nat := fld r 8 2
def coSpace (r : List Byte) : Nat := fld1 r 12
def coAddr (r : List Byte) : Nat := fld r 16 4
def coLen (r : List Byte) : Nat := fld r 20 4

/-- Every other rank. -/
def coOthers (r : List Byte) (me : Nat) : List Nat := (List.range (coCount r)).filter (fun i => i != me)

/-- Where a member's bytes lie, and where a flag's present half does. -/
def coPieces (s : State) (c : Ctx) (r : List Byte) : List Piece :=
  match spacePiece s (noPier c) (coSpace r) 0 (coAddr r) (coLen r) with
  | some p => [p]
  | none => []
def landedPieces (s : State) (f n : Nat) : List Piece :=
  match landingPlace s f with
  | some q => [(.abut, q.addr + landHalf s * (q.size / 2), n)]
  | none => []

/-- A member's bytes. -/
def coData (s : State) (c : Ctx) (r : List Byte) : List Byte := padTo (coLen r) (readPieces s (coPieces s c r))

/-- What landed in the present half of a landing flag. -/
def landed (s : State) (f n : Nat) : List Byte := padTo n (readPieces s (landedPieces s f n))

/-- Element-by-element sum of CHAIN_SUM: modulo 2^32, or FP32 with one rounding. -/
def chainAdd (fp : Bool) (acc x : List Byte) : List Byte :=
  (List.range (acc.length / 4)).flatMap (fun i =>
    let a := fld acc (4 * i) 4
    let b := fld x (4 * i) 4
    leBytes 4 (if fp then (fadd (BitVec.ofNat 32 a) (BitVec.ofNat 32 b)).toNat else (a + b) % 2 ^ 32))

/-- Sends bytes to ranks at a flag. -/
def coSend (r : List Byte) (rks : List Nat) (flag : Nat) (bs : List Byte) (s : State) : State :=
  rks.foldl (fun a i => routeOwn (sendMsgs (coFirst r + i) s.span.node.toNat flag (xnoOf s) bs) a) s

/-- Signals a flag at ranks. -/
def coSignal (r : List Byte) (rks : List Nat) (flag : Nat) (s : State) : State :=
  rks.foldl (fun a i => routeOwn [signalMsg s (coFirst r + i) flag] a) s

/-- The messages a member sends when it reaches the collective; none while it must first wait for a flag. -/
def coSends (c : Ctx) (r : List Byte) (me : Nat) (s : State) : Option State :=
  let root := coRoot r
  let f := coFlag0 r
  let n := coCount r
  let all := (coOthers r me).all (fun i => flagSet s (f + i))
  match coType r with
  | 0 =>
    if me = root then (if all then some (coSignal r (coOthers r me) (f + n) s) else none)
    else some (coSignal r [root] (f + me) s)
  | 1 => some (if me = root then coSend r (coOthers r me) f (coData s c r) s else s)
  | 2 => some (if me = root then s else coSend r [root] (f + me) (coData s c r) s)
  | _ =>
    let fp := coFormat r == 8
    if me = 0 then some (coSend r [1] f (coData s c r) s)
    else if !flagSet s f then none
    else
      let sum := chainAdd fp (landed s f (coLen r)) (coData s c r)
      some (if me + 1 = n then coSend r (List.range n) (f + 1) sum s else coSend r [me + 1] f sum s)

/-- The collective ends on the member (log entry 77, DEDUCED). -/
def coEnds (r : List Byte) (me : Nat) (s : State) : Bool :=
  let root := coRoot r
  let f := coFlag0 r
  match coType r with
  | 0 => me == root || flagSet s (f + coCount r)
  | 1 => me == root || flagSet s f
  | 2 => me != root || (coOthers r me).all (fun i => flagSet s (f + i))
  | _ => me + 1 == coCount r || flagSet s (f + 1)

/-- What a member reads for its collective: its own bytes, and for CHAIN_SUM the vector that landed. -/
def coReads (s : State) (c : Ctx) (r : List Byte) (me : Nat) : List Piece :=
  match coType r with
  | 0 => []
  | 3 => coPieces s c r ++ (if me = 0 then [] else landedPieces s (coFlag0 r) (coLen r))
  | _ => coPieces s c r

/-- COLLECTIVE (R397): the member sends what it owes, once, and ends as the table says. Whether it has sent is kept with
the landing flags, under a number no landing flag has (log entries 33, DESIGN CHOICE; 77, DEDUCED). -/
def collective (t : Thread) (s : State) : State :=
  match threadCmd s t with
  | some (c, .collective r) =>
    let me := s.span.node.toNat - coFirst r
    let mark := (65536 + coFlag0 r, landHalf s)
    let sent := s.seq.flags.contains mark
    let z := if sent then [] else sleepingBanks s (coReads s c r me)
    if !sent && ownedAway s (coReads s c r me) then s
    else if !z.isEmpty then wakeBanks z s
    else
      let s1 := if sent then some s
        else (coSends c r me (touchBanks (coReads s c r me) s)).map (fun x => { x with seq := { x.seq with flags := x.seq.flags ++ [mark] } })
      match s1 with
      | none => s
      | some x =>
        if coEnds r me x then
          advance t OpStat0 { x with seq := { x.seq with flags := x.seq.flags.filter (fun e => e != mark) } }
        else x
  | _ => s

def execCollective (t : Thread) (s : State) : Host.Outcome State Fault Refusal := done (collective t) s

end Sys2Proof.Machine
end

