-- ==== Sys2Proof/Machine/Camera.lean ====
section
/-! DEFINITION. Sys2Proof/Machine/Camera.lean: camera ports and approach pipelines (R272 to R299): pairing of lines, the
pipeline treatment, statistics, through-memory rings, events, power, and the camera and pipeline commands.
-/

namespace Sys2Proof.Machine

/-! ## Counters, events and records -/

/-- Counts an event in one of the port's counter words (R298). -/
def camCount (p w : Nat) (s : State) : State :=
  let c := getCam s p
  setCam s p { c with ctrs := modAt c.ctrs w ctrBump }

/-- A 64-byte entry for the port's event queue (R282): dropped and counted where there is no queue or no room. -/
def camEntry (p kind flags frag : Nat) (dat : List Byte) (s : State) : State :=
  let q := camEvq (getCam s p).cfg
  let e := leBytes 2 kind ++ leBytes 1 p ++ leBytes 1 flags ++ leBytes 2 dat.length ++ leBytes 2 frag ++ leBytes 8 (now s) ++
    padTo 48 dat
  if q ≠ 0 ∧ (getQ s q).content = 2 ∧ hasRoom s q then { s with q := { s.q with waiting := s.q.waiting ++ [⟨q, e⟩] } }
  else camCount p 6 s

/-- A LINE record of the columns from `x` on, `n` of them (R262), uncompressed. -/
def lineRecord (p : Nat) (r : RawLine) (x n : Nat) (s : State) : State :=
  let c := (getCam s p).cfg
  let f := camPixfmt c
  let head := leBytes 1 p ++ leBytes 1 (b2n r.trunc * 4 + b2n r.lost * 2 + b2n r.crc) ++ leBytes 1 f ++
    leBytes 1 (pixPlanes f) ++ leBytes 8 (r.no.getD (2 ^ 64 - 1)) ++ leBytes 5 r.pos.toNat ++ zeros 3 ++
    leBytes 2 (camRoiX0 c + x) ++ leBytes 2 n
  let body := if r.lost then [] else r.px.flatMap (fun pl =>
    ((pl.drop x).take n).flatMap (fun v => leBytes (if 8 < pixWidth f then 2 else 1) v))
  recPut 3 r.stamp (head ++ body) s

/-- A camera line is recorded (R262): in one LINE record, or by column ranges where one record of R260 cannot hold it
(log entry 55, DESIGN CHOICE). -/
def recLine (p : Nat) (r : RawLine) (s : State) : State :=
  let c := (getCam s p).cfg
  let f := camPixfmt c
  let w := camRoiW c
  let per := 262072 / ((if 8 < pixWidth f then 2 else 1) * pixPlanes f)
  if r.lost || decide (w ≤ per) then lineRecord p r 0 w s
  else (List.range (cdiv w per)).foldl (fun a i => lineRecord p r (per * i) (min per (w - per * i)) a) s

/-! ## The pipeline (R287 to R295) -/

/-- The pipeline configuration that the newest AP_CONFIG gave (log entry 60, DEDUCED). -/
def apNow (c : Cam) : List Byte := c.apPending.getD c.ap

/-- A table boundary (R295): complete shadow tables and a pending AP_CONFIG become active together. -/
def tableBoundary (c : Cam) : Cam :=
  { c with
    ap := apNow c, apPending := none, active := if c.shadowNew then c.shadow else c.active, shadowNew := false }

/-- Whether the output line about to begin is a table boundary (R295). -/
def atBoundary (s : State) (p : Nat) (c : Cam) : Bool :=
  !portRuns s p || c.outNo % max 1 (apStatsLines c.ap) == 0

/-- The configuration of the output line that the pipeline begins next (R295). -/
def apNext (s : State) (p : Nat) (c : Cam) : List Byte := if c.group.isEmpty && atBoundary s p c then apNow c else c.ap

/-- The configuration at the input of the port (R286, R295, R296): a change governs the raw lines from the first that belongs
to the output line at a table boundary, or, while no crossing runs with the port, from the next. -/
def apInput (s : State) (p : Nat) (no : Option Nat) (c : Cam) : List Byte :=
  let k := max 1 (apExp c.apIn * apStatsLines c.apIn)
  if !portRuns s p || (no.map (fun n => n % k == 0)).getD true then apNow c else c.apIn

/-- An empty statistics block in the making. -/
def StatsAcc0 : StatsAcc := ⟨[], [], 0, 0, 0⟩

/-- The statistics block that the present output line belongs to (R292). -/
def statsBlock (c : Cam) : Nat := c.outNo / max 1 (apStatsLines c.ap)

/-- A statistics block closes (R292): written to its ring and reported, or dropped and counted
(log entry 11, DESIGN CHOICE). -/
def statsClose (p : Nat) (s : State) : State :=
  let c := getCam s p
  let k := statsBlock c
  let s1 := setCam s p { c with stats := StatsAcc0 }
  if Config.statsRoom p k then
    camEntry p 2 2 0 (leBytes 4 k ++ zeros 4 ++ leBytes 8 (k * apStatsLines c.ap))
      (tollWrite (Config.statsAddr p k) (statsBytes c.ap p (pixPlanes (camPixfmt c.cfg)) k c.stats) (tollUse (apAp c.ap) s1))
  else camCount p 7 s1

/-- Statistics of one output line (R292). -/
def statsLine (p : Nat) (v : List (List Nat)) (l : OutLine) (s : State) : State :=
  let c := getCam s p
  if apStats c.ap then
    let s1 := setCam s p { c with stats := statsAdd c.ap l v c.stats }
    if c.outNo % max 1 (apStatsLines c.ap) + 1 = apStatsLines c.ap then statsClose p s1 else s1
  else s

/-- The numbering of lines, blocks and exposure groups restarts with the first line of a launch (R215, R262, R292)
(log entry 59, DEDUCED). -/
def restartAt (r : RawLine) (c : Cam) : Cam :=
  if r.no = some 0 then { c with group := [], outNo := 0, stats := StatsAcc0 } else c

/-- One raw line through the pipeline (R287 to R292), and each output line to the ramp. -/
def pipeRaw (p : Nat) (r : RawLine) (s : State) : State :=
  let c0 := restartAt r (getCam s p)
  let c := if c0.group.isEmpty && atBoundary s p c0 then tableBoundary c0 else c0
  let g := c.group ++ [r]
  if g.length < apExp c.ap then setCam s p { c with group := g }
  else
    let o := outLineOf c.ap c.active (pixWidth (camPixfmt c.cfg)) (camRoiW c.cfg) g
    let s1 := statsLine p o.1 o.2 (setCam s p { c with group := [] })
    let c1 := getCam s1 p
    rampLine p o.2 (setCam s1 p { c1 with outNo := c1.outNo + 1 })

/-! ## Pairing (R278, R280) and through-memory rings (R296) -/

/-- Whether a port is served in-line (R296). -/
def isInline (c : Cam) : Bool := apInline (apNow c)

/-- A raw line as it stands in the ring: its samples as received, none of a LOST line (R296). -/
def rawBytes (c : List Byte) (r : RawLine) : List Byte :=
  r.px.flatMap (fun pl => pl.flatMap (fun x => leBytes (if 8 < pixWidth (camPixfmt c) then 2 else 1) x))

/-- A line takes the next place of the raw ring in toll DRAM (R296); the manual gives neither the ring's address nor the form
of a place (log entry 109, DESIGN CHOICE). -/
def ringPut (p : Nat) (r : RawLine) (s : State) : State :=
  let c := getCam s p
  tollWrite (Config.rawRing p (c.ringNo % max 1 (apRing c.apIn))) (rawBytes c.cfg r)
    (setCam (tollUse (apAp c.apIn) s) p { c with ring := c.ring ++ [r], ringNo := c.ringNo + 1 })

/-- A paired line becomes LOST, without pixels. -/
def loseLine (r : RawLine) : RawLine := { r with lost := true, px := [] }

/-- The raw line number of a line triggered at `stamp` (R262): counted from the launch. -/
def lineNo (s : State) (p stamp : Nat) : Option Nat :=
  if s.seq.launched && decide (s.seq.launch ≤ stamp) then some (getCam s p).rawNo else none

/-- A paired line of a through-memory port (R296): it takes the next place of the raw ring, or becomes LOST and is owed. -/
def ringLine (p : Nat) (r : RawLine) (s : State) : State :=
  let c := getCam s p
  if c.owed.isEmpty && decide (c.ring.length < apRing c.apIn) then recLine p r (ringPut p r s)
  else
    let l := loseLine r
    recLine p l (camCount p 5 (setCam s p { c with owed := c.owed ++ [l] }))

/-- A paired line is passed on (R280, R296): numbered, counted by its flags, recorded, and treated. -/
def passLine (p : Nat) (r : RawLine) (s : State) : State :=
  let no := lineNo s p r.stamp
  let r1 := { r with no := no }
  let c := getCam s p
  let a := apInput s p no c
  let s1 := setCam s p { c with rawNo := if no.isSome then c.rawNo + 1 else c.rawNo, apIn := a }
  let s2 := if r.crc then camCount p 0 s1 else s1
  let s3 := if r.trunc then camCount p 1 s2 else s2
  if !c.apSet then recLine p r1 s3
  else if apInline a then pipeRaw p r1 (recLine p r1 s3)
  else ringLine p r1 s3

/-- A trigger FIFO entry pops as a LOST line (R278). -/
def popLost (p : Nat) (e : TrigEntry) (s : State) : State :=
  passLine p ⟨false, false, true, [], e.pos, e.corr, e.stamp, none⟩ (camCount p 2 s)

/-- Drops the oldest entry of a port's trigger FIFO. -/
def dropEntry (p : Nat) (s : State) : State :=
  let c := getCam s p
  setCam s p { c with fifo := c.fifo.drop 1 }

/-- A line trigger pushes an entry; on a full FIFO the oldest pops as LOST first (R278). -/
def pushTrigger (p : Nat) (e : TrigEntry) (s : State) : State :=
  let c := getCam s p
  let s1 := if 1024 ≤ c.fifo.length then
      (match c.fifo with
       | o :: _ => popLost p o (dropEntry p s)
       | [] => s)
    else s
  let c1 := getCam s1 p
  setCam s1 p { c1 with fifo := c1.fifo ++ [e] }

/-- The line as received, cut to the region of interest (R280): pixels short of WIDTH are zero, and TRUNC is set. -/
def cutLineRoi (c : List Byte) (l : CamLine) : Bool × List (List Nat) :=
  let w := camWidth c
  let m := 2 ^ pixWidth (camPixfmt c)
  ((List.range (pixPlanes (camPixfmt c))).any (fun k => decide ((l.planes.getD k []).length < w)),
   (List.range (pixPlanes (camPixfmt c))).map (fun k =>
     let pl := l.planes.getD k []
     (List.range (camRoiW c)).map (fun x => (pl.getD (camRoiX0 c + x) 0).toNat % m)))

/-- Pairing of a line complete at count `ta` (R278), the entries tried in turn. -/
def pairLine (p : Nat) (l : CamLine) (ta : Nat) : List TrigEntry → State → State
  | [], s => camCount p 3 s
  | e :: t, s =>
    let c := (getCam s p).cfg
    if e.stamp + camLatMax c < ta then pairLine p l ta t (popLost p e (dropEntry p s))
    else if ta < e.stamp + camLatMin c then camCount p 3 s
    else
      let r := cutLineRoi c l
      passLine p ⟨l.crc, r.1, false, r.2, e.pos, e.corr, e.stamp, none⟩ (dropEntry p s)

/-- Skew between the connections of a stream that the SG7 holds (R276). -/
def skewMax : Nat := 65536

/-- LINE_COMPLETE (R276, R278): the receivers are ignored in replay mode (R267); an unconfigured port takes no line. A stream
that is not the port's is foreign: discarded and counted. A line with more skew than the SG7 holds has lost data, and its
trigger entry expires as a LOST line. -/
def lineComplete (p : Nat) (l : CamLine) (s : State) : State :=
  let c := getCam s p
  if s.replay.mode || !c.configured then s
  else if l.stream.toNat ≠ camStream c.cfg then camCount p 4 s
  else if skewMax < l.skew.toNat then s
  else pairLine p l (now s) c.fifo s

def execLineComplete (p : Fin 4) (line : CamLine) (s : State) : Host.Outcome State Fault Refusal := done (lineComplete p line) s

/-- TRIGGER_ENTRY_EXPIRY (R278): the oldest entry's age has reached LAT_MAX_NS + 1; replay takes no live line (R267). -/
def triggerExpiry (p : Nat) (s : State) : State :=
  if s.replay.mode then s else
  match (getCam s p).fifo with
  | [] => s
  | e :: _ => if e.stamp + camLatMax (getCam s p).cfg < now s then popLost p e (dropEntry p s) else s

def execTriggerEntryExpiry (p : Fin 4) (s : State) : Host.Outcome State Fault Refusal := done (triggerExpiry p) s

/-- OWED_LOST_LINE_WRITE (R296); replay takes no live line (R267). -/
def owedWrite (p : Nat) (s : State) : State :=
  let c := getCam s p
  match c.owed with
  | [] => s
  | r :: t =>
    if !s.replay.mode && decide (c.ring.length < apRing c.apIn) then ringPut p r (setCam s p { c with owed := t }) else s

def execOwedLostLineWrite (p : Fin 4) (s : State) : Host.Outcome State Fault Refusal := done (owedWrite p) s

/-- A pass of the port waits (R296). -/
def passWaits (s : State) (p : Nat) : Bool :=
  let c := getCam s p
  let a := apNext s p c
  c.apSet && !s.replay.mode && !apInline c.apIn && decide (1 ≤ apPass a ∧ apPass a ≤ c.ring.length)

/-- PASS_START (R296): PASS_LINES waiting lines are read back through the pipeline; waiting passes of one pipeline are
served in ascending port number. -/
def passStart (p : Nat) (s : State) : State :=
  let c := getCam s p
  let n := apPass (apNext s p c)
  let lower := (List.range p).any (fun k => passWaits s k && apAp (apNow (getCam s k)) == apAp (apNow c))
  if passWaits s p && !lower then
    (c.ring.take n).foldl (fun s r => pipeRaw p r s) (setCam s p { c with ring := c.ring.drop n })
  else s

def execPassStart (p : Fin 4) (s : State) : Host.Outcome State Fault Refusal := done (passStart p) s

/-! ## Packets and connections (R272, R276, R281 to R283) -/

/-- FOREIGN_STREAM_PACKET (R276): discarded and counted. -/
def foreignPacket (p : Nat) (s : State) : State := if s.replay.mode then s else camCount p 4 s

def execForeignStreamPacket (p : Fin 4) (s : State) : Host.Outcome State Fault Refusal := done (foreignPacket p) s

/-- HEARTBEAT_PACKET (R272): accepted and counted (log entry 59, DEDUCED). -/
def heartbeat (p : Nat) (s : State) : State :=
  let c := getCam s p
  setCam s p { c with beats := ctrBump c.beats }

def execHeartbeatPacket (p : Fin 4) (s : State) : Host.Outcome State Fault Refusal := done (heartbeat p) s

/-- CAM_EVENT (R282): the packet's entries, 48 bytes of payload each (log entry 59, DEDUCED). -/
def camEvent (p : Nat) (packet : List Byte) (s : State) : State :=
  let n := max 1 (cdiv packet.length 48)
  if s.replay.mode then s
  else (List.range n).foldl (fun s i =>
    camEntry p 1 ((if i + 1 = n then 2 else 0) + (if i = 0 then 0 else 1)) i (slice packet (48 * i) 48) s) s

def execCamEvent (p : Fin 4) (packet : List Byte) (s : State) : Host.Outcome State Fault Refusal := done (camEvent p packet) s

/-- CXP_LINK_DOWN (R281). -/
def cxpDown (p i : Nat) (s : State) : State :=
  let c := getCam s p
  if c.connUp.getLsbD i then
    let up := c.connUp &&& ~~~(1#4 <<< i)
    post 0x2301 p (46 + p) c.connUp.toNat up.toNat (setCam s p { c with connUp := up })
  else s

def execCxpLinkDown (p conn : Fin 4) (s : State) : Host.Outcome State Fault Refusal := done (cxpDown p conn) s

/-- CXP_LINK_UP (R281): a connection that discovery has brought up relocks at the configured rate. -/
def cxpUp (p i : Nat) (s : State) : State :=
  let c := getCam s p
  if c.discovered && decide (i < camConns c.cfg) && !c.connUp.getLsbD i then
    let up := c.connUp ||| (1#4 <<< i)
    post 0x1302 p (46 + p) up.toNat 0 (setCam s p { c with connUp := up })
  else s

def execCxpLinkUp (p conn : Fin 4) (s : State) : Host.Outcome State Fault Refusal := done (cxpUp p conn) s

/-- POCXP_FAULT (R283): power off, the fault latched and posted. -/
def pocxpFault (n : Nat) (s : State) : State :=
  let p := n / 4
  let c := getCam s p
  if c.pocxpOn.getLsbD (n % 4) then
    post 0x2303 p (46 + p) n 0 (setCam s p { c with
      pocxpOn := c.pocxpOn &&& ~~~(1#4 <<< (n % 4)), pocxpFault := c.pocxpFault ||| (1#4 <<< (n % 4)) })
  else s

def execPocxpFault (conn : Fin 16) (s : State) : Host.Outcome State Fault Refusal := done (pocxpFault conn) s

/-! ## Camera commands -/

/-- Link payload of a RATE code in bytes per second (R274). -/
def ratePayload (r : Nat) : Nat :=
  match r with
  | 1 => 125000000
  | 2 => 250000000
  | 3 => 312500000
  | 5 => 625000000
  | 6 => 781250000
  | 10 => 1000000000
  | 12 => 1250000000
  | _ => 0

/-- Link bytes per sample, in quarters (R284). -/
def quarterBytes (f : Nat) : Nat :=
  match f with
  | 1 | 5 => 5
  | 2 | 6 => 6
  | 3 => 8
  | _ => 4

/-- CPORT_STATUS (R297). -/
def cportStatus (s : State) (p : Nat) : Nat :=
  let c := getCam s p
  let need := 2 ^ camConns c.cfg - 1
  let a := apNow c
  b2n (c.configured && (c.connUp.toNat &&& need) == need) <<< 31 + b2n c.discovered <<< 30 +
    b2n (c.configured && camTrig c.cfg == 0) <<< 29 + b2n (c.configured && (getGen s p).armed) <<< 28 + c.connUp.toNat <<< 24 +
    c.pocxpFault.toNat <<< 20 + c.pocxpOn.toNat <<< 16 + camRate c.cfg <<< 12 + camPixfmt c.cfg <<< 8 +
    ((apExp a - 1) % 4) <<< 6 + apAp a <<< 4 + b2n (apInline a) <<< 3

/-- Range checks of CAM_CONFIG (R279, R285). -/
def camRanges (s : State) (p : List Byte) : List (Bool × Nat) :=
  let i := fld1 p 0
  let c := p.drop 8
  let f := camPixfmt c
  let a := apNow (getCam s i)
  let r := getRamp s i
  [(decide (1 ≤ camConns c ∧ camConns c ≤ 4), 8), (decide (ratePayload (camRate c) ≠ 0), 9), (decide (f ≤ 6), 10),
   (decide (camTrig c ≤ 1), 11), (decide (1 ≤ camWidth c ∧ camWidth c ≤ 16384), 12),
   (decide (1 ≤ camRoiW c ∧ camRoiX0 c + camRoiW c ≤ camWidth c), 16),
   (decide (1 ≤ camMaxHz c ∧ camMaxHz c ≤ 2000000), 20), (decide (camLatMin c < camLatMax c), 28),
   (decide ((camLatMax c - camLatMin c) * camMaxHz c < 10 ^ 9 ∧ camLatMax c * camMaxHz c < 1024 * 10 ^ 9), 28),
   (decide (camEvq c = 0 ∨ 0x10 ≤ camEvq c), 32),
   (decide (camMaxHz c * camRoiW c * pixPlanes f * quarterBytes f ≤ 4 * camConns c * ratePayload (camRate c)), 20),
   (!apStats a || decide (apZoneX0 a + apZones a * apZoneW a ≤ camRoiW c), 16),
   ((r.cfg.map (fun x => !rmpCut x || decide (rmpCutX0 x + rmpCutLanes x * rmpCutW x ≤ camRoiW c))).getD true, 16),
   ((List.range 16).all (fun n => !((getTrig s n).func == 3 && (getTrig s n).cport == i) ||
     decide ((getTrig s n).width * camMaxHz c < 10 ^ 9)), 20)]

def specCamConfig : Spec :=
  { plain 0x0201 0x0100 40 0 with
    rsv := fun _ => selRsv ++ [(9, 1, 0xF0), (11, 1, 0xFC), rsvAll 19 1, rsvAll 34 6],
    ranges := fun s p => (selRange 4 p).or (rangesOf (camRanges s p)),
    objs := fun p => [.port (fld1 p 0)] }

/-- A pipeline configuration with LUT_EN and FF_EN clear. -/
def apNoTables (a : List Byte) : List Byte := setAt a 2 (BitVec.ofNat 8 (fld1 a 2 / 4 * 4))

/-- CAM_CONFIG (R285, R286): a change of PIXFMT or ROI_W discards the tables. -/
def bodyCamConfig (s : State) (p : List Byte) : State × Option Reply :=
  let i := fld1 p 0
  let cfg := p.drop 8
  if portRuns s i then no s (refuse stBusyRunning)
  else
    let c := getCam s i
    let keep := camPixfmt c.cfg == camPixfmt cfg && camRoiW c.cfg == camRoiW cfg
    let c1 := { c with configured := true, cfg := cfg }
    let c2 := if keep then c1
      else { c1 with active := ⟨[], []⟩, shadow := ⟨[], []⟩, shadowNew := false, ap := apNoTables c.ap,
                     apPending := c.apPending.map apNoTables, group := [] }
    yes (wakeCfg (46 + i) (recConfig i 0x0201 p (setCam s i c2))) []

def execCamConfig (m : Fin 16) (s : State) : Host.Outcome State Fault Refusal := done (command m specCamConfig bodyCamConfig) s

/-- CAM_DISCOVER (R275): with the camera's offer, the port comes up or stays down (log entry 59, DEDUCED). -/
def bodyCamDiscover (m : Nat) (offer : CamOffer) (s : State) (p : List Byte) : State × Option Reply :=
  let i := fld1 p 0
  let c := getCam s i
  let need := BitVec.ofNat 4 (2 ^ camConns c.cfg - 1)
  let fits := c.configured && offer.conns &&& need == need && decide (camRate c.cfg ≤ offer.rate.toNat)
  let good := offer.answers && fits
  let s1 := wakeCfg (46 + i) (recConfig i 0x0202 p (setCam s i { c with discovered := good, connUp := if good then need else 0 }))
  hold m 0x0202 p [.port i] false (some (if good then okWith (leBytes 4 (cportStatus s1 i))
    else refuse (if offer.answers then stUnsupported else stTimeout))) s1

def execCamDiscover (m : Fin 16) (offer : CamOffer) (s : State) : Host.Outcome State Fault Refusal :=
  done (command m (specSel 0x0202 4 4 (fun i => [.port i])) (bodyCamDiscover m offer)) s

def specCamCtrl : Spec :=
  { plain 0x0203 0x0100 24 0 with
    lens := .camCtrl,
    resp := fun _ p => 8 + (if fld1 p 8 = 0 then fld p 16 2 else 0),
    rsv := fun _ => selRsv ++ [rsvAll 10 2, rsvAll 18 6],
    ranges := fun _ p => (selRange 4 p).or (rangesOf [(decide (fld1 p 8 ≤ 1), 8), (decide (fld1 p 9 ≤ 1), 9),
      (decide (4 ≤ fld p 16 2 ∧ fld p 16 2 ≤ 200 ∧ fld p 16 2 % 4 = 0), 16)]),
    objs := fun p => [.port (fld1 p 0)] }

/-- CAM_CTRL (R275): one control packet goes to the camera, and its answer `ack` and `dat` comes back. -/
def bodyCamCtrl (m : Nat) (ack : BitVec 8) (dat : List Byte) (s : State) (p : List Byte) : State × Option Reply :=
  let i := fld1 p 0
  let n := fld p 16 2
  hold m 0x0203 p [.port i] false (some (okWith ([ack] ++ zeros 1 ++ leBytes 2 n ++ zeros 4 ++
    (if fld1 p 8 = 0 then padTo n dat else [])))) (recConfig i 0x0203 p (emit (.camera i (p.drop 8)) s))

def execCamCtrl (m : Fin 16) (ack : BitVec 8) (data : List Byte) (s : State) : Host.Outcome State Fault Refusal :=
  done (command m specCamCtrl (bodyCamCtrl m ack data)) s

/-- CAM_CTRL_TIMEOUT (R499): the camera has not answered within 200 ms. -/
def camCtrlTimeout (m : Nat) (s : State) : State :=
  if s.gh.running.any (fun r => r.mbx == m && r.op == 0x0203) then answerRunning m (refuse stTimeout) s else s

def execCamCtrlTimeout (m : Fin 16) (s : State) : Host.Outcome State Fault Refusal := done (camCtrlTimeout m) s

/-- The ports of a connection mask. -/
def maskPorts (w : Nat) : List Nat := (List.range 4).filter (fun p => decide (w / 16 ^ p % 16 ≠ 0))

def specCamPower : Spec :=
  { plain 0x0204 0x0100 8 8 with
    rsv := fun _ => [rsvAll 6 2],
    objs := fun p => (maskPorts (fld p 0 2 ||| fld p 4 2)).map (fun i => .port i) }

/-- CAM_POWER (R283, R504). -/
def bodyCamPower (s : State) (p : List Byte) : State × Option Reply :=
  let mask := fld p 0 2
  let on := fld p 2 2
  let clr := fld p 4 2
  let nib (w i : Nat) : BitVec 4 := BitVec.ofNat 4 (w / 16 ^ i)
  if (List.range 4).any (fun i => nib mask i &&& nib on i &&& (getCam s i).pocxpFault &&& ~~~(nib clr i) != 0) then
    no s (refuse stState)
  else
    let s1 := (List.range 4).foldl (fun s i =>
      let c := getCam s i
      setCam s i { c with
        pocxpFault := c.pocxpFault &&& ~~~(nib clr i),
        pocxpOn := (c.pocxpOn &&& ~~~(nib mask i)) ||| (nib mask i &&& nib on i) }) s
    let lv := (List.range 4).foldl (fun a i => a + (getCam s1 i).pocxpOn.toNat * 16 ^ i) 0
    yes (recConfig 0 0x0204 p s1) (leBytes 2 lv ++ zeros 6)

def execCamPower (m : Fin 16) (s : State) : Host.Outcome State Fault Refusal := done (command m specCamPower bodyCamPower) s

/-- CAM_READ (R297, R298): the counters clear as they are read. -/
def bodyCamRead (s : State) (p : List Byte) : State × Option Reply :=
  let i := fld1 p 0
  let c := getCam s i
  yes (setCam s i { c with ctrs := List.replicate 8 Ctr0 }) (leBytes 4 (cportStatus s i) ++ zeros 4 ++ ctrsBytes c.ctrs)

def execCamRead (m : Fin 16) (s : State) : Host.Outcome State Fault Refusal :=
  done (command m (specSel 0x0205 4 40 (fun i => [.port i])) bodyCamRead) s

/-! ## Pipeline commands -/

/-- Samples per second of a port (R296) (log entry 59, DEDUCED). -/
def portSamples (s : State) (p : Nat) : Nat :=
  let c := (getCam s p).cfg
  camMaxHz c * camRoiW c * pixPlanes (camPixfmt c)

/-- Range checks of AP_CONFIG (R294, R296). -/
def apRanges (s : State) (p : List Byte) : List (Bool × Nat) :=
  let i := fld1 p 0
  let a := p.drop 8
  let cam := getCam s i
  let others := (List.range 4).filter (fun k => k != i && (getCam s k).apSet && apAp (apNow (getCam s k)) == apAp a)
  [(!apInline a || !(others.any (fun k => isInline (getCam s k))), 8),
   (decide ((others ++ [i]).foldl (fun t k => t + portSamples s k) 0 ≤ 6000000000), 8),
   (decide (1 ≤ apExp a ∧ apExp a ≤ 3), 9), (decide (apShift a ≤ 4), 11), (decide (fld a 4 2 < fld a 6 2), 12),
   (decide (apGain a 0 = 0x100), 16), (decide (0x100 ≤ apGain a 1), 18), (decide (0x100 ≤ apGain a 2), 20),
   (decide (64 ≤ apPass a ∧ apPass a ≤ 4096 ∧ apPass a % 64 = 0), 22),
   (decide (64 ≤ apStatsLines a ∧ apStatsLines a ≤ 4096), 24),
   (!apStats a || decide (1 ≤ apZones a ∧ apZones a ≤ 64), 26),
   (!apStats a || decide (1 ≤ apZoneW a) && (!cam.configured || decide (apZoneX0 a + apZones a * apZoneW a ≤ camRoiW cam.cfg)), 30),
   (decide (2 * apPass a ≤ apRing a), 32)]

def specApConfig : Spec :=
  { plain 0x0301 0x0100 40 0 with
    rsv := fun _ => selRsv ++ [(8, 1, 0xF8), (10, 1, 0xF0), rsvAll 27 1, rsvAll 36 4],
    ranges := fun s p => (selRange 4 p).or (rangesOf (apRanges s p)),
    objs := fun p => [.port (fld1 p 0), .pipe (fld1 p 8 % 4)] }

/-- AP_CONFIG (R285, R286, R294, R295): it takes effect at the port's next table boundary, or, outside a crossing, at the
next line the pipeline begins (log entry 60, DEDUCED). -/
def bodyApConfig (s : State) (p : List Byte) : State × Option Reply :=
  let i := fld1 p 0
  let a := p.drop 8
  let c := getCam s i
  let b := apNow c
  if !c.configured then no s (refuse stState)
  else if portRuns s i && (apExp a != apExp b || apAp a != apAp b || apInline a != apInline b) then no s (refuse stBusyRunning)
  else
    yes (wakeCfg (42 + apAp a) (recConfigAt (apFirstLine s i) i 0x0301 p (setCam s i { c with apSet := true, apPending := some a }))) []

def execApConfig (m : Fin 16) (s : State) : Host.Outcome State Fault Refusal := done (command m specApConfig bodyApConfig) s

/-- Bytes of a table (R288, R290, R295). -/
def tableSize (c : Cam) (kind : Nat) : Nat := if kind = 0 then 8192 else 4 * camRoiW c.cfg * pixPlanes (camPixfmt c.cfg)

/-- Puts bytes into a byte string at an offset, growing it with zeros where it is shorter. -/
def putAt (l : List Byte) (o : Nat) (bs : List Byte) : List Byte := padTo o l ++ bs ++ l.drop (o + bs.length)

def specApTable : Spec :=
  { plain 0x0302 0x0100 24 0 with
    rsv := fun _ => selRsv ++ [rsvAll 10 6],
    ranges := fun s p =>
      let c := getCam s (fld1 p 0)
      (selRange 4 p).or (rangesOf [(decide (fld1 p 8 ≤ 1), 8),
        (decide (fld1 p 8 = 1) || !c.configured || decide (fld1 p 9 < pixPlanes (camPixfmt c.cfg)), 9),
        (!c.configured || (tollOk s (fld p 16 8) (tableSize c (fld1 p 8)) && inAlloc s (fld p 16 8) (tableSize c (fld1 p 8))), 16)]),
    objs := fun p => [.port (fld1 p 0)] }

/-- AP_TABLE (R295): the table is copied into the shadow set, which is complete when the command completes
(log entries 33, DESIGN CHOICE; 60, DEDUCED). -/
def bodyApTable (m : Nat) (s : State) (p : List Byte) : State × Option Reply :=
  let i := fld1 p 0
  let c := getCam s i
  if !c.configured then no s (refuse stState)
  else
    let bs := tollRead s (fld p 16 8) (tableSize c (fld1 p 8))
    let base := if c.shadowNew then c.shadow else c.active
    let sh : TableSet := if fld1 p 8 = 0 then { base with lut := putAt base.lut (8192 * fld1 p 9) bs } else { base with ff := bs }
    hold m 0x0302 p [.port i] false (some (okWith [])) (setCam (tollUse (apAp (apNow c)) s) i { c with shadow := sh, shadowNew := false })

def execApTable (m : Fin 16) (s : State) : Host.Outcome State Fault Refusal := done (command m specApTable (bodyApTable m)) s

end Sys2Proof.Machine
end

