-- ==== Sys2Proof/Machine/Queues.lean ====
section
/-! DEFINITION. Sys2Proof/Machine/Queues.lean: queues and their doorbells (R472 to R485), allocation of toll space (R451,
R504), the toll gate (R458 to R463), and the last-words report that queue 0x0001 brings about (R543).
-/

namespace Sys2Proof.Machine

/-! ## Allocation (R451, R504) -/

/-- A block of `n` MiB at MiB `a` is free (log entry 29, DESIGN CHOICE). -/
def mibFree (s : State) (a n : Nat) : Bool := s.gh.allocs.all (fun b => !overlap a n b.mib b.size)

/-- The lowest free place of `n` MiB outside the firmware region (log entry 29, DESIGN CHOICE). -/
def findMib (s : State) (n : Nat) : Option Nat :=
  ((256 :: s.gh.allocs.map (fun b => b.mib + b.size)).filter (fun a => decide (a + n ≤ tollMib s) && mibFree s a n)).min?

/-- Adds an allocation. -/
def addAlloc (a n : Nat) (s : State) : State := { s with gh := { s.gh with allocs := s.gh.allocs ++ [⟨a, n⟩] } }

def specMemAlloc : Spec :=
  { plain 0x0A01 0x0100 8 8 with
    rsv := fun _ => [rsvAll 4 4], ranges := fun _ p => rangesOf [(decide (1 ≤ fld p 0 4), 0)] }

/-- MEM_ALLOC (R451): the lowest place that is large enough. -/
def bodyMemAlloc (s : State) (p : List Byte) : State × Option Reply :=
  let n := fld p 0 4
  match findMib s n with
  | none => no s (refuse stNoSpace)
  | some a => yes (addAlloc a n s) (leBytes 8 (a * 2 ^ 20))

def execMemAlloc (m : Fin 16) (s : State) : Host.Outcome State Fault Refusal := done (command m specMemAlloc bodyMemAlloc) s

/-- Bytes of a queue's ring. -/
def ringBytes (x : Queue) : Nat := 64 * 2 ^ x.log2

/-- What the block still holds (R504): a queue ring, the recorder ring, a staged image, a table being read, or the copy
window (log entry 39, DEDUCED). -/
def blockHeld (s : State) (b : Alloc) : Bool :=
  let a := b.mib * 2 ^ 20
  let n := b.size * 2 ^ 20
  s.q.queues.any (fun e => e.2.st != .free && !e.2.host && overlap a n e.2.base.toNat (ringBytes e.2)) ||
    (s.rec_.running && overlap a n s.rec_.ringBase (s.rec_.ringSegs * 262144)) ||
    s.imgs.any (fun e => e.2.st == .staged && overlap a n e.2.toll e.2.img.size) ||
    s.gh.running.any (fun r => r.op == 0x0302 && overlap a n (fld r.payload 16 8) 1) ||
    overlap a n s.span.winBase (s.span.winMib * 2 ^ 20)

/-- MEM_FREE (R504): the address shall be that of an allocated block (log entry 88, DEDUCED). -/
def bodyMemFree (s : State) (p : List Byte) : State × Option Reply :=
  match s.gh.allocs.find? (fun b => decide (b.mib * 2 ^ 20 = fld p 0 8)) with
  | none => no s (badParam 0)
  | some b =>
    if blockHeld s b then no s (refuse stInUse)
    else yes { s with gh := { s.gh with allocs := s.gh.allocs.erase b } } []

def execMemFree (m : Fin 16) (s : State) : Host.Outcome State Fault Refusal :=
  done (command m (plain 0x0A02 0x0100 8 0) bodyMemFree) s

/-! ## Last words (R542, R543) -/

/-- Bytes of flash (R512): erased bytes read as 0xFF (log entry 23, DESIGN CHOICE). -/
def flashRead (s : State) (a n : Nat) : List Byte := memReadD 0xFF s.sec.flash a n

/-- Sector `i` of the last-words area (R513). -/
def lwSector (s : State) (i : Nat) : List Byte := flashRead s (0x20000 + 4096 * i) 4096

/-- A valid last-words record (R542). -/
def lwValid (r : List Byte) : Bool :=
  decide (fld r 0 4 = 0x5344574C ∧ fld r 4 2 = 1 ∧ fld r 4092 4 = crc32 (r.take 4092))

/-- The newest valid record, by SEQ compared modulo 2^32 (R543). -/
def lwNewest (s : State) : Option (List Byte) :=
  ((List.range 16).map (lwSector s)).foldl (fun best r =>
    if !lwValid r then best
    else
      match best with
      | none => some r
      | some b => if 0 < (BitVec.ofNat 32 (fld r 8 4) - BitVec.ofNat 32 (fld b 8 4)).toInt then some r else some b) none

/-- The last-words report (R543): when queue 0x0001 is created or armed for the first time after the boot. -/
def reportLastWords (s : State) : State :=
  if s.rst.reported then s
  else
    match lwNewest s, findMib s 1 with
    | some r, some a =>
      post 0x1808 0 0 a (fld r 8 4)
        (tollWrite (a * 2 ^ 20) r (addAlloc a 1 { tollUse 9 s with rst := { s.rst with reported := true } }))
    | _, _ => s

/-! ## Messages (R480) -/

/-- The condition of R480 under which an armed queue sends its message. -/
def queueDue (x : Queue) : Bool :=
  if x.content = 3 then decide (x.watermark.toNat ≤ 2 ^ x.log2 - occupancy x) else decide (x.watermark.toNat ≤ occupancy x)

/-- Sends the message of queue `q` if it is armed, has a vector, and its condition holds. -/
def queueMessage (q : Nat) (cond : Queue → Bool) (s : State) : State :=
  let x := getQ s q
  if x.armed && x.vector != 0xFF && cond x then sendVector x.vector.toNat (setQ s q { x with armed := false, timer := none })
  else s

/-- Starts a holdoff timer as an entry enters (R480). -/
def queueTimer (q : Nat) (s : State) : State :=
  let x := getQ s q
  if x.armed && x.timer.isNone && x.holdoff != 0 && !queueDue x then
    setQ s q { x with timer := some (now s + 1000 * x.holdoff.toNat) }
  else s

/-! ## Production (R474, R477 to R479, R485) -/

/-- Writes an entry at TAIL, and then advances TAIL (R474, R477). -/
def ringWrite (q : Nat) (entry : List Byte) (s : State) : State :=
  let x := getQ s q
  let a := x.base.toNat + 64 * (x.tail.toNat % 2 ^ x.log2)
  let e := padTo 64 entry
  let s1 := if x.host then { s with mem := { s.mem with hostMem := memWrite s.mem.hostMem a e } } else tollWrite a e (tollUse 8 s)
  setQ s1 q { x with tail := x.tail + 1 }

/-- A queue that takes one more entry now. -/
def queueOpen (x : Queue) : Bool := x.st == .active && decide (occupancy x < 2 ^ x.log2)

/-- An event record with LOST_BEFORE where a record was lost before it (R478). -/
def markLost (lost : Bool) (e : List Byte) : List Byte := if lost then setAt e 26 1 else e

/-- The queue manager takes one entry into queue `q`. -/
def produce (q : Nat) (e : List Byte) (s : State) : State :=
  let s1 := if q = 1 then ringWrite q (markLost s.q.eventLost e) { s with q := { s.q with eventLost := false, eventTook := true } }
    else ringWrite q e s
  queueTimer q (queueMessage q queueDue s1)

/-- An event record or a camera entry that finds no room is dropped (R478). -/
def dropEntryOf (q : Nat) (s : State) : State :=
  let x := getQ s q
  let s1 := setQ s q { x with dropped := if x.dropped = 0xFF then 0xFF else x.dropped + 1 }
  if q = 1 then { s1 with q := { s1.q with eventLost := true } } else s1

/-- An entry that waits for a queue that cannot take it: verdict records wait (R67), others are dropped. -/
def mustWait (s : State) (w : Prod) : Bool := !queueOpen (getQ s w.queue) && w.queue != 1 && (getQ s w.queue).content == 0

/-- Index of the oldest entry that the queue manager can act on. -/
def nextProd (s : State) : Option Nat := s.q.waiting.findIdx? (fun w => !mustWait s w)

/-- QUEUE_PRODUCE (R477 to R479). -/
def queueProduce (s : State) : State :=
  match nextProd s with
  | none => s
  | some i =>
    match s.q.waiting[i]? with
    | none => s
    | some w =>
      let s1 := { s with q := { s.q with waiting := s.q.waiting.eraseIdx i } }
      if queueOpen (getQ s w.queue) then produce w.queue w.entry s1 else dropEntryOf w.queue s1

def execQueueProduce (s : State) : Host.Outcome State Fault Refusal := done queueProduce s

/-! ## Doorbells (R475, R476, R480) -/

/-- A doorbell write to a FREE or firmware queue is discarded and counted. -/
def bellOf (q : Nat) (f : State → State) (s : State) : State :=
  let x := getQ s q
  if x.st = .free ∨ x.fw then { s with q := { s.q with discarded := ctrBump s.q.discarded } } else f s

/-- A PTR write (R476). -/
def doorbellPtr (q : Nat) (p : BitVec 32) (s : State) : State :=
  let x := getQ s q
  let ok := if x.content = 3 then decide ((p - x.tail).toNat ≤ 2 ^ x.log2 - occupancy x)
    else decide ((p - x.head).toNat ≤ occupancy x)
  if !ok then post 0x2703 0 0 q p.toNat (setQ s q { x with qerr := true })
  else if x.content = 3 then
    let s1 := setQ s q { x with tail := p }
    if p = x.tail then s1 else { s1 with q := { s1.q with jobBells := s1.q.jobBells ++ [(q, p)] } }
  else setQ s q { x with head := p }

def execQueueDoorbellPtr (q : BitVec 16) (p : BitVec 32) (s : State) : Host.Outcome State Fault Refusal :=
  done (bellOf q.toNat (doorbellPtr q.toNat p)) s

/-- An ARM write (R480): the message is sent at once when the condition already holds; arming queue 0x0001 brings the
last-words report about (R543). -/
def doorbellArm (q : Nat) (s : State) : State :=
  let s1 := queueMessage q queueDue (setQ s q { getQ s q with armed := true })
  if q = 1 then reportLastWords s1 else s1

def execQueueDoorbellArm (q : BitVec 16) (s : State) : Host.Outcome State Fault Refusal :=
  done (bellOf q.toNat (doorbellArm q.toNat)) s

/-- A CLEAR_QERR write (R476): the entries a JOB queue holds count as if their doorbell came now. -/
def doorbellClear (q : Nat) (s : State) : State :=
  let x := getQ s q
  if !x.qerr then s
  else
    let s1 := setQ s q { x with qerr := false }
    if x.content = 3 ∧ x.head ≠ x.tail then
      { s1 with q := { s1.q with jobBells := s1.q.jobBells.filter (fun b => b.1 != q) ++ [(q, x.tail)] } }
    else s1

def execQueueDoorbellClearQerr (q : BitVec 16) (s : State) : Host.Outcome State Fault Refusal :=
  done (bellOf q.toNat (doorbellClear q.toNat)) s

/-- QUEUE_HOLDOFF_EXPIRY (R480). -/
def holdoffExpiry (q : Nat) (s : State) : State :=
  match (getQ s q).timer with
  | none => s
  | some t =>
    if now s < t then s
    else queueMessage q (fun x => decide (0 < occupancy x)) (setQ s q { getQ s q with timer := none })

def execQueueHoldoffExpiry (q : BitVec 16) (s : State) : Host.Outcome State Fault Refusal := done (holdoffExpiry q.toNat) s

/-! ## Host loss (R471, R482, R483) -/

/-- Every queue in host memory becomes DETACHED (R482). -/
def detachHost (s : State) : State :=
  { s with q := { s.q with queues := s.q.queues.map (fun e =>
    if e.2.host && e.2.st == .active then (e.1, { e.2 with st := .detached }) else e) } }

/-- A JOB entry that could not be read is discarded with QERR (R483). -/
def discardJob (q : Nat) (s : State) : State :=
  let x := getQ s q
  if x.content = 3 ∧ x.head ≠ x.tail then setQ s q { x with head := x.head + 1, qerr := true } else s

/-- QUEUE_ACCESS_FAIL (R482, R483) (log entry 38, DEDUCED). -/
def accessFail (q : Nat) (s : State) : State :=
  let x := getQ s q
  if x.host && x.st == .active then
    let s1 := discardJob q s
    post 0x2704 0 0 q 0 (setQ s1 q { getQ s1 q with st := .detached })
  else s

def execQueueAccessFail (q : BitVec 16) (s : State) : Host.Outcome State Fault Refusal := done (accessFail q.toNat) s

/-- A reset of any kind discards every image that is staged but not committed (R526). -/
def dropStaged (imgs : Tab ImgSlot) : Tab ImgSlot := imgs.filter (fun e => e.2.st != .staged)

/-- The effect of a host reset (R471): sessions, WIN_BASE, the MSI-X table, INT_EN, and the queues in host memory; staged
images go (R526) (log entry 38, DEDUCED). -/
def hostReset (s : State) : State :=
  detachHost { s with
    imgs := dropStaged s.imgs,
    gh := { s.gh with session := none },
    host := { s.host with winBase := 0x100, msix := [], pba := 0, intEn := 0 } }

/-- PERST_N is asserted; it stays so until it is released. -/
def perstAssert (s : State) : State := { hostReset s with host := { (hostReset s).host with perst := true } }

def execPerstN (s : State) : Host.Outcome State Fault Refusal := done perstAssert s

/-- HOT_RESET (R471). -/
def hotReset (s : State) : State := hostReset s

def execHotReset (s : State) : Host.Outcome State Fault Refusal := done hotReset s

/-- PCIE_LINK_LOSS (R471). -/
def pcieLinkLoss (s : State) : State := hostReset s

def execPcieLinkLoss (s : State) : Host.Outcome State Fault Refusal := done pcieLinkLoss s

/-- PERST_N_RELEASE (R422, R517): the endpoint leaves reset, and its domain wakes (log entry 28, DESIGN CHOICE). -/
def perstRelease (s : State) : State := wakeDom 63 (Config.perstWakeSrc (now s) % 16) none { s with host := { s.host with perst := false } }

def execPerstNRelease (s : State) : Host.Outcome State Fault Refusal := done perstRelease s

/-- POISONED_TLP (R471): discarded and reported; a read completes with Completer Abort. -/
def poisoned (nonPosted : Bool) (s : State) : State :=
  let s1 := { s with host := { s.host with poisoned := ctrBump s.host.poisoned } }
  if nonPosted then emit .abortRead s1 else s1

def execPoisonedTlp (nonPosted : Bool) (s : State) : Host.Outcome State Fault Refusal := done (poisoned nonPosted) s

/-! ## BAR2 (R469) -/

/-- Bytes an access covers. -/
def bar2Len (a : Bar2Acc) : Nat :=
  match a with
  | .read n => n.toNat
  | .write d => d.length

/-- BAR2_ACCESS (R469): an access to toll space, or a refusal, counted and posted (log entry 38, DEDUCED). -/
def bar2Access (off : Nat) (acc : Bar2Acc) (s : State) : State :=
  let a := s.host.winBase.toNat * 2 ^ 20 + off
  if !tollOk s a (max 1 (bar2Len acc)) then
    post 0x1705 0 63 (a / 64 % 2 ^ 32) 0 { s with host := { s.host with bar2Refused := ctrBump s.host.bar2Refused } }
  else
    let s1 := tollUse 6 s
    match acc with
    | .read _ => s1
    | .write d => tollWrite a d s1

def execBar2Access (off : BitVec 30) (acc : Bar2Acc) (s : State) : Host.Outcome State Fault Refusal :=
  done (bar2Access off.toNat acc) s

/-! ## Queue commands -/

/-- Queue IDs that host software may create (R472). -/
def hostQueue (q : Nat) : Bool := q == 1 || decide (0x10 ≤ q)

def specQueueCreate : Spec :=
  { plain 0x0A03 0x0100 24 0 with
    rsv := fun _ => [rsvAll 6 2, rsvAll 22 2],
    ranges := fun s p =>
      let n := 2 ^ fld1 p 3
      rangesOf [(hostQueue (fld p 0 2), 0), (decide (fld1 p 2 ≤ 3) && (fld p 0 2 != 1 || fld1 p 2 == 1), 2),
        (decide (4 ≤ fld1 p 3 ∧ fld1 p 3 ≤ 20), 3), (decide (fld1 p 4 ≤ 1), 4),
        (decide (1 ≤ fld1 p 5 ∧ fld1 p 5 ≤ 63 ∨ fld1 p 5 = 0xFF), 5),
        (decide (fld p 8 8 % 4096 = 0) && (fld1 p 4 == 1 || (tollOk s (fld p 8 8) (64 * n) && inAlloc s (fld p 8 8) (64 * n))), 8),
        (decide (1 ≤ fld p 16 4 ∧ fld p 16 4 ≤ n), 16)],
    objs := fun p => [.queue (fld p 0 2)] }

/-- QUEUE_CREATE (R472, R473); creating queue 0x0001 brings the last-words report about (R543)
(log entries 30, DEDUCED; 38, DEDUCED). -/
def bodyQueueCreate (s : State) (p : List Byte) : State × Option Reply :=
  let q := fld p 0 2
  let x := getQ s q
  if x.st != .free then no s (refuse stState)
  else
    let y : Queue := { Queue0 with
      st := .active, content := BitVec.ofNat 2 (fld1 p 2), log2 := fld1 p 3, host := fld1 p 4 == 1,
      vector := BitVec.ofNat 8 (fld1 p 5), base := BitVec.ofNat 64 (fld p 8 8), watermark := BitVec.ofNat 32 (fld p 16 4),
      holdoff := BitVec.ofNat 16 (fld p 20 2), dropped := x.dropped }
    let s1 := setQ s q y
    yes (if q = 1 then reportLastWords s1 else s1) []

def execQueueCreate (m : Fin 16) (s : State) : Host.Outcome State Fault Refusal :=
  done (command m specQueueCreate bodyQueueCreate) s

/-- A request whose first two bytes name a queue; `n` bytes in all. -/
def specQueue (op n resp : Nat) : Spec :=
  { plain op 0x0100 n resp with rsv := fun _ => [rsvAll 2 6], objs := fun p => [.queue (fld p 0 2)] }

/-- Something names the queue (R504): a verdict policy, a port, or a replay. -/
def queueNamed (s : State) (q : Nat) : Bool :=
  (List.range 4).any (fun p => (!(getPolicy s p).unset && vpQueue (getPolicy s p).raw == q) ||
    ((getCam s p).configured && camEvq (getCam s p).cfg == q)) || (s.replay.mode && s.replay.queue == q)

/-- QUEUE_DESTROY (R472, R504): the queue is FREE again, and its entries are gone. -/
def bodyQueueDestroy (s : State) (p : List Byte) : State × Option Reply :=
  let q := fld p 0 2
  if !hostQueue q then no s (badParam 0)
  else if (getQ s q).st = .free then no s (refuse stNotFound)
  else if queueNamed s q then no s (refuse stInUse)
  else
    let s1 := setQ s q Queue0
    yes { s1 with q := { s1.q with jobBells := s1.q.jobBells.filter (fun b => b.1 != q) } } []

def execQueueDestroy (m : Fin 16) (s : State) : Host.Outcome State Fault Refusal :=
  done (command m (specQueue 0x0A04 8 0) bodyQueueDestroy) s

/-- STATE code of a queue (R473). -/
def qstCode (x : QSt) : Nat :=
  match x with
  | .free => 0
  | .active => 1
  | .detached => 2

/-- The context of R473. -/
def queueBytes (q : Nat) (x : Queue) : List Byte :=
  leBytes 2 q ++ leBytes 1 x.content.toNat ++ leBytes 1 (b2n x.qerr * 4 + qstCode x.st) ++ leBytes 1 x.log2 ++
    leBytes 1 (b2n x.host) ++ leBytes 1 x.vector.toNat ++ leBytes 1 (b2n x.armed) ++ leBytes 8 x.base.toNat ++
    leBytes 4 x.head.toNat ++ leBytes 4 x.tail.toNat ++ leBytes 4 x.watermark.toNat ++ leBytes 2 x.holdoff.toNat ++
    leBytes 1 (b2n x.fw) ++ leBytes 1 x.dropped.toNat

/-- QUEUE_READ (R473): DROPPED clears as it is read (log entry 38, DEDUCED). -/
def bodyQueueRead (s : State) (p : List Byte) : State × Option Reply :=
  let q := fld p 0 2
  let x := getQ s q
  if x.st = .free then no s (refuse stNotFound) else yes (setQ s q { x with dropped := 0 }) (queueBytes q x)

def execQueueRead (m : Fin 16) (s : State) : Host.Outcome State Fault Refusal :=
  done (command m (specQueue 0x0A05 8 32) bodyQueueRead) s

def specQueueAttach : Spec :=
  { specQueue 0x0A06 16 0 with ranges := fun _ p => rangesOf [(decide (fld p 8 8 % 4096 = 0), 8)] }

/-- QUEUE_ATTACH (R482). -/
def bodyQueueAttach (s : State) (p : List Byte) : State × Option Reply :=
  let q := fld p 0 2
  let x := getQ s q
  if !(x.st == .detached && x.host) then no s (refuse stState)
  else
    let s1 := setQ s q { x with st := .active, base := BitVec.ofNat 64 (fld p 8 8), head := x.tail }
    yes { s1 with q := { s1.q with jobBells := s1.q.jobBells.filter (fun b => b.1 != q) } } []

def execQueueAttach (m : Fin 16) (s : State) : Host.Outcome State Fault Refusal :=
  done (command m specQueueAttach bodyQueueAttach) s

/-! ## Toll gate (R458 to R463) -/

/-- The first requester of `req` after the last owner, in cyclic ascending order (R460). -/
def cyclicNext (owner : Nat) (req : BitVec 12) : Option Nat :=
  ((List.range 12).map (fun k => (owner + 1 + k) % 12)).find? (fun i => req.getLsbD i)

/-- The winner of a decision (R460) (log entry 79, DEDUCED). -/
def tollWinner (t : TollCh) (limits : List (BitVec 8)) (req : BitVec 12) : Option Nat :=
  ((List.range 12).find? (fun i => req.getLsbD i && decide (limits.getD i 255 ≤ t.waits.getD i 0))).or
    (cyclicNext (if t.owner = 0xF then 11 else t.owner.toNat) req)

/-- Wait counters after a decision (R461). -/
def tollWaits (w : Nat) (req : BitVec 12) (ws : List (BitVec 8)) : List (BitVec 8) :=
  ws.zipIdx.map (fun x => if x.2 = w then 0 else if req.getLsbD x.2 then (if x.1 = 255 then 255 else x.1 + 1) else x.1)

/-- Adds to a byte counter, which wraps modulo 2^48 (R463). -/
def addBytes (n : Nat) (b : BytesCtr) : BytesCtr := ⟨b.en + BitVec.ofNat 48 n, b.ovf || decide (2 ^ 48 ≤ b.en.toNat + n)⟩

/-- TOLL_ARBITRATION (R459 to R463): the requests present at the decision, and the lines of the burst granted
(log entry 79, DEDUCED). -/
def tollArbitrate (c : Nat) (req : BitVec 12) (lines : Nat) (s : State) : State :=
  let t := Tab.get TollCh0 s.mem.gate c
  match tollWinner t s.mem.limits req with
  | none => { s with mem := { s.mem with gate := Tab.set TollCh0 s.mem.gate c { t with busy := false, req := 0 } } }
  | some w =>
    let n := 64 * min 32 (max 1 lines)
    { s with
      mem := { s.mem with
        tollAt := now s,
        gate := Tab.set TollCh0 s.mem.gate c ⟨true, BitVec.ofNat 4 w, req, tollWaits w req t.waits⟩,
        bytes := Tab.upd ⟨0, false⟩ s.mem.bytes (4 * w + c) (addBytes n) } }

def execTollArbitration (c : Fin 4) (req : BitVec 12) (lines : BitVec 6) (s : State) : Host.Outcome State Fault Refusal :=
  done (tollArbitrate c req lines.toNat) s

def specTollConfig : Spec :=
  { plain 0x0A07 0x0100 16 0 with
    rsv := fun _ => [rsvAll 12 4], ranges := fun _ p => rangesOf ((List.range 12).map (fun i => (decide (1 ≤ fld1 p i), i))) }

/-- TOLL_CONFIG (R461). -/
def bodyTollConfig (s : State) (p : List Byte) : State × Option Reply :=
  yes { s with mem := { s.mem with limits := (List.range 12).map (fun i => BitVec.ofNat 8 (fld1 p i)) } } []

def execTollConfig (m : Fin 16) (s : State) : Host.Outcome State Fault Refusal := done (command m specTollConfig bodyTollConfig) s

/-- TOLL_STATUS of a channel (R463). -/
def tollStatus (t : TollCh) : Nat := b2n t.busy <<< 31 + t.owner.toNat <<< 24 + t.req.toNat

/-- BYTES of a requester on a channel (R463). -/
def bytesWord (b : BytesCtr) : Nat := b2n b.ovf <<< 63 + b.en.toNat

/-- TOLL_READ (R463, R501). -/
def bodyTollRead (s : State) (_ : List Byte) : State × Option Reply :=
  yes s ((List.range 4).flatMap (fun c => leBytes 4 (tollStatus (Tab.get TollCh0 s.mem.gate c))) ++
    (List.range 48).flatMap (fun k => leBytes 8 (bytesWord (Tab.get ⟨0, false⟩ s.mem.bytes k))))

def execTollRead (m : Fin 16) (s : State) : Host.Outcome State Fault Refusal :=
  done (command m (plain 0x0A08 0x0100 0 400) bodyTollRead) s

end Sys2Proof.Machine
end

