-- ==== Sys2Proof/Machine/Model.lean ====
section
/-! DEFINITION. Sys2Proof/Machine/Model.lean: staging, committing, switching and retiring model images (R222 to R226, R239,
R316, R501, R502, R525, R526), swing spans, and the key-value commands (R188, R198, R213).
-/

namespace Sys2Proof.Machine

/-! ## Eligibility (R239) -/

/-- First byte past the deck space (R451). -/
def deckEnd (s : State) : Nat := deckMib s * 2 ^ 20

/-- A rating is eligible on this device (R239). -/
def eligible (s : State) (im : Image) (r : Rating) : Bool :=
  decide (r.girders ≤ boundGirders s ∧ r.clusters ≤ boundClusters s ∧ r.vfloor ≤ 850 ∧ im.deckBytes ≤ deckEnd s)

/-- The image carries a load rating for the grade's unit counts and fits its memory (R7). -/
def fitsGrade (s : State) (im : Image) : Bool :=
  decide (im.deckBytes ≤ deckEnd s) && im.ratings.any (fun r => decide (r.girders ≤ gradeGirders s ∧ r.clusters ≤ gradeClusters s))

/-- Bits of the eligible ratings of an image. -/
def eligibleBits (s : State) (im : Image) : Nat :=
  im.ratings.foldl (fun a r => a ||| (if eligible s im r then 2 ^ r.idx else 0)) 0

/-! ## Deck regions (R225) -/

/-- Deck regions in use. -/
def deckRegions (s : State) : List (Nat × Nat) := s.imgs.map (fun e => (e.2.deckBase, e.2.deckSize))

/-- The lowest free place of a deck region, on a 32 KiB boundary (log entry 29, DESIGN CHOICE). -/
def findDeck (s : State) (n : Nat) : Option Nat :=
  ((0 :: (deckRegions s).map (fun r => alignUp (r.1 + r.2) 32768)).filter (fun a =>
    decide (a + n ≤ deckEnd s) && (deckRegions s).all (fun r => !overlap a n r.1 r.2))).min?

/-- SWING of every girder (R118, R137): set while a committed ACTIVE image reserves the swing span. -/
def refreshSwing (s : State) : State :=
  let on := s.imgs.any (fun e => e.2.st == .committed && e.2.img.swing && e.2.img.role == 0)
  (List.range 32).foldl (fun a n =>
    let g := getGirder a n
    setGirder n { g with swing := on && g.bound, swingImg := if on then g.swingImg else none } a) s

/-! ## Ramp agreement (R316) -/

/-- What is wrong with a port's ramp for an image. -/
def streamBad (s : State) (im : Image) (p : Nat) : Bool :=
  match (getRamp s p).cfg with
  | none => true
  | some c =>
    let t := (im.tensors[Config.streamTensor im.stream p]?).getD TRec0
    let ch := pixPlanes (camPixfmt (getCam s p).cfg) * rmpS2d c * rmpS2d c
    decide (t.h < segH c) || decide (Config.streamRowW im.stream p < segW c) || (t.fmt != (if rmpInt16 c then .int16 else .uint8)) ||
      decide (t.c ≠ ch) || decide (Config.streamRowW im.stream p % max 1 (Config.streamStride im.stream p) ≠ 0)

/-- The first port of any rating's CPORT_MASK whose ramp does not agree with the image (R316)
(log entry 9, DESIGN CHOICE). -/
def streamCheck (s : State) (im : Image) : Option Nat :=
  (List.range 4).find? (fun p => im.ratings.any (fun r => bitOf r.cportMask p) && streamBad s im p)

/-! ## MODEL_STAGE (R502, R525) -/

def specModelStage : Spec :=
  { plain 0x0801 0x0100 16 48 with
    rsv := fun _ => [rsvAll 12 4],
    ranges := fun s p => rangesOf [(tollOk s (fld p 0 8) (fld p 8 4) && inAlloc s (fld p 0 8) (fld p 8 4), 0)] }

/-- The lowest empty index. -/
def emptyIndex (s : State) : Option Nat := (List.range 16).find? (fun i => (getImg s i).st == .empty)

/-- Bytes that an image's signature covers, and its signature block (R508). -/
def signedPart (b : List Byte) : List Byte := b.take (fld b 32 4)
def sigBlock (b : List Byte) : List Byte := slice b (fld b 32 4) 784

/-- Places a checked image at an index, with a deck region where one is free. -/
def stageAt (i : Nat) (src : Nat) (b meas : List Byte) (s : State) : State :=
  let im := parseImage b
  let d := findDeck s im.deckBytes
  setImg s i { ImgSlot0 with
    st := .staged, img := im, raw := b, toll := src, deckBase := d.getD 0, deckSize := if d.isSome then im.deckBytes else 0,
    meas := meas, keySlot := fld1 (sigBlock b) 5 }

/-- MODEL_STAGE (R7, R502, R525): the image's checks, then its signature, then the grade's fit (log entry 76, DESIGN
CHOICE). -/
def bodyModelStage (m : Nat) (s : State) (p : List Byte) : State × Option Reply :=
  let src := fld p 0 8
  let b := tollRead s src (fld p 8 4)
  let ans (r : Reply) (s : State) : State × Option Reply := hold m 0x0801 p [] false (some r) (tollUse 9 s)
  if lifecycle s != 1 && lifecycle s != 2 then ans (refuse stLifecycle) s
  else
    match emptyIndex s with
    | none => ans (refuse stNoSpace) s
    | some i =>
      match imageChecks b (deckChans s) with
      | some o => ans ⟨stImageInvalid, o, []⟩ s
      | none =>
        let meas := sha256 (signedPart b)
        let im := parseImage b
        if !sigValid s.sec.otp (sigBlock b) meas 1 then ans (refuse stSignature) s
        else if !fitsGrade s im then ans (refuse stImageUnfit) s
        else
          ans (okWith (leBytes 1 i ++ leBytes 1 im.role ++ leBytes 1 (eligibleBits s im) ++ zeros 1 ++ leBytes 4 im.version ++
            leBytes 8 im.modelId ++ meas)) (stageAt i src b meas s)

def execModelStage (m : Fin 16) (s : State) : Host.Outcome State Fault Refusal :=
  done (command m specModelStage (bodyModelStage m)) s

/-! ## MODEL_COMMIT (R226, R502, R526) -/

/-- A request that names an image index. -/
def specImage (op resp : Nat) : Spec :=
  { plain op 0x0100 8 resp with
    rsv := fun _ => [rsvAll 1 7], ranges := fun _ p => selRange 16 p, objs := fun p => [.image (fld1 p 0)] }

/-- Track IDs of an image overlap those of another committed image (R182). -/
def tracksClash (s : State) (i : Nat) : Bool :=
  (getImg s i).img.sets.any (fun a => s.imgs.any (fun e => e.1 != i && e.2.st == .committed &&
    e.2.img.sets.any (fun b => overlap a.base a.count b.base b.count)))

/-- Places committed ACTIVE images take (R226). -/
def activeCount (s : State) : Nat := (s.imgs.filter (fun e => e.2.st == .committed && e.2.img.role == 0)).length

/-- The weights fit the swing span of the girders of a standby image's JOB table (R119). -/
def swingFits (im : Image) : Bool := decide (im.role = 0 ∨ im.weightsSize ≤ bankBytes * (jobTable im).girders)

/-- Pages of the pools of all committed images (R187). -/
def poolTotal (s : State) : Nat :=
  (s.imgs.filter (fun e => e.2.st == .committed)).foldl (fun a e => a + e.2.img.poolPages) 0

/-- The image's page pool can be committed: with the other pools it holds at most 131,072 pages (R187), and it covers the
reservations of its own tracks (R191). -/
def poolFits (s : State) (im : Image) : Bool := decide (poolTotal s + im.poolPages ≤ 131072 ∧ kvReserved im.sets ≤ im.poolPages)

/-- What keeps a staged image from being committed (R119, R182, R187, R191, R226, R502) (log entry 112, DESIGN CHOICE). -/
def commitRefusal (s : State) (i : Nat) : Option Reply :=
  let x := getImg s i
  if x.st = .empty then some (refuse stNotFound)
  else if x.st = .committed then some (refuse stState)
  else if x.img.role = 0 ∧ 4 ≤ activeCount s then some (refuse stNoSpace)
  else if sha256 (signedPart (tollRead s x.toll x.img.size)) ≠ x.meas then some (refuse stSignature)
  else if (x.deckSize ≠ x.img.deckBytes ∧ (findDeck s x.img.deckBytes).isNone) ∨ !swingFits x.img ∨ !poolFits s x.img then some (refuse stUnfit)
  else if tracksClash s i then some (badParam 0)
  else none
where
  /-- IMAGE_UNFIT. -/
  stUnfit : Nat := stImageUnfit

/-- Copies WEIGHTS into the deck region (R225, R526) (log entry 67, DEDUCED). -/
def copyWeights (x : ImgSlot) (deck : Mem) : Mem :=
  x.img.mem.foldl (fun m e =>
    let n := ((x.img.tensors[e.1]?).map tensorBytes).getD 0
    memWrite m (x.deckBase + e.2.2) (slice x.raw (x.img.weightsOff + e.2.1) n)) deck

/-- The steps of R526 after the check: weights, resident digest, the mark, fresh tracks; a LOT record (R264). -/
def commitNow (i : Nat) (s : State) : State :=
  let x0 := getImg s i
  let base := if x0.deckSize = x0.img.deckBytes then x0.deckBase else (findDeck s x0.img.deckBytes).getD 0
  let x := { x0 with deckBase := base, deckSize := x0.img.deckBytes }
  let dram := copyWeights x s.deck.dram
  let kv : Kv := { Kv0 with base := base + x.img.poolBase, pages := x.img.poolPages, sets := x.img.sets }
  let s1 := setImg { s with deck := { s.deck with
      dram := dram, badLines := s.deck.badLines.filter (fun a => !(decide (base ≤ a ∧ a < base + x.deckSize))) } } i
    { x with st := .committed, digest := sha256 (memRead dram base x.deckSize), kv := kv }
  recLot (refreshSwing (deckUse 9 (tollUse 9 s1)))

/-- Applies a MODEL_COMMIT, at a boundary or at once (R493). -/
def applyCommitCmd (p : List Byte) (s : State) : State × Reply :=
  match commitRefusal s (fld1 p 0) with
  | some r => (s, r)
  | none => (commitNow (fld1 p 0) s, okWith [])

/-- A copy of a boundary command in a BOUNDARY record (R261) (log entry 36, DESIGN CHOICE). -/
def cmdCopy (c : Nat × List Byte) : List Byte :=
  let b := leBytes 2 c.2.length ++ leBytes 2 c.1 ++ zeros 4 ++ c.2
  leBytes 2 b.length ++ zeros 6 ++ b ++ zeros (alignUp b.length 8 - b.length)

/-- Place of an image among the entries of the latest LOT record (R264). -/
def lotIndex (s : State) (i : Nat) : Nat := s.rec_.lotImgs.idxOf (some i)

/-- A BOUNDARY record (R261): the band that each port takes with its OVERRUN, the bands dropped, and the commands. -/
def recBoundary (crossing : Nat) (taken : List (Option (Nat × Bool))) (drops : List (List Nat)) (cmds : List (Nat × List Byte))
    (s : State) : State :=
  let port (p : Nat) : List Byte :=
    let b := taken.getD p none
    leBytes 8 ((b.map (fun x => x.1)).getD (2 ^ 64 - 1)) ++ leBytes 1 (b2n ((b.map (fun x => x.2)).getD false)) ++
      leBytes 1 (drops.getD p []).length ++ zeros 6
  recPut 6 (now s) (leBytes 8 crossing ++ leBytes 1 (lotIndex s s.seq.img) ++ leBytes 1 s.seq.rating ++ leBytes 2 s.seq.vdd ++
    leBytes 2 cmds.length ++ zeros 2 ++ (List.range 4).flatMap port ++
    (List.range 4).flatMap (fun p => (drops.getD p []).flatMap (leBytes 8)) ++ cmds.flatMap cmdCopy) s

/-- What was decided where no crossing starts: a BOUNDARY record without a CROSSING_NO, where there is anything to record
(R27, R219, R253) (log entry 113, DESIGN CHOICE). -/
def recNoCrossing (drops : List (List Nat)) (cmds : List (Nat × List Byte)) (s : State) : State :=
  when_ (drops.any (fun l => !l.isEmpty) || !cmds.isEmpty) (recBoundary (2 ^ 64 - 1) [] drops cmds) s

/-- A command marked B (R493): at once when no crossing runs, else at the boundary. `early` is what is refused on
acceptance (R491) (log entry 78, DEDUCED). -/
def boundaryCmd (m op : Nat) (objs : List Byte → List Objt) (early : State → List Byte → Option Reply)
    (apply : List Byte → State → State × Reply) (s : State) (p : List Byte) : State × Option Reply :=
  match early s p with
  | some r => no s r
  | none =>
    if crossingLive s then hold m op p (objs p) true none s
    else
      let r := apply p s
      (recNoCrossing [] [(op, p)] r.1, some r.2)

def imageObj (p : List Byte) : List Objt := [.image (fld1 p 0)]

/-- MODEL_COMMIT refuses an index that is not staged as it is accepted (R502). -/
def commitEarly (s : State) (p : List Byte) : Option Reply :=
  match (getImg s (fld1 p 0)).st with
  | .empty => some (refuse stNotFound)
  | .committed => some (refuse stState)
  | .staged => none

def execModelCommit (m : Fin 16) (s : State) : Host.Outcome State Fault Refusal :=
  done (command m (specImage 0x0802 0) (boundaryCmd m 0x0802 imageObj commitEarly applyCommitCmd)) s

/-! ## MODEL_SWITCH, MODEL_RETIRE, MODEL_LIST, SWING_READ -/

/-- A switch names a committed ACTIVE image. -/
def switchEarly (s : State) (p : List Byte) : Option Reply :=
  let x := getImg s (fld1 p 0)
  if x.st = .empty then some (refuse stNotFound) else if x.st = .staged ∨ x.img.role ≠ 0 then some (refuse stState) else none

/-- Applies a MODEL_SWITCH (R226, R316): the new image starts without a running rating. -/
def applySwitch (p : List Byte) (s : State) : State × Reply :=
  let i := fld1 p 0
  match switchEarly s p with
  | some r => (s, r)
  | none =>
    match streamCheck s (getImg s i).img with
    | some port => (s, ⟨stState, port, []⟩)
    | none => ({ s with seq := { s.seq with img := i, rated := s.seq.rated && i == s.seq.img } }, okWith [])

def execModelSwitch (m : Fin 16) (s : State) : Host.Outcome State Fault Refusal :=
  done (command m { specImage 0x0803 0 with objs := fun p => [.image (fld1 p 0), .sequencer] }
    (boundaryCmd m 0x0803 (fun p => [.image (fld1 p 0), .sequencer]) switchEarly applySwitch)) s

/-- An image that runs, or that a launch will run. -/
def imageRuns (s : State) (i : Nat) : Bool :=
  (s.seq.started && s.seq.img == i) || (s.seq.launchArmed.map (fun l => l.2 == i)).getD false

/-- MODEL_RETIRE (R502) (log entry 76, DESIGN CHOICE). -/
def bodyModelRetire (s : State) (p : List Byte) : State × Option Reply :=
  let i := fld1 p 0
  if (getImg s i).st = .empty then no s (refuse stNotFound)
  else if imageRuns s i || s.jobs.any (fun j => j.kind == .standby && j.img == i) then no s (refuse stInUse)
  else
    yes (refreshSwing ((List.range 32).foldl (fun a n =>
      let g := getGirder a n
      if g.swingImg = some i then setGirder n { g with swingImg := none } a else a)
      (setImg { s with rec_ := { s.rec_ with lotImgs := s.rec_.lotImgs.map (fun e => if e = some i then none else e) } } i
        ImgSlot0))) []

def execModelRetire (m : Fin 16) (s : State) : Host.Outcome State Fault Refusal :=
  done (command m (specImage 0x0804 0) bodyModelRetire) s

/-- STATE of an index (R501): 0 empty, 1 staged, 2 committed, 3 running. -/
def imgState (s : State) (i : Nat) : Nat :=
  match (getImg s i).st with
  | .empty => 0
  | .staged => 1
  | .committed => if s.seq.started && s.seq.img == i then 3 else 2

/-- MODEL_LIST (R501). -/
def bodyModelList (s : State) (_ : List Byte) : State × Option Reply :=
  yes s ((List.range 16).flatMap (fun i =>
    let x := getImg s i
    leBytes 1 (imgState s i) ++ leBytes 1 x.img.role ++ zeros 2 ++ leBytes 4 x.img.version ++ leBytes 8 x.img.modelId))

def execModelList (m : Fin 16) (s : State) : Host.Outcome State Fault Refusal :=
  done (command m (plain 0x0805 0x0100 0 256) bodyModelList) s

/-- SWING_READ (R501): the image whose weights each logical girder's swing span holds. -/
def bodySwingRead (s : State) (_ : List Byte) : State × Option Reply :=
  yes s ((List.range 32).flatMap (fun l =>
    let g := getGirder s (physGirder s l)
    leBytes 1 (if g.bound && g.logical == l then g.swingImg.getD 0xFF else 0xFF)))

def execSwingRead (m : Fin 16) (s : State) : Host.Outcome State Fault Refusal :=
  done (command m (plain 0x0806 0x0100 0 32) bodySwingRead) s

/-! ## Key-value commands (R188, R198, R213) -/

/-- The committed image whose sets hold a track. -/
def trackImage (s : State) (t : Nat) : Option Nat :=
  (List.range 16).find? (fun i => (getImg s i).st == .committed && (kvSetOf (getImg s i).kv t).isSome)

/-- KV_STATUS (R213): the counters clear as they are read. -/
def bodyKvStatus (s : State) (p : List Byte) : State × Option Reply :=
  let i := fld1 p 0
  let x := getImg s i
  if x.st ≠ .committed ∨ x.kv.pages = 0 then no s (refuse stNotFound)
  else
    yes (setImg s i { x with kv := { x.kv with cTrunc := Ctr0, cRecyc := Ctr0, cUe := Ctr0 } })
      (leBytes 4 (kvFree x.kv) ++ leBytes 4 (kvShared x.kv) ++ ctrsBytes [x.kv.cTrunc, x.kv.cRecyc, x.kv.cUe])

def execKvStatus (m : Fin 16) (s : State) : Host.Outcome State Fault Refusal :=
  done (command m { specImage 0x1004 20 with ver := 0x0101 } bodyKvStatus) s

def specKvDump : Spec :=
  { plain 0x1005 0x0101 8 1088 with
    rsv := fun _ => [rsvAll 2 6], ranges := fun _ p => rangesOf [(decide (fld p 0 2 < 4096), 0)], objs := fun _ => [.sequencer] }

/-- A KV_DUMP names a track of a committed image. -/
def dumpEarly (s : State) (p : List Byte) : Option Reply := if (trackImage s (fld p 0 2)).isNone then some (refuse stNotFound) else none

/-- KV_DUMP (R188, R219 step 5): the track record and its page table. -/
def applyKvDump (p : List Byte) (s : State) : State × Reply :=
  let t := fld p 0 2
  match trackImage s t with
  | none => (s, refuse stNotFound)
  | some i =>
    let k := kvTrack (getImg s i).kv t
    (s, okWith (kvTrackBytes t k ++ kvTableBytes k))

def execKvDump (m : Fin 16) (s : State) : Host.Outcome State Fault Refusal :=
  done (command m specKvDump (boundaryCmd m 0x1005 (fun _ => [.sequencer]) dumpEarly applyKvDump)) s

def specKvReset : Spec :=
  { plain 0x1006 0x0101 8 0 with
    rsv := fun _ => [rsvAll 5 3],
    ranges := fun _ p => rangesOf [(decide (fld p 0 2 < 4096), 0),
      (decide (1 ≤ fld p 2 2 ∧ fld p 0 2 + fld p 2 2 ≤ 4096), 2), (decide (fld1 p 4 ≤ 2), 4)],
    objs := fun _ => [.sequencer] }

/-- Every track that KV_TRACK_RESET names belongs to a committed image. -/
def resetEarly (s : State) (p : List Byte) : Option Reply :=
  if (List.range (fld p 2 2)).all (fun i => (trackImage s (fld p 0 2 + i)).isSome) then none else some (refuse stNotFound)

/-- Resets one track in mode 0 default, 1 rolling, 2 fixed (R198). -/
def resetTrack (mode t : Nat) (s : State) : State :=
  match trackImage s t with
  | none => s
  | some i =>
    let x := getImg s i
    let dflt := ((kvSetOf x.kv t).map (fun q => q.rolling)).getD false
    kvRearm i (cleanPages x.kv ((kvTrack x.kv t).table.map (fun e => e.2.toNat % 2 ^ 17))
      (setImg s i { x with kv := kvReset x.kv t (if mode = 0 then dflt else mode == 1) }))

/-- KV_TRACK_RESET (R198). -/
def applyKvReset (p : List Byte) (s : State) : State × Reply :=
  ((List.range (fld p 2 2)).foldl (fun a i => resetTrack (fld1 p 4) (fld p 0 2 + i) a) s, okWith [])

def execKvTrackReset (m : Fin 16) (s : State) : Host.Outcome State Fault Refusal :=
  done (command m specKvReset (boundaryCmd m 0x1006 (fun _ => [.sequencer]) resetEarly applyKvReset)) s

/-- Resets every track of every image (R198, LOT_OPEN with RESET_TRACKS of R265): images by index, sets in the order of their
records, tracks by ID, which is the order in which their pages go back (log entry 111, DESIGN CHOICE). -/
def resetAllTracks (s : State) : State :=
  (List.range 16).foldl (fun a i => (getImg s i).kv.sets.foldl (fun a q =>
    (List.range q.count).foldl (fun a j => resetTrack 0 (q.base + j) a) a) a) s

end Sys2Proof.Machine
end

