-- ==== Sys2Proof/Machine/Power.lean ====
section
/-! DEFINITION. Sys2Proof/Machine/Power.lean: power domains and abutment banks (R414 to R427), PWR_SET, PWR_READ and
PWR_PAD_RELEASE (R444, R445), sensors, energy counters and heat (R431, R432, R446).
-/

namespace Sys2Proof.Machine

/-! ## Domain numbers (R414) -/

/-- The domain whose number an event or command names for a domain or bank. -/
def domNo (d : Nat) : Nat := if d < 64 then d else 41
def isGd (d : Nat) : Bool := decide (1 ≤ d ∧ d ≤ 32)
def isTd (d : Nat) : Bool := decide (33 ≤ d ∧ d ≤ 40)
def isBank (d : Nat) : Bool := decide (64 ≤ d ∧ d < 76)
def isMc (d : Nat) : Bool := decide (59 ≤ d ∧ d ≤ 62)

/-- Domains whose first access wakes them (R423). -/
def wakesOnDemand (d : Nat) : Bool := isMc d || isBank d || d == 41

/-- Every domain but AO and the AB index, and every bank. -/
def allDomains : List Nat := (List.range 63).map (fun i => i + 1) |>.filter (fun d => d != 41) |>.append ((List.range 12).map (fun i => 64 + i))

/-- STATE codes (R427). -/
def pdCode (x : PdSt) : Nat :=
  match x with
  | .off => 0
  | .retention => 1
  | .on => 2
  | .transition => 3

/-! ## What leaves ON loses (R416) -/

/-- What a domain keeps and loses as it enters a state (R416): a girder also its weight registers and accumulators, a camera
group its connections (R422), and a span port whose domain is OFF is DISABLED (R412) (log entry 23, DESIGN CHOICE). -/
def loseDom (d : Nat) (target : PdSt) (s : State) : State :=
  let ret := target == .retention
  if isGd d then
    let n := d - 1
    let mask := (getDom s d).retMask
    let s1 := (List.range 10).foldl (fun a b =>
      if ret && mask.getLsbD b then a else setDeckMem .pier (memClear a.deck.pier (pierBytes * n + bankBytes * b) bankBytes) a) s
    let g := { getGirder s1 n with active := WSet0, shadow := WSet0, acc := AccBank0, drain := AccBank0 }
    setGirder n (if ret && mask.getLsbD 9 then g else { g with swingImg := none }) s1
  else if isTd d then setDeckMem .trestle (memClear s.deck.trestle (localBytes * (d - 33)) localBytes) s
  else if isBank d then
    if ret then s else setDeckMem .abut (memClear s.deck.abut (abutBankBytes * (d - 64)) abutBankBytes) s
  else if isMc d && !ret then
    let s1 := if d = tollGroup s then { s with mem := { s.mem with toll := [] } } else s
    if deckGroup s d then setDeckMem .dram (s.deck.dram.filter (fun c => deckChan s c.1 / 4 != d - 59)) s1 else s1
  else if 46 ≤ d ∧ d < 50 then setCam s (d - 46) { getCam s (d - 46) with connUp := 0 }
  else if 51 ≤ d ∧ d < 59 then
    reparent (setSpan s (d - 51) { getSpan s (d - 51) with
      st := .disabled, lanes := 0, version := 0, neigh := none, test := none })
  else s

/-- A domain enters RETENTION or OFF, its pads latched and held (R416, R425). -/
def enterState (d : Nat) (target : PdSt) (s : State) : State :=
  let s1 := loseDom d target s
  setDom s1 d { getDom s1 d with st := target, prep := none, padHold := !isBank d }

/-! ## What a block needs (R239, R244, R420, R444) -/

/-- A rating runs. -/
def rates (s : State) : Bool := s.seq.started && s.seq.rated

/-- Logical girders and clusters that background jobs hold. -/
def jobGirders (s : State) : List Nat := (s.jobs.filter (fun j => j.st != .waiting)).flatMap (fun j => j.girders)
def jobClusters (s : State) : Nat :=
  (s.jobs.filter (fun j => j.st != .waiting)).foldl (fun a j =>
    max a (match j.kind with
      | .standby => (jobTable (getImg s j.img).img).clusters
      | .secondLook => (runRating s).clusters)) 0

/-- A girder, or a cluster, is bound to a logical unit that the running rating or a job uses. -/
def girderUsed (s : State) (n : Nat) : Bool :=
  let g := getGirder s n
  g.bound && ((rates s && decide (g.logical < (runRating s).girders)) || (jobGirders s).contains g.logical)
def clusterUsed (s : State) (k : Nat) : Bool :=
  let c := getCluster s k
  c.bound && ((rates s && decide (c.logical < (runRating s).clusters)) || decide (c.logical < jobClusters s))

/-- A byte range meets bank `i`. -/
def inBank (i a n : Nat) : Bool := overlap a n (abutBankBytes * i) abutBankBytes

/-- What bank `i` holds (R420): a region owned by DECK, a band being written or queued, or a landing buffer. -/
def bankHolds (s : State) (i : Nat) : Bool :=
  s.deck.regions.any (fun e => decide (e.1 / 32 = i) && e.2.deck) ||
    s.bands.any (fun b => b.buffer.isSome && inBank i b.addr b.size) ||
    (rates s && (runRating s).places.any (fun q => q.space == 4 && inBank i q.addr q.size))

/-- Bank `i` is used: it holds something, or a placement of the running rating lies in it. -/
def bankUsed (s : State) (i : Nat) : Bool :=
  bankHolds s i || (rates s && (runRating s).places.any (fun q => q.space == 1 && inBank i q.addr q.size))

/-- Allocations on controller group `g` (R420). -/
def mcHolds (s : State) (d : Nat) : Bool :=
  (d == tollGroup s && !s.gh.allocs.isEmpty) || (deckGroup s d && s.imgs.any (fun e => decide (0 < e.2.deckSize)))

/-- A pipeline, receiver group, or ramp serves a configured port (R420). -/
def apUsed (s : State) (a : Nat) : Bool := (List.range 4).any (fun p => (getCam s p).apSet && apAp (apNow (getCam s p)) == a)
def cxUsed (s : State) (g : Nat) : Bool := (getCam s g).configured
def rmUsed (s : State) : Bool := (List.range 4).any (fun p => (getRamp s p).cfg.isSome)
def spUsed (s : State) (p : Nat) : Bool := (getSpan s p).enabled || (getSpan s p).st != .disabled

/-- The block answers PREPARE with REFUSE (R420) (log entry 53, DEDUCED). -/
def mustRefuse (s : State) (d : Nat) (target : PdSt) : Bool :=
  if isGd d then girderUsed s (d - 1)
  else if isTd d then clusterUsed s (d - 33)
  else if isBank d then bankHolds s (d - 64)
  else if isMc d then (target == .off && mcHolds s d) || (deckGroup s d && s.seq.started)
  else if d < 46 then apUsed s (d - 42)
  else if d < 50 then cxUsed s (d - 46)
  else if d = 50 then rmUsed s
  else if d < 59 then (getSpan s (d - 51)).st != .disabled
  else !s.host.perst

/-! ## The handshake (R419) -/

/-- The steward sends PREPARE to a domain or bank that is ON and has no entry under way. -/
def sendPrepare (d : Nat) (target : PdSt) (s : State) : State :=
  let x := getDom s d
  if x.st = .on ∧ x.prep = none ∧ !x.fused then setDom s d { x with prep := some ⟨target, now s, 0, none, false⟩ } else s

/-- The steward brings a domain or bank towards a state: an entry from ON, or, from RETENTION, OFF at once
(log entry 53, DEDUCED). -/
def goDown (d : Nat) (target : PdSt) (s : State) : State :=
  let x := getDom s d
  if x.st = .retention ∧ target = .off then enterState d .off s else sendPrepare d target s

/-- PREPARE_ANSWER (R419 to R421): REFUSE, also after an access that it has served, DELAY of an MC group with accesses outstanding, or ACCEPT
(log entry 53, DEDUCED). -/
def prepareAnswer (d busy : Nat) (s : State) : State :=
  let x := getDom s d
  match x.prep with
  | none => s
  | some p =>
    if p.again.isSome || decide (p.sentAt + 10000 < now s) then s
    else if p.served || mustRefuse s d p.target then setDom s d { x with prep := none }
    else if isMc d && busy != 0 then
      setDom s d { x with prep := some { p with delayUs := p.delayUs + busy, again := some (now s + 1000 * busy) } }
    else enterState d p.target s

def execPrepareAnswer (d : Fin 76) (busy : BitVec 16) (s : State) : Host.Outcome State Fault Refusal :=
  done (prepareAnswer d busy.toNat) s

/-- PREPARE_TIMEOUT (R419): no answer within 10 µs counts as REFUSE. -/
def prepareTimeout (d : Nat) (s : State) : State :=
  let x := getDom s d
  match x.prep with
  | none => s
  | some p =>
    if p.again.isNone && decide (p.sentAt + 10000 ≤ now s) then
      post 0x1601 0 (domNo d) (pdCode p.target) 0 (setDom s d { x with prep := none })
    else s

def execPrepareTimeout (d : Fin 76) (s : State) : Host.Outcome State Fault Refusal := done (prepareTimeout d) s

/-- PREPARE_DELAY_EXPIRY (R419): PREPARE again, or the entry is given up after more than 100 ms of DELAY. -/
def prepareDelayExpiry (d : Nat) (s : State) : State :=
  let x := getDom s d
  match x.prep with
  | none => s
  | some p =>
    match p.again with
    | none => s
    | some t =>
      if now s < t then s
      else if 100000 < p.delayUs then
        post 0x1602 0 (domNo d) (pdCode p.target) 0 (setDom s d { x with prep := none, gaveUp := true })
      else setDom s d { x with prep := some { p with sentAt := now s, again := none, served := false } }

def execPrepareDelayExpiry (d : Fin 76) (s : State) : Host.Outcome State Fault Refusal := done (prepareDelayExpiry d) s

/-! ## Wakes (R422 to R426) -/

/-- ON_DEMAND_WAKE (R423): an access of a toll requester, or of the deck, to a group or bank that is not ON. -/
def onDemandWake (d req : Nat) (s : State) : State :=
  if (isMc d || isBank d) && (decide (req < 12) || req == 0x3F) then wakeDom d 5 (some req) s else s

def execOnDemandWake (d : Fin 76) (requester : BitVec 6) (s : State) : Host.Outcome State Fault Refusal :=
  done (onDemandWake d requester.toNat) s

/-- PWR_ACCESS_OFF (R424): an access to a domain that does not wake on demand and is not ON is dropped. -/
def accessOff (d req addr : Nat) (s : State) : State :=
  if wakesOnDemand d || isOn s d then s else post 0x2603 0 d req addr s

def execPwrAccessOff (d : Fin 64) (requester : BitVec 6) (address : BitVec 32) (s : State) : Host.Outcome State Fault Refusal :=
  done (accessOff d requester.toNat address.toNat) s

/-! ## AUTO (R444) -/

/-- The state the steward gives a domain or bank under AUTO, and the source of the wake where that is ON; none where it
leaves it as it is. -/
def autoTarget (s : State) (d : Nat) : Option (PdSt × Nat) :=
  let use (b : Bool) (src : Nat) (idle : PdSt) : Option (PdSt × Nat) := some (if b then (.on, src) else (idle, src))
  if isGd d then use (girderUsed s (d - 1)) 2 (if (getGirder s (d - 1)).swingImg.isSome then .retention else .off)
  else if isTd d then use (clusterUsed s (d - 33)) 2 .retention
  else if isBank d then if bankUsed s (d - 64) then none else some (.off, 2)
  else if d = tollGroup s ∨ d = 63 ∨ d = 0 then none
  else if isMc d then use s.seq.started 2 .retention
  else if d < 46 then use (apUsed s (d - 42)) 3 .off
  else if d < 50 then use (cxUsed s (d - 46)) 3 .off
  else if d = 50 then use (rmUsed s) 3 .off
  else use (spUsed s (d - 51)) 3 .off

/-- Brings one domain or bank under AUTO to its state; a girder in RETENTION keeps bank 9. -/
def autoOne (d : Nat) (s : State) : State :=
  let x := getDom s d
  if x.policy != 0 || x.fused || x.gaveUp then s
  else
    match autoTarget s d with
    | none => s
    | some (.on, src) => wakeDom d src none s
    | some (t, _) => goDown d t (if isGd d then setDom s d { x with retMask := if t = .retention then 0x200 else 0 } else s)

/-- The steward brings every domain and bank under AUTO to its state; at a boundary it tries again what it had given up
(R419) (log entry 53, DEDUCED). -/
def autoPower (boundary : Bool) (s : State) : State :=
  allDomains.foldl (fun a d => autoOne d (if boundary then setDom a d { getDom a d with gaveUp := false } else a)) s

/-- DOMAIN_WAKE_COMPLETE (R418, R422, R425): the domain is ON, its configuration rewritten, and its pads released unless
the wake came from PWR_SET with HOLD_PADS set; a span port that is enabled begins its training (R379). A deck controller
group that woke while no crossing runs is sent back under AUTO (R444). -/
def wakeComplete (d : Nat) (s : State) : State :=
  let x := getDom s d
  if x.st != .transition then s
  else
    let s1 := setDom s d { x with st := .on, padHold := x.padHold && x.holdPads && x.wakeSrc == 4 }
    if 51 ≤ d ∧ d ≤ 58 then
      when_ ((getSpan s1 (d - 51)).enabled && (getSpan s1 (d - 51)).st == .disabled) (startTrain (d - 51)) s1
    else when_ (isMc d) (autoOne d) s1

def execDomainWakeComplete (d : Fin 76) (s : State) : Host.Outcome State Fault Refusal := done (wakeComplete d) s

/-- MC3_IDLE_RETENTION (R444): 100 µs without a toll access; on the SG7-C the group is MC1, which holds deck channels too
and is let go only while no crossing runs. -/
def mc3Idle (s : State) : State :=
  let d := tollGroup s
  if (getDom s d).policy = 0 ∧ s.mem.tollAt + 100000 ≤ now s ∧ (deckGroup s d && s.seq.started) = false then
    sendPrepare d .retention s
  else s

def execMc3IdleRetention (s : State) : Host.Outcome State Fault Refusal := done mc3Idle s

/-! ## PWR_SET, PWR_READ, PWR_PAD_RELEASE -/

/-- Entry `e` of PWR_SET. -/
def pwDom (p : List Byte) (e : Nat) : Nat := fld1 p (8 * e)
def pwPol (p : List Byte) (e : Nat) : Nat := fld1 p (8 * e + 1)
def pwHold (p : List Byte) (e : Nat) : Bool := bitOf (fld1 p (8 * e + 2)) 0
def pwBanks (p : List Byte) (e : Nat) : Nat := fld p (8 * e + 4) 2
def pwRet (p : List Byte) (e : Nat) : Nat := fld p (8 * e + 6) 2

def specPwrSet : Spec :=
  { plain 0x0D03 0x0100 0 0 with
    lens := .entries 8 64,
    rsv := fun p => (List.range (p.length / 8)).flatMap (fun e => [(8 * e + 2, 1, 0xFE), rsvAll (8 * e + 3) 1]),
    ranges := fun s p => rangesOf ((List.range (p.length / 8)).flatMap (fun e =>
      [(decide (1 ≤ pwDom p e ∧ pwDom p e < 64) && !(getDom s (pwDom p e)).fused, 8 * e), (decide (pwPol p e ≤ 3), 8 * e + 1),
        (decide (pwBanks p e < (if pwDom p e = 41 then 4096 else 1)), 8 * e + 4),
        (decide (pwRet p e < (if isGd (pwDom p e) then 1024 else 1)), 8 * e + 6)])) }

/-- The domains or banks an entry names. -/
def pwTargets (p : List Byte) (e : Nat) : List Nat :=
  if pwDom p e = 41 then ((List.range 12).filter (fun i => bitOf (pwBanks p e) i)).map (fun i => 64 + i) else [pwDom p e]

/-- The running rating needs a domain or bank (R444). -/
def ratingNeeds (s : State) (d : Nat) : Bool :=
  rates s && (if isGd d then (getGirder s (d - 1)).bound && decide ((getGirder s (d - 1)).logical < (runRating s).girders)
    else if isTd d then (getCluster s (d - 33)).bound && decide ((getCluster s (d - 33)).logical < (runRating s).clusters)
    else if isBank d then bankUsed s (d - 64)
    else if isMc d then deckGroup s d
    else (List.range 4).any (fun p => bitOf (runRating s).cportMask p &&
      (d == 42 + apAp (apNow (getCam s p)) || d == 46 + p || d == 50)))

/-- What refuses a PWR_SET (R444) (log entry 53, DEDUCED). -/
def pwrRefusal (s : State) (p : List Byte) : Option Reply :=
  let es := List.range (p.length / 8)
  if es.any (fun e => decide (2 ≤ pwPol p e) && (pwTargets p e).any (ratingNeeds s)) then some (refuse stBusyRunning)
  else if es.any (fun e => pwPol p e == 3 && isMc (pwDom p e) && mcHolds s (pwDom p e)) then some (refuse stInUse)
  else none

/-- Applies a policy to one domain or bank. -/
def pwrApply (pol : Nat) (hold_ : Bool) (ret : Nat) (s : State) (d : Nat) : State :=
  let s1 := setDom s d { getDom s d with
    policy := BitVec.ofNat 2 pol, holdPads := hold_, retMask := BitVec.ofNat 16 ret, gaveUp := false }
  match pol with
  | 0 => autoOne d s1
  | 1 => wakeDom d 4 none s1
  | 2 => goDown d .retention s1
  | _ => goDown d .off s1

/-- PWR_SET (R444); the AB index keeps the policy last named. -/
def bodyPwrSet (s : State) (p : List Byte) : State × Option Reply :=
  match pwrRefusal s p with
  | some r => no s r
  | none =>
    yes ((List.range (p.length / 8)).foldl (fun a e =>
      let b := if pwDom p e = 41 then setDom a 41 { getDom a 41 with policy := BitVec.ofNat 2 (pwPol p e) } else a
      (pwTargets p e).foldl (pwrApply (pwPol p e) (pwHold p e) (pwRet p e)) b) s) []

def execPwrSet (m : Fin 16) (s : State) : Host.Outcome State Fault Refusal := done (command m specPwrSet bodyPwrSet) s

/-- AB_STATE (R427) (log entry 28, DESIGN CHOICE). -/
def abState (s : State) : Nat := (List.range 12).foldl (fun a i => a + pdCode (getDom s (64 + i)).st <<< (2 * i)) 0

/-- PD_STATUS[d] (R427) (log entry 28, DESIGN CHOICE). -/
def pdStatus (s : State) (d : Nat) : Nat :=
  let x := getDom s d
  let st := if d = 41 then Config.abState (abState s) % 4 else pdCode x.st
  st <<< 30 + x.policy.toNat <<< 28 + b2n x.padHold <<< 27 + b2n x.fused <<< 26 + b2n (wakesOnDemand d) <<< 25 +
    x.wakeSrc.toNat <<< 21 + (if isGd d then x.retMask.toNat else 0)

/-- ENERGY[d] (R432). -/
def energyWord (x : Domain) : Nat := b2n x.ovf <<< 63 + x.energy.toNat

/-- A sensor word (R431). -/
def sensorWord (x : Sensor) : Nat := b2n x.valid <<< 31 + x.temp.toNat

/-- The steward status word (R445). -/
def stewardWord (s : State) : Nat :=
  let w := s.steward
  (w.rating % 8) <<< 29 + b2n w.noFit <<< 28 + (w.boost % 16) <<< 24 + b2n w.throttled <<< 23 + w.vdd % 2 ^ 16

def sensorOf (s : State) (i : Nat) : Sensor := Tab.get ⟨false, 0⟩ s.steward.sensors i

/-- PWR_READ (R445, R501). -/
def bodyPwrRead (s : State) (_ : List Byte) : State × Option Reply :=
  yes s ((List.range 64).flatMap (fun d => leBytes 4 (pdStatus s d)) ++ leBytes 4 (abState s) ++ zeros 4 ++
    (List.range 64).flatMap (fun d => leBytes 8 (energyWord (getDom s d))) ++
    (List.range 16).flatMap (fun i => leBytes 4 (sensorWord (sensorOf s i))) ++
    leBytes 4 (s.pwr.lastDomain <<< 16 + s.pwr.lastSrc.toNat <<< 8 + s.pwr.lastReq.toNat) ++ zeros 4 ++
    leBytes 8 s.pwr.stamp ++ leBytes 2 s.steward.sense ++ zeros 2 ++ leBytes 4 (stewardWord s))

def execPwrRead (m : Fin 16) (s : State) : Host.Outcome State Fault Refusal :=
  done (command m (plain 0x0D04 0x0100 0 864) bodyPwrRead) s

/-- PWR_PAD_RELEASE (R425): the pads of a domain that is ON are released (log entry 53, DEDUCED). -/
def bodyPadRelease (s : State) (p : List Byte) : State × Option Reply :=
  let d := fld1 p 0
  let x := getDom s d
  yes (if x.st = .on then setDom s d { x with padHold := false, holdPads := false } else s) []

def execPwrPadRelease (m : Fin 16) (s : State) : Host.Outcome State Fault Refusal :=
  done (command m { plain 0x0D05 0x0202 8 0 with
    rsv := fun _ => [rsvAll 1 7], ranges := fun _ p => rangesOf [(decide (fld1 p 0 < 64), 0)] } bodyPadRelease) s

/-! ## Sensors, energy, heat (R431, R432, R446) -/

/-- A signed 12.4 temperature in sixteenths of a degree. -/
def temp16 (v : BitVec 16) : Int := v.toInt

/-- Tmax: the highest valid reading, none without one. -/
def tmax (s : State) : Option Int :=
  (((List.range 16).map (sensorOf s)).filter (fun x => x.valid)).foldl (fun a x =>
    match a with
    | none => some (temp16 x.temp)
    | some t => some (max t (temp16 x.temp))) none

/-- Domains whose energy P_base counts (R435) (log entry 19, DESIGN CHOICE). -/
def baseDomain (d : Nat) : Bool := d == 0 || (decide (42 ≤ d ∧ d ≤ 58)) || d == 62 || d == 63

/-- Adds the energy a domain drew, in nJ; the counter wraps with OVF (R432). -/
def addEnergy (d n : Nat) (s : State) : State :=
  let x := getDom s d
  setDom s d { x with energy := x.energy + BitVec.ofNat 48 n, ovf := x.ovf || decide (2 ^ 48 ≤ x.energy.toNat + n) }

/-- ALERT_N follows Tmax with 5 °C of hysteresis (R446). -/
def alertCheck (s : State) : State :=
  match tmax s with
  | none => s
  | some t =>
    let lim := sx 16 (fld s.steward.cfg 6 2)
    if lim ≤ t ∧ !s.steward.alert then post 0x1608 0 0 (ux 32 t) 0 { s with steward := { s.steward with alert := true } }
    else if t < lim - 80 ∧ s.steward.alert then { s with steward := { s.steward with alert := false } }
    else s

/-- SENSOR_UPDATE (R431, R432, R446): the readings of the sensors, and what each domain drew since the last update. -/
def sensorUpdate (temps : List (BitVec 16)) (drawn : List (BitVec 48)) (s : State) : State :=
  let s1 := (drawn.take 64).zipIdx.foldl (fun a e => addEnergy e.2 e.1.toNat a) s
  let base := s.steward.base + ((drawn.take 64).zipIdx.filter (fun e => baseDomain e.2)).foldl (fun a e => a + e.1.toNat) 0
  let w := { s1.steward with
    sensors := (temps.take 16).zipIdx.foldl (fun t e => Tab.set ⟨false, 0⟩ t e.2 ⟨true, e.1⟩) s1.steward.sensors,
    base := base,
    baseLog := s1.steward.baseLog.filter (fun e => decide (now s ≤ e.1 + 1000000)) ++ [(now s, base)] }
  alertCheck { s1 with steward := w }

def execSensorUpdate (temps : List (BitVec 16)) (drawn : List (BitVec 48)) (s : State) : Host.Outcome State Fault Refusal :=
  done (sensorUpdate temps drawn) s

/-- A domain or bank goes OFF, or into RETENTION, without handshake. -/
def forceDown (target : PdSt) (d : Nat) (s : State) : State := if (getDom s d).fused then s else enterState d target s

/-- THERM_TRIP (R446): the field die is commanded safe, TRIG pins float, and every domain but AO is OFF; the endpoint's
power loss is a loss of its link (R471) (log entry 54, DEDUCED). -/
def thermTrip (s : State) : State :=
  let s1 := { s with steward := { s.steward with trip := true }, field := { s.field with safeCmd := true }, pulses := [], linePulses := [] }
  allDomains.foldl (fun a d => forceDown .off d a) (hostReset s1)

def execThermTrip (s : State) : Host.Outcome State Fault Refusal := done thermTrip s

end Sys2Proof.Machine
end

