-- ==== Sys2Proof/Machine/Steward.lean ====
section
/-! DEFINITION. Sys2Proof/Machine/Steward.lean: the power steward's rule (R433 to R442), STEWARD_CONFIG and STEWARD_FIX
(R443), and the regulator's events (R440, R441).
-/

namespace Sys2Proof.Machine

/-! ## STEWARD_CONFIG fields (R443) -/

def swLimit (c : List Byte) : Nat := fld c 0 2
def swAir (c : List Byte) : Bool := fld1 c 2 == 1
def swEnabled (c : List Byte) : Bool := bitOf (fld1 c 3) 0
def swCredits (c : List Byte) : Bool := bitOf (fld1 c 3) 1
def swThrottle (c : List Byte) : Int := sx 16 (fld c 4 2)
def swAlert (c : List Byte) : Int := sx 16 (fld c 6 2)
def swGuard (c : List Byte) : Nat := fld1 c 8
def swBoost (c : List Byte) : Nat := fld1 c 9
def swClean (c : List Byte) : Nat := fld c 10 2
def swSettle (c : List Byte) : Nat := fld c 14 2
def swVmax (c : List Byte) : Nat := fld c 16 2
def swHyst (c : List Byte) : Nat := fld1 c 18

/-! ## Rates, periods, power (R106, R434 to R436) -/

/-- Planning step rate at one of the listed voltages, in hundredths of a GHz (R106). -/
def rateAt (i : Nat) : Rat := ([95, 115, 133, 150, 166, 180].getD i 180 : Nat)

/-- rate(V): interpolated linearly between listed voltages (R435). -/
def rateV (v : Nat) : Rat :=
  let i := (min 850 (max 600 v) - 600) / 50
  if i = 5 then rateAt 5 else rateAt i + (rateAt (i + 1) - rateAt i) * (((min 850 (max 600 v) - 600) % 50 : Nat) : Rat) / 50

/-- The least integer not below a rational that is at least zero. -/
def ceilNat (q : Rat) : Nat := (q.ceil).toNat

/-- T_p of a port in BAND mode (R434); none is infinite. -/
def portPeriod (s : State) (lines p : Nat) : Option Nat :=
  let g := getGen s p
  let v := (getPu s g.pu).obsV.toInt
  if v ≤ 0 then none else some (lines * apExp (getCam s p).ap * g.div * 2 ^ 48 / v.toNat)

/-- The smaller of two periods. -/
def minPeriod (a b : Option Nat) : Option Nat :=
  match a, b with
  | none, x => x
  | x, none => x
  | some x, some y => some (min x y)

/-- The eligible ratings of the running image, in index order (R239). -/
def eligibleRatings (s : State) : List Rating :=
  (List.range 8).filterMap (fun i => (runImage s).ratings.find? (fun r => r.idx == i && eligible s (runImage s) r))

/-- The running table; the first eligible one where none runs. -/
def stewardTable (s : State) : Rating := if s.seq.rated then runRating s else ((eligibleRatings s).head?).getD Rating0

/-- T_line (R434) (log entry 52, DEDUCED). -/
def lineTime (s : State) : Option Nat :=
  let r := stewardTable s
  if r.startMode = 1 then some r.periodNs
  else ((List.range 4).filter (fun p => bitOf r.cportMask p)).foldl (fun a p => minPeriod a (portPeriod s r.bandLines p)) none

/-- P_base in W (R435): over the ended crossing, or over the last 1 ms before crossing 0 (log entry 52, DEDUCED). -/
def baseWatts (s : State) : Rat :=
  let w := s.steward
  if 0 < s.seq.lastLength then (w.baseLast : Rat) / (s.seq.lastLength : Nat)
  else ((w.base - ((w.baseLog.head?).map (fun e => e.2)).getD w.base : Nat) : Rat) / 1000000

/-- P_budget in W (R436) (log entry 52, DEDUCED). -/
def budget (s : State) : Rat :=
  let c := s.steward.cfg
  let lim : Rat := (swLimit c : Nat)
  match tmax s with
  | none => lim
  | some t => if t ≤ swThrottle c then lim else if 1680 ≤ t then 0 else lim * ((1680 - t : Int) : Rat) / ((1680 - swThrottle c : Int) : Rat)

/-! ## Pairs (R435, R437) -/

/-- A pair of rating and voltage with its estimates. -/
structure Pair where
  rating : Rating
  v : Nat
  est : Nat
  power : Rat
  fits : Bool
  deriving DecidableEq, Repr

/-- E(r, V) in µJ (R435). -/
def pairEnergy (r : Rating) (v : Nat) : Rat := (r.energyUj : Nat) * ((v : Nat) * (v : Nat) : Rat) / ((r.vfloor * r.vfloor : Nat) : Rat)

/-- P(r, V) (R435). -/
def pairPower (r : Rating) (v : Nat) (t : Option Nat) (base : Rat) : Rat :=
  match t with
  | none => base
  | some n => pairEnergy r v * 1000 / (max 1 n : Nat) + base

/-- est(r, V) (R435). -/
def pairEst (r : Rating) (v : Nat) : Nat := ceilNat (((r.periodNs - r.slackNs : Nat) : Rat) * rateV r.vfloor / rateV v)

/-- A pair with its estimates. -/
def mkPair (t : Option Nat) (base bud : Rat) (r : Rating) (v : Nat) : Pair :=
  let e := pairEst r v
  let p := pairPower r v t base
  ⟨r, v, e, p, (match t with
    | none => true
    | some n => decide (e ≤ n)) && decide (p ≤ bud)⟩

/-- Every pair considered (R434, R435): voltages from the floor in steps of 10 mV up to VMAX
(log entry 52, DEDUCED). -/
def pairsOf (s : State) (vmax : Nat) : List Pair :=
  let t := lineTime s
  let r0 := stewardTable s
  let rs := (eligibleRatings s).filter (fun r => decide (r0.startMode ≠ 1 ∨ r.periodNs = r0.periodNs))
  let base := baseWatts s
  let bud := budget s
  rs.flatMap (fun r => (List.range ((vmax + 10 - r.vfloor) / 10)).map (fun k => mkPair t base bud r (r.vfloor + 10 * k)))

/-- The first least element by a key. -/
def leastBy {α β : Type} [LE β] [DecidableRel (fun a b : β => a ≤ b)] (f : α → β) : List α → Option α
  | [] => none
  | x :: t =>
    match leastBy f t with
    | none => some x
    | some y => if f x ≤ f y then some x else some y

/-- Lowest V, then lowest P, then lowest rating index (R437); the list is in rating order. -/
def lowestPair (l : List Pair) : Option Pair :=
  (leastBy (fun p : Pair => p.v) l).bind (fun a =>
    let l1 := l.filter (fun p => p.v == a.v)
    leastBy (fun p : Pair => p.power) l1)

/-- The lowest fitting voltage of a rating. -/
def lowestFit (l : List Pair) (r : Nat) : Option Pair := leastBy (fun p : Pair => p.v) (l.filter (fun p => p.fits && p.rating.idx == r))

/-- The consecutive boundaries at which a rating fitted HYST_MV below the running one (R437). -/
def streaks (s : State) (l : List Pair) : Tab Nat :=
  match lowestFit l s.seq.rating with
  | none => []
  | some a =>
    if !s.seq.rated then []
    else (List.range 8).foldl (fun t r =>
      match lowestFit l r with
      | some b => if r != s.seq.rating && decide (b.v + swHyst s.steward.cfg ≤ a.v) then Tab.set 0 t r (Tab.get 0 s.steward.streak r + 1) else t
      | none => t) []

/-- Rule 2 of R437: the lowest fitting voltage raised by the boost, or the highest fitting one. -/
def boosted (s : State) (l : List Pair) (vmax : Nat) (a : Pair) : Pair :=
  let v := a.v + s.steward.boost * swBoost s.steward.cfg
  let up := mkPair (lineTime s) (baseWatts s) (budget s) a.rating v
  if v ≤ vmax ∧ up.power ≤ budget s then up
  else
    ((l.filter (fun p => p.fits && p.rating.idx == a.rating.idx)).foldl (fun b p => if b.v ≤ p.v then p else b) a)

/-- The choice among fitting pairs (R437); none where none fits (log entry 52, DEDUCED). -/
def chooseFit (s : State) (l : List Pair) (vmax : Nat) : Option Pair :=
  let run := if s.seq.rated then lowestFit l s.seq.rating else none
  let st := streaks s l
  let a := match run with
    | some a =>
      match lowestPair (l.filter (fun p => p.fits && decide (16 ≤ Tab.get 0 st p.rating.idx))) with
      | some b => some b
      | none => some a
    | none => lowestPair (l.filter (fun p => p.fits))
  a.map (boosted s l vmax)

/-- The choice when no pair fits (R439) (log entry 52, DEDUCED). -/
def chooseNoFit (s : State) (l : List Pair) : Option Pair :=
  (leastBy (fun p : Pair => p.est) (l.filter (fun p => decide (p.power ≤ budget s)))).or (leastBy (fun p : Pair => p.power) l)

/-- The pair that STEWARD_FIX named, where STEWARD_EN is clear, the running image holds it and its voltage is not below the
rating's floor (R220, R443). -/
def fixedPair (s : State) : Option Pair :=
  if swEnabled s.steward.cfg then none
  else
    s.steward.fix.bind (fun f => ((eligibleRatings s).find? (fun r => r.idx == f.1 && decide (r.vfloor ≤ f.2))).map (fun r =>
      mkPair (lineTime s) (baseWatts s) (budget s) r f.2))

/-! ## Applying a choice (R437 to R442) -/

/-- LINE_SLOW as both its holders leave it (R250, R439). -/
def refreshSlow (s : State) : State := setLineSlow (s.seq.lineSlow || s.steward.hold) s

/-- BOOST_LEVEL at a boundary that ends a crossing (R438). -/
def stepBoost (bad : Bool) (w : Steward) : Steward :=
  if bad then { w with boost := min 8 (w.boost + 1), clean := 0 }
  else if swClean w.cfg ≤ w.clean + 1 then { w with boost := w.boost - 1, clean := 0 }
  else { w with clean := w.clean + 1 }

/-- Takes up a rating and a voltage (R441): a raise waits until VDD_CORE has settled, a reduction takes place at once. -/
def applyPair (p : Pair) (s : State) : State :=
  let w := s.steward
  let raise := decide (w.vdd < p.v) || !w.settled
  let sp := p.v + swGuard w.cfg
  let s1 := { s with
    seq := { s.seq with rated := true, rating := p.rating.idx, vdd := p.v,
                        newRating := s.seq.newRating || !s.seq.rated || s.seq.rating != p.rating.idx },
    steward := { w with rating := p.rating.idx, vdd := p.v, setpoint := sp, settled := !raise,
                        settleAt := if raise then now s else w.settleAt,
                        streak := if s.seq.rating = p.rating.idx then w.streak else [] } }
  if sp = w.setpoint then s1 else emit (.pmbus sp) s1

/-- R439: NOFIT, its event, LINE_SLOW and restricted service (log entry 51, DEDUCED). -/
def enterNoFit (t : Option Nat) (est : Nat) (s : State) : State :=
  rsSet 4 (refreshSlow (post 0x2605 0 0 (min (2 ^ 32 - 1) (t.getD (2 ^ 32 - 1))) (min (2 ^ 32 - 1) est)
    { s with steward := { s.steward with noFit := true, hold := true, fitRun := 0 } }))

/-- A boundary at which a pair fits (R439): the hold on LINE_SLOW ends after 64 in a row. -/
def fitBoundary (s : State) : State :=
  let w := s.steward
  if !w.hold then { s with steward := { w with noFit := false } }
  else if w.fitRun + 1 < 64 then { s with steward := { w with noFit := false, fitRun := w.fitRun + 1 } }
  else rsClear 4 (refreshSlow { s with steward := { w with noFit := false, hold := false, fitRun := 0 } })

/-- The credit pool of a crossing (R442). -/
def creditPool (s : State) : State :=
  let r := runRating s
  let sc : Rat := ((s.seq.vdd * s.seq.vdd : Nat) : Rat) / ((r.vfloor * r.vfloor : Nat) : Rat)
  let opens := (r.bays.filter (fun b => b.kind == .openBay)).foldl (fun a b => a + b.energyNj) 0
  let res := ((r.energyUj * 1000 : Nat) - (opens : Nat) : Rat) * sc
  let t := min ((lineTime s).getD r.periodNs) r.periodNs
  { s with steward := { s.steward with scale := sc, pool := max 0 ((budget s - baseWatts s) * (t : Nat) - res) } }

/-- The grant of an OPEN bay as it starts (R442): taken from the pool, or whole where CREDITS_EN is clear. -/
def grantCredits (energy : Nat) (s : State) : Rat × State :=
  let w := s.steward
  let full := (energy : Nat) * w.scale
  if swCredits w.cfg then
    let g := min full w.pool
    (g, { s with steward := { w with pool := w.pool - g } })
  else (full, s)

/-- The steward's rule at a boundary (R433 to R439): `vmax` is VMAX_MV, or the voltage last reached after VDD_TIMEOUT. With
no pair at all the running pair stays. -/
def stewardChoose (vmax : Nat) (s : State) : State :=
  let l := pairsOf s vmax
  let fit := chooseFit s l vmax
  let st := streaks s l
  let s1 := { s with steward := { s.steward with streak := st, throttled := decide (budget s < (swLimit s.steward.cfg : Nat)) } }
  let named := fixedPair s
  let fits := match named with
    | some p => p.fits
    | none => fit.isSome
  let pick := named.or (fit.or (chooseNoFit s l))
  let least := ((leastBy (fun p : Pair => p.est) l).map (fun p => p.est)).getD (2 ^ 32 - 1)
  let s2 := match pick with
    | some p => applyPair p s1
    | none => s1
  if fits then fitBoundary s2 else enterNoFit (lineTime s) least s2

/-! ## STEWARD_CONFIG and STEWARD_FIX (R440, R443) -/

def specStewardConfig : Spec :=
  { plain 0x0D01 0x0100 32 0 with
    rsv := fun _ => [(3, 1, 0xFC), (12, 1, 0x80), rsvAll 19 13],
    ranges := fun _ p => rangesOf
      [(decide (20 ≤ swLimit p ∧ swLimit p ≤ 250) && !(swAir p && decide (120 < swLimit p)), 0), (decide (fld1 p 2 ≤ 1), 2),
        (decide (1280 ≤ swThrottle p ∧ swThrottle p ≤ 1600), 4), (decide (1360 ≤ swAlert p ∧ swAlert p ≤ 1760), 6),
        (decide (swGuard p ≤ 25), 8), (decide (10 ≤ swBoost p ∧ swBoost p ≤ 50 ∧ swBoost p % 10 = 0), 9),
        (decide (1 ≤ swClean p), 10), (decide (10 ≤ swSettle p ∧ swSettle p ≤ 10000), 14),
        (decide (600 ≤ swVmax p ∧ swVmax p ≤ 850), 16), (decide (swHyst p ≤ 100 ∧ swHyst p % 10 = 0), 18)] }

/-- STEWARD_CONFIG (R443); a regulator in VID mode is refused (R440). -/
def bodyStewardConfig (vid : Bool) (s : State) (p : List Byte) : State × Option Reply :=
  if vid then no s (refuse stVrm)
  else yes (alertCheck { s with steward := { s.steward with cfg := p } }) []

def execStewardConfig (m : Fin 16) (vidMode : Bool) (s : State) : Host.Outcome State Fault Refusal :=
  done (command m specStewardConfig (bodyStewardConfig vidMode)) s

def specStewardFix : Spec :=
  { plain 0x0D02 0x0202 8 0 with
    rsv := fun _ => [rsvAll 1 1, rsvAll 4 4],
    ranges := fun _ p => rangesOf [(decide (fld1 p 0 ≤ 7), 0), (decide (600 ≤ fld p 2 2 ∧ fld p 2 2 ≤ 850), 2)],
    objs := fun _ => [.sequencer] }

/-- STEWARD_FIX as it is applied: where an image runs, the rating is one of its eligible ratings and the voltage is at
least its floor. -/
def applyFix (p : List Byte) (s : State) : State × Reply :=
  let ok := { s with steward := { s.steward with fix := some (fld1 p 0, fld p 2 2) } }
  if !s.seq.started then (ok, okWith [])
  else
    match (eligibleRatings s).find? (fun r => r.idx == fld1 p 0) with
    | none => (s, badParam 0)
    | some r => if fld p 2 2 < r.vfloor then (s, badParam 2) else (ok, okWith [])

def execStewardFix (m : Fin 16) (s : State) : Host.Outcome State Fault Refusal :=
  done (command m specStewardFix (boundaryCmd m 0x0D02 (fun _ => [.sequencer]) (fun _ _ => none) applyFix)) s

/-! ## The regulator (R440, R441) -/

/-- The crossing has begun but none of its bays has started. -/
def unstarted (s : State) : Bool := s.seq.active && s.seq.bays.all (fun b => !b.ran)

/-- One step of the trim (R441): the setpoint moves 5 mV, within V to V + 50 mV, until the sense reads V to V + 15 mV. -/
def trimVdd (sense : Nat) (s : State) : State :=
  let w := s.steward
  let sp := if sense < w.vdd then min (w.vdd + 50) (w.setpoint + 5)
    else if w.vdd + 15 < sense then max w.vdd (w.setpoint - 5) else w.setpoint
  if sp = w.setpoint then s else emit (.pmbus sp) { s with steward := { w with setpoint := sp } }

/-- VDD_SETTLED (R220, R441): the sense has read at least V for 5 µs; a crossing that waited starts now. A reading outside the
trim's range moves the setpoint. -/
def vddSettled (sense : Nat) (s : State) : State :=
  let s1 := trimVdd sense { s with steward := { s.steward with sense := sense } }
  if s.steward.settled || decide (sense < s.steward.vdd) then s1
  else
    { s1 with
      steward := { s1.steward with settled := true },
      seq := { s1.seq with t0 := if unstarted s then now s else s1.seq.t0 } }

def execVddSettled (sense : BitVec 16) (s : State) : Host.Outcome State Fault Refusal := done (vddSettled sense.toNat) s

/-- VRM_FAULT (R441). -/
def vrmFault (word : Nat) (s : State) : State := rsSet 6 (post 0x2607 0 0 word 0 s)

def execVrmFault (word : BitVec 16) (s : State) : Host.Outcome State Fault Refusal := done (vrmFault word.toNat) s

end Sys2Proof.Machine
end

