-- ==== Sys2Proof/Machine/Recorder.lean ====
section
/-! DEFINITION. Sys2Proof/Machine/Recorder.lean: recording (R256 to R261), the lot (R264), and the checkpoint of a replay
origin: what it holds, how it is written into the stream, and how it is read back (R265, R266).
-/

namespace Sys2Proof.Machine

/-! ## Segments (R257, R259) -/

def segBytesLen : Nat := 262144

/-- A whole segment: its header with the CRC, its records, and zeros (R259). -/
def segmentBytes (node seq lot : Nat) (recs : List Byte) : List Byte :=
  let head (crc : Nat) : List Byte := leBytes 4 0x44524C59 ++ leBytes 2 1 ++ leBytes 2 node ++ leBytes 8 seq ++ leBytes 8 lot ++
    leBytes 4 recs.length ++ leBytes 4 crc
  let body := recs ++ zeros (segBytesLen - 32 - recs.length)
  head (crc32 (head 0 ++ body)) ++ body

/-- The recorder may write its next segment (R257): under STOP both rings have room. A segment that host software has
released frees its place in the toll ring too (log entry 55, DESIGN CHOICE). -/
def canWrite (r : Recorder) : Bool :=
  r.overwrite || decide (r.segSeq < (if r.hostMode then r.hostReleased + min r.hostSegs r.ringSegs else r.ringSegs))

/-- Writes one segment to the toll ring, and in host mode to the host ring; SEG_SEQ sticks at its largest value (R257,
R548). -/
def writeSegment (recs : List Byte) (s : State) : State :=
  let r := s.rec_
  let b := segmentBytes s.span.node.toNat r.segSeq r.lotId.toNat recs
  let s1 := tollWrite (r.ringBase + r.segSeq % max 1 r.ringSegs * segBytesLen) b (tollUse 10 s)
  let s2 := if r.hostMode then
      { s1 with mem := { s1.mem with
          hostMem := memWrite s1.mem.hostMem (r.hostBase + r.segSeq % max 1 r.hostSegs * segBytesLen) b } }
    else s1
  { s2 with rec_ := { s2.rec_ with segSeq := min (2 ^ 64 - 1) (r.segSeq + 1), written := r.written + 1 } }

/-- Writes the oldest full segment where the policy allows it. -/
def flushOne (s : State) : State :=
  match s.rec_.full with
  | g :: t => if canWrite s.rec_ then { writeSegment g s with rec_ := { (writeSegment g s).rec_ with full := t } } else s
  | [] => s

/-- The GAP record of a loss that is over (R256, R261), with its event (log entry 55, DESIGN CHOICE). -/
def gapRecord (s : State) : State :=
  let r := s.rec_
  if r.gapCount = 0 ∨ !r.full.isEmpty then s
  else
    let n := r.gapCount
    let g := recBytes 0xE (now s) (leBytes 4 (min n (2 ^ 32 - 1)) ++ zeros 4 ++ leBytes 8 r.gapFirst ++ leBytes 8 r.gapLast)
    let b := { r with gapCount := 0, gap := true }
    post 0x2701 0 0 (min n (2 ^ 32 - 1)) 0 { s with rec_ := (bufPut g b).getD b }

/-- A segment is written; a loss that is over is reported, and a checkpoint under way goes on (R256, R265). -/
def flushOn (s : State) : State :=
  let s1 := gapRecord (flushOne s)
  { s1 with rec_ := recFlow s1.rec_ }

/-- REC_SEGMENT_WRITTEN (R256, R257). -/
def segmentWritten (s : State) : State := if s.rec_.running && !s.rec_.full.isEmpty then flushOn s else s

def execRecSegmentWritten (s : State) : Host.Outcome State Fault Refusal := done segmentWritten s

/-! ## REC_START, REC_STOP, REC_RELEASE, REC_READ -/

def specRecStart : Spec :=
  { plain 0x0B01 0x0102 40 0 with
    rsv := fun _ => [(0, 1, 0xFC), rsvAll 1 7, rsvAll 20 4, rsvAll 36 4],
    ranges := fun s p => rangesOf
      [(tollOk s (fld p 8 8) (fld p 16 4 * segBytesLen) && inAlloc s (fld p 8 8) (fld p 16 4 * segBytesLen), 8),
        (decide (2 ≤ fld p 16 4), 16)] }

/-- REC_START (R257, R264, R504, R535): a new stream at SEG_SEQ 0, with a LOT record first. -/
def bodyRecStart (s : State) (p : List Byte) : State × Option Reply :=
  if s.rec_.running then no s (refuse stState)
  else
    yes (recLot { s with rec_ := { s.rec_ with
      running := true, hostMode := bitOf (fld1 p 0) 0, overwrite := bitOf (fld1 p 0) 1, ringBase := fld p 8 8,
      ringSegs := fld p 16 4, hostBase := fld p 24 8, hostSegs := fld p 32 4, hostReleased := 0, segSeq := 0, written := 0,
      cur := [], full := [], gapCount := 0, gapFirst := 0, gapLast := 0, ckQueue := [], ckptBusy := false } }) []

def execRecStart (m : Fin 16) (s : State) : Host.Outcome State Fault Refusal := done (command m specRecStart bodyRecStart) s

/-- The write buffer's present segment is closed. -/
def closeCur (s : State) : State :=
  if s.rec_.cur.isEmpty then s else { s with rec_ := { s.rec_ with full := s.rec_.full ++ [s.rec_.cur], cur := [] } }

/-- Repeats a step. -/
def times : Nat → (State → State) → State → State
  | 0, _, s => s
  | n + 1, f, s => times n f (f s)

/-- REC_STOP (R256, R261): an open loss is reported, a checkpoint under way is written, the END record closes the stream, and
what the policy allows is written (log entry 55, DESIGN CHOICE). -/
def bodyRecStop (s : State) (_ : List Byte) : State × Option Reply :=
  if !s.rec_.running then no s (refuse stState)
  else
    let s1 := times (s.rec_.ckQueue.length + 1) flushOn s
    let s2 := flushOne (flushOne (closeCur (recPut 0xF (now s) (zeros 8) s1)))
    yes { s2 with rec_ := { s2.rec_ with running := false, cur := [], full := [], gapCount := 0, ckQueue := [], ckptBusy := false } } []

def execRecStop (m : Fin 16) (s : State) : Host.Outcome State Fault Refusal :=
  done (command m (plain 0x0B02 0x0102 0 0) bodyRecStop) s

/-- REC_RELEASE (R257): host segments up to a SEG_SEQ are free for reuse. -/
def bodyRecRelease (s : State) (p : List Byte) : State × Option Reply :=
  yes { s with rec_ := { s.rec_ with hostReleased := max s.rec_.hostReleased (min s.rec_.segSeq (fld p 0 8 + 1)) } } []

def execRecRelease (m : Fin 16) (s : State) : Host.Outcome State Fault Refusal :=
  done (command m (plain 0x0B03 0x0102 8 0) bodyRecRelease) s

/-- REC_STATUS (R258) (log entry 55, DESIGN CHOICE). -/
def recStatus (s : State) : Nat :=
  b2n s.rec_.running <<< 31 + b2n s.rec_.gap <<< 30 + b2n s.rec_.ckptBusy <<< 29 + b2n s.rec_.hostMode <<< 28 +
    b2n s.rec_.overwrite <<< 27 + b2n s.replay.mode <<< 26

/-- REC_READ (R258, R501): REC_LOST clears as it is read. -/
def bodyRecRead (s : State) (_ : List Byte) : State × Option Reply :=
  yes { s with rec_ := { s.rec_ with lost := Ctr0 } } (leBytes 4 (recStatus s) ++ ctrBytes s.rec_.lost ++ leBytes 8 s.rec_.segSeq)

def execRecRead (m : Fin 16) (s : State) : Host.Outcome State Fault Refusal :=
  done (command m (plain 0x0B04 0x0102 0 16) bodyRecRead) s

/-! ## Checkpoint items (R265) -/

/-- A list of `n` parsed things, and the rest. -/
def rdMany {α : Type} (f : List Byte → α × List Byte) : Nat → List Byte → List α × List Byte
  | 0, b => ([], b)
  | n + 1, b =>
    let x := f b
    let r := rdMany f n x.2
    (x.1 :: r.1, r.2)

/-- A count of four bytes, then so many things. -/
def rdList {α : Type} (f : List Byte → α × List Byte) (b : List Byte) : List α × List Byte := rdMany f (fld b 0 4) (b.drop 4)

/-- Writes a list with its count. -/
def wrList {α : Type} (f : α → List Byte) (l : List α) : List Byte := leBytes 4 l.length ++ l.flatMap f

/-- Pages of a pool in use. -/
def usedPages (k : Kv) : List Nat := (List.range k.fresh).filter (fun p => !k.freed.contains p)

/-- Item 0: the pages in use with page tables, track records and free list of the image at place `i` of the LOT record. -/
def ckKvImage (s : State) (x : Nat × Nat) : List Byte :=
  let k := (getImg s x.1).kv
  leBytes 4 x.2 ++ leBytes 4 k.fresh ++ wrList (leBytes 4) k.freed ++
    wrList (fun e => kvTrackBytes e.1 e.2 ++ kvTableBytes e.2) k.tracks ++
    wrList (fun p => leBytes 4 p ++ memRead s.deck.dram (k.base + 32768 * p) 32768) (usedPages k)

def ckKv (s : State) : List Byte :=
  wrList (ckKvImage s) ((committedImages s).zipIdx.filter (fun x => decide (0 < (getImg s x.1).kv.pages)))

/-- Item 1: halo rows, and the band of each port that they come from. -/
def ckHalo (s : State) : List Byte :=
  wrList (fun e => leBytes 4 e.1 ++ wrList (fun b => [b]) e.2) s.seq.halo ++
    (List.range 4).flatMap (fun p => leBytes 8 ((s.seq.haloBand.getD p none).elim 0 (fun n => n + 1)))

/-- A second-look score set. -/
def ckScores (x : ScoreSet) : List Byte := leBytes 4 x.view ++ wrList (fun w => leBytes 4 w.toNat) x.scores

/-- A slot with what it carries beside its 40 bytes. -/
def ckSlot (e : Nat × Slot) : List Byte :=
  let t := e.2
  leBytes 2 e.1 ++ slotBytes t ++ padTo 88 t.pol ++
    [BitVec.ofNat 8 (b2n t.everDecided + 2 * b2n t.admitted + 4 * b2n t.primaryOpen + 8 * b2n t.slRoom + 16 * b2n t.late.isSome),
      BitVec.ofNat 8 t.cport, BitVec.ofNat 8 (t.late.getD 0).toNat, 0] ++
    leBytes 8 t.fireKey ++ leBytes 8 t.lateKey ++ leBytes 2 t.slFlags.toNat ++ leBytes 4 t.commits ++ wrList ckScores t.slBuf

/-- A handle. -/
def ckHandle (h : Nat × BitVec 16) : List Byte := leBytes 2 h.1 ++ leBytes 2 h.2.toNat

/-- Item 2: the slot store, the records that wait, and the second-look buffers. -/
def ckSlots (s : State) : List Byte :=
  wrList ckSlot s.slots.tab ++ wrList ckHandle s.slots.records ++ wrList ckHandle s.slots.lateRecords ++
    wrList ckHandle s.slots.cands

/-- Item 3: counters, revolution extensions, observer states. -/
def ckPu (u : Pu) : List Byte :=
  leBytes 5 u.count.toNat ++ leBytes 3 u.rev.toNat ++ leBytes 5 u.cumCorr.toNat ++ leBytes 5 u.high.toNat ++
    [BitVec.ofNat 8 (match u.motion with
      | .stopped => 0
      | .forward => 1
      | .reverse => 2), BitVec.ofNat 8 (b2n u.refPending + 2 * b2n u.armed)] ++
    leBytes 8 u.obsP.toNat ++ leBytes 8 u.obsV.toNat ++ leBytes 8 u.obsA.toNat ++ leBytes 8 u.obsAt ++ leBytes 8 u.lastEdge

def ckPus (s : State) : List Byte := wrList (fun p => ckPu (getPu s p)) (List.range 4)

/-- A yes-or-no list as one byte, the first lowest. -/
def ckBits (l : List Bool) : List Byte := leBytes 1 (l.zipIdx.foldl (fun a e => a + b2n e.1 * 2 ^ e.2) 0)

/-- A run, an object, a line, and a stored crop of a ramp. -/
def ckRun (r : Run) : List Byte := leBytes 8 r.line ++ leBytes 4 r.c0 ++ leBytes 4 r.c1
def ckObj (o : Obj) : List Byte :=
  ckBits [o.detected, o.closed, o.truncated, o.absorb, o.emitted, o.slot.isSome] ++ leBytes 8 o.first ++
    leBytes 8 o.firstPos.toNat ++ leBytes 8 o.last ++ leBytes 4 o.c0 ++ leBytes 4 o.c1 ++ leBytes 8 o.area ++ leBytes 8 o.lines ++
    leBytes 8 o.partId.toNat ++ leBytes 4 (o.slot.getD (0, 0)).1 ++ leBytes 4 (o.slot.getD (0, 0)).2 ++ leBytes 8 o.closeLine ++
    wrList ckRun o.recent
def ckPx (px : List (List Nat)) : List Byte := wrList (wrList (leBytes 2)) px
def ckLine (l : OutLine) : List Byte :=
  ckBits [l.crc, l.trunc, l.lost, l.no.isSome] ++ leBytes 8 l.pos.toNat ++ leBytes 8 l.corr.toNat ++ leBytes 8 l.stamp ++
    leBytes 8 (l.no.getD 0) ++ ckPx l.px
def ckSeg (g : Seg) : List Byte :=
  leBytes 2 g.x0 ++ leBytes 2 g.ws ++ leBytes 2 g.hs ++ leBytes 1 g.cport ++ leBytes 1 g.views ++ leBytes 8 g.no ++
    leBytes 2 g.confLo.toNat ++ leBytes 2 g.confHi.toNat ++ leBytes 2 g.slot ++ leBytes 2 g.gen ++ leBytes 2 g.latX0 ++
    leBytes 2 g.latX1 ++ leBytes 4 g.flags
def ckCrop (c : Crop) : List Byte := leBytes 4 c.slot ++ leBytes 4 c.gen ++ leBytes 8 c.size ++ ckSeg c.seg ++ wrList ckPx c.px

/-- The lowest band of a port that is not processed yet (log entry 56, DESIGN CHOICE). -/
def firstBand (s : State) (p : Nat) : Option Band :=
  (isort (fun (a b : Band) => decide (a.no < b.no)) (s.bands.filter (fun b => b.cport == p))).head?

/-- Item 4: background models, open objects with the lines kept, as they stood before the first line that item 6 names;
stored crops; and sample counters (R265, R324). -/
def ckRamp (x : RampSnap) (r : Ramp) : List Byte :=
  ckBits [x.seeded] ++ wrList (fun e => leBytes 4 e.1 ++ leBytes 4 e.2) x.bg ++ wrList ckObj x.objs ++ wrList ckLine x.lines ++
    wrList ckCrop r.crops ++ wrList ctrBytes r.ctrs

/-- What the ramp of a port held before the first line still needed (log entry 56, DESIGN CHOICE). -/
def originSnap (s : State) (p : Nat) : RampSnap := ((firstBand s p).map (fun b => b.ramp0)).getD (rampSnap (getRamp s p))

def ckRamps (s : State) : List Byte := wrList (fun p => ckRamp (originSnap s p) (getRamp s p)) (List.range 4)

/-- Item 5: part sequences, as they stood when the first line that item 6 names arrived, and epochs. -/
def ckSeqs (s : State) : List Byte :=
  (List.range 4).flatMap (fun p => leBytes 8 (((firstBand s p).map (fun b => b.seq0)).getD (Tab.get 0 s.slots.seqs p)).toNat) ++
    (List.range 4).flatMap (fun p => leBytes 4 (Tab.get 0 s.slots.epochs p).toNat)

/-- Item 6: the first raw line each port still needs, counting queued and incomplete bands. -/
def ckLines (s : State) : List Byte :=
  (List.range 4).flatMap (fun p =>
    leBytes 8 (match firstBand s p with
      | some b => b.no * (runRating s).bandLines * apExp (getCam s p).ap
      | none => apExp (getCam s p).ap * (getCam s p).outNo))

/-- The items of R265 in order (log entry 56, DESIGN CHOICE). -/
def ckItems (s : State) : List (List Byte) := [ckKv s, ckHalo s, ckSlots s, ckPus s, ckRamps s, ckSeqs s, ckLines s]

/-- Data bytes one CHECKPOINT record carries. -/
def ckChunk : Nat := 65536

/-- The data records of one item: kind, offset, data. -/
def ckRecords (kind : Nat) (d : List Byte) : List (Nat × Nat × List Byte) :=
  (List.range (max 1 (cdiv d.length ckChunk))).map (fun i => (kind, i * ckChunk, slice d (i * ckChunk) ckChunk))

/-- A CHECKPOINT record (R266). -/
def ckRec (stamp part kind off : Nat) (d : List Byte) : List Byte :=
  recBytes 0xD stamp (leBytes 1 part ++ leBytes 1 kind ++ zeros 6 ++ leBytes 8 off ++ d)

/-- The records of a checkpoint (R265, R266); `next` is the CROSSING_NO of the crossing that follows. Items are padded to whole
8 bytes, so that no padding follows the data of a record. -/
def ckStream (next : Nat) (s : State) : List (List Byte) :=
  let recs := (ckItems s).zipIdx.flatMap (fun x => ckRecords x.2 (x.1 ++ zeros (alignUp x.1.length 8 - x.1.length)))
  [ckRec (now s) 0 0 0 (leBytes 8 next)] ++ recs.map (fun r => ckRec (now s) 1 r.1 r.2.1 r.2.2) ++
    [ckRec (now s) 2 0 0 (sha256 (recs.flatMap (fun r => r.2.2)))]

/-- Bytes copied at this boundary, which the new crossing's start waits for (R219, R265). -/
def noteCopy (n : Nat) (s : State) : State := { s with seq := { s.seq with copying := s.seq.copying + n } }

/-- Writes a checkpoint (R265, R266): its records follow one another through the write buffer as segments are written. -/
def takeCheckpoint (next : Nat) (s : State) : State :=
  if !s.rec_.running then s
  else
    let l := ckStream next s
    noteCopy (l.foldl (fun a r => a + r.length) 0)
      { s with rec_ := recFlow { s.rec_ with ckQueue := s.rec_.ckQueue ++ l, ckptBusy := true } }

/-! ## LOT_OPEN and CHECKPOINT (R264, R265) -/

/-- The CROSSING_NO of the next crossing (R214, R218, R548): the place on the period grid in PERIOD mode, else one more
than the last; it sticks at its largest value. -/
def nextNo (s : State) : BitVec 64 :=
  if (stewardTable s).startMode = 1 then BitVec.ofNat 64 s.seq.dueNo
  else if s.seq.endedAt ≠ 0 ∧ s.seq.crossing = BitVec.allOnes 64 then s.seq.crossing
  else s.seq.crossing + 1

/-- The CROSSING_NO of the crossing that follows this boundary. -/
def nextCrossing (s : State) : Nat := if s.seq.started then (nextNo s).toNat else 0

/-- The part of LOT_OPEN that its boundary's step 5 does: the lot, epochs 0; the checkpoint follows step 6. -/
def applyLotOpen (p : List Byte) (s : State) : State × Reply :=
  ({ s with
      slots := { s.slots with epochs := [] },
      rec_ := { s.rec_ with lotId := BitVec.ofNat 64 (fld p 0 8), lotKey := BitVec.ofNat 64 (now s),
                            seqStart := (List.range 4).map (fun i => Tab.get 0 s.slots.seqs i), ckptDue := true,
                            ckptReset := s.rec_.ckptReset || bitOf (fld1 p 8) 0 } },
   okWith (leBytes 8 (nextCrossing s)))

/-- CHECKPOINT as its boundary applies it. -/
def applyCheckpoint (_ : List Byte) (s : State) : State × Reply :=
  ({ s with rec_ := { s.rec_ with ckptDue := true } }, okWith (leBytes 8 (nextCrossing s)))

/-- Between steps 6 and 7 (R265): RESET_TRACKS resets every track first, then the checkpoint is written. -/
def checkpointStep (s : State) : State :=
  if !s.rec_.ckptDue then s
  else
    let s1 := if s.rec_.ckptReset then resetAllTracks s else s
    takeCheckpoint (nextCrossing s) { s1 with rec_ := { s1.rec_ with ckptDue := false, ckptReset := false } }

/-- With no crossing running, the checkpoint is taken at once (R493). -/
def atOnce (f : List Byte → State → State × Reply) (p : List Byte) (s : State) : State × Reply :=
  let r := f p s
  (checkpointStep r.1, r.2)

def specLotOpen : Spec :=
  { plain 0x0B05 0x0102 16 8 with rsv := fun _ => [(8, 1, 0xFE), rsvAll 9 7], objs := fun _ => [.sequencer] }

def execLotOpen (m : Fin 16) (s : State) : Host.Outcome State Fault Refusal :=
  done (command m specLotOpen (boundaryCmd m 0x0B05 (fun _ => [.sequencer]) (fun _ _ => none) (atOnce applyLotOpen))) s

def execCheckpoint (m : Fin 16) (s : State) : Host.Outcome State Fault Refusal :=
  done (command m { plain 0x0B06 0x0102 0 8 with objs := fun _ => [.sequencer] }
    (boundaryCmd m 0x0B06 (fun _ => [.sequencer]) (fun _ _ => none) (atOnce applyCheckpoint))) s

/-! ## Reading a checkpoint back -/

/-- A track of item 0. -/
def rdTrack (b : List Byte) : (Nat × KvTrack) × List Byte :=
  let f := fld1 b 3
  ((fld b 0 2, ⟨fld1 b 2, bitOf f 0, bitOf f 1, bitOf f 2, fld b 4 2, fld1 b 6, fld b 8 8, fld b 16 4, fld b 20 4,
    (List.range 256).foldl (fun t i => Tab.set 0 t i (BitVec.ofNat 32 (fld b (64 + 4 * i) 4))) []⟩), b.drop 1088)

/-- A page of item 0. -/
def rdPage (b : List Byte) : (Nat × List Byte) × List Byte := ((fld b 0 4, slice b 4 32768), b.drop 32772)

/-- A four-byte number. -/
def rdNum (b : List Byte) : Nat × List Byte := (fld b 0 4, b.drop 4)

/-- One image of item 0, put back at the image of the LOT record's entry. -/
def rdKvImage (imgs : List Nat) (x : State × List Byte) : State × List Byte :=
  let b := x.2
  let i := imgs.getD (fld b 0 4) 0
  let fr := rdList rdNum (b.drop 8)
  let tr := rdList rdTrack fr.2
  let pg := rdList rdPage tr.2
  let g := getImg x.1 i
  let k0 := { g.kv with fresh := fld b 4 4, freed := fr.1, tracks := [], toks := [] }
  let k := tr.1.foldl (fun k e => kvPutTrack k e.1 e.2) k0
  let dram := pg.1.foldl (fun m e => memWrite m (k.base + 32768 * e.1) e.2) x.1.deck.dram
  (setDeckMem .dram dram (setImg x.1 i { g with kv := k }), pg.2)

/-- Item 0. -/
def rdKv (imgs : List Nat) (b : List Byte) (s : State) : State :=
  ((List.range (fld b 0 4)).foldl (fun x _ => rdKvImage imgs x) (s, b.drop 4)).1

/-- A byte. -/
def rdByte (b : List Byte) : Byte × List Byte := (b.headD 0, b.drop 1)

/-- Item 1. -/
def rdHalo (b : List Byte) (s : State) : State :=
  let h := rdList (fun b => let l := rdList rdByte (b.drop 4)
                            ((fld b 0 4, l.1), l.2)) b
  { s with seq := { s.seq with
      halo := h.1, haloBand := (List.range 4).map (fun p => let n := fld h.2 (8 * p) 8
                                                            if n = 0 then none else some (n - 1)) } }

/-- A score set. -/
def rdScores (b : List Byte) : ScoreSet × List Byte :=
  let l := rdList rdNum (b.drop 4)
  (⟨fld b 0 4, l.1.map (BitVec.ofNat 32)⟩, l.2)

/-- The state a code of R41 names. -/
def slotStOf (n : Nat) : SlotSt :=
  match n with
  | 1 => .open_
  | 2 => .decided
  | 3 => .frozen
  | 4 => .fired
  | 5 => .closed
  | _ => .free

/-- A slot of item 2. -/
def rdSlot (b : List Byte) : (Nat × Slot) × List Byte :=
  let c := b.drop 2
  let x := c.drop 128
  let f := fld1 x 0
  let l := rdList rdScores (x.drop 26)
  ((fld b 0 2,
    { Slot0 with
      st := slotStOf (fld1 c 23 / 32), partId := BitVec.ofNat 64 (fld c 0 8), detectPos := BitVec.ofNat 40 (fld c 8 5),
      freezePos := BitVec.ofNat 40 (fld c 13 5), ejectPos := BitVec.ofNat 40 (fld c 18 5), pu := fld1 c 23 / 8 % 4,
      cport := fld1 x 1, dflt := BitVec.ofNat 4 (fld1 c 24 / 16), cur := BitVec.ofNat 4 (fld1 c 24), pending := fld1 c 25,
      gen := BitVec.ofNat 16 (fld c 26 2), latX0 := BitVec.ofNat 16 (fld c 28 2), latX1 := BitVec.ofNat 16 (fld c 30 2),
      flags := BitVec.ofNat 16 (fld c 32 2), sl := fld1 c 34 / 64, views := fld1 c 34 % 64, primary := BitVec.ofNat 4 (fld1 c 35),
      pconf := BitVec.ofNat 16 (fld c 36 2), pol := slice c 40 88, everDecided := bitOf f 0, admitted := bitOf f 1,
      primaryOpen := bitOf f 2, slRoom := bitOf f 3, late := if bitOf f 4 then some (BitVec.ofNat 4 (fld1 x 2)) else none,
      fireKey := fld x 4 8, lateKey := fld x 12 8, slFlags := BitVec.ofNat 16 (fld x 20 2), commits := fld x 22 4,
      slBuf := l.1 }), l.2)

/-- A handle. -/
def rdHandle (b : List Byte) : (Nat × BitVec 16) × List Byte := ((fld b 0 2, BitVec.ofNat 16 (fld b 2 2)), b.drop 4)

/-- Item 2. -/
def rdSlots (b : List Byte) (s : State) : State :=
  let t := rdList rdSlot b
  let r := rdList rdHandle t.2
  let l := rdList rdHandle r.2
  let c := rdList rdHandle l.2
  { s with slots := { s.slots with
      tab := t.1.foldl (fun m e => Tab.set Slot0 m e.1 e.2) [], records := r.1, lateRecords := l.1, cands := c.1, commits := [] } }

/-- The motion a code of item 3 names. -/
def motionOf (n : Nat) : Motion :=
  match n with
  | 1 => .forward
  | 2 => .reverse
  | _ => .stopped

/-- A unit of item 3 put back. -/
def rdPu (b : List Byte) (u : Pu) : Pu :=
  { u with
    count := BitVec.ofNat 40 (fld b 0 5), rev := BitVec.ofNat 24 (fld b 5 3), cumCorr := BitVec.ofNat 40 (fld b 8 5),
    high := BitVec.ofNat 40 (fld b 13 5), motion := motionOf (fld1 b 18), refPending := bitOf (fld1 b 19) 0,
    armed := bitOf (fld1 b 19) 1, obsP := BitVec.ofNat 64 (fld b 20 8), obsV := BitVec.ofNat 64 (fld b 28 8),
    obsA := BitVec.ofNat 64 (fld b 36 8), obsAt := fld b 44 8, lastEdge := fld b 52 8 }

/-- Item 3. -/
def rdPus (b : List Byte) (s : State) : State :=
  (List.range 4).foldl (fun a p => setPu a p (rdPu (slice b (4 + 60 * p) 60) (getPu a p))) s

/-- A counter word read back. -/
def rdCtr (b : List Byte) : Ctr × List Byte := (⟨bitOf (fld b 0 4) 31, fld b 0 4 % 2 ^ 31⟩, b.drop 4)

/-- What `ckRun`, `ckObj`, `ckPx`, `ckLine`, `ckSeg` and `ckCrop` wrote. -/
def rdRun (b : List Byte) : Run × List Byte := (⟨fld b 0 8, fld b 8 4, fld b 12 4⟩, b.drop 16)
def rdObj (b : List Byte) : Obj × List Byte :=
  let f := fld1 b 0
  let l := rdList rdRun (b.drop 73)
  (⟨fld b 1 8, BitVec.ofNat 40 (fld b 9 8), fld b 17 8, fld b 25 4, fld b 29 4, fld b 33 8, fld b 41 8, l.1, bitOf f 0,
    BitVec.ofNat 64 (fld b 49 8), if bitOf f 5 then some (fld b 57 4, fld b 61 4) else none, bitOf f 1, bitOf f 2, fld b 65 8,
    bitOf f 3, bitOf f 4⟩, l.2)
def rdPx (b : List Byte) : List (List Nat) × List Byte := rdList (rdList (fun b => (fld b 0 2, b.drop 2))) b
def rdLine (b : List Byte) : OutLine × List Byte :=
  let f := fld1 b 0
  let l := rdPx (b.drop 33)
  (⟨bitOf f 0, bitOf f 1, bitOf f 2, l.1, BitVec.ofNat 40 (fld b 1 8), BitVec.ofNat 40 (fld b 9 8), fld b 17 8,
    if bitOf f 3 then some (fld b 25 8) else none⟩, l.2)
def rdSeg (b : List Byte) : Seg × List Byte :=
  (⟨fld b 0 2, fld b 2 2, fld b 4 2, fld b 8 8, BitVec.ofNat 16 (fld b 16 2), BitVec.ofNat 16 (fld b 18 2), fld1 b 7, fld b 20 2,
    fld b 22 2, fld b 24 2, fld b 26 2, fld1 b 6, fld b 28 4⟩, b.drop 32)
def rdCrop (b : List Byte) : Crop × List Byte :=
  let g := rdSeg (b.drop 16)
  let l := rdList rdPx g.2
  (⟨fld b 0 4, fld b 4 4, l.1, fld b 8 8, g.1⟩, l.2)

/-- One port of item 4, put back. -/
def rdRamp (x : State × List Byte) (p : Nat) : State × List Byte :=
  let b := x.2
  let g := rdList (fun b => ((fld b 0 4, fld b 4 4), b.drop 8)) (b.drop 1)
  let o := rdList rdObj g.2
  let l := rdList rdLine o.2
  let k := rdList rdCrop l.2
  let c := rdList rdCtr k.2
  let r := getRamp x.1 p
  (setRamp x.1 p { r with seeded := bitOf (fld1 b 0) 0, bg := g.1.foldl (fun t e => Tab.set 0 t e.1 e.2) [], objs := o.1,
                          lines := l.1, crops := k.1, ctrs := c.1 }, c.2)

/-- Item 4. -/
def rdRamps (b : List Byte) (s : State) : State := ((List.range 4).foldl rdRamp (s, b.drop 4)).1

/-- Item 5. -/
def rdSeqs (b : List Byte) (s : State) : State :=
  { s with slots := { s.slots with
      seqs := (List.range 4).foldl (fun t p => Tab.set 0 t p (BitVec.ofNat 48 (fld b (8 * p) 8))) [],
      epochs := (List.range 4).foldl (fun t p => Tab.set 0 t p (BitVec.ofNat 32 (fld b (32 + 4 * p) 4))) [] } }

/-- Puts the items of a checkpoint back (R267): `imgs` are the images of the LOT record's entries
(log entry 56, DESIGN CHOICE). -/
def restoreItems (imgs : List Nat) (items : List (List Byte)) (s : State) : State :=
  let it (k : Nat) : List Byte := items.getD k []
  let s1 := rdHalo (it 1) (rdSeqs (it 5) (rdRamps (it 4) (rdPus (it 3) (rdSlots (it 2) (rdKv imgs (it 0) s)))))
  { s1 with
    bands := [], replay := { s1.replay with first := (List.range 4).map (fun p => fld (it 6) (8 * p) 8) } }

end Sys2Proof.Machine
end

