-- ==== Sys2Proof/Machine/Jobs.lean ====
section
/-! DEFINITION. Sys2Proof/Machine/Jobs.lean: background jobs (R63, R238, R242, R321, R503, R568): the entries of JOB
queues, admission at the start of an open bay, the views of a second look, and the end of a standby job.
-/

namespace Sys2Proof.Machine

/-! ## Uncorrectable DRAM errors (R455 to R457) -/

/-- Data offset of a toll address in its channel (R450). -/
def tollOffset (s : State) (a : Nat) : Nat := a / 2048 / tollChans s * 2048 + a % 2048

/-- An uncorrectable error is counted and logged (R457). -/
def logUe (ch off : Nat) (s : State) : State :=
  { s with mem := { s.mem with
      ue := Tab.upd Ctr0 s.mem.ue ch ctrBump, ueLog := BitVec.ofNat 64 (ch <<< 60 + 1 <<< 59 + off % 2 ^ 35) } }

/-- An uncorrectable error is counted, logged and posted (R455 to R457). -/
def noteUe (ch off : Nat) (s : State) : State := post 0x3202 0 (59 + ch / 4) ch (off / 64) (logUe ch off s)

/-! ## JOB queue entries (R503) -/

/-- Fields of a JOB entry (R503). -/
def jeId (e : List Byte) : Nat := fld e 0 8
def jeImage (e : List Byte) : Nat := fld1 e 8
def jeIn (e : List Byte) : Nat := fld e 16 8
def jeInSize (e : List Byte) : Nat := fld e 24 4
def jeOut (e : List Byte) : Nat := fld e 32 8
def jeOutSize (e : List Byte) : Nat := fld e 40 4

/-- A tensor some descriptor writes, and one some descriptor reads. -/
def tidWritten (im : Image) (t : Nat) : Bool := im.descs.any (fun d => d.out == t || (d.aux == t && t != 0xFFFF))
def tidRead (im : Image) (t : Nat) : Bool := im.descs.any (fun d => d.in0 == t || d.in1 == t)

/-- The activation tensors that meet a condition, in ascending ID, with their sizes. -/
def tidsOf (im : Image) (f : Nat → Bool) : List (Nat × Nat) :=
  ((im.tensors.zipIdx).filter (fun e => e.1.role == 0 && f e.2)).map (fun e => (e.2, tensorBytes e.1))

/-- The input tensors of a standby image: those no descriptor writes; and its output tensors: those no descriptor reads
(log entry 83, DEDUCED). -/
def jobIns (im : Image) : List (Nat × Nat) := tidsOf im (fun t => !tidWritten im t && tidRead im t)
def jobOuts (im : Image) : List (Nat × Nat) := tidsOf im (fun t => tidWritten im t && !tidRead im t)

/-- Cuts bytes into tensors, one after another (R143). -/
def cutTensors : List (Nat × Nat) → List Byte → List (Nat × List Byte)
  | [], _ => []
  | (t, n) :: r, b => (t, b.take n) :: cutTensors r (b.drop n)

/-- What is wrong with an entry (R503): its image, its reserved fields, its ranges (log entry 44, DEDUCED). -/
def jobRefusal (s : State) (e : List Byte) : Option Nat :=
  let x := getImg s (jeImage e)
  let range (a n : Nat) : Bool := n == 0 || (tollOk s a n && inAlloc s a n)
  if jeImage e < 16 ∧ x.st = .committed ∧ x.img.role = 1 then
    if allZero (slice e 9 7) && allZero (slice e 28 4) && allZero (slice e 44 20) && range (jeIn e) (jeInSize e) &&
        range (jeOut e) (jeOutSize e) then none
    else some stParam
  else some stNotFound

/-- JOB records of an entry and its input data (R261): as many as the length asks, each with the job ID and MODEL_ID
(log entry 36, DESIGN CHOICE). -/
def recJob (id model : Nat) (d : List Byte) (s : State) : State :=
  (List.range (max 1 (cdiv d.length 65536))).foldl (fun a i =>
    recPut 0xC (now s) (leBytes 8 id ++ leBytes 8 model ++ slice d (65536 * i) 65536) a) s

/-- The event of an ended entry (R503). -/
def postJobDone (id status : Nat) (s : State) : State := post 0x1706 0 0 (id % 2 ^ 32) status s

/-- A standby job of an entry (log entry 44, DEDUCED). -/
def standbyJob (e input : List Byte) (im : Image) : Job :=
  ⟨BitVec.ofNat 64 (jeId e), .standby, .waiting, jeImage e, 0, 0, 0, jeOut e, jeOutSize e, [], none, (0, 0), [],
    cutTensors (jobIns im) input, [], [], OpStat0, true, none⟩

/-- An entry that has been read. -/
def takeEntry (e : List Byte) (s : State) : State :=
  match jobRefusal s e with
  | some st => postJobDone (jeId e) st s
  | none =>
    let x := getImg s (jeImage e)
    let input := tollRead s (jeIn e) (jeInSize e)
    recJob (jeId e) x.img.modelId (e ++ input) { tollUse 5 s with jobs := s.jobs ++ [standbyJob e input x.img] }

/-- The oldest doorbell whose queue still holds entries that it announced (R503). -/
def nextBell (s : State) : Option (Nat × BitVec 32) :=
  s.q.jobBells.find? (fun b => let x := getQ s b.1
                               x.st == .active && !x.qerr && decide (0 < (b.2 - x.head).toInt))

/-- JOB_ENTRY_TAKE (R483, R503): entries in the order in which their doorbells were accepted; one that cannot be read is
discarded with QERR (log entry 44, DEDUCED). -/
def jobEntryTake (ue : Bool) (s : State) : State :=
  if halted s || !fwReady s then s
  else
    match nextBell s with
    | none => s
    | some b =>
      let x := getQ s b.1
      let a := x.base.toNat + 64 * (x.head.toNat % 2 ^ x.log2)
      if ue then
        let s1 := discardJob b.1 s
        if x.host then s1 else recFault 0x3202 (tollChan s a) (tollOffset s a) (noteUe (tollChan s a) (tollOffset s a) s1)
      else
        let e := if x.host then memRead s.mem.hostMem a 64 else tollRead s a 64
        takeEntry e (queueMessage b.1 queueDue (setQ (if x.host then s else tollUse 8 s) b.1 { x with head := x.head + 1 }))

def execJobEntryTake (uncorrectable : Bool) (s : State) : Host.Outcome State Fault Refusal := done (jobEntryTake uncorrectable) s

/-! ## The end of a standby job (R503) -/

/-- The context of a standby job. -/
def standbyCtx (s : State) (j : Nat) (x : Job) : Ctx := ⟨x.img, jobTable (getImg s x.img).img, x.girders, some j, none⟩

/-- All bays of a standby job have run. -/
def standbyFinished (s : State) (x : Job) : Bool :=
  x.kind == .standby && x.st == .running && decide ((jobTable (getImg s x.img).img).bays.length ≤ x.pos.1)

/-- JOB_DONE (R503): the output tensors go to OUT_ADDR, as far as OUT_SIZE reaches, and the event is posted
(log entry 83, DEDUCED). -/
def jobDone (j : Nat) (s : State) : State :=
  match s.jobs[j]? with
  | none => s
  | some x =>
    if !standbyFinished s x then s
    else
      let im := (getImg s x.img).img
      let c := standbyCtx s j x
      let out := (jobOuts im).flatMap (fun t => tensorData s c t.1 ((tensorRec s c t.1).getD TRec0))
      postJobDone x.id.toNat stOk
        { (tollWrite x.outAddr (out.take x.outSize) (tollUse 5 s)) with jobs := s.jobs.eraseIdx j }

def execJobDone (j : Nat) (s : State) : Host.Outcome State Fault Refusal := done (jobDone j) s

/-! ## Admission (R63, R238, R242, R568) -/

/-- The girders of a GIRDER_SET, ascending, and their bit mask. -/
def setList (set : Nat) : List Nat := (List.range 32).filter (fun g => bitOf set g)
def setMask (gs : List Nat) : Nat := gs.foldl (fun a g => a ||| 2 ^ g) 0

/-- The first operator of a bay, and whether the bay combines views (R179). -/
def bayFirstIn (im : Image) (y : Bay) : Option Nat :=
  (y.cmds.findSome? (fun c => match c with
    | .op d _ _ _ => some d
    | _ => none)).bind (fun d => (im.descs[d]?).map (fun e => e.in0))
def bayCombines (im : Image) (y : Bay) : Bool :=
  y.cmds.any (fun c => match c with
    | .op d _ _ _ => ((im.descs[d]?).map (fun e => e.opcode == 0x1C)).getD false
    | _ => false)

/-- What an admission has used so far: estimated time in ns and energy in nJ. -/
abbrev Used := Nat × Nat

/-- The crop of a part (R321). -/
def cropOf (s : State) (t : Slot) (i : Nat) : Option Crop :=
  (getRamp s t.cport).crops.find? (fun x => x.slot == i && x.gen == t.gen.toNat)

/-- A candidate leaves the candidate set with NOT_ADMITTED (R63, R568). -/
def refuseCand (b i : Nat) (s : State) : State :=
  let t := getSlot s i
  let s1 := setSlot s i { t with sl := 3 }
  recAdmit b 1 0 i t.gen.toNat 0 { s1 with slots := { s1.slots with cands := s1.slots.cands.filter (fun c => c.1 != i) } }

/-- A candidate is admitted (R44, R63): PENDING takes its K views
(log entries 27, DESIGN CHOICE; 42, DEDUCED; 92, DEDUCED). -/
def takeCand (b i : Nat) (gs : List Nat) (rec_ : Bool) (s : State) : State :=
  let t := getSlot s i
  let k := vpViews t.pol
  let y := ((runRating s).bays[b]?)
  let ins := match y.bind (bayFirstIn (runImage s)) with
    | some d => [(d, [])]
    | none => []
  let s1 := setSlot s i { t with sl := 2, admitted := true, pending := t.pending + k }
  let j : Job := ⟨t.partId, .secondLook, .waiting, s.seq.img, i, t.gen, 0, 0, 0, gs, some b, (0, 0), [], ins, [], [], OpStat0, true, none⟩
  let s2 := { s1 with jobs := s1.jobs ++ [j], slots := { s1.slots with cands := s1.slots.cands.filter (fun c => c.1 != i) } }
  if rec_ then recAdmit b 0 0 i t.gen.toNat (setMask gs) s2 else s2

/-- The logical girders that a placement lies in: none outside the piers. -/
def placeGirders (r : Rating) (descs : List Desc) (q : Place) : List Nat :=
  if q.space ≠ 0 then [] else if q.split then splitGirders r descs q else [q.unit]

/-- The girders of an open bay whose active piers hold the weights of its operators (R242); its whole set where it reads no
weights from piers (log entry 92, DEDUCED). -/
def holders (r : Rating) (im : Image) (y : Bay) : List Nat :=
  let ws := y.cmds.flatMap (fun c =>
    match c with
    | .op d _ _ _ =>
      match im.descs[d]? with
      | some e => if ((im.tensors[e.in1]?).map (fun t => t.role == 1)).getD false then
          (r.places.filter (fun q => q.tid == e.in1)).flatMap (placeGirders r im.descs)
        else []
      | none => []
    | _ => [])
  let gs := (setList y.girders).filter (fun g => ws.contains g)
  if gs.isEmpty then setList y.girders else gs

/-- The time test of R63: the job and SL_MARGIN do not exceed the predicted time to freeze. -/
def timeTest (s : State) (t : Slot) (time : Nat) : Bool :=
  match predictNs (getPu s t.pu) t.freezePos with
  | some f => decide (time + 1000 * vpMargin t.pol ≤ f)
  | none => true

/-- One candidate at the start of open bay `b` (R63, R238, R321, R568). A bay that does not combine views runs none, and a
candidate that could be admitted stays queued (log entries 42, DEDUCED; 43, DESIGN CHOICE). -/
def tryCand (b : Nat) (y : Bay) (u : Used) (i : Nat) (s : State) : State × Used :=
  let t := getSlot s i
  let time := Config.jobTime 0 s.seq.img (vpViews t.pol) s.seq.vdd
  let en := Config.jobEnergy 0 s.seq.img (vpViews t.pol) s.seq.vdd
  if !t.slRoom || !timeTest s t time then (refuseCand b i s, u)
  else if (bayRun s b).credits < ((u.2 + en : Nat) : Rat) ∨ (bayRun s b).effDeadline ≤ now s + u.1 + time then
    (recAdmit b 2 0 i t.gen.toNat 0 s, u)
  else if !bayCombines (runImage s) y then (s, u)
  else if (cropOf s t i).isNone then (rmpCount t.cport 4 (refuseCand b i s), u)
  else (takeCand b i (holders (runRating s) (runImage s) y) true s, (u.1 + time, u.2 + en))

/-- Candidates in the order of R63: predicted time to freeze, then slot index; those without forward speed last
(log entry 43, DESIGN CHOICE). -/
def candOrder (s : State) : List Nat :=
  let key (i : Nat) : Nat × Nat :=
    let t := getSlot s i
    let u := getPu s t.pu
    if u.obsV.toInt ≤ 0 then (1, 0) else (0, (predictNs u t.freezePos).getD 0)
  isort (fun a b =>
    let x := key a
    let y := key b
    decide (x.1 < y.1 ∨ (x.1 = y.1 ∧ (x.2 < y.2 ∨ (x.2 = y.2 ∧ a < b))))) (s.slots.cands.map (fun c => c.1))

/-- The girders a standby job takes from an open bay's set (R242), in ascending order; none where the set is too small
(log entry 92, DEDUCED). -/
def jobGirderChoice (s : State) (img n : Nat) (set : List Nat) : Option (List Nat) :=
  if set.length < n then none
  else
    let held := set.filter (fun g => (getGirder s (physGirder s g)).swingImg == some img)
    let rest := set.filter (fun g => !held.contains g)
    some (isort (fun a b => decide (a < b)) ((held ++ rest).take n))

/-- A standby job starts on its girders (R118, R238). -/
def startStandby (b j : Nat) (gs : List Nat) (s : State) : State :=
  let s1 := updJob j (fun x => { x with st := .running, bay := some b, girders := gs }) s
  match s1.jobs[j]? with
  | some x => swingReady (standbyCtx s1 j x) s1
  | none => s1

/-- One standby job at the start of an open bay (R238): it runs only under an ACTIVE image with SWING
(log entries 27, DESIGN CHOICE; 92, DEDUCED). -/
def tryStandby (b : Nat) (y : Bay) (u : Used) (j : Nat) (s : State) : State × Used :=
  match s.jobs[j]? with
  | none => (s, u)
  | some x =>
    if x.kind ≠ .standby ∨ x.st ≠ .waiting ∨ !(runImage s).swing then (s, u)
    else
      match jobGirderChoice s x.img (jobTable (getImg s x.img).img).girders (setList y.girders) with
      | none => (s, u)
      | some gs =>
        let k := (swingMissing s x.img gs).length
        let time := Config.jobTime 1 x.img k s.seq.vdd
        let en := Config.jobEnergy 1 x.img k s.seq.vdd
        let low := x.id.toNat % 65536
        if (bayRun s b).credits < ((u.2 + en : Nat) : Rat) ∨ (bayRun s b).effDeadline ≤ now s + u.1 + time then
          (recAdmit b 2 0 0xFFFF low 0 s, u)
        else (startStandby b j gs (recAdmit b 0 0 0xFFFF low (setMask gs) s), (u.1 + time, u.2 + en))

/-- Jobs carried from an earlier open bay whose girders this one has resume first (R238)
(log entry 43, DESIGN CHOICE). -/
def resumeCarried (b : Nat) (y : Bay) (s : State) : State :=
  let back (x : Job) : Bool := x.st == .suspended && x.bay.isNone && x.girders.all (fun g => bitOf y.girders g)
  let s1 := (s.jobs.filter back).foldl (fun a x => reloadAll (jobKey x) (x.girders.map (physGirder a)) a) s
  { s1 with jobs := s1.jobs.map (fun x => if back x then { x with st := .running, bay := some b } else x) }

/-- Admission at the start of open bay `b` (R63, R238). In replay the stream's ADMIT records decide (R267)
(log entries 43, DESIGN CHOICE; 45, DESIGN CHOICE). -/
def admitJob (b : Nat) (y : Bay) (s : State) : State :=
  let s0 := resumeCarried b y s
  if s.replay.mode then s0
  else
    let a := (candOrder s0).foldl (fun (x : State × Used) i => tryCand b y x.2 i x.1) (s0, (0, 0))
    ((List.range a.1.jobs.length).foldl (fun (x : State × Used) j => tryStandby b y x.2 j x.1) a).1

/-! ## Views (R63, R148, R309, R321) -/

/-- Places K segments by R317, in ascending view index, into one list (R321): their X0 values
(log entry 61, DEDUCED). -/
def viewPlaces (stride rowW rows sp ws : Nat) : Nat → Nat → Nat → List Nat
  | 0, _, _ => []
  | n + 1, e, row =>
    match placeSeg stride rowW rows (rows + 1) e row ws with
    | some q => q.1 :: viewPlaces stride rowW rows sp ws n (q.1 + max ws sp) q.2
    | none => List.replicate (n + 1) 0

/-- One view of a stored crop at a column X0: its segment, and the writes of its input tensor; and whether an area resize was
replaced by a bilinear one (R311). -/
def viewOf (s : State) (t : Slot) (x : Crop) (c : List Byte) (v x0 : Nat) : (Seg × List (Nat × List Byte)) × Bool :=
  let no := sampleNo t.partId v
  let codes := sampleCodes c (viewPar c v no) x.px
  (({ x.seg with x0 := x0, no := no, flags := 0 }, sampleWrites (packTensor s t.cport) x0 codes.1), codes.2)

/-- Views 1 to K of a crop (log entry 115, DESIGN CHOICE). -/
def viewsOf (s : State) (t : Slot) (x : Crop) (c : List Byte) : List ((Seg × List (Nat × List Byte)) × Bool) :=
  let st := streamOf s
  let p := t.cport
  (viewPlaces (max 1 (Config.streamStride st p)) (Config.streamRowW st p) (Config.streamRows st p) (Config.streamSpacing st p)
    (segW c) (vpViews t.pol) 0 0).zipIdx.map (fun e => viewOf s t x c (e.2 + 1) e.1)

/-- A job whose views were withdrawn stops (R180, R267, R568): PENDING falls by the views that had been started, or by all K
where replay withdraws them, since no combined commit comes. -/
def withdrawJob (j : Nat) (s : State) : State :=
  match s.jobs[j]? with
  | none => s
  | some x =>
    let s1 := { s with jobs := s.jobs.eraseIdx j }
    let k := vpViews (getSlot s x.slot).pol
    if x.kind = .secondLook then viewsDone x.slot (if x.resumable then k else min k (x.view + 1)) s1 else s1

/-- A second look whose crop the ring has overwritten since its admission (R321): it ends with NOT_ADMITTED, and the ramp
counts it. -/
def refuseJob (j : Nat) (s : State) : State :=
  match s.jobs[j]? with
  | none => s
  | some x =>
    let t := getSlot s x.slot
    recAdmit (x.bay.getD 0) 1 0 x.slot x.gen.toNat 0
      (withdrawJob j (rmpCount t.cport 4 (setSlot s x.slot { t with sl := 3, admitted := false })))

/-- SECOND_LOOK_VIEW_GENERATE (R321): after admission the ramp regenerates views 1 to K from the stored crop, and the job
starts; a crop overwritten meanwhile ends it (log entry 42, DEDUCED). -/
def viewGenerate (j : Nat) (s : State) : State :=
  match s.jobs[j]? with
  | none => s
  | some x =>
    if x.kind ≠ .secondLook ∨ x.st ≠ .waiting ∨ !x.views.isEmpty then s
    else
      let t := getSlot s x.slot
      match cropOf s t x.slot, (getRamp s t.cport).cfg with
      | some c, some cfg =>
        let vs := viewsOf s t c cfg
        let segs := match vs.head? with
          | some v => x.input.foldl (fun m e => Tab.set [] m e.1 [v.1.1]) []
          | none => []
        let s1 := times (vs.filter (fun v => v.2)).length (rmpCount t.cport 4) s
        updJob j (fun x => { x with
          st := if x.bay.isSome then .running else .suspended, views := vs.map (fun v => v.1), segs := segs }) s1
      | _, _ => refuseJob j s

def execSecondLookViewGenerate (j : Nat) (s : State) : Host.Outcome State Fault Refusal := done (viewGenerate j) s

end Sys2Proof.Machine
end

