-- ==== Sys2Proof/Machine/Crossing.lean ====
section
/-! DEFINITION. Sys2Proof/Machine/Crossing.lean: the crossing sequencer (R214 to R221, R234 to R252): starting and stopping
crossings, the eight steps of a crossing boundary, bands queued and dropped, and the start, pre-emption and end of bays.
-/

namespace Sys2Proof.Machine

/-! ## Starting (R217, R270) -/

/-- A started sequencer: crossing 0 is due, and each port counts its lines and bands afresh from the launch (R215)
(log entries 58, DESIGN CHOICE; 84, DEDUCED). -/
def startSeq (i launch : Nat) (s : State) : State :=
  { s with
    seq := { s.seq with
      started := true, active := false, due := true, dueNo := 0, img := i, rated := false,
      crossing := BitVec.allOnes 64, launched := true, launch := launch, launchArmed := none, stop := .none, stopAt := 0,
      slip := 0, endedAt := 0, bays := [], segs := [], bandOf := [], halo := [], newRating := false, lastLength := 0,
      clean := 0, periodNo := 0, bufNext := [], copying := 0, haloBand := [] },
    bands := [],
    cams := (List.range 4).foldl (fun t p => Tab.upd Cam0 t p (fun c => { c with rawNo := 0, outNo := 0 })) s.cams,
    ramps := (List.range 4).foldl (fun t p => Tab.upd Ramp0 t p (fun r => { r with objs := [], lines := [] })) s.ramps }

/-- What refuses a CROSSING_START (R316, R504) (log entry 58, DESIGN CHOICE). -/
def startRefusal (s : State) (i : Nat) : Option Reply :=
  let x := getImg s i
  if x.st = .empty then some (refuse stNotFound)
  else if x.st = .staged ∨ x.img.role ≠ 0 then some (refuse stState)
  else if s.seq.started then some (refuse stBusyRunning)
  else if s.seq.launchArmed.isSome then some (refuse stState)
  else if eligibleBits s x.img = 0 then some (refuse stImageUnfit)
  else (streamCheck s x.img).map (fun p => ⟨stState, p, []⟩)

def specCrossingStart : Spec :=
  { specImage 0x0901 0 with objs := fun p => [.image (fld1 p 0), .sequencer] }

/-- CROSSING_START (R217). -/
def bodyCrossingStart (s : State) (p : List Byte) : State × Option Reply :=
  match startRefusal s (fld1 p 0) with
  | some r => no s r
  | none => yes (startSeq (fld1 p 0) (now s) { s with seq := { s.seq with flags := [] } }) []

def execCrossingStart (m : Fin 16) (s : State) : Host.Outcome State Fault Refusal :=
  done (command m specCrossingStart bodyCrossingStart) s

/-- LAUNCH_COUNT_REACHED (R217, R270): LAUNCH is the agreed count. -/
def launchReached (s : State) : State :=
  match s.seq.launchArmed with
  | some l => if l.1 ≤ now s ∧ !halted s then startSeq l.2 l.1 s else s
  | none => s

def execLaunchCountReached (s : State) : Host.Outcome State Fault Refusal := done launchReached s

/-! ## CROSSING_STOP, CROSSING_STATUS (R221, R252) -/

def specCrossingStop : Spec :=
  { plain 0x0902 0x0100 8 0 with
    rsv := fun _ => [rsvAll 1 7], ranges := fun _ p => selRange 2 p, objs := fun _ => [.sequencer] }

/-- CROSSING_STOP (R221, R270): it takes effect at the next boundary; NOW cancels a pending launch at once. -/
def bodyCrossingStop (m : Nat) (s : State) (p : List Byte) : State × Option Reply :=
  let s1 := if fld1 p 0 = 1 then { s with seq := { s.seq with launchArmed := none } } else s
  if !s.seq.started then yes s1 []
  else
    hold m 0x0902 p [.sequencer] true none
      { s1 with seq := { s1.seq with stop := if fld1 p 0 = 1 then .now else .drain, stopAt := now s } }

def execCrossingStop (m : Fin 16) (s : State) : Host.Outcome State Fault Refusal :=
  done (command m specCrossingStop (bodyCrossingStop m)) s

/-- The counter words of R252. -/
def seqCtrs (s : State) : List Ctr := [s.seq.cSlip, s.seq.cQueued, s.seq.cDropped, s.seq.cMissed, s.seq.cRefresh]

def specCrossingStatus : Spec :=
  { plain 0x0903 0x0100 0 0 with resp := fun s _ => 40 + 4 * s.seq.lastBays.length }

/-- CROSSING_STATUS (R235, R252): the counters clear as they are read. -/
def bodyCrossingStatus (s : State) (_ : List Byte) : State × Option Reply :=
  yes { s with seq := { s.seq with cSlip := Ctr0, cQueued := Ctr0, cDropped := Ctr0, cMissed := Ctr0, cRefresh := Ctr0 } }
    (leBytes 8 s.seq.crossing.toNat ++ leBytes 2 s.seq.lastBays.length ++ zeros 6 ++ ctrsBytes (seqCtrs s) ++
      leBytes 4 s.seq.slipLast.toNat ++ s.seq.lastBays.flatMap (fun w => leBytes 4 w.toNat))

def execCrossingStatus (m : Fin 16) (s : State) : Host.Outcome State Fault Refusal :=
  done (command m specCrossingStatus bodyCrossingStatus) s

/-! ## Bands: dropping and queuing (R248 to R251) -/

/-- A segment's part still holds its slot. -/
def segLive (s : State) (g : Seg) : Bool :=
  let t := getSlot s g.slot
  t.st != .free && t.gen.toNat == g.gen

/-- The marking rule of R250: every slot with a sample in the band that has no final verdict from it is marked, and
primary jobs that have not committed are complete; the number of slots marked. -/
def markBand (b : Band) (s : State) : State × Nat :=
  let hs := ((b.segs.filter (segLive s)).map (fun g => g.slot)).eraseDups
  let n := (hs.filter (fun i => !(getSlot s i).everDecided)).length
  (hs.foldl (fun a i => primaryDone i (markCorrupt i a)) s, n)

/-- A band dropped under R250: marking, event, counter, LINE_SLOW and restricted service. -/
def dropBand (b : Band) (s : State) : State :=
  let r := markBand b s
  let s1 := post 0x3102 b.cport 0 (b.no % 2 ^ 32) r.2 r.1
  let s2 := { s1 with seq := { s1.seq with cDropped := ctrBump s1.seq.cDropped, lineSlow := true, clean := 0 } }
  rsSet 5 (refreshSlow s2)

/-- Regions that complete bands in the band buffers still hold. -/
def heldRegions (s : State) : List Nat :=
  (s.bands.filter (fun b => b.complete && b.buffer.isSome)).flatMap (fun b => regionsOf b.addr b.size)

/-- Regions return to APPROACH, but for those that waiting bands hold (R121). -/
def returnRegions (rs : List Nat) (s : State) : State :=
  regionsToApproach (rs.filter (fun r => !(heldRegions s).contains r)) s

/-- A band leaves; its buffer is free, and its regions return to APPROACH (R121, R248). -/
def freeBand (b : Band) (s : State) : State :=
  let s1 := { s with bands := s.bands.filter (fun x => !(x.cport == b.cport && x.no == b.no)) }
  if b.buffer.isSome then returnRegions (regionsOf b.addr b.size) s1 else s1

/-- A band discarded by a stop (R221): marking alone (log entry 47, DEDUCED). -/
def discardBand (b : Band) (s : State) : State := freeBand b (markBand b s).1

/-- Bands of a port in rising order. -/
def portBands (s : State) (p : Nat) : List Band :=
  isort (fun a b => decide (a.no < b.no)) (s.bands.filter (fun b => b.cport == p && !b.taken))

/-- The oldest complete, undropped band of a port (R216, R249). -/
def candBand (s : State) (p : Nat) : Option Band := (portBands s p).find? (fun b => b.complete && b.buffer.isSome)

/-- Ports of the running table. -/
def tablePorts (s : State) : List Nat := (List.range 4).filter (fun p => bitOf (stewardTable s).cportMask p)

/-- Every port of the table has a band to take. -/
def allBands (s : State) : Bool := (tablePorts s).all (fun p => (candBand s p).isSome)
def anyBand (s : State) : Bool := (tablePorts s).any (fun p => (candBand s p).isSome)

/-- The next crossing may start by START_MODE (R216). -/
def startDue (s : State) : Bool :=
  s.seq.due || ((stewardTable s).startMode == 0 && allBands s)

/-- A stop in force has run out (R221): NOW at once, DRAIN when no complete band waits. -/
def stopOver (s : State) : Bool :=
  match s.seq.stop with
  | .none => false
  | .now => true
  | .drain => if (stewardTable s).startMode = 0 then !allBands s else !anyBand s

/-- No crossing is in progress. -/
def crossingEnded (s : State) : Bool := !s.seq.active || s.seq.bays.all (fun b => b.st == .ended)

/-- A crossing boundary is due (R219) (log entry 32, DESIGN CHOICE). -/
def boundaryDue (s : State) : Bool :=
  s.seq.started && !halted s && !s.steward.trip && !s.replay.mode && crossingEnded s && (stopOver s || startDue s)

/-! ## Step 1 (R219, R235, R247) -/

/-- A bay status word (R235) (log entry 91, DEDUCED). -/
def bayWord (b : BayRun) : Nat :=
  b2n b.ran <<< 31 + b2n b.preempted <<< 30 + b2n b.late <<< 29 + b2n b.carried <<< 28 + b2n b.stepFault <<< 27 +
    b2n b.stat.limit <<< 3 + b2n b.stat.nan <<< 2 + b2n b.stat.sat <<< 1 + b2n b.stat.empty

/-- Regions that the ended crossing read: those its bays list, its bands' buffers, its landing halves (R121, R244). -/
def readRegions (s : State) : List Nat :=
  let r := runRating s
  r.bays.flatMap (fun b => b.regions) ++
    (s.bands.filter (fun b => b.taken)).flatMap (fun b => if b.buffer.isSome then regionsOf b.addr b.size else []) ++
    (r.places.filter (fun q => q.space == 4)).flatMap (fun q => halfRegions q (landHalf s))

/-- Step 1 of R219 for a crossing that ended. -/
def latchCrossing (s : State) : State :=
  if !s.seq.active then s
  else
    let r := runRating s
    let h := saveHalo s
    let s1 := when_ (decide (r.slackNs < s.seq.slip)) (post 0x2101 0 0 (s.seq.crossing.toNat % 2 ^ 32) (min s.seq.slip (2 ^ 32 - 1)))
      (returnRegions (readRegions s) { h with bands := h.bands.filter (fun b => !b.taken) })
    { s1 with
      steward := { s1.steward with baseLast := s1.steward.base - s1.steward.baseStart },
      seq := { s1.seq with
        active := false, lastBays := s.seq.bays.map (fun b => BitVec.ofNat 32 (bayWord b)),
        slipLast := BitVec.ofNat 32 (min s.seq.slip (2 ^ 32 - 1)), lastLength := s.seq.endedAt - s.seq.t0,
        flags := s.seq.flags.filter (fun f => f.2 != landHalf s) } }

/-! ## Step 2 (R221, R249, R250) -/

/-- Bands of a port that this boundary drops: complete unbuffered ones; a DRAIN discards those that completed after it,
and NOW every one. -/
def dropSet (s : State) (p : Nat) : List Band :=
  (portBands s p).filter (fun b =>
    match s.seq.stop with
    | .now => true
    | .drain => b.complete && (b.buffer.isNone || decide (s.seq.stopAt ≤ b.doneAt))
    | .none => b.complete && b.buffer.isNone)

/-- A band that a stop discards rather than drops. -/
def discarded (s : State) (b : Band) : Bool :=
  match s.seq.stop with
  | .now => true
  | .drain => decide (s.seq.stopAt ≤ b.doneAt)
  | .none => false

/-- Step 2 for one port. -/
def fatePort (s : State) (p : Nat) : State :=
  (dropSet s p).foldl (fun a b => if discarded s b then discardBand b a else freeBand b (dropBand b a)) s

/-- Bands that are complete before the crossing that processes them starts are queued, counted once each (R249)
(log entry 47, DEDUCED). -/
def countQueued (s : State) : State :=
  let q (b : Band) : Bool := b.complete && !b.taken && !b.queued && decide (b.doneAt < now s)
  let n := (s.bands.filter q).length
  { s with
    bands := s.bands.map (fun b => if q b then { b with queued := true } else b),
    seq := { s.seq with cQueued := ctrAdd s.seq.cQueued n } }

/-- Step 2 of R219: the fate of every complete band. -/
def stepBands (s : State) : State := countQueued ((List.range 4).foldl fatePort s)

/-! ## Steps 3 to 7 (R219) -/

/-- A boundary command is applied and its answer stored. -/
def applyOne (s : State) (r : Running) : State :=
  let x : State × Reply := match r.op with
    | 0x0802 => applyCommitCmd r.payload s
    | 0x0803 => applySwitch r.payload s
    | 0x0D02 => applyFix r.payload s
    | 0x0B05 => applyLotOpen r.payload s
    | 0x0B06 => applyCheckpoint r.payload s
    | 0x1005 => let x := applyKvDump r.payload s
                (noteCopy x.2.resp.length x.1, x.2)
    | 0x1006 => applyKvReset r.payload s
    | _ => (s, okWith [])
  answerRunning r.mbx x.2 x.1

/-- Commands that wait for this boundary, of the given opcodes, in the order received. -/
def waitingCmds (s : State) (ops : List Nat) : List Running := s.gh.running.filter (fun r => r.boundary && ops.contains r.op)

/-- Applies the waiting commands of one step. -/
def applyStep (ops : List Nat) (s : State) : State := (waitingCmds s ops).foldl applyOne s

/-- A band stays queued behind the one that its port's next crossing takes (R249, R438). -/
def staysQueued (s : State) : Bool := s.bands.any (fun b => b.queued && (candBand s b.cport).map (fun x => x.no) != some b.no)

/-- Step 4 (R220, R437 to R439): the steward's choice, where a crossing will start and a rating is eligible. -/
def stepSteward (ended : Bool) (slip slack : Nat) (s : State) : State :=
  let bad := decide (slack < slip) || staysQueued s
  let s1 := applyStep [0x0D02] s
  let s2 := if ended then { s1 with steward := stepBoost bad s1.steward } else s1
  if stopOver s2 || (eligibleRatings s2).isEmpty then s2 else autoPower true (stewardChoose (swVmax s2.steward.cfg) s2)

/-- The standby weights of a girder's swing span are loaded again: the share that it held (R140) (log entry 44, DEDUCED). -/
def reloadSwing (n : Nat) (s : State) : State :=
  let g := getGirder s n
  match g.swingImg with
  | some i =>
    let c : Ctx := ⟨i, jobTable (getImg s i).img, (List.range (g.swingShare + 1)).map (fun k => if k = g.swingShare then g.logical else 32),
      none, none⟩
    loadWeights c (inSwing n) s
  | none => s

/-- Step 7 (R140): weight banks with an uncorrectable error are loaded again from the deck region. -/
def stepReload (s : State) : State :=
  let c : Ctx := ⟨s.seq.img, runRating s, [], none, none⟩
  let hit (p : Piece) : Bool := s.deck.reload.any (fun r =>
    p.1 == .pier && overlap p.2.1 p.2.2 (pierBytes * r.1 + bankBytes * r.2) bankBytes)
  if s.deck.reload.isEmpty then s
  else
    let s1 := (s.deck.reload.filter (fun r => r.2 == 9)).foldl (fun a r => reloadSwing r.1 a) (loadWeights c hit s)
    { s1 with deck := { s1.deck with reload := [] } }

/-! ## Step 8 (R214, R218, R249, R261) -/

/-- Takes the oldest complete band of each port for the new crossing (R216, R249). -/
def takeBands (s : State) : State :=
  (tablePorts s).foldl (fun a p =>
    match candBand a p with
    | some b => haloFor p b.no (updBand p b.no (fun x => { x with taken := true }) a)
    | none => a) s

/-- The band a port's crossing takes. -/
def takenBand (s : State) (p : Nat) : Option Band := s.bands.find? (fun b => b.cport == p && b.taken)

/-- Segment list of a taken band; the samples of a queued band carry OVERRUN (R66, R249). -/
def takenSegs (b : Band) : List Seg := if b.queued then b.segs.map (fun g => { g with flags := g.flags ||| 32 }) else b.segs

/-- The BOUNDARY record (R261): what steps 2 to 6 decided for the crossing that starts. -/
def boundaryRec (drops : List (List Nat)) (cmds : List (Nat × List Byte)) (s : State) : State :=
  recBoundary s.seq.crossing.toNat ((List.range 4).map (fun p => (takenBand s p).map (fun b => (b.no, b.queued)))) drops cmds s

/-- The bays of a new crossing: the prologue runs only under a newly entered rating (R241). -/
def newBays (s : State) : List BayRun :=
  (runRating s).bays.zipIdx.map (fun b => if b.2 < (runRating s).prologue ∧ !s.seq.newRating then { BayRun0 with st := .ended } else BayRun0)

/-- LINE_SLOW of R250 is released after 64 consecutive crossings that start clean. -/
def cleanStart (prevSlip slack : Nat) (s : State) : State :=
  let ok := s.bands.all (fun b => !b.queued) && decide (prevSlip ≤ slack)
  if !s.seq.lineSlow then s
  else if !ok then { s with seq := { s.seq with clean := 0 } }
  else if s.seq.clean + 1 < 64 then { s with seq := { s.seq with clean := s.seq.clean + 1 } }
  else rsClear 5 (refreshSlow { s with seq := { s.seq with lineSlow := false, clean := 0 } })

/-- Time that the boundary's copies take (R219, R265) (log entry 114, DESIGN CHOICE). -/
def copyNs (s : State) : Nat := if s.seq.copying = 0 then 0 else Config.copyTime s.seq.copying

/-- The registers of a crossing that starts: its number, t0, its bays, the segment lists of its bands, and the time of the
boundary's copies as its first slip. -/
def enterCrossing (s : State) : State :=
  let x := getImg s s.seq.img
  let s1 := setImg s s.seq.img { x with lastRating := some s.seq.rating, kv := { x.kv with toks := [] } }
  { s1 with
    pus := s1.pus.map (fun e => (e.1, { e.2 with overspeedIn := none })),
    steward := { s1.steward with baseStart := s1.steward.base },
    seq := { s1.seq with
      active := true, due := false, crossing := nextNo s, t0 := now s, slip := copyNs s, endedAt := 0, bays := newBays s,
      newRating := false,
      segs := (List.range 4).foldl (fun t p =>
        match takenBand s p with
        | some b => Tab.set [] t (packId s p) (takenSegs b)
        | none => t) [],
      bandOf := (List.range 4).map (fun p => (takenBand s p).map (fun b => b.no)) } }

/-- Step 8 of R219: the new crossing starts, and messages held for it are released (R244). -/
def startCrossing (prevSlip slack : Nat) (drops : List (List Nat)) (cmds : List (Nat × List Byte)) (s : State) : State :=
  let s1 := enterCrossing (takeBands s)
  releaseHeld (cleanStart prevSlip slack (creditPool (boundaryRec drops cmds s1)))

/-- The sequencer stops (R221): bands that remain are discarded; lines are numbered on (R262) (log entry 47, DEDUCED). -/
def finishStop (s : State) : State :=
  let s1 := sawLevels (s.bands.foldl (fun a b => discardBand b a) s)
  autoPower true { s1 with seq := { s1.seq with
    started := false, active := false, due := false, stop := .none, flags := [], segs := [], bandOf := [] } }

/-- Without an eligible rating no crossing starts (R136, R239) (log entry 51, DEDUCED). -/
def noRating (s : State) : State :=
  post 0x2104 0 0 (boundGirders s) (boundClusters s) { s with seq := { s.seq with due := false } }

/-- CROSSING_BOUNDARY (R219): the eight steps (log entries 48, DEDUCED; 58, DESIGN CHOICE). -/
def boundary (s : State) : State :=
  if !boundaryDue s then s
  else
    let slack := (runRating s).slackNs
    let mid := s.bands.filter (fun b => b.taken && b.dropped)
    let s1 := latchCrossing { s with seq := { s.seq with copying := 0 } }
    let drops := (List.range 4).map (fun p => (mid.filter (fun b => b.cport == p)).map (fun b => b.no) ++ (dropSet s1 p).map (fun b => b.no))
    let cmds := (waitingCmds s [0x0802, 0x0803] ++ waitingCmds s [0x0D02] ++ waitingCmds s [0x0902, 0x0B05, 0x0B06, 0x1005] ++
      waitingCmds s [0x1006]).map (fun r => (r.op, r.payload))
    let s3 := applyStep [0x0802, 0x0803] (stepBands s1)
    let s4 := stepSteward s.seq.active s.seq.slip slack s3
    let s6 := checkpointStep (applyStep [0x1006] (applyStep [0x0902, 0x0B05, 0x0B06, 0x1005] s4))
    let s7 := stepReload s6
    if stopOver s7 then
      finishStop (recNoCrossing ((List.range 4).map (fun p => drops.getD p [] ++ (portBands s7 p).map (fun b => b.no))) cmds s7)
    else if !startDue s7 then recNoCrossing drops cmds s7
    else if (eligibleRatings s7).isEmpty then noRating (recNoCrossing drops cmds s7)
    else startCrossing (if s.seq.active then s.seq.slip else s.seq.slipLast.toNat) slack drops cmds s7

def execCrossingBoundary (s : State) : Host.Outcome State Fault Refusal := done boundary s

/-- PERIOD_TICK (R216, R218): the count reaches the next start of the period grid; a start still waiting makes it missed
(log entry 58, DESIGN CHOICE). -/
def periodTick (s : State) : State :=
  let r := stewardTable s
  let k := s.seq.periodNo + 1
  if s.seq.started && r.startMode == 1 && decide (s.seq.launch + k * r.periodNs ≤ now s) then
    if s.seq.due then { s with seq := { s.seq with periodNo := k, cMissed := ctrBump s.seq.cMissed } }
    else { s with seq := { s.seq with periodNo := k, due := true, dueNo := k } }
  else s

def execPeriodTick (s : State) : Host.Outcome State Fault Refusal := done periodTick s

/-! ## A band dropped in mid-crossing (R140, R250, R251) -/

/-- The bands of the running crossing are dropped; every remaining bay still runs. -/
def dropTaken (s : State) : State :=
  if !s.seq.active then s
  else
    (s.bands.filter (fun b => b.taken && !b.dropped)).foldl (fun a b =>
      updBand b.cport b.no (fun x => { x with dropped := true }) (dropBand b a)) s

/-! ## Bays (R220, R236, R243 to R246) -/

/-- The bay of an ID. -/
def getBay (s : State) (b : Nat) : Option Bay := (runRating s).bays[b]?

/-- Rank of a bay kind (R243). -/
def kindRank (k : BayKind) : Nat :=
  match k with
  | .refresh => 0
  | .load => 1
  | .reserved => 2
  | .openBay => 3

/-- Effective deadline of a bay: taken as it starts, or what it would be now (R245). -/
def bayDeadline (s : State) (b : Nat) (y : Bay) : Nat :=
  if (bayRun s b).st = .waiting then s.seq.t0 + y.deadline + s.seq.slip else (bayRun s b).effDeadline

/-- Bay `a` has a higher priority than bay `b` (R243). -/
def bayAbove (s : State) (a : Nat) (x : Bay) (b : Nat) (y : Bay) : Bool :=
  let ka := kindRank x.kind
  let kb := kindRank y.kind
  let da := bayDeadline s a x
  let db := bayDeadline s b y
  decide (ka < kb ∨ (ka = kb ∧ (da < db ∨ (da = db ∧ a < b))))

/-- Two bays share a unit or a deck channel. -/
def bayShare (x y : Bay) : Bool := (x.girders &&& y.girders) != 0 || (x.clusters &&& y.clusters) != 0 || (x.chans &&& y.chans) != 0

/-- The domains a bay needs (R423). -/
def bayDomains (s : State) (y : Bay) : List Nat :=
  (setList y.girders).map (fun g => 1 + physGirder s g) ++
    ((List.range 8).filter (fun k => bitOf y.clusters k)).map (fun k => 33 + physCluster s k)

/-- The crossing's band regions are owned by DECK (R236). -/
def bandsOwned (s : State) : Bool :=
  (s.bands.filter (fun b => b.taken && b.buffer.isSome)).all (fun b =>
    (regionsOf b.addr b.size).all (fun r => (Tab.get Region0 s.deck.regions r).deck))

/-- The start conditions of R236 other than free units, with the prologue's (R241), the voltage's (R220) and that of the
boundary's copies (R219, R265) (log entries 32, DESIGN CHOICE; 48, DEDUCED; 114, DESIGN CHOICE). -/
def bayReady (s : State) (b : Nat) (y : Bay) : Bool :=
  let pr := (runRating s).prologue
  let ended (i : Nat) : Bool := (bayRun s i).st == .ended
  s.seq.active && !halted s && !s.steward.trip && (bayRun s b).st == .waiting && s.steward.settled &&
    decide ((runRating s).vfloor ≤ s.steward.vdd ∧ s.seq.t0 + copyNs s ≤ now s) &&
    (decide (b < pr) || (List.range pr).all ended) && y.preds.all ended && y.flags.all (flagSet s) &&
    (!y.bandRead || bandsOwned s) && decide (s.seq.t0 + y.start ≤ now s) && (bayDomains s y).all (isOn s)

/-- Other bays that hold units of bay `b`: running, or suspended in favour of a third. -/
def sharers (s : State) (b : Nat) (y : Bay) (st : BaySt) : List (Nat × Bay) :=
  (((runRating s).bays.zipIdx).filter (fun v => v.2 != b && (bayRun s v.2).st == st && bayShare v.1 y)).map (fun v => (v.2, v.1))

/-- Bay `b` may take the units of bay `v` (R243). -/
def mayPreempt (s : State) (b : Nat) (y : Bay) (v : Nat × Bay) : Bool := v.2.preempt && bayAbove s b y v.1 v.2

/-- A bay inside a collective that has sent is not at a boundary (R229, R243). -/
def inCollective (s : State) (v : Nat) (x : Bay) : Bool :=
  match x.cmds[(bayRun s v).pc]? with
  | some (.collective r) => s.seq.flags.contains (65536 + coFlag0 r, landHalf s)
  | _ => false

/-- A bay that waits in a WAIT command. -/
def atWait (s : State) (v : Nat) (x : Bay) : Bool :=
  match x.cmds[(bayRun s v).pc]? with
  | some (.wait _) => x.kind != .openBay
  | _ => false

/-- Jobs of a bay are suspended; `keep` tells whether they stay with it (log entry 49, DEDUCED). -/
def suspendJobs (b : Nat) (keep : Bool) (s : State) : State :=
  { s with jobs := s.jobs.map (fun x =>
    if x.bay = some b then
      { x with st := if x.st = .running then .suspended else x.st, bay := if keep then some b else none }
    else x) }

/-- The physical girders of a bay's GIRDER_SET. -/
def bayGirders (s : State) (b : Nat) : List Nat := (((getBay s b).map (fun y => setList y.girders)).getD []).map (physGirder s)

/-- Bay `v` gives its units up to another (R131, R243) (log entry 49, DEDUCED). -/
def suspendBay (v : Nat) (s : State) : State :=
  suspendJobs v true (updBay v (fun r => { r with st := .suspended, preempted := true }) (spillAll v (bayGirders s v) s))

/-- Pre-emption of a running bay: at once where it waits, else at its next tile boundary (R243). -/
def askYield (b : Nat) (v : Nat × Bay) (s : State) : State :=
  let s1 := updBay v.1 (fun r => { r with yieldTo := some b, preempted := true }) s
  if atWait s v.1 v.2 then suspendBay v.1 s1 else s1

/-- A bay starts (R236, R238, R245). -/
def startBay (b : Nat) (y : Bay) (s : State) : State :=
  let s1 := updBay b (fun r => { r with st := .running, ran := true, pc := 0, effDeadline := s.seq.t0 + y.deadline + s.seq.slip }) s
  if y.kind = .openBay then
    let g := grantCredits y.energyNj s1
    admitJob b y (updBay b (fun r => { r with credits := g.1 }) g.2)
  else s1

/-- A RESERVED bay that could start needs units of open bay `b`, which never starts before it (R238). -/
def reservedAhead (s : State) (b : Nat) (y : Bay) : Bool :=
  y.kind == .openBay && (runRating s).bays.zipIdx.any (fun v =>
    v.2 != b && v.1.kind == .reserved && bayShare v.1 y && bayReady s v.2 v.1)

/-- BAY_START (R236, R243): a bay whose conditions hold starts; it first takes the units of bays it may pre-empt. -/
def bayStart (b : Nat) (s : State) : State :=
  match getBay s b with
  | none => s
  | some y =>
    if !bayReady s b y || reservedAhead s b y then s
    else
      let run := sharers s b y .running
      if !(run ++ sharers s b y .suspended).all (mayPreempt s b y) then s
      else
        let s1 := run.foldl (fun a v => askYield b v a) s
        if (sharers s1 b y .running).isEmpty then startBay b y s1 else s1

def execBayStart (b : Fin 256) (s : State) : Host.Outcome State Fault Refusal := done (bayStart b) s

/-- Jobs of a bay whose views were withdrawn while they ran stop here (R568). -/
def endWithdrawn (b : Nat) (s : State) : State :=
  match s.jobs.findIdx? (fun x => x.bay == some b && !x.resumable) with
  | some j => withdrawJob j s
  | none => s

/-- An open bay that must end carries its jobs (R131, R238). -/
def carryJobs (b : Nat) (s : State) : State :=
  if s.jobs.any (fun x => x.bay == some b) then
    let s1 := (s.jobs.filter (fun x => x.bay == some b)).foldl (fun a x => spillAll (jobKey x) (x.girders.map (physGirder a)) a) s
    suspendJobs b false (updBay b (fun r => { r with carried := true }) s1)
  else s

/-- TILE_BOUNDARY (R131, R238, R243, R568). -/
def tileBoundary (b : Nat) (s : State) : State :=
  match getBay s b with
  | none => s
  | some y =>
    let r := bayRun s b
    if !s.seq.active ∨ r.st ≠ .running ∨ inCollective s b y then s
    else
      let s1 := endWithdrawn b s
      if r.yieldTo.isSome then suspendBay b s1 else if r.closing then carryJobs b s1 else s1

def execTileBoundary (b : Fin 256) (s : State) : Host.Outcome State Fault Refusal := done (tileBoundary b) s

/-- OPEN_BAY_DEADLINE (R246): an open bay stops at its effective deadline (log entry 32, DESIGN CHOICE). -/
def openDeadline (b : Nat) (s : State) : State :=
  match getBay s b with
  | none => s
  | some y =>
    let r := bayRun s b
    if s.seq.active ∧ y.kind = .openBay ∧ (r.st = .running ∨ r.st = .suspended) ∧ r.effDeadline ≤ now s then
      updBay b (fun r => { r with closing := true }) s
    else s

def execOpenBayDeadline (b : Fin 256) (s : State) : Host.Outcome State Fault Refusal := done (openDeadline b) s

/-- A bay's last command is complete: of an open bay, no job remains with it. -/
def bayFinished (s : State) (b : Nat) (y : Bay) : Bool :=
  if y.kind = .openBay then s.jobs.all (fun x => x.bay != some b) else decide (y.cmds.length ≤ (bayRun s b).pc)

/-- LATE and slip (R245) (log entry 48, DEDUCED). -/
def chargeSlip (b : Nat) (s : State) : State :=
  let d := (bayRun s b).effDeadline
  if now s ≤ d then s
  else
    let s1 := updBay b (fun r => { r with late := true }) s
    { s1 with seq := { s1.seq with slip := s1.seq.slip + (now s - d), cSlip := ctrBump s1.seq.cSlip } }

/-- A step count other than MAX_STEPS (R234, R140) (log entry 46, DESIGN CHOICE). -/
def stepCheck (b : Nat) (y : Bay) (steps : Nat) (s : State) : State :=
  if steps = y.maxSteps then s
  else
    dropTaken (recFault 0x3103 b steps (post 0x3103 0 0 b steps (updBay b (fun r => { r with stepFault := true }) s)))

/-- Bays suspended in favour of bay `b` resume, unless another running bay above them holds their units (R243)
(log entry 49, DEDUCED). -/
def resumeFrom (b : Nat) (s : State) : State :=
  ((runRating s).bays.zipIdx).foldl (fun a v =>
    if (bayRun a v.2).yieldTo = some b then
      match (sharers a v.2 v.1 .running).find? (fun w => bayAbove a w.1 w.2 v.2 v.1) with
      | some w => updBay v.2 (fun r => { r with yieldTo := some w.1 }) a
      | none =>
        let a1 := updBay v.2 (fun r => { r with st := .running, yieldTo := none }) (reloadAll v.2 (bayGirders a v.2) a)
        { a1 with jobs := a1.jobs.map (fun x => if x.bay = some v.2 ∧ x.st = .suspended then { x with st := .running } else x) }
    else a) s

/-- BAY_END (R234, R236, R245): `steps` is the count of the bay's steps. -/
def bayEnd (b steps : Nat) (s : State) : State :=
  match getBay s b with
  | none => s
  | some y =>
    if !s.seq.active ∨ (bayRun s b).st ≠ .running ∨ !bayFinished s b y then s
    else
      let s1 := updBay b (fun r => { r with st := .ended, yieldTo := none }) (stepCheck b y steps (chargeSlip b s))
      let s2 := resumeFrom b s1
      if crossingEnded s2 then { s2 with seq := { s2.seq with endedAt := now s } } else s2

def execBayEnd (b : Fin 256) (steps : BitVec 32) (s : State) : Host.Outcome State Fault Refusal := done (bayEnd b steps.toNat) s

/-! ## The regulator's timeout (R441) -/

/-- VDD_TIMEOUT (R441): the steward chooses again with the voltage last reached as the highest; the bays of a crossing that
has not begun follow the new choice. -/
def vddTimeout (sense : Nat) (s : State) : State :=
  let w := s.steward
  if w.settled ∨ now s < w.settleAt + 1000 * swSettle w.cfg then s
  else
    let s1 := post 0x2606 0 0 w.vdd sense { s with steward := { w with sense := sense } }
    let s2 := stewardChoose sense s1
    if s2.seq.rating ≠ s.seq.rating ∧ unstarted s then
      { s2 with seq := { s2.seq with bays := newBays s2, newRating := false } }
    else s2

def execVddTimeout (sense : BitVec 16) (s : State) : Host.Outcome State Fault Refusal := done (vddTimeout sense.toNat) s

end Sys2Proof.Machine
end

