-- ==== Sys2Proof/Machine/Errors.lean ====
section
/-! DEFINITION. Sys2Proof/Machine/Errors.lean: memory errors (R139 to R141, R454 to R457), forced refreshes (R237), abutment
ownership faults (R122), the correctable-error rate (R550), and the diagnostics commands UNIT_TEST, UNIT_MAP and DRAM_READ
(R133 to R138, R501).
-/

namespace Sys2Proof.Machine

/-! ## The correctable-error rate (R550) -/

/-- The interval of 3,600 s that the keystone count is in. -/
def ceInterval (s : State) : Nat := now s / 3600000000000

/-- Counts restart when the interval has changed (log entry 66, DEDUCED). -/
def rollInterval (s : State) : State :=
  if ceInterval s = s.mem.intervalNo then s
  else { s with mem := { s.mem with intervalNo := ceInterval s, chInterval := [], sramInterval := [] } }

/-- The event and the reason bit as a count passes its limit (log entry 66, DEDUCED). -/
def ceOver (n limit dom arg : Nat) (s : State) : State := if n = limit + 1 then rsSet 3 (post 0x2206 0 dom arg n s) else s

/-- A corrected error of DRAM channel `ch` counts towards its rate. -/
def ceChannel (ch : Nat) (s0 : State) : State :=
  let s := rollInterval s0
  let n := Tab.get 0 s.mem.chInterval ch + 1
  ceOver n 256 (59 + ch / 4) ch { s with mem := { s.mem with chInterval := Tab.set 0 s.mem.chInterval ch n } }

/-- A corrected error of SRAM counter `i` counts towards its rate. -/
def ceSram (i dom : Nat) (s0 : State) : State :=
  let s := rollInterval s0
  let n := Tab.get 0 s.mem.sramInterval i + 1
  ceOver n 64 dom (0x100 + i) { s with mem := { s.mem with sramInterval := Tab.set 0 s.mem.sramInterval i n } }

/-- CE_RATE_INTERVAL (R550): a new interval has begun. -/
def ceRateInterval (s : State) : State := rollInterval s

def execCeRateInterval (s : State) : Host.Outcome State Fault Refusal := done ceRateInterval s

/-! ## On-chip memory (R139 to R141) -/

/-- Index of a unit's corrected-error counter (R141): 32 piers, abutment memory, 8 clusters. -/
def sramIndex (u : SramUnit) : Nat :=
  match u with
  | .pier g => g.val
  | .abut => 32
  | .cluster k => 33 + k.val

/-- Power domain of a unit (R414) (log entry 66, DEDUCED). -/
def sramDomain (u : SramUnit) : Nat :=
  match u with
  | .pier g => 1 + g.val
  | .abut => 41
  | .cluster k => 33 + k.val

/-- Bumps a unit's corrected-error counter. -/
def countCe (u : SramUnit) (s : State) : State :=
  match u with
  | .pier g => setGirder g.val { getGirder s g.val with ce := ctrBump (getGirder s g.val).ce } s
  | .abut => { s with deck := { s.deck with ceAbut := ctrBump s.deck.ceAbut } }
  | .cluster k => setCluster k.val { getCluster s k.val with ce := ctrBump (getCluster s k.val).ce } s

/-- SRAM_CORRECTED (R139): counted; the corrected word is written back. -/
def sramCorrected (u : SramUnit) (s : State) : State := ceSram (sramIndex u) (sramDomain u) (countCe u s)

def execSramCorrected (unit : SramUnit) (_bank : Fin 16) (s : State) : Host.Outcome State Fault Refusal :=
  done (sramCorrected unit) s

/-- Weight banks of a pier wait for the reload of the next boundary (R140). -/
def noteReload (u : SramUnit) (bank : Nat) (s : State) : State :=
  match u with
  | .pier g => { s with deck := { s.deck with reload := (g.val, bank) :: s.deck.reload.filter (fun r => r != (g.val, bank)) } }
  | _ => s

/-- SRAM_UE (R140, R141, R255): counted, posted and recorded; the bands of the running crossing are dropped, and a bank of
weights is reloaded at the next boundary (log entry 91, DEDUCED). -/
def sramUe (u : SramUnit) (bank row : Nat) (s : State) : State :=
  let s1 := { s with deck := { s.deck with cUe := ctrBump s.deck.cUe } }
  let s2 := recFault 0x3201 (sramIndex u) bank
    (post 0x3201 0 (sramDomain u) (sramIndex u * 2 ^ 16 + bank) row s1)
  dropTaken (noteReload u bank s2)

def execSramUe (unit : SramUnit) (bank : Fin 16) (row : BitVec 16) (s : State) : Host.Outcome State Fault Refusal :=
  done (sramUe unit bank.val row.toNat) s

/-! ## DRAM (R211, R454 to R457) -/

/-- DRAM_CORRECTED (R454, R457): counted; the controller writes the corrected line back. A channel that the grade has not
reports nothing (R448). -/
def dramCorrected (ch : Nat) (s : State) : State :=
  if deckChans s + tollChans s ≤ ch then s
  else ceChannel ch { s with mem := { s.mem with ce := Tab.upd Ctr0 s.mem.ce ch ctrBump } }

def execDramCorrected (ch : Fin 16) (s : State) : Host.Outcome State Fault Refusal := done (dramCorrected ch.val) s

/-- DRAM_SCRUB (R454): a controller reads its lines in idle time; the read itself changes nothing. -/
def dramScrub (_ch : Nat) (s : State) : State := s

def execDramScrub (ch : Fin 16) (s : State) : Host.Outcome State Fault Refusal := done (dramScrub ch.val) s

/-- The deck address of a data offset of a deck channel (R450). -/
def deckAddr (s : State) (ch off : Nat) : Nat := (off / 2048 * deckChans s + ch) * 2048 + off % 2048

/-- A deck address lies in the page pool of a committed image, where R211 covers a read. -/
def inPool (s : State) (a : Nat) : Bool :=
  s.imgs.any (fun e => e.2.st == .committed && decide (e.2.kv.base ≤ a ∧ a < e.2.kv.base + 32768 * e.2.kv.pages))

/-- Every sample of a set of segment lists carries ECC_UE (R66). -/
def eccSegs (t : Tab (List Seg)) : Tab (List Seg) := t.map (fun e => (e.1, e.2.map (fun g => { g with flags := g.flags ||| 16 })))

/-- Every sample of the running crossing, and of the jobs that run in it, carries ECC_UE (R66, R455). -/
def flagAllEcc (s : State) : State :=
  { s with
    seq := { s.seq with segs := eccSegs s.seq.segs },
    jobs := s.jobs.map (fun j => if j.st = .running then { j with segs := eccSegs j.segs } else j) }

/-- DRAM_UE (R211, R455, R457): the line stays faulty; outside a page pool the samples of the running crossing carry
ECC_UE, with the event and a FAULT record (log entry 66, DEDUCED). -/
def dramUe (ch off : Nat) (s : State) : State :=
  let a := deckAddr s ch off / 64 * 64
  if deckChans s ≤ ch ∨ deckEnd s ≤ a then s
  else
    let s1 := { s with deck := { s.deck with badLines := a :: s.deck.badLines.filter (fun x => x != a) } }
    if inPool s a then logUe ch off s1
    else recFault 0x3202 ch off (noteUe ch off (when_ s.seq.active flagAllEcc s1))

def execDramUe (ch : Fin 12) (off : BitVec 35) (s : State) : Host.Outcome State Fault Refusal := done (dramUe ch.val off.toNat) s

/-- TOLL_DRAM_UE (R456, R457, R255): the requester gets the data as stored; counted, logged, posted and recorded
(log entry 66, DEDUCED). -/
def tollDramUe (c off : Nat) (s : State) : State :=
  if tollChans s ≤ c ∨ 0xE0000000 ≤ off then s else recFault 0x3202 (deckChans s + c) off (noteUe (deckChans s + c) off s)

def execTollDramUe (c : Fin 4) (off : BitVec 35) (s : State) : Host.Outcome State Fault Refusal :=
  done (tollDramUe c.val off.toNat) s

/-- REFRESH_FORCED (R237, R252): counted. -/
def refreshForced (ch : Nat) (s : State) : State :=
  if deckChans s ≤ ch then s else { s with seq := { s.seq with cRefresh := ctrBump s.seq.cRefresh } }

def execRefreshForced (ch : Fin 12) (s : State) : Host.Outcome State Fault Refusal := done (refreshForced ch.val) s

/-- ABUT_OWN_FAULT (R122): only a region owned by DECK refuses a write. -/
def abutOwnFault (region requester : Nat) (s : State) : State :=
  if (Tab.get Region0 s.deck.regions region).deck then ownFault region requester s else s

def execAbutOwnFault (region : Fin 384) (requester : Fin 13) (s : State) : Host.Outcome State Fault Refusal :=
  done (abutOwnFault region.val requester.val) s

/-! ## The self-test and the binding (R32, R133 to R138) -/

/-- Spare rows of a bank (R114). -/
def spareRows : Nat := 16

/-- Spare rows of bank `b` that a repair map uses. -/
def sparesOf (m : List (Nat × Nat)) (b : Nat) : Nat := (m.filter (fun r => r.1 == b)).length

/-- The repair map with the rows that fail, each on a spare row of its bank (R134); and whether some row found none. A row
that fails again has a spare row that fails. -/
def repairRows (m : List (Nat × Nat)) (fail : List (Fin 10 × Fin 4096)) : List (Nat × Nat) × Bool :=
  fail.eraseDups.foldl (fun a r => if sparesOf a.1 r.1.val < spareRows then (a.1 ++ [(r.1.val, r.2.val)], a.2) else (a.1, true)) (m, false)

/-- A girder after its test (R134, R137): failing rows take spare rows; a bank beyond repair, or another failing part,
removes the girder (log entry 68, DEDUCED). -/
def testGirder (t : UnitTest) (g : Girder) : Girder :=
  let m := repairRows g.repairs t.rows
  let code : BitVec 8 := if t.code != 0 then t.code else if m.2 then 5 else 0
  { g with repairs := m.1, stCode := code, removed := g.removed || code != 0, bound := g.bound && code == 0,
           spareExh := BitVec.ofNat 10 (((List.range 10).filter (fun b => decide (sparesOf m.1 b = spareRows))).foldl (fun a b => a + 2 ^ b) 0) }

/-- A cluster after its test (R135, R138): a failing core removes it (log entry 68, DEDUCED). -/
def testCluster (t : UnitTest) (c : Cluster) : Cluster :=
  let bad := t.code != 0 || t.failCores != 0
  { c with failCore := t.failCores, stCode := if t.code == 0 && bad then 1 else t.code, removed := c.removed || bad,
           bound := c.bound && !bad }

/-- What the self-test found of a unit; a unit it does not mention passes (log entry 68, DEDUCED). -/
def findingOf (report : List UnitTest) (u : Nat) : UnitTest := (report.find? (fun t => t.unit.val == u)).getD ⟨0, [], 0, 0⟩

/-- Binds the usable girders and clusters to logical units in ascending order (R31, R32, R135). -/
def bindUnits (s : State) : State :=
  let gs := (List.range 32).filter (fun n => girderPresent s n && !(getGirder s n).removed)
  let cs := (List.range 8).filter (fun k => clusterPresent s k && !(getCluster s k).removed)
  let s1 := (List.range 32).foldl (fun a n => setGirder n { getGirder a n with
    bound := gs.contains n, logical := if gs.contains n then gs.idxOf n else 0 } a) s
  let s2 := (List.range 8).foldl (fun a k => setCluster k { getCluster a k with
    bound := cs.contains k, logical := if cs.contains k then cs.idxOf k else 0 } a) s1
  refreshSwing s2

/-- The domain of a removed unit is OFF for good (R32, R136, R415, R427). -/
def domainOff (d : Nat) (s : State) : State :=
  let s1 := if (getDom s d).st = .off then s else enterState d .off s
  setDom s1 d { getDom s1 d with fused := true }

/-- The domains of every removed unit. -/
def removedOff (s : State) : State :=
  let s1 := (List.range 32).foldl (fun a n => if (getGirder a n).removed then domainOff (1 + n) a else a) s
  (List.range 8).foldl (fun a k => if (getCluster a k).removed then domainOff (33 + k) a else a) s1

/-- Restricted service after a test (R134, R136, R549). -/
def testReasons (s : State) : State :=
  let exh := (List.range 32).any (fun n => (getGirder s n).spareExh != 0)
  let gone := (List.range 32).any (fun n => (getGirder s n).removed) || (List.range 8).any (fun k => (getCluster s k).removed)
  when_ gone (rsSet 1) (when_ exh (rsSet 0) s)

/-- The self-test of every unit (R133 to R136), with the binding that follows. -/
def selfTest (report : List UnitTest) (s : State) : State :=
  let s1 := (List.range 32).foldl (fun a n =>
    if girderPresent s n then setGirder n (testGirder (findingOf report n) (getGirder a n)) a else a) s
  let s2 := (List.range 8).foldl (fun a k =>
    if clusterPresent s k then setCluster k (testCluster (findingOf report (32 + k)) (getCluster a k)) a else a) s1
  testReasons (removedOff (bindUnits s2))

/-! ## Diagnostics commands (R501) -/

/-- UNIT_TEST (R133): refused while a crossing runs; the manual states no effect on what on-chip memory holds
(log entries 68, DEDUCED; 90, DEDUCED). -/
def bodyUnitTest (m : Nat) (report : List UnitTest) (s : State) (p : List Byte) : State × Option Reply :=
  if s.seq.started then no s (refuse stBusy)
  else
    hold m 0x1001 p [.units, .sequencer] false (some (okWith [])) (selfTest report s)

def execUnitTest (m : Fin 16) (report : List UnitTest) (s : State) : Host.Outcome State Fault Refusal :=
  done (command m { plain 0x1001 0x0100 0 0 with objs := fun _ => [.units, .sequencer] } (bodyUnitTest m report)) s

/-- GU_STATUS[n] (R137); FUSED stands for a girder that the part has not. -/
def guStatus (present : Bool) (g : Girder) : Nat :=
  b2n (!present) <<< 31 + b2n g.removed <<< 30 + b2n g.bound <<< 29 + b2n g.swing <<< 28 + g.spareExh.toNat <<< 18 +
    (if g.bound then g.logical % 32 else 0) <<< 13 + g.stCode.toNat

/-- TCL_STATUS[k] (R138). -/
def tclStatus (present : Bool) (c : Cluster) : Nat :=
  b2n (!present) <<< 31 + b2n c.removed <<< 30 + b2n c.bound <<< 29 + (if c.bound then c.logical % 8 else 0) <<< 26 +
    c.failCore.toNat <<< 8 + c.stCode.toNat

/-- The counters of R141 as read, and as the read leaves them. -/
def sramCtrs (s : State) : List Ctr :=
  (List.range 32).map (fun n => (getGirder s n).ce) ++ [s.deck.ceAbut] ++ (List.range 8).map (fun k => (getCluster s k).ce) ++
    [s.deck.cUe]
def clearSramCtrs (s : State) : State :=
  let s1 := (List.range 32).foldl (fun a n => setGirder n { getGirder a n with ce := Ctr0 } a) s
  let s2 := (List.range 8).foldl (fun a k => setCluster k { getCluster a k with ce := Ctr0 } a) s1
  { s2 with deck := { s2.deck with ceAbut := Ctr0, cUe := Ctr0 } }

/-- UNIT_MAP (R137, R138, R141): the counters clear as they are read. -/
def bodyUnitMap (s : State) (_ : List Byte) : State × Option Reply :=
  yes (clearSramCtrs s) ((List.range 32).flatMap (fun n => leBytes 4 (guStatus (girderPresent s n) (getGirder s n))) ++
    (List.range 8).flatMap (fun k => leBytes 4 (tclStatus (clusterPresent s k) (getCluster s k))) ++ ctrsBytes (sramCtrs s))

def execUnitMap (m : Fin 16) (s : State) : Host.Outcome State Fault Refusal :=
  done (command m (plain 0x1002 0x0100 0 328) bodyUnitMap) s

/-- DRAM_READ (R457): the counters clear as they are read. -/
def bodyDramRead (s : State) (_ : List Byte) : State × Option Reply :=
  yes { s with mem := { s.mem with ce := [], ue := [] } }
    ((List.range 16).flatMap (fun c => ctrBytes (Tab.get Ctr0 s.mem.ce c)) ++
      (List.range 16).flatMap (fun c => ctrBytes (Tab.get Ctr0 s.mem.ue c)) ++ leBytes 8 s.mem.ueLog.toNat)

def execDramRead (m : Fin 16) (s : State) : Host.Outcome State Fault Refusal :=
  done (command m (plain 0x1007 0x0100 0 136) bodyDramRead) s

end Sys2Proof.Machine
end

