-- ==== Sys2Proof/Machine/Boot.lean ====
section
/-! DEFINITION. Sys2Proof/Machine/Boot.lean: OTP and flash (R509 to R513), firmware images and commit records (R514, R515),
the boot ROM (R516, R523), FW_UPDATE (R519 to R522), FW_INFO (R530), ATTEST (R528), and the completion of long and boundary
commands (R489).
-/

namespace Sys2Proof.Machine

/-! ## OTP (R509 to R511) -/

/-- Burns bits into OTP: bits only change from 0 to 1. -/
def otpBurn (a : Nat) (bs : List Byte) (s : State) : State :=
  { s with sec := { s.sec with otp := memWrite s.sec.otp a (List.zipWith (· ||| ·) (memRead s.sec.otp a bs.length) bs) } }

/-- Bits set in a number of `n` bits. -/
def bitCount (n v : Nat) : Nat := ((List.range n).filter (fun i => bitOf v i)).length

/-- AR_COUNTER: the number of burned bits (R509). -/
def arCounter (s : State) : Nat := bitCount 64 (memVal s.sec.otp 0x108 8)

/-- Unrevoked programmed slots of a class. -/
def liveSlots (s : State) (cls : Nat) : List Nat :=
  (List.range 4).filter (fun i => otpProgrammed s.sec.otp cls i && !otpRevoked s.sec.otp cls i)

/-- KEYS of R528. -/
def keysWord (s : State) : Nat :=
  let nib (f : Nat → Bool) : Nat := (List.range 4).foldl (fun a i => a + b2n (f i) * 2 ^ i) 0
  nib (otpProgrammed s.sec.otp 0) + 16 * nib (otpRevoked s.sec.otp 0) + 256 * nib (otpProgrammed s.sec.otp 1) +
    4096 * nib (otpRevoked s.sec.otp 1)

/-- The UID (R509). -/
def uid (s : State) : List Byte := memRead s.sec.otp 0x110 16

/-! ## Flash (R512, R513) -/

/-- Erases `n` bytes of flash: they read as 0xFF. -/
def flashErase (a n : Nat) (s : State) : State := { s with sec := { s.sec with flash := memClear s.sec.flash a n } }

/-- Programs flash: bits only change from 1 to 0. -/
def flashProgram (a : Nat) (bs : List Byte) (s : State) : State :=
  { s with sec := { s.sec with
      flash := memWriteD 0xFF s.sec.flash a (List.zipWith (· &&& ·) (flashRead s a bs.length) bs) } }

/-- The flash descriptor's CRC holds (R513). -/
def descOk (s : State) : Bool := decide (crc32 (flashRead s 0 16) = fld (flashRead s 16 4) 0 4)

/-- Where a slot's commit sector and image lie (R513). -/
def commitAddr (slot : Nat) : Nat := 0x10000 + 0x1000 * slot
def slotAddr (slot : Nat) : Nat := 0x100000 + 0x200000 * slot

/-- Largest firmware image (R514). -/
def fwMax : Nat := 0x200000

/-! ## Firmware images and commit records (R514, R515) -/

/-- Header fields. -/
def fwSec (b : List Byte) : Nat := fld1 b 8
def fwRevoke (b : List Byte) : Nat := fld1 b 9 % 16
def fwSize (b : List Byte) : Nat := fld b 12 4
def fwLoad (b : List Byte) : Nat := fld b 16 4
def fwOpstore (b : List Byte) : Nat := fld b 20 4
def fwSigOff (b : List Byte) : Nat := fld b 32 4

/-- The header is correct (R514) (log entry 69, DESIGN CHOICE). -/
def fwHeaderOk (b : List Byte) : Bool :=
  decide (fld b 0 4 = 0x37574647) && decide (fld b 4 2 = 1) && decide (fwSec b ≤ 64) && decide (fld1 b 9 < 16) &&
    allZero (slice b 10 2) && allZero (slice b 36 28) && decide (64 ≤ fwSigOff b) && decide (fwSigOff b % 16 = 0) &&
    decide (fwSize b = fwSigOff b + 784) && decide (fwSize b ≤ fwMax) && decide (fwLoad b ≤ 1835008) &&
    decide (fwLoad b ≤ fwSize b) && decide (fld b 24 4 = 65536) && decide (64 ≤ fwOpstore b) &&
    decide (fwOpstore b + 65536 ≤ fwSigOff b) && decide (fld b 28 4 < fwLoad b)

/-- The measurement of an image (R508). -/
def fwMeas (b : List Byte) : List Byte := sha256 (b.take (fwSigOff b))

/-- The signature block of an image is valid, with a vendor key (R508). -/
def fwSigOk (s : State) (b : List Byte) : Bool := sigValid s.sec.otp (slice b (fwSigOff b) 784) (fwMeas b) 0

/-- A slot's commit record (R515). -/
def commitRec (s : State) (slot : Nat) : List Byte := flashRead s (commitAddr slot) 256

/-- A commit record is valid: magic, slot and CRC (R515, R516). -/
def recOk (slot : Nat) (r : List Byte) : Bool :=
  decide (fld r 0 4 = 0x544D4D43) && decide (fld1 r 8 = slot) && decide (crc32 (r.take 252) = fld r 252 4)

/-- Record fields. -/
def recSeq (r : List Byte) : Nat := fld r 4 4
def recSize (r : List Byte) : Nat := fld r 12 4

/-- The image in a slot, as long as its record says. -/
def slotImage (s : State) (slot : Nat) : List Byte := flashRead s (slotAddr slot) (recSize (commitRec s slot))

/-- The image of a slot is whole, correct and signed; `slotOk` adds the anti-rollback check (R516). -/
def slotSigned (s : State) (slot : Nat) : Bool :=
  recOk slot (commitRec s slot) && decide (recSize (commitRec s slot) ≤ fwMax) &&
    decide (sha256 (slotImage s slot) = slice (commitRec s slot) 16 32) && fwHeaderOk (slotImage s slot) &&
    decide (fwSize (slotImage s slot) = recSize (commitRec s slot)) && fwSigOk s (slotImage s slot)
def slotOk (s : State) (slot : Nat) : Bool := slotSigned s slot && decide (arCounter s ≤ fwSec (slotImage s slot))

/-- A commit record (R515). -/
def commitBytes (slot seq : Nat) (b : List Byte) : List Byte :=
  let r := leBytes 4 0x544D4D43 ++ leBytes 4 seq ++ leBytes 1 slot ++ leBytes 1 (fwSec b) ++ slice b 6 2 ++
    leBytes 4 (fwSize b) ++ sha256 b ++ zeros 204
  r ++ leBytes 4 (crc32 r)

/-! ## The boot ROM (R516, R523) -/

/-- The firmware that an image becomes when it is loaded. -/
def loadedFw (slot seq : Nat) (b : List Byte) : Firmware :=
  ⟨slot, seq, fwSec b, BitVec.ofNat 16 (fld b 6 2), BitVec.ofNat 4 (fwRevoke b), fld1 (slice b (fwSigOff b) 784) 5, fwMeas b,
    b.take (fwLoad b), slice b (fwOpstore b) 65536⟩

/-- The bootable slot of the higher SEQ (log entry 69, DESIGN CHOICE). -/
def bootSlot (s : State) : Option Nat :=
  let seq (i : Nat) : Nat := recSeq (commitRec s i)
  match slotOk s 0, slotOk s 1 with
  | true, true => some (if seq 0 < seq 1 then 1 else 0)
  | true, false => some 0
  | false, true => some 1
  | false, false => none

/-- The boot ROM (R516): chooses and loads a slot, or enters ROM recovery. The flags are those of BOOT (R530)
(log entry 69, DESIGN CHOICE). -/
def bootRom (s : State) : State :=
  let slow : BitVec 8 := if descOk s then 0 else 4
  match bootSlot s with
  | some i =>
    let tried := recOk (1 - i) (commitRec s (1 - i)) && !slotOk s (1 - i)
    { s with sec := { s.sec with
        boot := .loaded, fw := loadedFw i (recSeq (commitRec s i)) (slotImage s i),
        bootFlags := slow ||| (if tried then 2 else 0) } }
  | none => { s with sec := { s.sec with boot := .recovery, fw := Firmware0, bootFlags := slow, baud := 115200 } }

/-- RESET_N_RELEASE (R516). -/
def resetNRelease (s : State) : State := if s.sec.boot = .held then bootRom s else s

def execResetNRelease (s : State) : Host.Outcome State Fault Refusal := done resetNRelease s

/-- Image checks of step 1 of R519, with the status each failure gives (R520) (log entry 69, DESIGN CHOICE). -/
def fwRefusal (s : State) (b : List Byte) : Option Nat :=
  if fwMax < b.length then some stParam
  else if !fwHeaderOk b || fwSize b != b.length || !fwSigOk s b then some stSignature
  else if fwSec b < arCounter s then some stRollback
  else none

/-- Erases a slot's image area and programs an image (steps 2 and 3 of R519). -/
def writeSlot (slot : Nat) (b : List Byte) (s : State) : State :=
  flashProgram (slotAddr slot) b (flashErase (slotAddr slot) fwMax (flashErase (commitAddr slot) 4096 s))

/-! ## Monitor output (R531) -/

/-- One response of the monitor (log entry 70, DESIGN CHOICE). -/
def say (line : String) (bs : List Byte) (s : State) : State := emit (.uart line bs) s

/-- Takes LOAD blocks of up to 1,024 bytes, each with its CRC, acknowledging each: the image's bytes, or none where a block
fails (log entry 69, DESIGN CHOICE). -/
def loadBlocks : List (List Byte × BitVec 32) → List Byte → State → Option (List Byte) × State
  | [], acc, s => (some acc, s)
  | (b, c) :: t, acc, s =>
    if 1024 < b.length ∨ crc32 b ≠ c.toNat then (none, say "ERR INVALID_PARAM" [] s) else loadBlocks t (acc ++ b) (say "OK" [] s)

/-- Name of a status that LOAD answers. -/
def loadErr (st : Nat) : String :=
  match st with
  | 0x0022 => "ERR SIGNATURE"
  | 0x0023 => "ERR ROLLBACK"
  | _ => "ERR INVALID_PARAM"

/-- ROM_RECOVERY_LOAD (R523): the image, once checked, goes into slot 0 with a commit record of SEQ 1, and boots. -/
def romLoad (blocks : List (List Byte × BitVec 32)) (s : State) : State :=
  if s.sec.boot ≠ .recovery then s
  else
    match loadBlocks blocks [] s with
    | (none, s1) => s1
    | (some bs, s1) =>
      let b := bs.take (fwSize bs)
      match fwRefusal s1 b with
      | some st => say (loadErr st) [] s1
      | none =>
        let s2 := flashProgram (commitAddr 0) (commitBytes 0 1 b) (writeSlot 0 b s1)
        { s2 with sec := { s2.sec with
            boot := .loaded, fw := loadedFw 0 1 b, bootFlags := s2.sec.bootFlags ||| 1 } }

def execRomRecoveryLoad (blocks : List (List Byte × BitVec 32)) (s : State) : Host.Outcome State Fault Refusal :=
  done (romLoad blocks) s

/-! ## FW_UPDATE (R519 to R522) -/

def specFwUpdate : Spec :=
  { plain 0x0E01 0x0100 16 8 with
    rsv := fun _ => [rsvAll 12 4],
    ranges := fun s p => rangesOf [(tollOk s (fld p 0 8) (fld p 8 4) && inAlloc s (fld p 0 8) (fld p 8 4), 0),
      (decide (fld p 8 4 ≤ fwMax), 8)],
    objs := fun _ => [.flash] }

/-- The slot that is not running. -/
def targetSlot (s : State) : Nat := 1 - s.sec.fw.slot

/-- FW_UPDATE (R519, R520): steps 1 to 4; the commit record of step 5 is written as the command completes. A flash error ends
it without one (log entry 69, DESIGN CHOICE). -/
def bodyFwUpdate (m : Nat) (flashError : Option (BitVec 24)) (s : State) (p : List Byte) : State × Option Reply :=
  let b := tollRead s (fld p 0 8) (fld p 8 4)
  let ans (r : Reply) (s : State) : State × Option Reply := hold m 0x0E01 p [.flash] false (some r) (tollUse 9 s)
  if s.sec.fw.seq = 0xFFFFFFFE then ans (refuse stState) s
  else
    match fwRefusal s b with
    | some st => ans (if st = stParam then badParam 8 else refuse st) s
    | none =>
      match flashError with
      | some a => ans (refuse stState)
          (post 0x2802 0 0 a.toNat 0 (writeSlot (targetSlot s) (b.take (a.toNat - slotAddr (targetSlot s))) s))
      | none => ans (okWith (leBytes 1 (targetSlot s) ++ zeros 3 ++ leBytes 4 (s.sec.fw.seq + 1))) (writeSlot (targetSlot s) b s)

def execFwUpdate (m : Fin 16) (flashError : Option (BitVec 24)) (s : State) : Host.Outcome State Fault Refusal :=
  done (command m specFwUpdate (bodyFwUpdate m flashError)) s

/-- Step 5 of R519: an FW_UPDATE whose image is in place programs its commit record (log entry 69, DESIGN CHOICE). -/
def commitFw (m : Nat) (s : State) : State :=
  match s.gh.running.find? (fun r => r.mbx == m && r.op == 0x0E01) with
  | none => s
  | some r =>
    match r.answer with
    | some (0, _, resp) =>
      let slot := fld1 resp 0 % 2
      flashProgram (commitAddr slot) (commitBytes slot (fld resp 4 4) (flashRead s (slotAddr slot) (fwSize (flashRead s (slotAddr slot) 64)))) s
    | _ => s

/-- COMMAND_COMPLETE (R489). -/
def commandComplete (m : Nat) (s : State) : State := publish m (commitFw m s)

def execCommandComplete (m : Fin 16) (s : State) : Host.Outcome State Fault Refusal := done (commandComplete m) s

/-! ## FW_INFO (R530) -/

/-- One slot of FW_INFO. -/
def fwInfoSlot (s : State) (i : Nat) : List Byte :=
  let r := commitRec s i
  let ok := recOk i r
  leBytes 1 (4 * b2n (slotOk s i) + 2 * b2n (slotSigned s i) + b2n ok) ++
    (if ok then slice r 9 1 ++ slice r 10 2 ++ slice r 4 4 ++ slice r 12 4 ++ zeros 4 ++ slice r 16 32 else zeros 47)

/-- The table of R530. -/
def fwInfo (s : State) : List Byte :=
  leBytes 1 s.sec.fw.slot ++ leBytes 1 (lifecycle s) ++ leBytes 1 (arCounter s) ++ leBytes 1 s.sec.bootFlags.toNat ++
    leBytes 2 (keysWord s) ++ zeros 2 ++ fwInfoSlot s 0 ++ fwInfoSlot s 1 ++ zeros 8

def bodyFwInfo (s : State) (_ : List Byte) : State × Option Reply := yes s (fwInfo s)

def execFwInfo (m : Fin 16) (s : State) : Host.Outcome State Fault Refusal :=
  done (command m (plain 0x0E02 0x0100 0 112) bodyFwInfo) s

/-! ## ATTEST (R528, R529) -/

/-- The monitor's level (R511, R532, R533): 0 locked, 1 READ, 2 FULL. -/
def catLevel (s : State) : Nat := if lifecycle s = 2 then s.sec.level else 2

/-- The hash of the lowest unrevoked programmed owner slot, zero if none. -/
def ownerKeyHash (s : State) : List Byte :=
  match liveSlots s 1 with
  | i :: _ => otpHash s.sec.otp 1 i
  | [] => zeros 32

/-- The SHA-256 of the CROSSING section of a rating. -/
def tableMeas (x : ImgSlot) (r : Nat) : List Byte :=
  match (parseDir x.raw).find? (fun e => decide (e.kind = 8 ∧ (parseRating x.raw e.off).idx = r)) with
  | some e => sha256 (slice x.raw e.off e.size)
  | none => zeros 32

/-- The entry of a committed image. -/
def attestImage (s : State) (i : Nat) : List Byte :=
  let x := getImg s i
  leBytes 1 i ++ leBytes 1 (imgState s i) ++ leBytes 1 x.img.role ++ leBytes 1 (x.lastRating.getD 0xFF) ++
    leBytes 4 x.img.version ++ leBytes 8 x.img.modelId ++ padTo 32 x.meas ++
    (match x.lastRating with
     | some r => tableMeas x r
     | none => zeros 32)

/-- Length of a report: B + 1,160, where B = 144 + 80 N. -/
def attestLen (s : State) : Nat := 144 + 80 * (committedImages s).length + 1160

/-- The report up to its signature. -/
def attestBody (s : State) (nonce : List Byte) : List Byte :=
  leBytes 4 0x54544152 ++ leBytes 2 1 ++ leBytes 2 (attestLen s) ++ padTo 32 nonce ++ leBytes 8 (now s) ++ uid s ++ [gradeByte s, 0xB0] ++
    leBytes 2 s.sec.fw.fwVersion.toNat ++ [2] ++ leBytes 1 (lifecycle s) ++ leBytes 1 (arCounter s) ++ leBytes 1 s.sec.fw.slot ++
    leBytes 2 (keysWord s) ++ leBytes 1 (committedImages s).length ++ leBytes 1 (catLevel s) ++ zeros 4 ++ padTo 32 s.sec.fw.meas ++
    ownerKeyHash s ++ (committedImages s).flatMap (attestImage s) ++ memRead s.sec.otp 0x120 388 ++ memRead s.sec.otp 0x2A4 1 ++
    zeros 3 ++ memRead s.sec.otp 0x2A8 384

/-- ATTEST (R528, R529): refused while MODEL_COMMIT or FW_UPDATE is under way; `signature` is what the signing engine makes
of the report. -/
def bodyAttest (m : Nat) (signature : List Byte) (s : State) (p : List Byte) : State × Option Reply :=
  if s.gh.running.any (fun r => r.op == 0x0802 || r.op == 0x0E01) then no s (refuse stBusy)
  else hold m 0x0F01 p [] false (some (okWith (attestBody s p ++ padTo 384 signature))) s

def execAttest (m : Fin 16) (signature : List Byte) (s : State) : Host.Outcome State Fault Refusal :=
  done (command m { plain 0x0F01 0x0201 32 0 with resp := fun s _ => attestLen s } (bodyAttest m signature)) s

end Sys2Proof.Machine
end

