-- ==== Sys2Proof/Machine/Gatehouse.lean ====
section
/-! DEFINITION. Sys2Proof/Machine/Gatehouse.lean: host writes to registers that have no row of their own (R11, R258, R401, R432,
R457, R463, R466 to R468, R486), and RESET (R506).
-/

namespace Sys2Proof.Machine

/-! ## BAR0 (R466, R467, R486) -/

/-- Bits `v` cleared in a W1C field. -/
def w1c {n : Nat} (f : BitVec n) (v : Nat) : BitVec n := f &&& ~~~(BitVec.ofNat n v)

/-- Replaces the low or the high 32 bits of a 64-bit register. -/
def half64 (high : Bool) (x : BitVec 64) (v : Nat) : BitVec 64 :=
  if high then BitVec.ofNat 64 (x.toNat % 2 ^ 32 + v * 2 ^ 32) else BitVec.ofNat 64 (x.toNat / 2 ^ 32 * 2 ^ 32 + v)

/-- A write to word `o` of a mailbox's register block (R486, R488). -/
def mbxWrite (m o v : Nat) (s : State) : State :=
  let x := getMbx s m
  match o with
  | 0x00 => setMbx s m { x with opcode := BitVec.ofNat 16 (v / 2 ^ 16), reqLen := BitVec.ofNat 16 v }
  | 0x04 => setMbx s m { x with session := BitVec.ofNat 16 (v / 2 ^ 16), rspInd := bitOf v 1, reqInd := bitOf v 0 }
  | 0x08 => setMbx s m { x with reqAddr := half64 false x.reqAddr v }
  | 0x0C => setMbx s m { x with reqAddr := half64 true x.reqAddr v }
  | 0x10 => setMbx s m { x with rspAddr := half64 false x.rspAddr v }
  | 0x14 => setMbx s m { x with rspAddr := half64 true x.rspAddr v }
  | 0x18 => setMbx s m { x with rspMax := BitVec.ofNat 32 v }
  | 0x1C => if bitOf v 0 then goWrite m s else s
  | 0x20 => setMbx s m { x with dbReject := x.dbReject && !bitOf v 29 }
  | _ => s

/-- Sends the message of a vector that is pending and no longer masked (R468). -/
def unmask (v : Nat) (s : State) : State :=
  if s.host.pba.getLsbD v && !vecMasked s v then
    emit (.msix v) { s with host := { s.host with pba := s.host.pba &&& ~~~(1#64 <<< v) } }
  else s

/-- A write into the MSI-X table (R466, R468). -/
def msixWrite (a v : Nat) (s : State) : State :=
  let t := (leBytes 4 v).zipIdx.foldl (fun t e => Tab.set (msixReset (a + e.2)) t (a + e.2) e.1) s.host.msix
  unmask (a / 16) { s with host := { s.host with msix := t } }

/-- A 4-byte write to BAR0 (R466, R467). -/
def bar0Word (off v : Nat) (s : State) : State :=
  if off = 0x0100 then
    { s with host := { s.host with
        mbxDone := w1c s.host.mbxDone v, statusChg := s.host.statusChg && !bitOf v 16 } }
  else if off = 0x0104 then { s with host := { s.host with intEn := BitVec.ofNat 17 v } }
  else if off = 0x0200 then
    { s with host := { s.host with winBase := BitVec.ofNat 14 (setBits s.host.winBase.toNat 11 0 (v / 2 ^ 20)) } }
  else if off = 0x0204 then
    { s with host := { s.host with winBase := BitVec.ofNat 14 (setBits s.host.winBase.toNat 13 12 v) } }
  else if 0x1000 ≤ off ∧ off < 0x1400 then mbxWrite ((off - 0x1000) / 0x40) (off % 0x40) v s
  else if 0x2000 ≤ off ∧ off < 0x3000 then
    let m := (off - 0x2000) / 0x100
    setMbx s m { getMbx s m with req := memWrite (getMbx s m).req (off % 0x100) (leBytes 4 v) }
  else if 0x4000 ≤ off ∧ off < 0x4400 then msixWrite (off - 0x4000) v s
  else s

/-- A write to BAR0: an 8-byte write is two 4-byte writes in ascending order; a misaligned one is ignored
(log entry 37, DESIGN CHOICE). -/
def bar0Write (off : Nat) (eight : Bool) (v : Nat) (s : State) : State :=
  if off % (if eight then 8 else 4) ≠ 0 then s
  else if eight then bar0Word (off + 4) (v / 2 ^ 32) (bar0Word off (v % 2 ^ 32) s)
  else bar0Word off (v % 2 ^ 32) s

/-- REGISTER_WRITE (R11): each field by its access code (log entry 37, DESIGN CHOICE). -/
def registerWrite (r : RegName) (v : Nat) (s : State) : State :=
  match r with
  | .bar0 off eight => bar0Write off.toNat eight v s
  | .recStatus => { s with rec_ := { s.rec_ with gap := s.rec_.gap && !bitOf v 30 } }
  | .spStatus p =>
    let x := getSpan s p.val
    setSpan s p.val { x with badLanes := w1c x.badLanes (v / 2 ^ 18), peerChanged := x.peerChanged && !bitOf v 12 }
  | .ueLog => { s with mem := { s.mem with ueLog := w1c s.mem.ueLog (v / 2 ^ 59 % 2 * 2 ^ 59) } }
  | .energy d => setDom s d.val { getDom s d.val with ovf := (getDom s d.val).ovf && !bitOf v 63 }
  | .tollBytes r c =>
    { s with mem := { s.mem with
        bytes := Tab.upd ⟨0, false⟩ s.mem.bytes (4 * r.val + c.val) (fun b => { b with ovf := b.ovf && !bitOf v 63 }) } }

def execRegisterWrite (r : RegName) (v : BitVec 64) (s : State) : Host.Outcome State Fault Refusal :=
  done (registerWrite r v.toNat) s

/-! ## RESET (R506) -/

def specReset : Spec :=
  { plain 0x1101 0x0100 8 0 with
    rsv := fun _ => [(1, 1, 0xFE), rsvAll 2 6], ranges := fun _ p => rangesOf [(decide (fld1 p 0 = 1), 0)] }

/-- The warm reset that a RESET command leaves due (R506, R536): 100 µs from now, merged into one that is due or under way
(log entries 54, DEDUCED; 93, DEDUCED). -/
def resetDue (cause : Nat) (s : State) : Option (Nat × Nat) :=
  if s.rst.warm.isSome then s.gh.warmAt else s.gh.warmAt.or (some (now s + 100000, cause))

/-- RESET (R506): a warm reset follows 100 µs after the response. -/
def bodyReset (m : Nat) (s : State) (p : List Byte) : State × Option Reply :=
  if s.gh.mbx.any (fun e => e.1 != m && e.2.st == .busy) && !bitOf (fld1 p 1) 0 then no s (refuse stBusy)
  else yes { s with gh := { s.gh with warmAt := resetDue 1 s } } []

def execResetCmd (m : Fin 16) (s : State) : Host.Outcome State Fault Refusal := done (command m specReset (bodyReset m)) s

end Sys2Proof.Machine
end

