-- ==== Sys2Proof/Machine/Catwalk.lean ====
section
/-! DEFINITION. Sys2Proof/Machine/Catwalk.lean: the catwalk monitor (R510, R511, R531 to R533).
-/

namespace Sys2Proof.Machine

/-! ## Who answers -/

/-- The gatehouse's firmware runs, and with it the monitor. -/
def fwRuns (s : State) : Bool := s.sec.boot == .firmware || s.sec.boot == .ready

/-- A monitor command that needs `level` (R532); one below it is answered with LIFECYCLE
(log entry 70, DESIGN CHOICE). -/
def monitor (level : Nat) (f : State → State) (s : State) : State :=
  if !fwRuns s then s else if catLevel s < level then say "ERR LIFECYCLE" [] s else f s

/-- Bytes of ASCII text. -/
def ascii (t : String) : List Byte := t.toList.map (fun c => BitVec.ofNat 8 c.toNat)

/-! ## Commands open to every level -/

/-- HELP (R532): the commands that the monitor accepts. -/
def help (s : State) : State :=
  say "OK" (ascii "HELP INFO BAUD CHAL UNLOCK STATUS LOG MR MW PROVISION REVOKE LIFECYCLE LOCK RESET") s

def execHelpCmd (s : State) : Host.Outcome State Fault Refusal := done (monitor 0 help) s

/-- INFO (R523, R532): the fields of FW_INFO and GET_CAPS; ROM recovery answers it too. -/
def info (s : State) : State := say "OK" (fwInfo s ++ capsResp s) s

def execInfoCmd (s : State) : Host.Outcome State Fault Refusal :=
  done (fun s => if s.sec.boot = .recovery then info s else monitor 0 info s) s

/-- Rates that BAUD offers (R531). -/
def bauds : List Nat := [230400, 460800, 921600, 1500000, 3000000]

/-- BAUD (R523, R531): the rate changes after the response. -/
def baudSet (rate : Nat) (s : State) : State :=
  if bauds.contains rate then
    let s1 := say "OK" [] s
    { s1 with sec := { s1.sec with baud := rate } }
  else say "ERR INVALID_PARAM" [] s

def execBaud (rate : BitVec 32) (s : State) : Host.Outcome State Fault Refusal :=
  done (fun s => if s.sec.boot = .recovery then baudSet rate.toNat s else monitor 0 (baudSet rate.toNat) s) s

/-- CHAL is refused for 60 s after three invalid answers (R533). -/
def lockedOut (s : State) : Bool :=
  match s.sec.lockout with
  | some t => decide (now s < t)
  | none => false

/-- CHAL (R533): a fresh challenge of 32 bytes, drawn outside, replaces any earlier one. -/
def challenge (random : List Byte) (s : State) : State :=
  if lockedOut s then say "ERR BUSY" [] s
  else
    say "OK" (padTo 32 random) { s with sec := { s.sec with challenge := some (padTo 32 random) } }

def execChal (random : List Byte) (s : State) : Host.Outcome State Fault Refusal := done (monitor 0 (challenge random)) s

/-- The message an unlock answer signs (R533). -/
def unlockMessage (s : State) (c : List Byte) (level : Nat) : List Byte := ascii "SG7-CATWALK" ++ uid s ++ c ++ leBytes 1 level

/-- UNLOCK (R533): a valid answer grants the level; the third invalid answer in a row starts the 60 s. The challenge is
spent either way (log entry 70, DESIGN CHOICE). -/
def unlock (level : Nat) (answer : List Byte) (s : State) : State :=
  match s.sec.challenge with
  | none => say "ERR STATE" [] s
  | some c =>
    if level ≠ 1 ∧ level ≠ 2 then say "ERR INVALID_PARAM" [] s
    else if sigValid s.sec.otp answer (sha256 (unlockMessage s c level)) 1 then
      say "OK" [] { s with sec := { s.sec with
        level := level, unlockSlot := fld1 answer 5, challenge := none, invalid := 0 } }
    else
      say "ERR SIGNATURE" [] { s with sec := { s.sec with
        challenge := none, invalid := if s.sec.invalid + 1 = 3 then 0 else s.sec.invalid + 1,
        lockout := if s.sec.invalid + 1 = 3 then some (now s + 60000000000) else s.sec.lockout } }

def execUnlock (level : BitVec 2) (answer : List Byte) (s : State) : Host.Outcome State Fault Refusal :=
  done (monitor 0 (unlock level.toNat answer)) s

/-- CATWALK_LOCKOUT_EXPIRY (R533). -/
def lockoutExpiry (s : State) : State := if lockedOut s then s else { s with sec := { s.sec with lockout := none } }

def execCatwalkLockoutExpiry (s : State) : Host.Outcome State Fault Refusal := done lockoutExpiry s

/-- LOCK (R532). -/
def lock (s : State) : State := say "OK" [] { s with sec := { s.sec with level := 0 } }

def execLockCmd (s : State) : Host.Outcome State Fault Refusal := done (monitor 0 lock) s

/-! ## READ level -/

/-- Names of the set reason bits (R549, R551). -/
def rsNames (s : State) : String :=
  (["SPARE_EXH", "UNIT_REMOVED", "SPAN_DEGRADED", "CE_RATE", "NOFIT", "BAND_DROP", "VRM_FAULT"].zipIdx.filter
    (fun e => s.rst.rs.getLsbD e.2)).foldl (fun a e => a ++ " " ++ e.1) ""

/-- STATUS (R532, R551): DEV_STATUS, RS_STATUS, and the names of its bits. -/
def statusOf (s : State) : State := say "OK" (leBytes 4 (devStatus s) ++ leBytes 4 s.rst.rs.toNat ++ ascii (rsNames s)) s

def execStatusCmd (s : State) : Host.Outcome State Fault Refusal := done (monitor 1 statusOf) s

/-- LOG (R532): the newest 64 event records. -/
def logOf (s : State) : State := say "OK" s.q.log.flatten s

def execLogCmd (s : State) : Host.Outcome State Fault Refusal := done (monitor 1 logOf) s

/-- Toll space that MR and MW reach (R532): outside the firmware region, but for BLANK. -/
def catRange (s : State) (a n : Nat) : Bool := if lifecycle s = 0 then decide (a + n ≤ tollEnd s) else tollOk s a n

/-- MR (R531, R532): up to 4,096 bytes of toll space, through the toll gate. -/
def memRead_ (a n : Nat) (s : State) : State :=
  if 4096 < n || !catRange s a n then say "ERR INVALID_PARAM" [] s
  else say "OK" (tollRead s a n) (tollUse 11 s)

def execMrCmd (addr : BitVec 64) (count : BitVec 13) (s : State) : Host.Outcome State Fault Refusal :=
  done (monitor 1 (memRead_ addr.toNat count.toNat)) s

/-! ## FULL level -/

/-- MW (R531, R532): 8 bytes of toll space. -/
def memWrite_ (a v : Nat) (s : State) : State :=
  if !catRange s a 8 then say "ERR INVALID_PARAM" [] s
  else say "OK" [] (tollWrite a (leBytes 8 v) (tollUse 11 s))

def execMwCmd (addr v : BitVec 64) (s : State) : Host.Outcome State Fault Refusal :=
  done (monitor 2 (memWrite_ addr.toNat v.toNat)) s

/-- A command that burns OTP only after the operator has typed the UID (R532) (log entry 70, DESIGN CHOICE). -/
def confirmed (confirm : List Byte) (f : State → State) (s : State) : State :=
  if confirm = uid s then f s else say "ERR INVALID_PARAM" [] s

/-- PROVISION (R511, R532): the hash goes into a slot that is all zero; in BLANK the device becomes PROVISIONED. -/
def provision (slot : Nat) (hash : List Byte) (s : State) : State :=
  if hash.length ≠ 32 then say "ERR INVALID_PARAM" [] s
  else if otpProgrammed s.sec.otp 1 slot then say "ERR STATE" [] s
  else say "OK" [] (when_ (lifecycle s = 0) (otpBurn 0x101 [1]) (otpBurn (0x80 + 32 * slot) hash s))

def execProvision (slot : Fin 4) (hash confirm : List Byte) (s : State) : Host.Outcome State Fault Refusal :=
  done (monitor 2 (confirmed confirm (provision slot.val hash))) s

/-- REVOKE (R510, R532): not the last unrevoked programmed owner slot, nor, in PRODUCTION, the slot of the unlocking key. -/
def revoke (slot : Nat) (s : State) : State :=
  if liveSlots s 1 = [slot] ∨ (lifecycle s = 2 ∧ s.sec.unlockSlot = slot) then say "ERR STATE" [] s
  else say "OK" [] (otpBurn 0x100 (leBytes 1 (2 ^ (4 + slot))) s)

def execRevoke (slot : Fin 4) (confirm : List Byte) (s : State) : Host.Outcome State Fault Refusal :=
  done (monitor 2 (confirmed confirm (revoke slot.val))) s

/-- LIFECYCLE PRODUCTION (R511, R532): from PROVISIONED, with at least one unrevoked owner slot; the monitor is then locked. -/
def toProduction (s : State) : State :=
  if lifecycle s ≠ 1 ∨ liveSlots s 1 = [] then say "ERR LIFECYCLE" [] s
  else
    let s1 := otpBurn 0x101 [3] s
    say "OK" [] { s1 with sec := { s1.sec with level := 0 } }

def execLifecycleProduction (confirm : List Byte) (s : State) : Host.Outcome State Fault Refusal :=
  done (monitor 0 (confirmed confirm toProduction)) s

/-- LIFECYCLE RETURN (R511, R532): from PROVISIONED or PRODUCTION. -/
def toReturned (s : State) : State :=
  if lifecycle s ≠ 1 ∧ lifecycle s ≠ 2 then say "ERR LIFECYCLE" [] s else say "OK" [] (otpBurn 0x101 [7] s)

def execLifecycleReturn (confirm : List Byte) (s : State) : Host.Outcome State Fault Refusal :=
  done (monitor 2 (confirmed confirm toReturned)) s

/-- RESET WARM (R532): as RESET with FORCE (R506). -/
def catwalkReset (s : State) : State := say "OK" [] { s with gh := { s.gh with warmAt := resetDue 2 s } }

def execCatwalkResetWarm (s : State) : Host.Outcome State Fault Refusal := done (monitor 2 catwalkReset) s

end Sys2Proof.Machine
end

