-- ==== Sys2Proof/Machine/Encoder.lean ====
section
/-! DEFINITION. Sys2Proof/Machine/Encoder.lean: what an encoder edge does to a position unit, its slots and its line
triggers (R325 to R345), and the position-unit and line-trigger commands (R346, R347, R567).
-/

namespace Sys2Proof.Machine

/-! ## Line triggers (R339 to R341) -/

/-- Armed generators on a unit, bit p for CPORTp (R348). -/
def ltArmed (s : State) (u : Nat) : Nat :=
  (List.range 4).foldl (fun a p => a + b2n ((getGen s p).armed && (getGen s p).pu == u) * 2 ^ p) 0

/-- LINE_OVERSPEED (R341): flag and counter at every such trigger, the event once per crossing, with the update's stamp (R338)
(log entries 62, DEDUCED; 91, DEDUCED). -/
def overspeed (u p stamp : Nat) (s : State) : State :=
  let x := getPu s u
  let c := s.seq.crossing.toNat
  let s1 := setPu s u { x with overspeed := true, ctrs := modAt x.ctrs 3 ctrBump, overspeedIn := some c }
  if x.overspeedIn = some c then s1 else postAt stamp 0x2402 u 0 p (c % 2 ^ 32) s1

/-- A line trigger of port `p` (R277, R339): sent by the port's path, and pushed into its trigger FIFO. -/
def lineTrigger (u p stamp : Nat) (s : State) : State :=
  let x := getPu s u
  let c := (getCam s p).cfg
  let fast := match (getGen s p).lastTrig with
    | some t => decide ((stamp - t) * camMaxHz c < 10 ^ 9)
    | none => false
  let s1 := if fast then overspeed u p stamp s else s
  let s2 := setGen s1 p { getGen s1 p with lastTrig := some stamp, residue := 0 }
  let s3 := if camTrig c = 0 then emit (.camera p []) s2 else lineTrigPulse p stamp s2
  pushTrigger p ⟨x.count, x.cumCorr, stamp⟩ s3

/-- One generator after an advance of the high mark, or after a reference with REF_SYNC (R339). -/
def genStep (u p advance stamp : Nat) (ref : Bool) (s : State) : State :=
  let g := getGen s p
  if !g.armed || g.pu != u then s
  else
    let r := (if ref && g.refSync then 0 else g.residue) + advance
    let s1 := setGen s p { g with residue := r }
    if g.div ≤ r then lineTrigger u p stamp s1 else s1

/-! ## Compare list (R338) -/

/-- Slots of a unit in ascending index that have reached a target and are in a state to act on it. -/
def dueSlots (s : State) (u : Nat) (want : Slot → Bool) : List Nat :=
  (s.slots.tab.filter (fun e => e.2.pu == u && want e.2)).map (fun e => e.1)

/-- A freeze is due at count `c`. -/
def freezeDue (c : BitVec 40) (t : Slot) : Bool := (t.st == .open_ || t.st == .decided) && reached c t.freezePos

/-- A firing is due at count `c`. -/
def fireDue (c : BitVec 40) (t : Slot) : Bool := t.st == .frozen && reached c t.ejectPos

/-- A pulse in counts of unit `u` ends (R58): its target is reached, or the line reverses or stops. -/
def countPulseDue (u : Nat) (c : BitVec 40) (left : Bool) (x : Pulse) : Bool :=
  match x.stop with
  | .counts v t => v == u && (left || reached c t)
  | .time _ => false

/-- Compare evaluation of one update (R338): pulse ends, freezes, firings. In replay mode freezes and firings come from
the record (R267). -/
def compare (u : Nat) (left : Bool) (stamp : Nat) (s : State) : State :=
  let c := (getPu s u).count
  let s1 := endPulses (countPulseDue u c left) s
  if s.replay.mode || halted s then s1
  else
    let s2 := (dueSlots s1 u (freezeDue c)).foldl (fun s i => freezeFirst i stamp s) s1
    (dueSlots s2 u (fireDue c)).foldl (fun s i => fireSlot i stamp false s) s2

/-- A load moves every target of the unit (R51, R336): slots, count pulses, and the releases of R68
(log entry 62, DEDUCED). -/
def shiftTargets (u : Nat) (c : BitVec 40) (s : State) : State :=
  let s1 := shiftSlots u c s
  let s2 := { s1 with pulses := s1.pulses.map (fun x => match x.stop with
    | .counts v t => if v = u then { x with stop := .counts v (t + c) } else x
    | .time _ => x) }
  (List.range 4).foldl (fun s p =>
    let r := getRamp s p
    if vpPu (getPolicy s p).raw = u then
      setRamp s p { r with noSlotRel := r.noSlotRel.map (fun x => x + c), objFullRel := r.objFullRel.map (fun x => x + c) }
    else s) s2

/-- TRACK_LOST ends once the high mark has passed the release position (R68). -/
def trackRelease (u : Nat) (s : State) : State :=
  let h := (getPu s u).high
  (List.range 4).foldl (fun s p =>
    let r := getRamp s p
    if vpPu (getPolicy s p).raw != u then s
    else
      let a := (r.noSlotRel.map (fun x => reached h x)).getD false
      let b := (r.objFullRel.map (fun x => reached h x)).getD false
      if a || b then
        setRamp (sawLevels s) p { r with
          noSlot := r.noSlot && !a, noSlotRel := if a then none else r.noSlotRel,
          objFull := r.objFull && !b, objFullRel := if b then none else r.objFullRel }
      else s) s

/-- The steps of one counter update (R337) for a counted edge of direction `d` (log entry 55, DESIGN CHOICE). -/
def counterUpdate (u : Nat) (x : Pu) (d : Int) (riseA : Bool) (stamp : Nat) (s : State) : State :=
  let r := puUpdate (holdLatch stamp x) d riseA stamp
  let s1 := setPu s u r.1.pu
  let s2 := if r.1.corr = 0 then s1 else shiftTargets u r.1.corr s1
  let s3 := (List.range 4).foldl (fun s p => genStep u p r.1.advance stamp r.1.ref s) s2
  let s4 := trackRelease u (compare u r.1.leftMotion stamp s3)
  let s5 := setPu s4 u (obsEdge (getPu s4 u) stamp r.2)
  recPut 4 stamp (leBytes 1 u ++ zeros 3 ++ leBytes 4 1 ++ leBytes 8 (getPu s5 u).count.toNat ++
    leBytes 4 (b2n (decide (d < 0)) * 2 ^ 31 + b2n r.1.ref * 2 ^ 30)) s5

/-! ## Transitions of the filtered inputs (R325 to R330) -/

/-- One transition of the filtered levels to (a, b) at `stamp`: a counted edge is a counter update. -/
def transition (u : Nat) (a b : Bool) (stamp : Nat) (s : State) : State :=
  let x := getPu s u
  let d := decodeDir x.cfg x.a x.b a b
  let y := { x with a := a, b := b }
  if d = 0 then setPu s u y else counterUpdate u y d (!x.a && a) stamp s

/-- An illegal transition (R330): the new levels become the reference and nothing is counted. -/
def illegal (u : Nat) (a b : Bool) (s : State) : State :=
  let x := getPu s u
  setPu s u { x with a := a, b := b, illegal := true, ctrs := modAt x.ctrs 0 ctrBump }

/-- The keystone count of the update of the sample `k` samples of 2.5 ns before the one stamped `stamp` (R325). -/
def earlier (stamp k : Nat) : Nat := 5 * ((2 * stamp + 4) / 5 - k) / 2

/-- A rising edge of filtered Z while A and B stand at (a, b) makes a reference pending, qualified where REF_SRC asks
(R333). -/
def zPend (u : Nat) (a b : Bool) (s : State) : State :=
  let x := getPu s u
  if x.wireBad.getLsbD 0 then s
  else
    match puRefSrc x.cfg with
    | 1 => setPu s u { x with refPending := true }
    | 2 => if a && b then setPu s u { x with refPending := true } else s
    | _ => s

/-- ENCODER_TRANSITION: the filtered levels change together or one by one (R329, R330); a level that FILT consecutive samples
did not show is never seen (R326); a held input keeps its level (R328); Z rising in the same sample comes before the update
(R333); in replay mode the inputs are ignored (R267). -/
def encoderTransition (u : Nat) (e : EncChange) (s0 : State) : State :=
  if s0.replay.mode || decide (e.held.toNat < puFilt (getPu s0 u).cfg) then s0
  else
    let s := if e.z then zPend u e.a e.b s0 else s0
    let x := getPu s u
    let a := if x.wireBad.getLsbD 2 then x.a else e.a
    let b := if x.wireBad.getLsbD 1 then x.b else e.b
    let stamp := now s + e.offset.val
    if a != x.a && b != x.b then
      if e.apart.toNat ≤ puFilt x.cfg then illegal u a b s
      else
        let t := earlier stamp e.apart.toNat
        transition u a b stamp (if e.aFirst then transition u a x.b t s else transition u x.a b t s)
    else if a != x.a || b != x.b then transition u a b stamp s
    else s

def execEncoderTransition (p : Fin 4) (change : EncChange) (s : State) : Host.Outcome State Fault Refusal :=
  done (encoderTransition p change) s

/-- Z_EDGE (R333): a rising edge of filtered Z between transitions. -/
def zEdge (u : Nat) (s : State) : State := if s.replay.mode then s else zPend u (getPu s u).a (getPu s u).b s

def execZEdge (p : Fin 4) (s : State) : Host.Outcome State Fault Refusal := done (zEdge p) s

/-- OBSERVER_TICK (R344) (log entry 85, DESIGN CHOICE). -/
def observerTick (u : Nat) (s : State) : State := setPu s u (obsTick (getPu s u) (now s))

def execObserverTick (p : Fin 4) (s : State) : Host.Outcome State Fault Refusal := done (observerTick p) s

/-- MOTION_STOP (R58, R332, R334, R345): no edge for STOP_US (log entry 87, DEDUCED). -/
def motionStop (u : Nat) (s : State) : State :=
  let x := getPu s u
  if x.motion != .stopped && decide (x.lastEdge + 1000 * puStopUs x.cfg ≤ now s) then
    endPulses (countPulseDue u x.count true)
      (setPu s u { x with motion := .stopped, period := none, obsV := 0, obsA := 0 })
  else s

def execMotionStop (p : Fin 4) (s : State) : Host.Outcome State Fault Refusal := done (motionStop p) s

/-- The WIRE_FAULT bit of an input (R348). -/
def wireBit (i : EncInput) : BitVec 3 :=
  match i with
  | .a => 4
  | .b => 2
  | .z => 1

/-- ENC_WIRE_FAULT (R328): an input below the threshold for 1 µs is held; a healthy one is followed again. -/
def encWireFault (u : Nat) (i : EncInput) (good : Bool) (s : State) : State :=
  let x := getPu s u
  let b := wireBit i
  if good then setPu s u { x with wireBad := x.wireBad &&& ~~~b }
  else if x.wireBad &&& b = 0 then
    let w := x.wireFault ||| b
    post 0x2401 u 0 w.toNat 0 (setPu s u { x with wireBad := x.wireBad ||| b, wireFault := w, ctrs := modAt x.ctrs 2 ctrBump })
  else s

def execEncWireFault (p : Fin 4) (input : EncInput) (good : Bool) (s : State) : Host.Outcome State Fault Refusal :=
  done (encWireFault p input good) s

/-! ## PU_CONFIG (R327, R334, R346) -/

/-- Whether some armed generator names the unit. -/
def puArmed (s : State) (u : Nat) : Bool := ltArmed s u != 0

/-- Range checks of a PU_CONFIG structure; offsets count from the request's start. -/
def puRanges (c : List Byte) : List (Bool × Nat) :=
  [(puRefSrc c != 3 || puMode c == 0 || puMode c == 3, 8),
   (decide (1 ≤ puFilt c) && !(puFilt c == 15 && puMode c == 2), 9), (puResetMode c != 3, 10),
   (decide (0x14 ≤ puGapG c ∧ puGapG c ≤ 0x40), 11), (decide (1 ≤ puHoldoff c), 12),
   (decide (-(2 ^ 39) ≤ puRefValue c ∧ puRefValue c < 2 ^ 39), 16), (decide (1 ≤ puStopUs c ∧ puStopUs c ≤ 1000000), 24)]

def specPuConfig : Spec :=
  { plain 0x0501 0x0100 56 0 with
    rsv := fun _ => selRsv ++ [(8, 1, 0xE0), (9, 1, 0xF0), (10, 1, 0xFC), (13, 1, 0xFE), rsvAll 30 2, rsvAll 40 16],
    ranges := fun _ p => (selRange 4 p).or (rangesOf (puRanges (p.drop 8))),
    objs := fun p => [.pu (fld1 p 0)] }

/-- A change of MODE, FILT, RESET or REF_VALUE. -/
def puKeyChange (a b : List Byte) : Bool := a.take 3 != b.take 3 || slice a 8 8 != slice b 8 8

/-- PU_CONFIG (R346); a new MODE unseeds the gap period (R334). -/
def bodyPuConfig (s : State) (p : List Byte) : State × Option Reply :=
  let u := fld1 p 0
  let x := getPu s u
  let c := p.drop 8
  if puKeyChange x.cfg c && !(unitSlots s u).isEmpty then no s (refuse stBusySlots)
  else if puKeyChange x.cfg c && puArmed s u then no s (refuse stBusyRunning)
  else
    yes (recConfig 0 0x0501 p (setPu s u { x with
      cfg := c, period := if fld1 x.cfg 0 = fld1 c 0 then x.period else none })) []

def execPuConfig (m : Fin 16) (s : State) : Host.Outcome State Fault Refusal := done (command m specPuConfig bodyPuConfig) s

/-! ## PU_REF_ARM, PU_LATCH, PU_READ, PU_CLEAR -/

/-- PU_REF_ARM (R334, R335). -/
def bodyPuRefArm (s : State) (p : List Byte) : State × Option Reply :=
  let u := fld1 p 0
  yes (recConfig 0 0x0502 p (setPu s u { getPu s u with armed := true, period := none })) []

def execPuRefArm (m : Fin 16) (s : State) : Host.Outcome State Fault Refusal :=
  done (command m (specSel 0x0502 4 0 (fun u => [.pu u])) bodyPuRefArm) s

/-- PU_LATCH (R342, R343). -/
def bodyPuLatch (s : State) (p : List Byte) : State × Option Reply :=
  let u := fld1 p 0
  let r := puLatchNow (getPu s u) (now s)
  yes (recConfig 0 0x0503 p (setPu s u { getPu s u with cmdLatch := r })) r

def execPuLatch (m : Fin 16) (s : State) : Host.Outcome State Fault Refusal :=
  done (command m (specSel 0x0503 4 32 (fun u => [.pu u])) bodyPuLatch) s

/-- The response of PU_READ (R348, R501). -/
def puBytes (s : State) (u : Nat) : List Byte :=
  let x := getPu s u
  leBytes 4 (puStatus x (ltArmed s u)) ++ zeros 4 ++ leBytes 8 x.count.toNat ++ leBytes 4 x.rev.toNat ++ zeros 4 ++
    leBytes 8 x.cumCorr.toNat ++ leBytes 8 x.high.toNat ++ leBytes 8 x.obsP.toNat ++ leBytes 8 x.obsV.toNat ++
    leBytes 8 x.obsA.toNat ++ leBytes 2 (unitSlots s u).length ++ zeros 6 ++ x.cmdLatch ++ x.fioLatch ++ x.refLatch ++
    ctrsBytes x.ctrs

/-- PU_READ (R348, R349): the counters clear as they are read. -/
def bodyPuRead (s : State) (p : List Byte) : State × Option Reply :=
  let u := fld1 p 0
  yes (setPu s u { getPu s u with ctrs := List.replicate 4 Ctr0 }) (puBytes s u)

def execPuRead (m : Fin 16) (s : State) : Host.Outcome State Fault Refusal :=
  done (command m (specSel 0x0504 4 184 (fun u => [.pu u])) bodyPuRead) s

def specPuClear : Spec :=
  { plain 0x0507 0x0100 16 0 with
    rsv := fun _ => selRsv ++ [rsvAll 12 4],
    ranges := fun _ p => (selRange 4 p).or (rangesOf [(fld p 8 4 &&& (0xFFFFFFFF - 0x79C00000) == 0, 8)]),
    objs := fun p => [.pu (fld1 p 0)] }

/-- PU_CLEAR (R328, R567). -/
def bodyPuClear (s : State) (p : List Byte) : State × Option Reply :=
  let u := fld1 p 0
  let k := fld p 8 4
  let x := getPu s u
  let w := BitVec.ofNat 3 (bitsOf k 24 22)
  yes (recConfig 0 0x0507 p (setPu s u { x with
    refSeen := x.refSeen && !bitOf k 30, illegal := x.illegal && !bitOf k 29, wrap := x.wrap && !bitOf k 28,
    overspeed := x.overspeed && !bitOf k 27, wireFault := x.wireFault &&& ~~~(w &&& ~~~x.wireBad) })) []

def execPuClear (m : Fin 16) (s : State) : Host.Outcome State Fault Refusal := done (command m specPuClear bodyPuClear) s

/-! ## LT_CONFIG and LT_ARM (R339, R340, R347) -/

def specLtConfig : Spec :=
  { plain 0x0505 0x0100 16 0 with
    rsv := fun _ => [(0, 1, 0xFC), (1, 1, 0xFC), (4, 1, 0xFE), rsvAll 5 11],
    ranges := fun s p => rangesOf
      [((getRamp s (fld1 p 0)).cfg.isNone || vpPu (getPolicy s (fld1 p 0)).raw == fld1 p 1, 1), (decide (1 ≤ fld p 2 2), 2)],
    objs := fun p => [.port (fld1 p 0), .pu (fld1 p 1)] }

/-- LT_CONFIG (R347). -/
def bodyLtConfig (s : State) (p : List Byte) : State × Option Reply :=
  let i := fld1 p 0
  let g := getGen s i
  if g.armed then no s (refuse stBusyRunning)
  else yes (recConfig i 0x0505 p (setGen s i { g with pu := fld1 p 1, div := fld p 2 2, refSync := bitOf (fld1 p 4) 0 })) []

def execLtConfig (m : Fin 16) (s : State) : Host.Outcome State Fault Refusal := done (command m specLtConfig bodyLtConfig) s

def specLtArm : Spec :=
  { plain 0x0506 0x0100 8 0 with
    rsv := fun _ => [rsvAll 2 6],
    ranges := fun _ p => rangesOf [(decide (fld1 p 0 < 4), 0), (decide (fld1 p 1 ≤ 1), 1)],
    objs := fun p => [.port (fld1 p 0)] }

/-- The port has a LINE_TRIG pin (R373). -/
def hasTrigPin (s : State) (p : Nat) : Bool := (List.range 16).any (fun n => (getTrig s n).func == 3 && (getTrig s n).cport == p)

/-- LT_ARM (R339, R347). -/
def bodyLtArm (s : State) (p : List Byte) : State × Option Reply :=
  let i := fld1 p 0
  let on := fld1 p 1 == 1
  let c := getCam s i
  if on && (!c.configured || (camTrig c.cfg == 1 && !hasTrigPin s i)) then no s (refuse stState)
  else yes (recConfig i 0x0506 p (setGen s i { getGen s i with armed := on, residue := 0 })) []

def execLtArm (m : Fin 16) (s : State) : Host.Outcome State Fault Refusal := done (command m specLtArm bodyLtArm) s

end Sys2Proof.Machine
end

