-- ==== Sys2Proof/Machine/Replay.lean ====
section
/-! DEFINITION. Sys2Proof/Machine/Replay.lean: replay of a Yelard stream (R259 to R269): reading the stream, the checks of
REPLAY_OPEN, and what each record does when it is fed.
-/

namespace Sys2Proof.Machine

/-! ## Reading a stream (R259, R260, R263) -/

/-- A record as read. -/
structure Rec where
  typ : Nat
  stamp : Nat
  len : Nat
  data : List Byte
  deriving DecidableEq, Repr

/-- Where a stream lies. -/
structure Stream where
  host : Bool
  base : Nat
  segs : Nat
  deriving DecidableEq, Repr

/-- The bytes of segment place `i`. -/
def segRaw (s : State) (x : Stream) (i : Nat) : List Byte :=
  let a := x.base + segBytesLen * i
  if x.host then memRead s.mem.hostMem a segBytesLen else tollRead s a segBytesLen

/-- A segment with its MAGIC, VERSION and CRC (R259). -/
def segValid (b : List Byte) : Bool :=
  decide (fld b 0 4 = 0x44524C59 ∧ fld b 4 2 = 1 ∧ crc32 (b.take 28 ++ zeros 4 ++ b.drop 32) = fld b 28 4)

/-- The place of the valid segment with a SEG_SEQ. -/
def segFind (s : State) (x : Stream) (n : Nat) : Option Nat :=
  (List.range x.segs).find? (fun i => let b := segRaw s x i
                                      segValid b && fld b 8 8 == n)

/-- The record at the start of some bytes; none where no header fits. -/
def recHead (b : List Byte) : Option Rec :=
  let n := fld b 4 4
  if b.length < 16 ∨ n < 16 ∨ n % 8 ≠ 0 then none else some ⟨fld b 0 2, fld b 8 8, n, slice b 16 (n - 16)⟩

/-- The records of a run of bytes. -/
def recsIn : Nat → List Byte → List Rec
  | 0, _ => []
  | n + 1, b =>
    match recHead b with
    | some r => r :: recsIn n (b.drop r.len)
    | none => []

/-- The records of a segment. -/
def segRecs (b : List Byte) : List Rec := recsIn 16384 (slice b 32 (fld b 24 4))

/-- The records of the segments from SEG_SEQ `n` on, as far as they follow without a break. -/
def streamFrom (s : State) (x : Stream) : Nat → Nat → List Rec
  | 0, _ => []
  | k + 1, n =>
    match segFind s x n with
    | some i => segRecs (segRaw s x i) ++ streamFrom s x k (n + 1)
    | none => []

/-- The lowest SEG_SEQ from which segments follow without a break up to `n`. -/
def oldestSeg (s : State) (x : Stream) : Nat → Nat → Nat
  | 0, n => n
  | k + 1, n => if n = 0 then 0 else if (segFind s x (n - 1)).isSome then oldestSeg s x k (n - 1) else n

/-- Samples of one plane as R263 codes them: a bit string, least significant bit first. -/
def bitsLsb (b : List Byte) : List Bool := b.flatMap (fun x => (List.range 8).map (fun i => x.getLsbD i))

/-- Value of the first `k` bits, least significant first, and the rest. -/
def takeBits (k : Nat) (bs : List Bool) : Nat × List Bool :=
  ((bs.take k).zipIdx.foldl (fun a e => a + b2n e.1 * 2 ^ e.2) 0, bs.drop k)

/-- The unary prefix of a code, at most 16 ones. -/
def takeUnary : Nat → List Bool → Nat × List Bool
  | 0, bs => (0, bs)
  | n + 1, bs =>
    match bs with
    | true :: t => let r := takeUnary n t
                   (r.1 + 1, r.2)
    | _ :: t => (0, t)
    | [] => (0, [])

/-- One sample of a compressed plane (R263). -/
def takeSample (w k prev : Nat) (bs : List Bool) : Nat × List Bool :=
  let q := takeUnary 16 bs
  let z := if q.1 = 16 then takeBits w q.2 else
    let r := takeBits k q.2
    (q.1 * 2 ^ k + r.1, r.2)
  let d : Int := if z.1 % 2 = 0 then (z.1 / 2 : Nat) else -(((z.1 + 1) / 2 : Nat) : Int)
  (ux w ((prev : Int) + d), z.2)

/-- A compressed plane (R263): blocks of 32 samples, each with its own k. -/
def takePlane (w : Nat) : Nat → Nat → Nat → Nat → List Bool → List Nat × List Bool
  | 0, _, _, _, bs => ([], bs)
  | n + 1, i, k, prev, bs =>
    let kb := if i % 32 = 0 then takeBits 4 bs else (k, bs)
    let x := takeSample w kb.1 prev kb.2
    let r := takePlane w n (i + 1) kb.1 x.1 x.2
    (x.1 :: r.1, r.2)

/-- The planes of a compressed LINE record, each starting on a byte boundary (R262, R263). -/
def takePlanes (w count : Nat) : Nat → List Byte → List (List Nat)
  | 0, _ => []
  | n + 1, b =>
    let bs := bitsLsb b
    let r := takePlane w count 0 0 0 bs
    r.1 :: takePlanes w count n (b.drop (cdiv (bs.length - r.2.length) 8))

/-- The planes of an uncompressed LINE record. -/
def rawPlanes (wide : Bool) (count planes : Nat) (b : List Byte) : List (List Nat) :=
  let n := if wide then 2 else 1
  (List.range planes).map (fun k => (List.range count).map (fun i => fld b (n * (count * k + i)) n))

/-! ## REPLAY_OPEN (R266, R269) -/

/-- The CHECKPOINT records of the first checkpoint in some records, if it is whole and its hash holds (R266): its items. -/
def checkpointItems (rs : List Rec) : Option (List (List Byte)) :=
  match rs.dropWhile (fun r => !(r.typ == 0xD && fld1 r.data 0 == 0)) with
  | [] => none
  | _ :: t =>
    let ds := t.takeWhile (fun r => r.typ == 0xD && fld1 r.data 0 == 1)
    match t.drop ds.length with
    | e :: _ =>
      if e.typ = 0xD ∧ fld1 e.data 0 = 2 ∧ slice e.data 16 32 = sha256 (ds.flatMap (fun r => r.data.drop 16)) then
        some ((List.range 7).map (fun k => (ds.filter (fun r => fld1 r.data 1 == k)).flatMap (fun r => r.data.drop 16)))
      else none
    | [] => none

/-- Byte offset, among the records of a segment, of the begin record of its first checkpoint. -/
def originOff : List Rec → Option Nat
  | [] => none
  | r :: t => if r.typ = 0xD ∧ fld1 r.data 0 = 0 then some 0 else (originOff t).map (fun o => o + r.len)

/-- The committed image with a measurement. -/
def imageOf (s : State) (meas : List Byte) : Option Nat := (committedImages s).find? (fun i => padTo 32 (getImg s i).meas == meas)

/-- Measurements of a LOT record's entries (R264). -/
def lotMeas (d : List Byte) : List (List Byte) := (List.range (fld1 d 64)).map (fun i => slice d (144 + 48 * i) 32)

/-- Whether some record of the stream's valid segments satisfies `f`. -/
def anyRec (s : State) (x : Stream) (f : Rec → Bool) : Bool :=
  (List.range x.segs).any (fun i => let b := segRaw s x i
                                    segValid b && (segRecs b).any f)

/-- The stream contains a reserved TYPE (R261, R269). -/
def anyReserved (s : State) (x : Stream) : Bool := anyRec s x (fun r => decide (0x10 < r.typ))

/-- A LOT record names another OPC_REV, or an image that is not committed here (R269). -/
def anyForeign (s : State) (x : Stream) : Bool :=
  anyRec s x (fun r => r.typ == 1 && (fld r.data 14 2 != 2 || (lotMeas r.data).any (fun m => (imageOf s m).isNone)))

/-- The images in the entry order of the latest LOT record of some records; the committed ones, ascending, where an
overwritten ring holds none any more (log entry 57, DEDUCED). -/
def lotImages (s : State) (rs : List Rec) : List Nat :=
  match (rs.filter (fun r => r.typ == 1)).getLast? with
  | some r => (lotMeas r.data).map (fun m => (imageOf s m).getD 16)
  | none => committedImages s

/-- COMMITS_BEFORE of the FREEZE record of a handle, where the records hold one. -/
def freezeIn (rs : List Rec) (i g : Nat) : Option Nat :=
  (rs.find? (fun r => r.typ == 8 && fld r.data 0 2 == i && fld r.data 2 2 == g)).map (fun r => fld1 r.data 4)

/-- Every open slot learns how many commits its recorded freeze follows (R267). -/
def noteFreezes (rs : List Rec) (s : State) : State :=
  { s with slots := { s.slots with tab := s.slots.tab.map (fun e => (e.1, { e.2 with freezeAfter := freezeIn rs e.1 e.2.gen.toNat })) } }

def specReplayOpen : Spec :=
  { plain 0x0B07 0x0102 40 0 with
    rsv := fun _ => [(0, 1, 0xFE), rsvAll 1 7, rsvAll 22 2],
    objs := fun p => [.sequencer, .queue (fld p 20 2)] }

/-- REPLAY_OPEN (R265 to R269): its checks in order, then the state of the checkpoint. -/
def bodyReplayOpen (m : Nat) (s : State) (p : List Byte) : State × Option Reply :=
  let ans (r : Reply) (s : State) : State × Option Reply := hold m 0x0B07 p [.sequencer, .queue (fld p 20 2)] false (some r) s
  let x : Stream := ⟨bitOf (fld1 p 0) 0, fld p 8 8, fld p 16 4⟩
  let q := getQ s (fld p 20 2)
  let seg := fld p 24 8
  if s.seq.started || s.rec_.running || s.replay.mode then no s (refuse stState)
  else if !(q.st == .active && q.content == 0) then no s (refuse stNotFound)
  else if anyReserved s x then ans (badParam 8) s
  else if anyForeign s x then ans (refuse stSignature) s
  else
    match segFind s x seg with
    | none => ans (badParam 24) s
    | some i =>
      let recs := segRecs (segRaw s x i)
      match originOff recs, checkpointItems (streamFrom s x x.segs seg) with
      | some o, some items =>
        let old := oldestSeg s x x.segs seg
        let before := (streamFrom s x (seg - old) old) ++ recsIn 16384 ((slice (segRaw s x i) 32 (fld (segRaw s x i) 24 4)).take o)
        let imgs := lotImages s before
        let r : Replay := { Replay0 with
          mode := true, host := x.host, base := x.base, segs := x.segs, seg := (segFind s x old).getD i, segSeq := old, off := 0,
          origin := (seg, o), stopCrossing := BitVec.ofNat 64 (fld p 32 8), queue := fld p 20 2, imgs := imgs, pre := true }
        ans (okWith []) (noteFreezes (streamFrom s x x.segs seg) (restoreItems imgs items { s with replay := r }))
      | _, _ => ans (badParam 24) s

def execReplayOpen (m : Fin 16) (s : State) : Host.Outcome State Fault Refusal :=
  done (command m specReplayOpen (bodyReplayOpen m)) s

/-! ## REPLAY_RUN, REPLAY_STOP and the end (R267, R269) -/

/-- The stream being replayed. -/
def replayStream (s : State) : Stream := ⟨s.replay.host, s.replay.base, s.replay.segs⟩

/-- CROSSING_NO of a BOUNDARY record at which no crossing started (log entry 113, DESIGN CHOICE). -/
def noCrossing : Nat := 2 ^ 64 - 1

/-- The records of the stream behind the one at the present place, of length `len`. -/
def recsAhead (len : Nat) (s : State) : List Rec :=
  let x := replayStream s
  let b := segRaw s x s.replay.seg
  recsIn 16384 ((slice b 32 (fld b 24 4)).drop (s.replay.off + len)) ++ streamFrom s x x.segs (s.replay.segSeq + 1)

/-- The first BOUNDARY record after the origin at which a crossing started. -/
def firstBoundary (s : State) : Option Rec :=
  let x := replayStream s
  match segFind s x s.replay.origin.1 with
  | none => none
  | some i =>
    let b := segRaw s x i
    let here := recsIn 16384 ((slice b 32 (fld b 24 4)).drop s.replay.origin.2)
    (here ++ streamFrom s x x.segs (s.replay.origin.1 + 1)).find? (fun r => r.typ == 6 && fld r.data 0 8 != noCrossing)

/-- REPLAY_RUN (R267): the sequencer stands ready under the image and rating of the first boundary, with the halo and the
ramps as the origin left them (R265, R324) (log entry 57, DEDUCED). -/
def bodyReplayRun (s : State) (_ : List Byte) : State × Option Reply :=
  if !s.replay.mode || s.replay.running then no s (refuse stState)
  else
    match firstBoundary s with
    | none => yes { s with replay := { s.replay with running := true } } []
    | some r =>
      let i := s.replay.imgs.getD (fld1 r.data 8) 0
      let s1 := startSeq i (now s) s
      let s2 := { s1 with
        seq := { s1.seq with due := false, halo := s.seq.halo, haloBand := s.seq.haloBand, rated := true, rating := fld1 r.data 9, newRating := true,
                             crossing := BitVec.ofNat 64 (fld r.data 0 8) - 1, flags := [] },
        cams := (List.range 4).foldl (fun t p => Tab.upd Cam0 t p (fun c =>
          let n := s.replay.first.getD p 0
          { c with rawNo := n, outNo := n / max 1 (apExp c.ap), group := [] })) s1.cams,
        ramps := s.ramps,
        replay := { s.replay with running := true } }
      yes s2 []

def execReplayRun (m : Fin 16) (s : State) : Host.Outcome State Fault Refusal :=
  done (command m { plain 0x0B08 0x0102 0 0 with objs := fun _ => [.sequencer] } bodyReplayRun) s

/-- Replay ends (R267, R269): records of fired slots are posted, slots still open post none, and the device leaves replay
mode (log entry 57, DEDUCED). -/
def replayEnd (reason : Nat) (s : State) : State :=
  let s1 := times (s.slots.lateRecords.length + s.slots.records.length) (fun a => lateRecordPost (recordPost a)) (sawLevels s)
  let s2 := { s1 with
    slots := { s1.slots with
      tab := s1.slots.tab.foldl (fun t e => Tab.set Slot0 t e.1 { Slot0 with gen := e.2.gen }) [],
      commits := [], records := [], lateRecords := [], cands := [], instant := [] },
    jobs := [], bands := [],
    seq := { s1.seq with started := false, active := false, due := false, launched := false, flags := [], segs := [], bandOf := [] },
    replay := Replay0 }
  post 0x1702 0 0 reason (s.seq.crossing.toNat % 2 ^ 32) s2

/-- REPLAY_STOP (R267). -/
def bodyReplayStop (s : State) (_ : List Byte) : State × Option Reply :=
  if s.replay.mode then yes (replayEnd 1 s) [] else no s (refuse stState)

def execReplayStop (m : Fin 16) (s : State) : Host.Outcome State Fault Refusal :=
  done (command m { plain 0x0B09 0x0102 0 0 with objs := fun _ => [.sequencer] } bodyReplayStop) s

/-! ## Records (R261, R267) -/

/-- One edge of an ENCODER record (R261): direction, reference, and its count. -/
def replayEdge (u : Nat) (back ref : Bool) (stamp : Nat) (s : State) : State :=
  let u1 := countStep (getPu s u) (if back then -1 else 1)
  let r := if ref then takeRef u1 stamp else (u1, 0)
  let u3 := { motionStep r.1 with lastEdge := stamp }
  let s1 := setPu { s with replay := { s.replay with corrs := (if r.2 = 0 then s.replay.corrs
    else (u, stamp, u1.cumCorr) :: s.replay.corrs.take 255) } } u u3
  let s2 := trackRelease u (if r.2 = 0 then s1 else shiftTargets u r.2 s1)
  setPu s2 u (obsEdge (getPu s2 u) stamp (ref && puRefSrc u3.cfg == 3))

/-- An ENCODER record. -/
def replayEncoder (r : Rec) (s : State) : State :=
  let u := fld1 r.data 0 % 4
  ((List.range (fld r.data 4 4)).foldl (fun (a : State × Nat) i =>
    let w := fld r.data (16 + 4 * i) 4
    let t := a.2 + w % 2 ^ 30
    (replayEdge u (bitOf w 31) (bitOf w 30) t a.1, t)) (s, r.stamp)).1

/-- A recorded FIO_CONFIG: the registers take its writes, which also go to the die (R367, R368). -/
def replayFio (p : List Byte) (s : State) : State :=
  let ws := (List.range (entries8 p)).flatMap (fun i => fioWrites (entry8 p i))
  { s with field := { s.field with wq := s.field.wq ++ ws, regs := regsAfter s.field.regs ws } }

/-- A configuration command of the stream, carried out as its own command would; what the gatehouse holds under way is left
as it was (log entry 57, DEDUCED). -/
def replayCmd (op : Nat) (p : List Byte) (s : State) : State :=
  let run (x : State × Option Reply) : State := { x.1 with gh := s.gh }
  match op with
  | 0x0201 => run (bodyCamConfig s p)
  | 0x0301 => run (bodyApConfig s p)
  | 0x0302 =>
    let s1 := run (bodyApTable 0 s p)
    setCam s1 (fld1 p 0) { getCam s1 (fld1 p 0) with shadowNew := true }
  | 0x0401 => run (bodyRmpConfig s p)
  | 0x0501 => run (bodyPuConfig s p)
  | 0x0502 => run (bodyPuRefArm s p)
  | 0x0601 => replayFio p s
  | 0x0602 => run (bodyFioSet s p)
  | 0x0606 => run (bodyTrigConfig s p)
  | 0x0607 => run (bodyTrigSet s p)
  | 0x0507 => run (bodyPuClear s p)
  | 0x0701 =>
    { s with slots := { s.slots with policies := Tab.set (Policy0 (fld1 p 0)) s.slots.policies (fld1 p 0) ⟨false, p.drop 8⟩ } }
  | 0x0703 => { s with slots := { s.slots with seqs := Tab.set 0 s.slots.seqs (fld1 p 0) (BitVec.ofNat 48 (fld p 8 6)) } }
  | _ => s

/-- The configuration changes of a port that govern raw line `no` and have waited for it (R261). -/
def applyCfgs (p no : Nat) (s : State) : State :=
  let due (e : Nat × Nat × Nat × List Byte) : Bool := e.1 == p && decide (e.2.1 ≤ no)
  (s.replay.cfgs.filter due).foldl (fun a e => replayCmd e.2.2.1 e.2.2.2 a)
    { s with replay := { s.replay with cfgs := s.replay.cfgs.filter (fun e => !due e) } }

/-- A CONFIG record (R261): a change of a port's pipeline or ramp waits for the first line it applies to; the other commands
act where they stand in the stream (log entry 57, DEDUCED). -/
def replayConfig (r : Rec) (s : State) : State :=
  let no := fld r.data 0 8
  let p := fld1 r.data 8 % 4
  let op := fld r.data 18 2
  let req := slice r.data 24 (fld r.data 16 2)
  if [0x0301, 0x0302, 0x0401].contains op && no != 2 ^ 64 - 1 && decide ((getCam s p).rawNo < no) then
    { s with replay := { s.replay with cfgs := s.replay.cfgs ++ [(p, no, op, req)] } }
  else replayCmd op req s

/-- The columns of a line that its LINE records have carried so far. -/
def addCols (acc px : List (List Nat)) : List (List Nat) := if acc.isEmpty then px else List.zipWith (· ++ ·) acc px

/-- A FIELD_IN record (R261, R354, R367): the input takes its level, with the latch of a PU_LATCHn edge. -/
def replayField (r : Rec) (s : State) : State :=
  let n := fld1 r.data 0 % 32
  let level := bitOf (fld1 r.data 1) 0
  let s1 := inputChange n level (bitOf (fld1 r.data 2) 0) r.stamp
    { s with field := { s.field with inn := if level then s.field.inn ||| (1#32 <<< n) else s.field.inn &&& ~~~(1#32 <<< n) } }
  s1.field.latchDue.foldl (fun a e => fioLatch e.1 e.2 a) { s1 with field := { s1.field with latchDue := [] } }

/-- The sequencer starts again after a recorded stop: what was configured meanwhile applies, and lines and crossings count
afresh (R215, R217). -/
def replayStart (t : Nat) (s : State) : State :=
  if s.seq.started then s
  else
    let s1 := startSeq s.seq.img t ((List.range 4).foldl (fun a p => applyCfgs p (2 ^ 64) a) s)
    { s1 with seq := { s1.seq with due := false, rated := true, newRating := true } }

/-- CUM_CORR of a unit as it stood at a line's stamp (R278, R336): before the earliest correction made since. -/
def corrAt (s : State) (u stamp : Nat) : BitVec 40 :=
  match (s.replay.corrs.filter (fun e => e.1 == u && decide (stamp < e.2.1))).getLast? with
  | some e => e.2.2
  | none => (getPu s u).cumCorr

/-- A LINE record fed to its port (R262, R263, R267); a line comes whole, or by column ranges. A line triggered before the
launch is not needed. -/
def replayLine (r : Rec) (s : State) : State :=
  let d := r.data
  let p := fld1 d 0 % 4
  let fl := fld1 d 1
  let w := pixWidth (fld1 d 2)
  let n := fld d 22 2
  let body := d.drop 24
  let px := if bitOf fl 1 then []
    else if bitOf fl 3 then takePlanes w n (fld1 d 3) body
    else rawPlanes (decide (8 < w)) n (fld1 d 3) body
  let no := fld d 4 8
  let all := addCols s.replay.cols px
  let c := getCam s p
  if no = 2 ^ 64 - 1 then s
  else if !bitOf fl 1 && decide (fld d 20 2 + n < camRoiX0 c.cfg + camRoiW c.cfg) then
    { s with replay := { s.replay with cols := all } }
  else
    let s0 := applyCfgs p no (replayStart r.stamp { s with replay := { s.replay with cols := [] } })
    let s1 := setCam s0 p { getCam s0 p with rawNo := no + 1 }
    pipeRaw p ⟨bitOf fl 0, bitOf fl 2, bitOf fl 1, all, BitVec.ofNat 40 (fld d 12 5),
      corrAt s1 (vpPu (getPolicy s1 p).raw) r.stamp, r.stamp, some no⟩ s1

/-- Everything that names a slot by its handle follows it to another index and generation; none drops the handle. -/
def moveHandle (old : Nat × Nat) (new : Option (Nat × Nat)) (s : State) : State :=
  let sg (g : Seg) : Option Seg :=
    if (g.slot, g.gen) = old then new.map (fun h => { g with slot := h.1, gen := h.2 }) else some g
  { s with
    bands := s.bands.map (fun b => { b with segs := b.segs.filterMap sg }),
    ramps := s.ramps.map (fun e => (e.1, { e.2 with
      objs := e.2.objs.map (fun o => if o.slot = some old then { o with slot := new } else o),
      crops := e.2.crops.filterMap (fun c =>
        if (c.slot, c.gen) = old then new.map (fun h => { c with slot := h.1, gen := h.2 }) else some c) })) }

/-- A SLOT record (R261, R267): the slot its part opened takes the recorded index and generation, with the COMMITS_BEFORE of
its FREEZE record; it waits while that slot is still in use. A part that found no slot has its own withdrawn, and the event
of R68 is posted (log entry 57, DEDUCED). -/
def replaySlot (r : Rec) (s : State) : Option State :=
  let part := BitVec.ofNat 64 (fld r.data 0 8)
  let i := fld r.data 8 2
  let g := BitVec.ofNat 16 (fld r.data 10 2)
  match s.slots.tab.find? (fun e => e.2.st != .free && e.2.partId == part) with
  | none => some s
  | some e =>
    let s1 := setSlot s e.1 { Slot0 with gen := e.2.gen - 1 }
    let k := freezeIn (recsAhead r.len s) i g.toNat
    if i = 0xFFFF then some (exhausted e.2.cport part (moveHandle (e.1, e.2.gen.toNat) none s1))
    else if e.1 = i ∧ e.2.gen = g then some (setSlot s i { e.2 with freezeAfter := k })
    else if (getSlot s i).st ≠ .free then none
    else some (moveHandle (e.1, e.2.gen.toNat) (some (i, g.toNat)) (setSlot s1 i { e.2 with gen := g, freezeAfter := k }))

/-- A slot named by a record, where it still carries the generation. -/
def recSlot (r : Rec) (s : State) : Option (Nat × Slot) :=
  let i := fld r.data 0 2
  let t := getSlot s i
  if t.st ≠ .free ∧ t.gen.toNat = fld r.data 2 2 then some (i, t) else none

/-- A FREEZE record (R267): it waits until its commits have been applied; behind the last replayed crossing none comes. -/
def replayFreeze (r : Rec) (s : State) : Option State :=
  match recSlot r s with
  | none => some s
  | some x => if x.2.commits < fld1 r.data 4 ∧ !s.replay.draining then none else some (freezeSlot x.1 r.stamp s)

/-- A FIRE record (R267): the recorded count and SUPPRESSED. -/
def replayFire (r : Rec) (s : State) : State :=
  match recSlot r s with
  | some x => fireSlot x.1 r.stamp (bitOf (fld1 r.data 4) 0) s
  | none => s

/-- The second-look job of a handle. -/
def slotJob (s : State) (i g : Nat) : Option Nat :=
  s.jobs.findIdx? (fun j => j.kind == .secondLook && j.slot == i && j.gen.toNat == g)

/-- VIEWS_DONE of the record that withdraws the job of a handle, where the stream holds one (R261, R267). -/
def withdrawnAt (rs : List Rec) (i g : Nat) : Option Nat :=
  (rs.find? (fun r => r.typ == 0xA && fld1 r.data 9 == 3 && fld r.data 12 2 == i && fld r.data 14 2 == g)).map (fun r => fld1 r.data 10)

/-- An ADMIT record (R261, R267): the decision as recorded; it waits for its crossing and bay. A job that the stream withdraws
stops after VIEWS_DONE views (log entry 57, DEDUCED). -/
def replayAdmit (r : Rec) (s : State) : Option State :=
  let d := r.data
  let b := fld1 d 8
  let i := fld d 12 2
  let g := fld d 14 2
  let gs := setList (fld d 16 4)
  let early := decide (s.seq.crossing.toNat < fld d 0 8) || (s.seq.active && (bayRun s b).st == .waiting)
  match fld1 d 9 with
  | 0 =>
    if early then none
    else if i = 0xFFFF then
      some (match s.jobs.findIdx? (fun j => j.kind == .standby && j.st == .waiting && j.id.toNat % 65536 == g) with
        | some j => startStandby b j gs s
        | none => s)
    else if s.slots.cands.any (fun c => c.1 == i && c.2.toNat == g) then
      some (updJob s.jobs.length (fun x => { x with stopAt := withdrawnAt (recsAhead r.len s) i g }) (takeCand b i gs false s))
    else if (getSlot s i).st = .open_ ∧ (getSlot s i).gen.toNat = g then none
    else some s
  | 1 => some (if s.slots.cands.any (fun c => c.1 == i && c.2.toNat == g) then refuseCand b i s
    else match slotJob s i g with
      | some j => refuseJob j s
      | none => s)
  | 3 =>
    match slotJob s i g with
    | some j => if ((s.jobs[j]?).map (fun x => decide (x.view < fld1 d 10))).getD false then none else some (withdrawJob j s)
    | none => some s
  | _ => some s

/-- A LANDING record (R261, R393): the payload lands in its half; the last part sets the flag. -/
def replayLanding (r : Rec) (s : State) : State :=
  let f := fld r.data 2 2
  let h := fld r.data 8 8 % 2
  let bs := r.data.drop 16
  match landingPlace s f with
  | none => s
  | some q =>
    let n := s.replay.part + bs.length
    let s1 := setDeckMem .abut
      (memWrite s.deck.abut (q.addr + h * (q.size / 2) + s.replay.part) (bs.take (q.size / 2 - s.replay.part))) s
    if n < q.size / 2 then { s1 with replay := { s1.replay with part := n } }
    else
      regionsToDeck (halfRegions q h) { s1 with
        replay := { s1.replay with part := 0 },
        seq := { s1.seq with flags := s1.seq.flags ++ [(f, h)] } }

/-- The standby image a JOB record names by MODEL_ID. -/
def modelImage (s : State) (id : Nat) : Option Nat :=
  (List.range 16).find? (fun i => (getImg s i).st == .committed && (getImg s i).img.role == 1 && (getImg s i).img.modelId == id)

/-- A JOB record (R261): the entry and its input, over as many records as they take (log entry 44, DEDUCED). -/
def replayJob (r : Rec) (s : State) : State :=
  let d := r.data.drop 16
  match modelImage s (fld r.data 8 8) with
  | none => s
  | some i =>
    let old := if s.replay.part = 0 then [] else ((s.jobs.getLast?).bind (fun j => j.input.head?)).elim [] (fun e => e.2)
    let all := old ++ d
    let need := 64 + jeInSize all
    let keep := if s.replay.part = 0 then s.jobs else s.jobs.dropLast
    let im := (getImg s i).img
    let e := all.take 64
    let j := { standbyJob e ((all.drop 64).take (jeInSize e)) im with
      img := i, outSize := if tollOk s (jeOut e) (jeOutSize e) && inAlloc s (jeOut e) (jeOutSize e) then jeOutSize e else 0 }
    if all.length < need then
      { s with jobs := keep ++ [{ j with input := [(0xFFFF, all)] }], replay := { s.replay with part := all.length } }
    else { s with jobs := keep ++ [j], replay := { s.replay with part := 0 } }

/-! ### BOUNDARY records -/

/-- Band that a BOUNDARY record takes from a port; none where it took none. -/
def recBand (d : List Byte) (p : Nat) : Option Nat :=
  let n := fld d (16 + 16 * p) 8
  if n = 2 ^ 64 - 1 then none else some n

/-- Band numbers that a BOUNDARY record drops, by port. -/
def recDrops (d : List Byte) : List (List Nat) :=
  let cnt (p : Nat) : Nat := fld1 d (25 + 16 * p)
  (List.range 4).map (fun p =>
    let o := 80 + 8 * ((List.range p).foldl (fun a i => a + cnt i) 0)
    (List.range (cnt p)).map (fun i => fld d (o + 8 * i) 8))

/-- The commands of a BOUNDARY record: opcode and payload. -/
def recCmds : Nat → List Byte → List (Nat × List Byte)
  | 0, _ => []
  | n + 1, b =>
    let len := fld b 0 2
    let c := slice b 8 len
    (fld c 2 2, slice c 8 (fld c 0 2)) :: recCmds n (b.drop (8 + alignUp len 8))

/-- The image that a recorded MODEL_COMMIT committed: the next one that its LOT record names newly, else the one of the same
index (log entry 57, DEDUCED). -/
def replayCommit (k : Nat) (s : State) : State :=
  match s.replay.newImgs with
  | i :: t => commitNow i { s with replay := { s.replay with newImgs := t } }
  | [] => if s.replay.imgs.contains k then commitNow k s else s

/-- A boundary's commands in replay: commits, a lot's epochs and tracks, and track resets. The image, the rating and the
voltage stand in the record itself. -/
def replayBoundaryCmd (s : State) (x : Nat × List Byte) : State :=
  match x.1 with
  | 0x0802 => replayCommit (fld1 x.2 0) s
  | 0x0B05 =>
    let s1 := { s with slots := { s.slots with epochs := [] } }
    if bitOf (fld1 x.2 8) 0 then resetAllTracks s1 else s1
  | 0x1006 => (applyKvReset x.2 s).1
  | _ => s

/-- The bands that a BOUNDARY record takes are complete. -/
def bandsReady (d : List Byte) (s : State) : Bool :=
  (List.range 4).all (fun p =>
    match recBand d p with
    | some n => ((getBand s p n).map (fun b => b.complete)).getD false
    | none => true)

/-- A recorded CROSSING_STOP is in force (R221). -/
def replayStopMode (cmds : List (Nat × List Byte)) (s : State) : State :=
  match cmds.find? (fun c => c.1 == 0x0902) with
  | some c => { s with seq := { s.seq with stop := if fld1 c.2 0 = 1 then .now else .drain } }
  | none => s

/-- The waiting bands dropped, or discarded by a stop, by a BOUNDARY record (R221, R250). -/
def replayDrops (d : List Byte) (s : State) : State :=
  (recDrops d).zipIdx.foldl (fun a x => x.1.foldl (fun a n =>
    match getBand a x.2 n with
    | some b => if a.seq.stop = .now ∨ (a.seq.stop = .drain ∧ b.buffer.isSome) then discardBand b a else freeBand b (dropBand b a)
    | none => a) a) s

/-- The bands of the crossing that starts which the stream's next BOUNDARY record drops: they were dropped in its middle
(R140, R234, R255). They are dropped as it starts, but for the slots whose recorded freeze counts a commit
(log entry 57, DEDUCED). -/
def replayMidDrops (next : Option Rec) (s : State) : State :=
  match next with
  | none => s
  | some r => (recDrops r.data).zipIdx.foldl (fun a x => x.1.foldl (fun a n =>
      match getBand a x.2 n with
      | some b =>
        if !b.taken then a
        else updBand x.2 n (fun y => { y with dropped := true })
          (dropBand { b with segs := b.segs.filter (fun g => (getSlot a g.slot).freezeAfter.all (fun k => k == 0)) } a)
      | none => a) a) s

/-- The bands a BOUNDARY record takes, with their OVERRUN. -/
def replayTake (d : List Byte) (s : State) : State :=
  (List.range 4).foldl (fun a p =>
    match recBand d p with
    | some n => haloFor p n (updBand p n (fun b => { b with taken := true, queued := fld1 d (24 + 16 * p) != 0 }) a)
    | none => a) s

/-- No slot of the replayed span still has to freeze or fire. -/
def replayDone (s : State) : Bool :=
  s.slots.tab.all (fun e => !(e.2.st == .open_ || e.2.st == .decided || e.2.st == .frozen))

/-- The last replayed crossing has ended (R268, R269): no line is fed and no crossing starts any more. Slots that wait for a
later crossing are outside the span; the others freeze and fire as recorded, and replay ends with the last of them
(log entry 57, DEDUCED). -/
def replayDrain (s : State) : State :=
  let out (e : Nat × Slot) : Bool := decide (0 < e.2.pending)
  let s1 := { s with
    slots := { s.slots with
      tab := s.slots.tab.foldl (fun t e => Tab.set Slot0 t e.1 (if out e then { Slot0 with gen := e.2.gen } else e.2)) [],
      cands := [], commits := [] },
    jobs := [], bands := [],
    seq := { s.seq with started := false, active := false, due := false, segs := [], bandOf := [] },
    replay := { s.replay with draining := true } }
  if replayDone s1 then replayEnd 0 s1 else s1

/-- A BOUNDARY record (R219, R267): it waits until the crossing has ended, every commit that is not held for a freeze has
arrived, and its bands are complete. -/
def replayBoundary (r : Rec) (s : State) : Option State :=
  let d := r.data
  let n := fld d 0 8
  if !crossingEnded s || !s.slots.commits.all (commitHeld s) then none
  else if n ≠ noCrossing ∧ s.replay.stopCrossing.toNat < n then some (replayDrain (latchCrossing s))
  else if !bandsReady d s then none
  else
    let cmds := recCmds (fld d 12 2) (d.drop (80 + 8 * ((recDrops d).foldl (fun a l => a + l.length) 0)))
    let s0 := cmds.foldl replayBoundaryCmd (replayDrops d (latchCrossing (replayStopMode cmds s)))
    if n = noCrossing then some (if s0.seq.stop = .none then s0 else finishStop s0)
    else
    let s1 := replayStart r.stamp s0
    let i := s1.replay.imgs.getD (fld1 d 8) 16
    if (getImg s1 i).st ≠ .committed then some (replayEnd 2 s1)
    else
    let s2 := { s1 with seq := { s1.seq with img := i, newRating := s1.seq.newRating || i != s1.seq.img } }
    let s3 := applyPair (mkPair none 0 0 (ratingOf (getImg s2 i).img (fld1 d 9)) (fld d 10 2)) s2
    let s4 := enterCrossing (replayTake d s3)
    let s5 := cleanStart 0 0 (creditPool { s4 with seq := { s4.seq with crossing := BitVec.ofNat 64 n } })
    some (replayMidDrops ((recsAhead r.len s).find? (fun x => x.typ == 6)) s5)

/-- A LOT record (R264): the images its entries name. -/
def replayLot (r : Rec) (s : State) : State :=
  let imgs := (lotMeas r.data).map (fun m => (imageOf s m).getD 16)
  { s with replay := { s.replay with
    imgs := imgs, newImgs := s.replay.newImgs ++ imgs.filter (fun i => !s.replay.imgs.contains i) } }

/-- A change of a port's pipeline or ramp that begins with a line the first crossing still needs. -/
def preConfig (r : Rec) (s : State) : Bool :=
  r.typ == 2 && [0x0301, 0x0302, 0x0401].contains (fld r.data 18 2) && fld r.data 0 8 != 2 ^ 64 - 1 &&
    decide (s.replay.first.getD (fld1 r.data 8 % 4) 0 ≤ fld r.data 0 8)

/-- Before the origin only the lines that the first crossing still needs are fed (R265, R267). -/
def preWanted (r : Rec) (s : State) : Bool :=
  r.typ == 3 && fld r.data 4 8 != 2 ^ 64 - 1 && decide (s.replay.first.getD (fld1 r.data 0 % 4) 0 ≤ fld r.data 4 8)

/-- A line is fed only while the result queue has room (R267). -/
def feedLine (r : Rec) (s : State) : Option State := if hasRoom s s.replay.queue then some (replayLine r s) else none

/-- What a record does; none while it must wait. A FAULT record is for audit only (R255). -/
def replayOne (r : Rec) (s : State) : Option State :=
  if s.replay.pre then (if preWanted r s then feedLine r s else if preConfig r s then some (replayConfig r s) else some s)
  else if s.replay.draining && !([4, 8, 9, 0xE, 0xF].contains r.typ) then some s
  else
    match r.typ with
    | 1 => some (replayLot r s)
    | 2 => some (replayConfig r s)
    | 3 => feedLine r s
    | 4 => some (replayEncoder r s)
    | 5 => some (replayField r s)
    | 6 => replayBoundary r s
    | 7 => replaySlot r s
    | 8 => replayFreeze r s
    | 9 => some (replayFire r s)
    | 0xA => replayAdmit r s
    | 0xB => some (replayLanding r s)
    | 0xC => some (replayJob r s)
    | 0xE => some (replayEnd 2 s)
    | 0xF => some (replayEnd 3 s)
    | _ => some s

/-- The segment after the present one; none where the stream ends or breaks. -/
def nextSegment (s : State) : State :=
  let x := replayStream s
  let n := s.replay.segSeq + 1
  match segFind s x n with
  | some i => { s with replay := { s.replay with seg := i, segSeq := n, off := 0 } }
  | none =>
    let later := (List.range x.segs).any (fun i => let b := segRaw s x i
                                                   decide (fld b 0 4 = 0x44524C59 ∧ n ≤ fld b 8 8))
    replayEnd (if later then 2 else 3) s

/-- Feeds the record at the present place, or goes on to the next segment. -/
def feedRecord (s : State) : State :=
  let b := segRaw s (replayStream s) s.replay.seg
  if s.replay.draining && replayDone s then replayEnd 0 s else
  match recHead ((slice b 32 (fld b 24 4)).drop s.replay.off) with
  | none => nextSegment s
  | some r =>
    let s1 := if s.replay.pre && s.replay.origin == (s.replay.segSeq, s.replay.off) then
      { s with replay := { s.replay with pre := false } } else s
    match replayOne r s1 with
    | none => s1
    | some s2 => if s2.replay.mode then { s2 with replay := { s2.replay with off := s.replay.off + r.len } } else s2

/-- REPLAY_RECORD (R267). -/
def replayRecord (s : State) : State := if s.replay.mode && s.replay.running && !halted s then feedRecord s else s

def execReplayRecord (s : State) : Host.Outcome State Fault Refusal := done replayRecord s

end Sys2Proof.Machine
end

