-- ==== Sys2Proof/Machine/Reset.lean ====
section
/-! DEFINITION. Sys2Proof/Machine/Reset.lean: resets and power loss (R534 to R545, R552), the start of the firmware (R517, R518),
REFCLK loss (R430), watchdogs, and the last-words record.
-/

namespace Sys2Proof.Machine

/-! ## The last-words record (R542, R543) -/

/-- Records in a buffer, by their lengths (R260). -/
def countRecs : Nat → List Byte → Nat
  | 0, _ => 0
  | k + 1, b => if b.isEmpty then 0 else 1 + countRecs k (b.drop (max 16 (fld b 4 4)))

/-- Records of the recorder's write buffer not yet written. -/
def unflushed (s : State) : Nat := ((s.rec_.full ++ [s.rec_.cur]).map (fun b => countRecs b.length b)).foldl (· + ·) 0

/-- A slot is OPEN, DECIDED or FROZEN. -/
def slotOpen (t : Slot) : Bool := t.st == .open_ || t.st == .decided || t.st == .frozen

/-- The slots of OPEN_MAP. -/
def openSlots (s : State) : List Nat := (s.slots.tab.filter (fun e => slotOpen e.2)).map (fun e => e.1)

/-- OPEN_MAP: bit i of byte i / 8 for slot i. -/
def openMap (s : State) : List Byte :=
  let os := openSlots s
  (List.range 2048).map (fun b => BitVec.ofNat 8 ((os.filter (fun i => decide (i / 8 = b))).foldl (fun a i => a + 2 ^ (i % 8)) 0))

/-- Total occupancy of every VERDICT queue. -/
def unfetched (s : State) : Nat :=
  ((s.q.queues.filter (fun e => e.2.st != .free && e.2.content == 0)).map (fun e => occupancy e.2)).foldl (· + ·) 0

/-- PU[p] of the record. -/
def lwPu (u : Pu) : List Byte := leBytes 5 u.count.toNat ++ leBytes 3 u.rev.toNat ++ leBytes 5 u.cumCorr.toNat ++ zeros 3

/-- A count as a 4-byte field. -/
def cnt4 (n : Nat) : List Byte := leBytes 4 (min n (2 ^ 32 - 1))

/-- Uncorrectable DRAM errors of every channel. -/
def dramUes (s : State) : Nat := (s.mem.ue.map (fun e => e.2.n)).foldl (· + ·) 0

/-- SEQ of the next record; the first is 0 (R543). -/
def nextLwSeq (s : State) : Nat :=
  match lwNewest s with
  | some r => (fld r 8 4 + 1) % 2 ^ 32
  | none => 0

/-- The record of R542 but for SEQ and CRC, which it takes as it is written: bytes 12 to 4,091 behind CAUSE and FLAGS
(log entry 71, DEDUCED). -/
def lwBody (cause at_ : Nat) (s : State) : List Byte :=
  leBytes 1 cause ++
    leBytes 1 (4 * b2n (s.rst.rs != 0) + 2 * b2n s.seq.active + b2n (s.gh.running.any (fun r => r.op == 0x0E01))) ++
    leBytes 4 s.rst.rs.toNat ++ leBytes 8 at_ ++ leBytes 8 s.seq.crossing.toNat ++ leBytes 8 s.rec_.lotId.toNat ++
    cnt4 (unflushed s) ++ cnt4 (unfetched s) ++ leBytes 2 (openSlots s).length ++ zeros 6 ++
    (List.range 4).flatMap (fun p => lwPu (getPu s p)) ++
    (List.range 4).flatMap (fun p => leBytes 8 (Tab.get 0 s.slots.seqs p).toNat) ++
    (List.range 4).flatMap (fun p => leBytes 4 (Tab.get 0 s.slots.epochs p).toNat) ++
    cnt4 s.seq.cSlip.n ++ cnt4 s.seq.cDropped.n ++ cnt4 s.slots.recDrops.n ++ cnt4 s.slots.noSlotCtr.n ++ cnt4 s.rec_.lost.n ++
    cnt4 (dramUes s) ++ zeros 1852 ++ openMap s

/-- The whole record. -/
def lwRecord (seq : Nat) (body : List Byte) : List Byte :=
  let r := leBytes 4 0x5344574C ++ leBytes 2 1 ++ body.take 2 ++ leBytes 4 seq ++ body.drop 2
  r ++ leBytes 4 (crc32 r)

/-- Writes a last-words record into sector SEQ mod 16 (R543) (log entry 71, DEDUCED). -/
def writeLw (body : List Byte) (s : State) : State :=
  flashProgram (0x20000 + 4096 * (nextLwSeq s % 16)) ((lwRecord (nextLwSeq s) body).take 4096) s

/-! ## Cold reset (R534, R535) -/

/-- What a position unit keeps through a cold reset: its input levels, which are the encoder's. An input that is still faulty
is found so again 1 µs later (R328) (log entry 73, DEDUCED). -/
def coldPu (u : Pu) : Pu := { Pu0 with a := u.a, b := u.b }

/-- The deck with the units that the grade has fused off (R5, R34), as they were made
(log entry 19, DESIGN CHOICE). -/
def coldDeck (s : State) : Deck :=
  { Deck0 with
    girders := ((List.range 32).filter (fun n => !girderPresent s n)).map (fun n => (n, { Girder0 with fused := true }))
    clusters := ((List.range 8).filter (fun k => !clusterPresent s k)).map (fun k => (k, { Cluster0 with fused := true })) }

/-- The domains of fused units, and of the groups the grade has not, are OFF for good and set FUSED (R415)
(log entry 19, DESIGN CHOICE). -/
def coldPower (s : State) : Power :=
  let gs := ((List.range 32).filter (fun n => !girderPresent s n)).map (fun n => 1 + n)
  let cs := ((List.range 8).filter (fun k => !clusterPresent s k)).map (fun k => 33 + k)
  let mc := if s.grade = .c then [61, 62] else []
  { Power0 with domains := (gs ++ cs ++ mc).foldl (fun t d => Tab.set Domain0 t d { Domain0 with fused := true }) (Power0).domains }

/-- A cold reset (R535): OTP, flash, what stands outside the part, and the commands that wait are kept
(log entries 31, DEDUCED; 73, DEDUCED). -/
def coldReset (cause : Nat) (s : State) : State :=
  { State.reset with
    pending := s.pending, out := s.out, die := s.die, grade := s.grade, deck := coldDeck s, pwr := coldPower s,
    pus := (List.range 4).foldl (fun t p => Tab.set Pu0 t p (coldPu (getPu s p))) [],
    host := { HostIf0 with perst := s.host.perst },
    mem := { MemSys0 with hostMem := s.mem.hostMem },
    sec := { Security0 with otp := s.sec.otp, flash := s.sec.flash },
    rst := { ResetCtl0 with coldCause := cause } }

/-- A meaning that may end in a cold reset: no bit and no interrupt of the state before it outlives one (R535)
(log entry 31, DEDUCED). -/
def doneCold (f : State → State) (s : State) : Host.Outcome State Fault Refusal := .next (f s)

/-- POWER_ON and RESET_N_ASSERT (R534): RESET_N holds the boot ROM until its release. -/
def powerOn (s : State) : State := coldReset 6 s

def execPowerOn (s : State) : Host.Outcome State Fault Refusal := doneCold powerOn s

def resetNAssert (s : State) : State := coldReset 6 s

def execResetNAssert (s : State) : Host.Outcome State Fault Refusal := doneCold resetNAssert s

/-- An internal cold reset, with the scope of RESET_N (R539, R545). -/
def innerCold (cause : Nat) (s : State) : State := bootRom (coldReset cause s)

/-! ## Warm reset (R537) -/

/-- Step 2 of R537: SAFE_CMD in every down frame, and no pulse any more; the sequencer and every firing stop. -/
def safeNow (s : State) : State :=
  let s1 := endPulses (fun _ => true) s
  { s1 with field := { s1.field with safeCmd := true, release := false }, linePulses := [] }

/-- A cause of a warm reset (R536, R537): merged into one under way; a thermal trip and a power failure override it
(log entry 54, DEDUCED). -/
def warmCause (cause at_ : Nat) (s : State) : State :=
  if s.rst.warm.isSome || s.steward.trip || s.rst.pfail then s
  else
    let s1 := safeNow s
    { s1 with
      rst := { s1.rst with warm := some (cause, at_) },
      gh := { s1.gh with warmAt := some (at_, cause) } }

/-- A camera port through a warm reset (R299). -/
def warmCam (c : Cam) : Cam := { Cam0 with pocxpOn := c.pocxpOn, pocxpFault := c.pocxpFault }

/-- A span port through a warm reset (R413): configuration, peer and bad lanes kept, link-layer state discarded
(log entry 72, DEDUCED). -/
def warmSpan (x : SpanPort) : SpanPort :=
  { SpanPort0 with
    enabled := x.enabled, rate := x.rate, vmin := x.vmin, vmax := x.vmax, badLanes := x.badLanes,
    peerChanged := x.peerChanged, peerNode := x.peerNode, peerPort := x.peerPort, hadPeer := x.hadPeer,
    lastWidth := if x.st = .up then laneCount x.lanes else x.lastWidth, reads := x.reads }

/-- A mailbox through a warm reset (R495). -/
def warmMbx (x : Mbx) : Mbx := { x with st := .idle, progress := 0, cmd := none }

/-- The steward through a warm reset (R447). -/
def warmSteward (w : Steward) : Steward :=
  { w with
    boost := 0, clean := 0, streak := [], noFit := false, hold := false, fitRun := 0, throttled := false, pool := 0, scale := 1,
    baseLast := 0 }

/-- Approach side: cameras, pipelines, ramps, generators, the field link (R299, R324, R350, R364)
(log entry 72, DEDUCED). -/
def warmApproach (s : State) : State :=
  { s with
    cams := (List.range 4).foldl (fun t p => Tab.set Cam0 t p (warmCam (getCam s p))) [],
    ramps := [],
    pus := s.pus.map (fun e => (e.1, { e.2 with overspeedIn := none })),
    gens := s.gens.map (fun e => (e.1, { e.2 with armed := false })),
    field := { s.field with ctrs := List.replicate 5 Ctr0, linkUp := false, inValid := false, lastSeq := none } }

/-- The counters of an image's attention memory (R213) at reset. -/
def clearKv (k : Kv) : Kv := { k with cTrunc := Ctr0, cRecyc := Ctr0, cUe := Ctr0 }

/-- Deck side: the sequencer, bands, jobs, on-chip memory's bookkeeping and staged images (R252, R526)
(log entry 72, DEDUCED). -/
def warmDeck (s : State) : State :=
  { s with
    seq := Sequencer0, bands := [], jobs := [], 
    imgs := (dropStaged s.imgs).map (fun e => (e.1, { e.2 with kv := clearKv e.2.kv })),
    deck := { s.deck with
      regions := [], cOwn := Ctr0, ceAbut := Ctr0, cUe := Ctr0, reload := [],
      girders := s.deck.girders.map (fun e => (e.1, { e.2 with ce := Ctr0 })),
      clusters := s.deck.clusters.map (fun e => (e.1, { e.2 with ce := Ctr0 })) },
    lineSlow := false, steward := warmSteward s.steward,
    rec_ := { Recorder0 with lotId := s.rec_.lotId, lotKey := s.rec_.lotKey, seqStart := s.rec_.seqStart },
    replay := Replay0 }

/-- Host side: sessions, mailboxes, queues, toll gate and counters (R461, R484, R495) (log entry 72, DEDUCED). -/
def warmHost (s : State) : State :=
  { s with
    gh := { s.gh with
      mbx := s.gh.mbx.map (fun e => (e.1, warmMbx e.2)), order := [], running := [], session := none, warmAt := none },
    q := { s.q with
      queues := s.q.queues.map (fun e => (e.1, { e.2 with armed := false, timer := none })), discarded := Ctr0,
      eventLost := s.q.eventLost && s.q.eventTook },
    host := { s.host with bar2Refused := Ctr0, poisoned := Ctr0 },
    mem := { s.mem with ce := [], ue := [], chInterval := [], sramInterval := [], gate := [], bytes := [] },
    sec := { s.sec with level := 0, challenge := none, invalid := 0, baud := 115200 },
    slots := { s.slots with policies := [], stale := Ctr0, duplicate := Ctr0, noSlotCtr := Ctr0, recDrops := Ctr0 } }

/-- Span links (R398, R413): ports down until their domains are ON again, the copy window closed; a follower enters
HOLDOVER (log entry 72, DEDUCED). -/
def warmLinks (s : State) : State :=
  reparent (when_ (s.time.role == .follower) (ksMove .holdover) { s with span := { s.span with
    ports := (List.range 8).foldl (fun t p => Tab.set SpanPort0 t p (warmSpan (getSpan s p))) [], winBase := 0, winMib := 0 } })

/-- Power (R447, R537): MC groups in RETENTION, AO and PE as they are, every other domain and bank OFF. -/
def warmPower (s : State) : State :=
  allDomains.foldl (fun a d => if d = 63 then a else forceDown (if isMc d then .retention else .off) d a) s

/-- Restricted service through a warm reset (R552) (log entry 71, DEDUCED). -/
def warmReasons (s : State) : State := rsClear 5 (rsClear 4 (rsClear 2 s))

/-- Steps 3 and 4 of R537: what the reset keeps and loses, and the boot ROM; the last-words record waits for the firmware. -/
def warmBody (cause at_ : Nat) (s : State) : State :=
  let lw := lwBody cause at_ s
  let s1 := warmReasons (warmPower (warmLinks (warmHost (warmDeck (warmApproach (sawLevels s))))))
  bootRom { s1 with rst := { s1.rst with warm := some (cause, at_), lw := some lw, reported := false } }

/-- WARM_RESET (R536, R537): a cause that is due acts; an unfinished one goes on to the boot ROM. -/
def warmReset (s : State) : State :=
  match s.gh.warmAt with
  | none => s
  | some (t, c) =>
    if now s < t || s.steward.trip || s.rst.pfail then s
    else
      let s1 := warmCause c t s
      let w := s1.rst.warm.getD (c, t)
      warmBody w.1 w.2 s1

def execWarmReset (s : State) : Host.Outcome State Fault Refusal := done warmReset s

/-- REFCLK_LOST (R430): after the switch, timekeeping returns to the oscillator, the sync state becomes UNSYNC, and a warm
reset follows. -/
def refclkLost (s : State) : State :=
  if s.time.internal then s
  else warmCause 4 (now s) (ksMove .unsync (post 0x4604 0 0 0 0 { s with time := { s.time with internal := true } }))

def execRefclkLost (s : State) : Host.Outcome State Fault Refusal := done refclkLost s

/-! ## Watchdogs (R538, R539) -/

/-- WATCHDOG_BITE (R538): the watchdog runs while firmware does (log entry 73, DEDUCED). -/
def watchdogBite (s : State) : State :=
  if !fwRuns s || s.rst.pfail then s
  else warmCause 3 (now s) { s with rst := { s.rst with bites := now s :: s.rst.bites } }

def execWatchdogBite (s : State) : Host.Outcome State Fault Refusal := done watchdogBite s

/-- Three bites fall within 60 s (R539). -/
def threeBites (s : State) : Bool := decide (3 ≤ (s.rst.bites.filter (fun t => decide (now s ≤ t + 60000000000))).length)

/-- FW_READY is overdue, 2 s after a warm reset's cause (R539). -/
def overdue (s : State) : Bool :=
  match s.rst.warm with
  | some w => decide (w.2 + 2000000000 ≤ now s)
  | none => false

/-- WARM_RESET_ESCALATION (R539). -/
def escalate (s : State) : State := if s.rst.warm.isSome && (threeBites s || overdue s) then innerCold 5 s else s

def execWarmResetEscalation (s : State) : Host.Outcome State Fault Refusal := doneCold escalate s

/-! ## Power loss (R540 to R545) -/

/-- PFAIL_N_FALL (R540, R521): outputs safe, the recorder stopped, every domain but AO OFF; the gatehouse, if its firmware
runs, abandons an update and writes the last-words record (log entry 54, DEDUCED). -/
def pfailFall (s : State) : State :=
  if s.rst.pfail then s
  else
    let body := lwBody 0 (now s) s
    let s1 := safeNow s
    let s2 := { s1 with rst := { s1.rst with pfail := true }, rec_ := { s1.rec_ with running := false } }
    let s3 := allDomains.foldl (fun a d => forceDown .off d a) (hostReset s2)
    if fwRuns s then
      writeLw body { s3 with gh := { s3.gh with running := s3.gh.running.filter (fun r => r.op != 0x0E01) } }
    else s3

def execPfailNFall (s : State) : Host.Outcome State Fault Refusal := done pfailFall s

/-- PFAIL_N_RETURN (R545): an internal cold reset once PFAIL_N has been high for 10 ms (log entry 73, DEDUCED). -/
def pfailReturn (s : State) : State := if s.rst.pfail then innerCold 0 s else s

def execPfailNReturn (s : State) : Host.Outcome State Fault Refusal := doneCold pfailReturn s

/-! ## The firmware starts (R133, R453, R517, R537 step 6) -/

/-- Every field register with its reset value, to be rewritten (R374). -/
def fieldRewrite : List (Nat × Byte) := (List.range 160).map (fun a => (a, fieldRegReset a))

/-- Domains of girders and clusters. -/
def testDomains : List Nat := (List.range 40).map (fun i => 1 + i)

/-- A domain is ON at once, with the source of its wake (R426). -/
def wakeNow (src : Nat) (s : State) (d : Nat) : State :=
  if (getDom s d).fused then s
  else
    let s1 := wakeDom d src none s
    setDom s1 d { getDom s1 d with st := .on, prep := none, padHold := (getDom s1 d).padHold && (getDom s1 d).holdPads }

/-- After a cold reset (R133, R374, R417, R453): the self-test, DRAM training, and the field registers
(log entries 68, DEDUCED; 73, DEDUCED). -/
def coldStart (report : List UnitTest) (dramFail : Bool) (s : State) : State :=
  let s1 := selfTest report (testDomains.foldl (wakeNow 6) s)
  { s1 with
    sec := { s1.sec with dramReady := !dramFail, dramFail := dramFail },
    field := { s1.field with wq := fieldRewrite, rewrite := fieldRewrite.length } }

/-- Every slot is FREE again, with its generation (R39, R69). -/
def freeSlots (s : State) : State :=
  { s with
    slots := { s.slots with
      tab := s.slots.tab.foldl (fun t e => Tab.set Slot0 t e.1 { Slot0 with gen := e.2.gen }) [],
      commits := [], records := [], lateRecords := [], cands := [], instant := [] },
    pus := s.pus.map (fun e => (e.1, { e.2 with slotLow := false })) }

/-- A committed image passes its checks again (R527) (log entry 72, DEDUCED). -/
def imageHolds (s : State) (x : ImgSlot) : Bool :=
  decide (sha256 (memRead s.deck.dram x.deckBase x.deckSize) = x.digest) && decide (sha256 (signedPart x.raw) = x.meas) &&
    !otpRevoked s.sec.otp 1 x.keySlot

/-- An image that fails its checks is retired, with MODEL_LOST (R527). -/
def reverify (s : State) : State :=
  (List.range 16).foldl (fun a i =>
    if (getImg a i).st == .committed && !imageHolds a (getImg a i) then post 0x3803 0 0 i 0 (setImg a i ImgSlot0) else a) s

/-- Step 6 of R537: last words, slots, images, tracks, the domains of the DRAM and of enabled span ports, and those that a kept
policy holds ON (R447)
(log entry 68, DEDUCED). -/
def warmStart (s : State) : State :=
  let s1 := match s.rst.lw with
    | some b => writeLw b { s with rst := { s.rst with lw := none } }
    | none => s
  let s2 := [59, 60, 61, 62].foldl (wakeNow 1) (freeSlots s1)
  let s3 := resetAllTracks (refreshSwing (reverify s2))
  let s4 := (List.range 8).foldl (fun a p => when_ (getSpan a p).enabled (wakeDom (51 + p) 1 none) a) s3
  allDomains.foldl (fun a d => when_ ((getDom a d).policy == 1) (wakeDom d 1 none) a) s4

/-- The monitor's banner (R531, R551). -/
def banner (s : State) : State :=
  say (if s.rst.rs = 0 then "" else "WEIGHT-RESTRICTED" ++ rsNames s)
    (uid s ++ leBytes 2 s.sec.fw.fwVersion.toNat ++ leBytes 1 (lifecycle s)) s

/-- FIRMWARE_START (R517, R537). -/
def firmwareStart (report : List UnitTest) (dramFail : Bool) (s : State) : State :=
  if s.sec.boot ≠ .loaded ∨ s.rst.pfail then s
  else
    let s1 := { s with sec := { s.sec with boot := .firmware } }
    banner (if s.rst.warm.isSome then warmStart s1 else coldStart report dramFail s1)

def execFirmwareStart (report : List UnitTest) (dramFail : Bool) (s : State) : Host.Outcome State Fault Refusal :=
  done (firmwareStart report dramFail) s

/-! ## FW_READY (R518, R537 step 7, R543) -/

/-- The anti-rollback counter rises to the running firmware's security version (R518). -/
def raiseAr (s : State) : State :=
  let v := s.sec.fw.secVersion
  if v ≤ arCounter s then s else post 0x1801 0 0 v 0 (otpBurn 0x108 (leBytes 8 (2 ^ v - 1)) s)

/-- Vendor slots that the running firmware names are revoked, but for its own (R510, R518, R524). -/
def revokeVendor (s : State) : State :=
  (List.range 4).foldl (fun a i =>
    if s.sec.fw.revoke.getLsbD i && i != s.sec.fw.keySlot then otpBurn 0x100 (leBytes 1 (2 ^ i)) a else a) s

/-- The sector after the newest last-words record is erased (R543). -/
def eraseLw (s : State) : State := flashErase (0x20000 + 4096 * (nextLwSeq s % 16)) 4096 s

/-- FW_READY (R517, R518, R537, R543): the firmware sets FW_READY for the first time after the boot. -/
def fwReadyNow (s : State) : State :=
  if s.sec.boot ≠ .firmware ∨ s.rst.pfail then s
  else
    let s1 := eraseLw (revokeVendor (raiseAr { s with sec := { s.sec with boot := .ready } }))
    let s2 := match s.rst.warm with
      | some w => post 0x1804 0 0 1 w.1 { s1 with rst := { s1.rst with warm := none } }
      | none => post 0x1804 0 0 0 s.rst.coldCause s1
    autoPower false s2

def execFwReady (s : State) : Host.Outcome State Fault Refusal := done fwReadyNow s

end Sys2Proof.Machine
end

