-- ==== Sys2Proof/Machine/Dispatch.lean ====
section
/-! DEFINITION. Sys2Proof/Machine/Dispatch.lean: one arm per command or event, each one direct call of its meaning.
-/

namespace Sys2Proof.Machine

def exec (i : Instr) (s : State) : Host.Outcome State Fault Refusal :=
  match i with
  | .registerWrite r v => Sys2Proof.Machine.execRegisterWrite r v s
  | .hello m => Sys2Proof.Machine.execHello m s
  | .goodbye m => Sys2Proof.Machine.execGoodbye m s
  | .getCaps m => Sys2Proof.Machine.execGetCaps m s
  | .timebaseSwitch m hz => Sys2Proof.Machine.execTimebaseSwitch m hz s
  | .timeRead m => Sys2Proof.Machine.execTimeRead m s
  | .wcIncSet m => Sys2Proof.Machine.execWcIncSet m s
  | .wcStep m => Sys2Proof.Machine.execWcStep m s
  | .wcSet m => Sys2Proof.Machine.execWcSet m s
  | .ksConfig m => Sys2Proof.Machine.execKsConfig m s
  | .keystoneLaunch m => Sys2Proof.Machine.execKeystoneLaunch m s
  | .ksRead m => Sys2Proof.Machine.execKsRead m s
  | .camConfig m => Sys2Proof.Machine.execCamConfig m s
  | .camDiscover m offer => Sys2Proof.Machine.execCamDiscover m offer s
  | .camCtrl m ack data => Sys2Proof.Machine.execCamCtrl m ack data s
  | .camCtrlTimeout m => Sys2Proof.Machine.execCamCtrlTimeout m s
  | .camPower m => Sys2Proof.Machine.execCamPower m s
  | .camRead m => Sys2Proof.Machine.execCamRead m s
  | .apConfig m => Sys2Proof.Machine.execApConfig m s
  | .apTable m => Sys2Proof.Machine.execApTable m s
  | .rmpConfig m => Sys2Proof.Machine.execRmpConfig m s
  | .rmpRead m => Sys2Proof.Machine.execRmpRead m s
  | .puConfig m => Sys2Proof.Machine.execPuConfig m s
  | .puRefArm m => Sys2Proof.Machine.execPuRefArm m s
  | .puLatch m => Sys2Proof.Machine.execPuLatch m s
  | .puRead m => Sys2Proof.Machine.execPuRead m s
  | .ltConfig m => Sys2Proof.Machine.execLtConfig m s
  | .ltArm m => Sys2Proof.Machine.execLtArm m s
  | .puClear m => Sys2Proof.Machine.execPuClear m s
  | .fioConfig m => Sys2Proof.Machine.execFioConfig m s
  | .fioSet m => Sys2Proof.Machine.execFioSet m s
  | .fioRelease m => Sys2Proof.Machine.execFioRelease m s
  | .fioRead m => Sys2Proof.Machine.execFioRead m s
  | .fioClear m => Sys2Proof.Machine.execFioClear m s
  | .trigConfig m => Sys2Proof.Machine.execTrigConfig m s
  | .trigSet m => Sys2Proof.Machine.execTrigSet m s
  | .vpSet m => Sys2Proof.Machine.execVpSet m s
  | .vpRead m => Sys2Proof.Machine.execVpRead m s
  | .seqSet m => Sys2Proof.Machine.execSeqSet m s
  | .modelStage m => Sys2Proof.Machine.execModelStage m s
  | .modelCommit m => Sys2Proof.Machine.execModelCommit m s
  | .modelSwitch m => Sys2Proof.Machine.execModelSwitch m s
  | .modelRetire m => Sys2Proof.Machine.execModelRetire m s
  | .modelList m => Sys2Proof.Machine.execModelList m s
  | .swingRead m => Sys2Proof.Machine.execSwingRead m s
  | .crossingStart m => Sys2Proof.Machine.execCrossingStart m s
  | .crossingStop m => Sys2Proof.Machine.execCrossingStop m s
  | .crossingStatus m => Sys2Proof.Machine.execCrossingStatus m s
  | .memAlloc m => Sys2Proof.Machine.execMemAlloc m s
  | .memFree m => Sys2Proof.Machine.execMemFree m s
  | .queueCreate m => Sys2Proof.Machine.execQueueCreate m s
  | .queueDestroy m => Sys2Proof.Machine.execQueueDestroy m s
  | .queueRead m => Sys2Proof.Machine.execQueueRead m s
  | .queueAttach m => Sys2Proof.Machine.execQueueAttach m s
  | .tollConfig m => Sys2Proof.Machine.execTollConfig m s
  | .tollRead m => Sys2Proof.Machine.execTollRead m s
  | .recStart m => Sys2Proof.Machine.execRecStart m s
  | .recStop m => Sys2Proof.Machine.execRecStop m s
  | .recRelease m => Sys2Proof.Machine.execRecRelease m s
  | .recRead m => Sys2Proof.Machine.execRecRead m s
  | .lotOpen m => Sys2Proof.Machine.execLotOpen m s
  | .checkpoint m => Sys2Proof.Machine.execCheckpoint m s
  | .replayOpen m => Sys2Proof.Machine.execReplayOpen m s
  | .replayRun m => Sys2Proof.Machine.execReplayRun m s
  | .replayStop m => Sys2Proof.Machine.execReplayStop m s
  | .spanConfig m => Sys2Proof.Machine.execSpanConfig m s
  | .spanRoute m => Sys2Proof.Machine.execSpanRoute m s
  | .spanRetrain m => Sys2Proof.Machine.execSpanRetrain m s
  | .laneTest m => Sys2Proof.Machine.execLaneTest m s
  | .spanRead m => Sys2Proof.Machine.execSpanRead m s
  | .spanWindow m => Sys2Proof.Machine.execSpanWindow m s
  | .spanCopy m => Sys2Proof.Machine.execSpanCopy m s
  | .stewardConfig m vidMode => Sys2Proof.Machine.execStewardConfig m vidMode s
  | .stewardFix m => Sys2Proof.Machine.execStewardFix m s
  | .pwrSet m => Sys2Proof.Machine.execPwrSet m s
  | .pwrRead m => Sys2Proof.Machine.execPwrRead m s
  | .pwrPadRelease m => Sys2Proof.Machine.execPwrPadRelease m s
  | .fwUpdate m flashError => Sys2Proof.Machine.execFwUpdate m flashError s
  | .fwInfo m => Sys2Proof.Machine.execFwInfo m s
  | .attest m signature => Sys2Proof.Machine.execAttest m signature s
  | .unitTest m report => Sys2Proof.Machine.execUnitTest m report s
  | .unitMap m => Sys2Proof.Machine.execUnitMap m s
  | .slotRead m => Sys2Proof.Machine.execSlotRead m s
  | .kvStatus m => Sys2Proof.Machine.execKvStatus m s
  | .kvDump m => Sys2Proof.Machine.execKvDump m s
  | .kvTrackReset m => Sys2Proof.Machine.execKvTrackReset m s
  | .dramRead m => Sys2Proof.Machine.execDramRead m s
  | .resetCmd m => Sys2Proof.Machine.execResetCmd m s
  | .commandComplete m => Sys2Proof.Machine.execCommandComplete m s
  | .queueDoorbellPtr q p => Sys2Proof.Machine.execQueueDoorbellPtr q p s
  | .queueDoorbellArm q => Sys2Proof.Machine.execQueueDoorbellArm q s
  | .queueDoorbellClearQerr q => Sys2Proof.Machine.execQueueDoorbellClearQerr q s
  | .bar2Access off acc => Sys2Proof.Machine.execBar2Access off acc s
  | .poisonedTlp nonPosted => Sys2Proof.Machine.execPoisonedTlp nonPosted s
  | .perstN => Sys2Proof.Machine.execPerstN s
  | .hotReset => Sys2Proof.Machine.execHotReset s
  | .pcieLinkLoss => Sys2Proof.Machine.execPcieLinkLoss s
  | .queueAccessFail q => Sys2Proof.Machine.execQueueAccessFail q s
  | .queueProduce => Sys2Proof.Machine.execQueueProduce s
  | .queueHoldoffExpiry q => Sys2Proof.Machine.execQueueHoldoffExpiry q s
  | .jobEntryTake uncorrectable => Sys2Proof.Machine.execJobEntryTake uncorrectable s
  | .jobDone j => Sys2Proof.Machine.execJobDone j s
  | .tollArbitration c req lines => Sys2Proof.Machine.execTollArbitration c req lines s
  | .encoderTransition p change => Sys2Proof.Machine.execEncoderTransition p change s
  | .zEdge p => Sys2Proof.Machine.execZEdge p s
  | .pulseEndUs => Sys2Proof.Machine.execPulseEndUs s
  | .observerTick p => Sys2Proof.Machine.execObserverTick p s
  | .motionStop p => Sys2Proof.Machine.execMotionStop p s
  | .encWireFault p input good => Sys2Proof.Machine.execEncWireFault p input good s
  | .lineComplete p line => Sys2Proof.Machine.execLineComplete p line s
  | .triggerEntryExpiry p => Sys2Proof.Machine.execTriggerEntryExpiry p s
  | .foreignStreamPacket p => Sys2Proof.Machine.execForeignStreamPacket p s
  | .heartbeatPacket p => Sys2Proof.Machine.execHeartbeatPacket p s
  | .camEvent p packet => Sys2Proof.Machine.execCamEvent p packet s
  | .cxpLinkDown p conn => Sys2Proof.Machine.execCxpLinkDown p conn s
  | .cxpLinkUp p conn => Sys2Proof.Machine.execCxpLinkUp p conn s
  | .pocxpFault conn => Sys2Proof.Machine.execPocxpFault conn s
  | .owedLostLineWrite p => Sys2Proof.Machine.execOwedLostLineWrite p s
  | .passStart p => Sys2Proof.Machine.execPassStart p s
  | .sampleWrite p => Sys2Proof.Machine.execSampleWrite p s
  | .bandComplete p band => Sys2Proof.Machine.execBandComplete p band s
  | .secondLookViewGenerate j => Sys2Proof.Machine.execSecondLookViewGenerate j s
  | .slotCommit => Sys2Proof.Machine.execSlotCommit s
  | .recordPost => Sys2Proof.Machine.execRecordPost s
  | .lateRecordPost => Sys2Proof.Machine.execLateRecordPost s
  | .periodTick => Sys2Proof.Machine.execPeriodTick s
  | .launchCountReached => Sys2Proof.Machine.execLaunchCountReached s
  | .crossingBoundary => Sys2Proof.Machine.execCrossingBoundary s
  | .bayStart b => Sys2Proof.Machine.execBayStart b s
  | .bayEnd b steps => Sys2Proof.Machine.execBayEnd b steps s
  | .openBayDeadline b => Sys2Proof.Machine.execOpenBayDeadline b s
  | .tileBoundary b => Sys2Proof.Machine.execTileBoundary b s
  | .deckOp t => Sys2Proof.Machine.execDeckOp t s
  | .deckLoad t => Sys2Proof.Machine.execDeckLoad t s
  | .deckStore t => Sys2Proof.Machine.execDeckStore t s
  | .swingLoad t => Sys2Proof.Machine.execSwingLoad t s
  | .sendCmd t => Sys2Proof.Machine.execSendCmd t s
  | .signalCmd t => Sys2Proof.Machine.execSignalCmd t s
  | .collective t => Sys2Proof.Machine.execCollective t s
  | .waitCmd t => Sys2Proof.Machine.execWaitCmd t s
  | .refreshCmd t => Sys2Proof.Machine.execRefreshCmd t s
  | .sramCorrected unit bank => Sys2Proof.Machine.execSramCorrected unit bank s
  | .sramUe unit bank row => Sys2Proof.Machine.execSramUe unit bank row s
  | .dramCorrected ch => Sys2Proof.Machine.execDramCorrected ch s
  | .dramUe ch off => Sys2Proof.Machine.execDramUe ch off s
  | .tollDramUe c off => Sys2Proof.Machine.execTollDramUe c off s
  | .dramScrub ch => Sys2Proof.Machine.execDramScrub ch s
  | .refreshForced ch => Sys2Proof.Machine.execRefreshForced ch s
  | .abutOwnFault region requester => Sys2Proof.Machine.execAbutOwnFault region requester s
  | .ceRateInterval => Sys2Proof.Machine.execCeRateInterval s
  | .recSegmentWritten => Sys2Proof.Machine.execRecSegmentWritten s
  | .spanWidthChosen p good partner => Sys2Proof.Machine.execSpanWidthChosen p good partner s
  | .spanCaps p caps => Sys2Proof.Machine.execSpanCaps p caps s
  | .spanTrainTimeout p => Sys2Proof.Machine.execSpanTrainTimeout p s
  | .spanLockLoss p lanes => Sys2Proof.Machine.execSpanLockLoss p lanes s
  | .spanFrameReceive p frame => Sys2Proof.Machine.execSpanFrameReceive p frame s
  | .spanReplayTimeout p => Sys2Proof.Machine.execSpanReplayTimeout p s
  | .spanAckTimer p => Sys2Proof.Machine.execSpanAckTimer p s
  | .writeMessage p => Sys2Proof.Machine.execWriteMessage p s
  | .signalMessage p => Sys2Proof.Machine.execSignalMessage p s
  | .tollWrite p => Sys2Proof.Machine.execTollWrite p s
  | .messageForward p => Sys2Proof.Machine.execMessageForward p s
  | .syncFu p => Sys2Proof.Machine.execSyncFu p s
  | .neighborMsg p => Sys2Proof.Machine.execNeighborMsg p s
  | .syncExchange => Sys2Proof.Machine.execSyncExchange s
  | .neighborSend => Sys2Proof.Machine.execNeighborSend s
  | .ksHoldoverTimeout => Sys2Proof.Machine.execKsHoldoverTimeout s
  | .ksParentTimeout => Sys2Proof.Machine.execKsParentTimeout s
  | .fieldFrameTick => Sys2Proof.Machine.execFieldFrameTick s
  | .fieldDownFrameApply good levels lplusLow => Sys2Proof.Machine.execFieldDownFrameApply good levels lplusLow s
  | .fieldUpFrame good => Sys2Proof.Machine.execFieldUpFrame good s
  | .fieldLinkTimeout => Sys2Proof.Machine.execFieldLinkTimeout s
  | .fieldDieSafeTimeout => Sys2Proof.Machine.execFieldDieSafeTimeout s
  | .fieldUvlo low => Sys2Proof.Machine.execFieldUvlo low s
  | .fioThermalTrip ch => Sys2Proof.Machine.execFioThermalTrip ch s
  | .prepareAnswer d busyUs => Sys2Proof.Machine.execPrepareAnswer d busyUs s
  | .prepareTimeout d => Sys2Proof.Machine.execPrepareTimeout d s
  | .prepareDelayExpiry d => Sys2Proof.Machine.execPrepareDelayExpiry d s
  | .onDemandWake d requester => Sys2Proof.Machine.execOnDemandWake d requester s
  | .domainWakeComplete d => Sys2Proof.Machine.execDomainWakeComplete d s
  | .pwrAccessOff d requester address => Sys2Proof.Machine.execPwrAccessOff d requester address s
  | .mc3IdleRetention => Sys2Proof.Machine.execMc3IdleRetention s
  | .vddSettled sense => Sys2Proof.Machine.execVddSettled sense s
  | .vddTimeout sense => Sys2Proof.Machine.execVddTimeout sense s
  | .vrmFault word => Sys2Proof.Machine.execVrmFault word s
  | .sensorUpdate temps drawn => Sys2Proof.Machine.execSensorUpdate temps drawn s
  | .thermTrip => Sys2Proof.Machine.execThermTrip s
  | .refclkLost => Sys2Proof.Machine.execRefclkLost s
  | .powerOn => Sys2Proof.Machine.execPowerOn s
  | .resetNAssert => Sys2Proof.Machine.execResetNAssert s
  | .resetNRelease => Sys2Proof.Machine.execResetNRelease s
  | .firmwareStart report dramFail => Sys2Proof.Machine.execFirmwareStart report dramFail s
  | .fwReady => Sys2Proof.Machine.execFwReady s
  | .warmReset => Sys2Proof.Machine.execWarmReset s
  | .watchdogBite => Sys2Proof.Machine.execWatchdogBite s
  | .warmResetEscalation => Sys2Proof.Machine.execWarmResetEscalation s
  | .pfailNFall => Sys2Proof.Machine.execPfailNFall s
  | .pfailNReturn => Sys2Proof.Machine.execPfailNReturn s
  | .helpCmd => Sys2Proof.Machine.execHelpCmd s
  | .infoCmd => Sys2Proof.Machine.execInfoCmd s
  | .baud rate => Sys2Proof.Machine.execBaud rate s
  | .chal random => Sys2Proof.Machine.execChal random s
  | .unlock level answer => Sys2Proof.Machine.execUnlock level answer s
  | .catwalkLockoutExpiry => Sys2Proof.Machine.execCatwalkLockoutExpiry s
  | .statusCmd => Sys2Proof.Machine.execStatusCmd s
  | .logCmd => Sys2Proof.Machine.execLogCmd s
  | .mrCmd addr count => Sys2Proof.Machine.execMrCmd addr count s
  | .mwCmd addr v => Sys2Proof.Machine.execMwCmd addr v s
  | .provision slot hash confirm => Sys2Proof.Machine.execProvision slot hash confirm s
  | .revoke slot confirm => Sys2Proof.Machine.execRevoke slot confirm s
  | .lifecycleProduction confirm => Sys2Proof.Machine.execLifecycleProduction confirm s
  | .lifecycleReturn confirm => Sys2Proof.Machine.execLifecycleReturn confirm s
  | .lockCmd => Sys2Proof.Machine.execLockCmd s
  | .catwalkResetWarm => Sys2Proof.Machine.execCatwalkResetWarm s
  | .romRecoveryLoad blocks => Sys2Proof.Machine.execRomRecoveryLoad blocks s
  | .perstNRelease => Sys2Proof.Machine.execPerstNRelease s
  | .replayRecord => Sys2Proof.Machine.execReplayRecord s
  | .lineTrigPulseEnd n => Sys2Proof.Machine.execLineTrigPulseEnd n s
  | .syncBlock p => Sys2Proof.Machine.execSyncBlock p s

end Sys2Proof.Machine
end

