-- ==== Sys2Proof/Safety.lean ====
section
/-! DEFINITION. Sys2Proof/Safety.lean: what the statements mean by a sound state: the canonical form of the memories, the thermometer code of the lifecycle, burning, and the areas of flash that the device uses.
-/

namespace Sys2Proof.Machine

/-! ## Memories in canonical form -/

/-- Every byte memory of the state is in canonical form. -/
def Memory.wf (s : State) : Bool :=
  Tab.wf 0 s.mem.toll && Tab.wf 0 s.mem.hostMem && Tab.wf 0 s.deck.dram && Tab.wf 0 s.deck.pier && Tab.wf 0 s.deck.abut &&
    Tab.wf 0 s.deck.trestle && Tab.wf 0 s.sec.otp && Tab.wf 0xFF s.sec.flash

/-! ## OTP and the lifecycle (R509, R511) -/

/-- Bit `i` of the OTP byte at `a` is burned. -/
def otpBit (s : State) (a i : Nat) : Bool := (Tab.get 0 s.sec.otp a).getLsbD i

/-- Every bit burned in `s` is burned in `t`. -/
def OtpRises (s t : State) : Prop := ∀ a i, otpBit s a i = true → otpBit t a i = true

/-- The lifecycle code is one of the thermometer codes. -/
def lifeLegal (s : State) : Prop := lifecycleCode s = 0 ∨ lifecycleCode s = 1 ∨ lifecycleCode s = 3 ∨ lifecycleCode s = 7

/-! ## Flash (R513) -/

/-- The areas that R513 gives a writer: the commit sectors, the last-words area, and the firmware slots. -/
def flashArea (a : Nat) : Prop :=
  (0x10000 ≤ a ∧ a < 0x12000) ∨ (0x20000 ≤ a ∧ a < 0x30000) ∨ (0x100000 ≤ a ∧ a < 0x500000)

/-- A byte of flash. -/
def flashByte (s : State) (a : Nat) : Byte := Tab.get 0xFF s.sec.flash a

/-! ## The invariant -/

/-- OTP and flash are in canonical form, and the lifecycle code is a thermometer code. -/
def Inv (s : State) : Prop := Tab.wf 0 s.sec.otp = true ∧ Tab.wf 0xFF s.sec.flash = true ∧ lifeLegal s

/-! ## Cold resets (R534, R539, R545) -/

/-- The commands that may end in a cold reset, after which STATUS_CHG and the interrupt start from their reset values. -/
def coldRow : Instr → Bool
  | .powerOn => true
  | .resetNAssert => true
  | .warmResetEscalation => true
  | .pfailNReturn => true
  | _ => false

/-! ## Mailbox commands (R487 to R492) -/

/-- Mailbox `m`'s command is next in acceptance order and carries the opcode of `c`; its payload is `p`, and it passes every
check of R491 up to the object exclusion. -/
def Accepts (s : State) (m : Nat) (c : Spec) (r : Req) (p : List Byte) : Prop :=
  headReq s m c.op = some r ∧ reqPayload s r = p ∧ firstRefusal (takeReq s) r c p = none

/-- The command of mailbox `m` completes from `old` with OK and the response `resp`, its effect having led to `s`: R489, and then
what R467 and R468 say of the status and the interrupt. -/
def answered (m : Nat) (resp : List Byte) (old s : State) : State := settle old (finish m (okWith resp) s)

/-- The command of mailbox `m` completes from `old` with a refusal. -/
def refused (m : Nat) (status detail : Nat) (old s : State) : State := settle old (finish m ⟨status, detail, []⟩ s)

/-- The command of mailbox `m` stays under way from `old`, holding its objects and its answer, its effect having led to `s`
(R489, R492): COMMAND_COMPLETE publishes the answer. -/
def held (m op : Nat) (p : List Byte) (objs : List Objt) (ans : Reply) (old s : State) : State :=
  settle old (hold m op p objs false (some ans) s).1

/-- The response that mailbox `m` shows for a request: in toll memory for an indirect one, else in its response area. -/
def responseAt (s : State) (m : Nat) (r : Req) (n : Nat) : List Byte :=
  if r.rspInd then tollRead s r.rspAddr n else memRead (getMbx s m).rsp 0 n

/-! ## The command table (R501) -/

/-- The mailbox of a mailbox command and what the tables of R501 say of it: opcode, version, sizes, reserved fields, ranges and
objects. None for every other command. -/
def specOf : Instr → Option (Fin 16 × Spec)
  | .hello m => some (m, specHello)
  | .goodbye m => some (m, specGoodbye)
  | .getCaps m => some (m, specGetCaps)
  | .timebaseSwitch m _ => some (m, specTimebase)
  | .timeRead m => some (m, specTimeRead)
  | .wcIncSet m => some (m, specWcInc)
  | .wcStep m => some (m, specWcStep)
  | .wcSet m => some (m, specWcSet)
  | .ksConfig m => some (m, specKsConfig)
  | .keystoneLaunch m => some (m, specLaunch)
  | .ksRead m => some (m, specKsRead)
  | .camConfig m => some (m, specCamConfig)
  | .camDiscover m _ => some (m, specSel 0x0202 4 4 (fun i => [.port i]))
  | .camCtrl m _ _ => some (m, specCamCtrl)
  | .camPower m => some (m, specCamPower)
  | .camRead m => some (m, specSel 0x0205 4 40 (fun i => [.port i]))
  | .apConfig m => some (m, specApConfig)
  | .apTable m => some (m, specApTable)
  | .rmpConfig m => some (m, specRmpConfig)
  | .rmpRead m => some (m, specSel 0x0402 4 20 (fun i => [.ramp i]))
  | .puConfig m => some (m, specPuConfig)
  | .puRefArm m => some (m, specSel 0x0502 4 0 (fun u => [.pu u]))
  | .puLatch m => some (m, specSel 0x0503 4 32 (fun u => [.pu u]))
  | .puRead m => some (m, specSel 0x0504 4 184 (fun u => [.pu u]))
  | .ltConfig m => some (m, specLtConfig)
  | .ltArm m => some (m, specLtArm)
  | .puClear m => some (m, specPuClear)
  | .fioConfig m => some (m, specFioConfig)
  | .fioSet m => some (m, specFioSet)
  | .fioRelease m => some (m, specFioRelease)
  | .fioRead m => some (m, specFioRead)
  | .fioClear m => some (m, specFioClear)
  | .trigConfig m => some (m, specTrigConfig)
  | .trigSet m => some (m, specTrigSet)
  | .vpSet m => some (m, specVpSet)
  | .vpRead m => some (m, specSel 0x0702 4 216 (fun i => [.port i]))
  | .seqSet m => some (m, specSeqSet)
  | .modelStage m => some (m, specModelStage)
  | .modelCommit m => some (m, specImage 0x0802 0)
  | .modelSwitch m => some (m, { specImage 0x0803 0 with objs := fun p => [.image (fld1 p 0), .sequencer] })
  | .modelRetire m => some (m, specImage 0x0804 0)
  | .modelList m => some (m, plain 0x0805 0x0100 0 256)
  | .swingRead m => some (m, plain 0x0806 0x0100 0 32)
  | .crossingStart m => some (m, specCrossingStart)
  | .crossingStop m => some (m, specCrossingStop)
  | .crossingStatus m => some (m, specCrossingStatus)
  | .memAlloc m => some (m, specMemAlloc)
  | .memFree m => some (m, plain 0x0A02 0x0100 8 0)
  | .queueCreate m => some (m, specQueueCreate)
  | .queueDestroy m => some (m, specQueue 0x0A04 8 0)
  | .queueRead m => some (m, specQueue 0x0A05 8 32)
  | .queueAttach m => some (m, specQueueAttach)
  | .tollConfig m => some (m, specTollConfig)
  | .tollRead m => some (m, plain 0x0A08 0x0100 0 400)
  | .recStart m => some (m, specRecStart)
  | .recStop m => some (m, plain 0x0B02 0x0102 0 0)
  | .recRelease m => some (m, plain 0x0B03 0x0102 8 0)
  | .recRead m => some (m, plain 0x0B04 0x0102 0 16)
  | .lotOpen m => some (m, specLotOpen)
  | .checkpoint m => some (m, { plain 0x0B06 0x0102 0 8 with objs := fun _ => [.sequencer] })
  | .replayOpen m => some (m, specReplayOpen)
  | .replayRun m => some (m, { plain 0x0B08 0x0102 0 0 with objs := fun _ => [.sequencer] })
  | .replayStop m => some (m, { plain 0x0B09 0x0102 0 0 with objs := fun _ => [.sequencer] })
  | .spanConfig m => some (m, specSpanConfig)
  | .spanRoute m => some (m, specSpanRoute)
  | .spanRetrain m => some (m, specPort 0x0C03 0)
  | .laneTest m => some (m, specLaneTest)
  | .spanRead m => some (m, specPort 0x0C05 56)
  | .spanWindow m => some (m, specSpanWindow)
  | .spanCopy m => some (m, specSpanCopy)
  | .stewardConfig m _ => some (m, specStewardConfig)
  | .stewardFix m => some (m, specStewardFix)
  | .pwrSet m => some (m, specPwrSet)
  | .pwrRead m => some (m, plain 0x0D04 0x0100 0 864)
  | .pwrPadRelease m => some (m, { plain 0x0D05 0x0202 8 0 with rsv := fun _ => [rsvAll 1 7], ranges := fun _ p => rangesOf [(decide (fld1 p 0 < 64), 0)] })
  | .fwUpdate m _ => some (m, specFwUpdate)
  | .fwInfo m => some (m, plain 0x0E02 0x0100 0 112)
  | .attest m _ => some (m, { plain 0x0F01 0x0201 32 0 with resp := fun s _ => attestLen s })
  | .unitTest m _ => some (m, { plain 0x1001 0x0100 0 0 with objs := fun _ => [.units, .sequencer] })
  | .unitMap m => some (m, plain 0x1002 0x0100 0 328)
  | .slotRead m => some (m, specSlotRead)
  | .kvStatus m => some (m, { specImage 0x1004 20 with ver := 0x0101 })
  | .kvDump m => some (m, specKvDump)
  | .kvTrackReset m => some (m, specKvReset)
  | .dramRead m => some (m, plain 0x1007 0x0100 0 136)
  | .resetCmd m => some (m, specReset)
  | _ => none

end Sys2Proof.Machine
end

