-- ==== Sys2Proof/Certificates/Slice0/Obligations.lean ====
section
/-! DEFINITION. Sys2Proof/Certificates/Slice0/Obligations.lean: the statements for the provers. -/

open Sys2Proof Sys2Proof.Machine

/-- A step runs the command at the front of the queue (R486, 16_gatehouse_protocol.md). For every command c and every
state s whose queue is c followed by rest, step s is exec c on s with the queue's rest. The queue is the model's own
(log entry 1). -/
def Obligations.StepRunsTheFront : Prop :=
  ∀ (c : Instr) (rest : List Instr) (s : State), s.pending = c :: rest → step s = exec c { s with pending := rest }

/-- On an empty queue one 10 ns tick of timekeeping passes (R403, R409, R410, 13_span_links_time.md). With no command
waiting and no wall-clock write waiting, a step adds KS_INC to the keystone count (which sticks at its largest value)
and WC_INC to the wall clock, whose NANOSECONDS lie below 10^9, carrying into SECONDS at 10^9; beside timekeeping,
only the queue manager (the event of R403, where the count first sticks), the host interface and what leaves the part
may change. That the tick is what an empty queue does is the model's choice (log entry 1). -/
def Obligations.EmptyQueueTicks : Prop :=
  ∀ s : State, s.pending = [] → s.time.wcPending = [] →
    ∃ t, step s = .next t ∧
      t.time.ks = (if 2 ^ 88 ≤ s.time.ks.toNat + s.time.ksInc.toNat then BitVec.allOnes 88
        else s.time.ks + s.time.ksInc.zeroExtend 88) ∧
      (s.time.wcNs.toNat * 2 ^ 24 + s.time.wcFrac.toNat + s.time.wcInc.toNat < 1000000000 * 2 ^ 24 →
        t.time.wcNs.toNat * 2 ^ 24 + t.time.wcFrac.toNat =
            s.time.wcNs.toNat * 2 ^ 24 + s.time.wcFrac.toNat + s.time.wcInc.toNat ∧
          t.time.wcSec = s.time.wcSec) ∧
      (s.time.wcNs.toNat < 1000000000 →
        1000000000 * 2 ^ 24 ≤ s.time.wcNs.toNat * 2 ^ 24 + s.time.wcFrac.toNat + s.time.wcInc.toNat →
        t.time.wcNs.toNat * 2 ^ 24 + t.time.wcFrac.toNat + 1000000000 * 2 ^ 24 =
            s.time.wcNs.toNat * 2 ^ 24 + s.time.wcFrac.toNat + s.time.wcInc.toNat ∧
          t.time.wcSec = s.time.wcSec + 1) ∧
      ∃ k q h o, t = { s with time := k, q := q, host := h, out := o }

/-- No command changes the queue of waiting commands (R486, 16_gatehouse_protocol.md). Whenever a command goes on, the
commands that wait are the ones that waited before. The queue is the model's own (log entry 1). -/
def Obligations.NoCommandTouchesTheQueue : Prop :=
  ∀ (c : Instr) (s t : State), exec c s = .next t → t.pending = s.pending

/-- Bits in OTP only ever change from 0 to 1 (R509, 17_boot_security.md). From every state, whatever command a step runs,
every OTP bit that was 1 before it is 1 after it: no reset, no monitor command, no firmware start and no update clears
a burned bit. -/
def Obligations.OtpBitsOnlyRise : Prop :=
  ∀ s t : State, step s = .next t → ∀ a i, otpBit s a i = true → otpBit t a i = true

/-- The lifecycle state only ever advances (R511, 17_boot_security.md). From every state, a step leaves the lifecycle
where it stands or moves it forward in the order BLANK, PROVISIONED, PRODUCTION, RETURNED; and, with OTP and flash in
canonical form, a lifecycle code that is one of the four thermometer codes stays one of the four. -/
def Obligations.LifecycleOnlyAdvances : Prop :=
  ∀ s t : State, step s = .next t →
    lifecycle s ≤ lifecycle t ∧ (Tab.wf 0 s.sec.otp = true → Tab.wf 0xFF s.sec.flash = true → lifeLegal s → lifeLegal t)

/-- OTP and flash stay sound, and flash changes only where R513 lets it (R513, R519, R543, 17_boot_security.md,
18_faults_resets.md). The invariant Inv (OTP and flash in canonical form, a thermometer code of the lifecycle) is kept
by every step, and under it no step changes a byte of flash outside the commit sectors, the last-words area and the
firmware slots: neither the descriptor nor anything at or beyond 0x0050_0000. -/
def Obligations.FlashChangesOnlyInItsAreas : Prop :=
  ∀ s t : State, Inv s → step s = .next t → Inv t ∧ ∀ a, ¬ flashArea a → flashByte t a = flashByte s a

/-- The state after reset meets the invariant (R509, R511, R513, R563, 17_boot_security.md, 19_signals_package.md). At
reset every byte memory is in canonical form and the lifecycle code is a thermometer code. OTP blank and flash erased
at reset are the model's choice (log entry 17). -/
def Obligations.ResetIsSound : Prop :=
  Inv State.reset ∧ Memory.wf State.reset = true

/-- Every command goes on but a deck transfer past the end of its space (R450, R117, R120, 04_girders_piers_trestles.md,
15_memory_host_queues.md). No command is refused by the model, and every command answers a next state in every state,
save that DECK_LOAD, DECK_STORE, SWING_LOAD and SEND may end in the fault of an address that does not exist. -/
def Obligations.OnlyDeckTransfersStop : Prop :=
  ∀ (c : Instr) (s : State), (∃ t, exec c s = .next t) ∨
    (exec c s = .fault .noSuchAddress ∧ ∃ th, c = .deckLoad th ∨ c = .deckStore th ∨ c = .swingLoad th ∨ c = .sendCmd th)

/-- A changed DEV_STATUS bit sets STATUS_CHG, and a cause that becomes active sends vector 0 (R467, R468,
15_memory_host_queues.md). Whatever command goes on, from every state, but for the four that may end in a cold reset
(which leaves the reset values, log entry 31): if DEV_STATUS differs afterwards, STATUS_CHG is set; and if the AND of
INT_CAUSE and INT_EN was zero before the command and is nonzero after it, vector 0 has been sent, or, where it is
masked, its pending bit is set. -/
def Obligations.StatusChangesAreSeen : Prop :=
  ∀ (c : Instr) (s t : State), coldRow c = false → exec c s = .next t →
    (devStatus t ≠ devStatus s → t.host.statusChg = true) ∧
    (intActive s = false → intActive t = true →
      (vecMasked t 0 = true ∧ t.host.pba.getLsbD 0 = true) ∨ (vecMasked t 0 = false ∧ Out.msix 0 ∈ t.out))

/-- A mailbox command waits its turn, and a failing check is the whole of its effect (R491, R492, R490, R495,
16_gatehouse_protocol.md). For each of the 86 mailbox commands, in every state: while it is not at the head of the
acceptance order with its own opcode it changes nothing; and where it is, and a check of R491 fails, the command
leaves the order and is answered with that refusal, and nothing else happens (what R467 and R468 say of the status and
the interrupt apart). -/
def Obligations.MailboxChecksComeFirst : Prop :=
  ∀ (c : Instr) (m : Fin 16) (k : Spec) (s : State), specOf c = some (m, k) →
    (headReq s m k.op = none → exec c s = .next (settle s s)) ∧
    (∀ r rep, headReq s m k.op = some r → firstRefusal (takeReq s) r k (reqPayload s r) = some rep →
      exec c s = .next (settle s (finish m rep (takeReq s))))

/-- Completion writes the response, STATUS and DETAIL, DONE and MBX_DONE (R489, R467, R499, 15_memory_host_queues.md,
16_gatehouse_protocol.md). When mailbox m completes with a reply, RSP_LEN is the response's length, STATUS and DETAIL
are the reply's, STATE is DONE, MBX_DONE bit m is set beside those already set, and the response stands in its place:
in the response area for a direct one, which elsewhere keeps its bytes, in toll memory for an indirect one, which
elsewhere keeps its bytes. Every other mailbox and the rest of the device are as they were, but for the time of the
last toll access after an indirect response. -/
def Obligations.CompletionWritesTheMailbox : Prop :=
  ∀ (s : State) (m : Fin 16) (rep : Reply) (r : Req), (getMbx s m).cmd = some r →
    let t := finish m rep s
    (getMbx t m).st = .done ∧ (getMbx t m).status = BitVec.ofNat 16 rep.status ∧
      (getMbx t m).detail = BitVec.ofNat 32 rep.detail ∧ (getMbx t m).rspLen = BitVec.ofNat 32 rep.resp.length ∧
      (∀ i, t.host.mbxDone.getLsbD i = (s.host.mbxDone.getLsbD i || decide (i = m.val))) ∧
      responseAt t m r rep.resp.length = rep.resp ∧
      (∀ a, r.rspInd = true ∨ rep.resp.length ≤ a → Tab.get 0 (getMbx t m).rsp a = Tab.get 0 (getMbx s m).rsp a) ∧
      (∀ a, r.rspInd = false ∨ a < r.rspAddr ∨ r.rspAddr + rep.resp.length ≤ a →
        Tab.get 0 t.mem.toll a = Tab.get 0 s.mem.toll a) ∧
      (∀ n : Nat, n ≠ m.val → getMbx t n = getMbx s n) ∧
      ∃ g h x, t = { s with
        gh := { s.gh with mbx := g }, host := { s.host with mbxDone := h },
        mem := { s.mem with toll := x, tollAt := if r.rspInd then now s else s.mem.tollAt } }

/-- A write of GO latches a command, or sets DB_REJECT (R488, 16_gatehouse_protocol.md). A write of 1 to GO of mailbox m,
by REGISTER_WRITE to its GO word: with FW_READY set and the mailbox IDLE or DONE, the header registers and the 256
bytes of the request area are latched as the command, with whether its session is open, ACCEPTED rises by one, STATE
becomes BUSY, and the mailbox joins the acceptance order behind those already in it; otherwise only DB_REJECT is set,
and the running command, STATUS and the response are untouched. -/
def Obligations.GoIsAcceptedOrRejected : Prop :=
  ∀ (s : State) (m : Fin 16),
    let x := getMbx s m
    let w := exec (.registerWrite (.bar0 (BitVec.ofNat 16 (0x1000 + 0x40 * m.val + 0x1C)) false) 1) s
    (fwReady s = true → x.st ≠ .busy → ∃ t, w = .next t ∧
      (getMbx t m).cmd = some ⟨x.opcode.toNat, x.reqLen.toNat, x.session, x.rspInd, x.reqInd, x.reqAddr.toNat, x.rspAddr.toNat,
        x.rspMax.toNat, memRead x.req 0 256, s.gh.session == some x.session⟩ ∧
      (getMbx t m).accepted = x.accepted + 1 ∧ (getMbx t m).st = .busy ∧ t.gh.order = s.gh.order ++ [m.val] ∧
      ∃ g h o, t = { s with gh := { s.gh with mbx := g, order := s.gh.order ++ [m.val] }, host := h, out := o }) ∧
    (fwReady s = false ∨ x.st = .busy → ∃ t, w = .next t ∧ getMbx t m = { x with dbReject := true } ∧
      ∃ g h o, t = { s with gh := { s.gh with mbx := g }, host := h, out := o })

/-- HELLO, GOODBYE and GET_CAPS open, close and describe a session (R495, R496, R497, R498, R551,
16_gatehouse_protocol.md, 18_faults_resets.md). HELLO, with no session in force or with its TAKE_OVER bit set, and
with a version v of R497 in the host's range and the highest such, answers v, the next session ID, the limits of the
range, the running part and firmware versions, the previous host ID and the keystone count, and puts the session, v
and the new host ID in force; in restricted service it posts RESTRICTED_ENTER again. HELLO with a session in force and
the bit clear is refused with SESSION_ACTIVE; with no version of R497 in the host's range it is refused with
VERSION_MISMATCH and a response that carries the limits of the range, the firmware version and the part revision.
GOODBYE ends the session. GET_CAPS answers the 64 bytes of R498, with the grade, the bound units and the grade's deck
and toll space, and changes nothing. -/
def Obligations.SessionCommandsComplete : Prop :=
  (∀ s (m : Fin 16) r p v, Accepts s m specHello r p → s.gh.session = none ∨ bitOf (fld1 p 4) 0 = true →
    v ∈ versions → fld p 0 2 ≤ v → v ≤ fld p 2 2 → (∀ w ∈ versions, fld p 0 2 ≤ w → w ≤ fld p 2 2 → w ≤ v) →
    let id : BitVec 16 := if s.gh.lastSession + 1 = 0 then 1 else s.gh.lastSession + 1
    let u := { takeReq s with
      gh := { (takeReq s).gh with session := some id, lastSession := id, version := v, hostId := BitVec.ofNat 64 (fld p 8 8) } }
    exec (.hello m) s = .next (answered m
      (leBytes 2 v ++ leBytes 2 id.toNat ++ leBytes 2 0x0100 ++ leBytes 2 0x0203 ++ leBytes 2 0x0302 ++ [2, 0] ++
        leBytes 8 s.gh.hostId.toNat ++ leBytes 8 (now s) ++ zeros 4) s
      (if s.rst.rs = 0 then u else post 0x2805 0 0 s.rst.rs.toNat 0 u))) ∧
  (∀ s (m : Fin 16) r p, Accepts s m specHello r p → s.gh.session ≠ none → bitOf (fld1 p 4) 0 = false →
    exec (.hello m) s = .next (refused m 0x0011 0 s (takeReq s))) ∧
  (∀ s (m : Fin 16) r p, Accepts s m specHello r p → s.gh.session = none ∨ bitOf (fld1 p 4) 0 = true →
    (∀ w ∈ versions, ¬(fld p 0 2 ≤ w ∧ w ≤ fld p 2 2)) →
    exec (.hello m) s = .next (settle s (finish m ⟨0x0012, 0, zeros 4 ++ leBytes 2 0x0100 ++ leBytes 2 0x0203 ++
      leBytes 2 0x0302 ++ [2, 0] ++ zeros 20⟩ (takeReq s)))) ∧
  (∀ s (m : Fin 16) r p, Accepts s m specGoodbye r p →
    exec (.goodbye m) s = .next (answered m [] s { takeReq s with gh := { (takeReq s).gh with session := none } })) ∧
  (∀ s (m : Fin 16) r p, Accepts s m specGetCaps r p →
    exec (.getCaps m) s = .next (answered m (capsResp s) s (takeReq s)) ∧ (capsResp s).length = 64 ∧
      fld (capsResp s) 8 1 = boundGirders s % 256 ∧ fld (capsResp s) 9 1 = 8 * boundClusters s % 256 ∧
      fld (capsResp s) 0 1 = (gradeByte s).toNat ∧ fld (capsResp s) 32 4 = deckMib s ∧ fld (capsResp s) 36 4 = tollMib s)

/-- TIMEBASE_SWITCH, TIME_READ, WC_INC_SET, WC_STEP and WC_SET (R403, R409, R410, R411, R429, 13_span_links_time.md,
14_power_steward.md). TIMEBASE_SWITCH on the internal timebase switches to REFCLK where 95 to 105 MHz is measured and
is refused with REFCLK otherwise; on REFCLK it answers OK and changes nothing. TIME_READ answers the keystone count,
the wall clock's seconds and nanoseconds, and zeros, and changes nothing. WC_INC_SET, WC_STEP and WC_SET leave their
write for the next tick, behind those already waiting, and change nothing else. -/
def Obligations.TimeCommandsComplete : Prop :=
  (∀ s (m : Fin 16) (hz : BitVec 32) r p, Accepts s m specTimebase r p →
    (s.time.internal = true → 95000000 ≤ hz.toNat → hz.toNat ≤ 105000000 →
      exec (.timebaseSwitch m hz) s =
        .next (answered m [] s { takeReq s with time := { s.time with internal := false } })) ∧
    (s.time.internal = true → (hz.toNat < 95000000 ∨ 105000000 < hz.toNat) →
      exec (.timebaseSwitch m hz) s = .next (refused m 0x0030 0 s (takeReq s))) ∧
    (s.time.internal = false → exec (.timebaseSwitch m hz) s = .next (answered m [] s (takeReq s)))) ∧
  (∀ s (m : Fin 16) r p, Accepts s m specTimeRead r p →
    exec (.timeRead m) s = .next (answered m
      (leBytes 8 (s.time.ks.toNat / 2 ^ 24) ++ leBytes 8 s.time.wcSec.toNat ++ leBytes 4 s.time.wcNs.toNat ++ zeros 4) s (takeReq s))) ∧
  (∀ s (m : Fin 16) r p, Accepts s m specWcInc r p →
    exec (.wcIncSet m) s = .next (answered m [] s { takeReq s with
      time := { s.time with wcPending := s.time.wcPending ++ [.inc (BitVec.ofNat 32 (fld p 0 4))] } })) ∧
  (∀ s (m : Fin 16) r p, Accepts s m specWcStep r p →
    exec (.wcStep m) s = .next (answered m [] s { takeReq s with
      time := { s.time with wcPending := s.time.wcPending ++ [.step (sx 64 (fld p 0 8))] } })) ∧
  (∀ s (m : Fin 16) r p, Accepts s m specWcSet r p →
    exec (.wcSet m) s = .next (answered m [] s { takeReq s with
      time := { s.time with wcPending := s.time.wcPending ++ [.set (fld p 0 6) (fld p 8 4)] } }))

/-- KS_CONFIG, KEYSTONE_LAUNCH and KS_READ, and the time-outs of the sync state (R270, R403, R404, R405, R407, R408, R504,
R505, 08_determinism_replay.md, 13_span_links_time.md, 16_gatehouse_protocol.md). Leaving LOCKED cancels an armed
launch with LAUNCH_ABORT and, while crossings run, posts KS_UNLOCKED. KS_CONFIG takes up its ROLE and fixed port: a
role other than the one in force enters UNSYNC (leaving LOCKED); GRANDMASTER stands at distance 0 under its own node
ID, OFF at distance 255, both without a parent and with KS_INC of exactly 10 ns; a follower's parent is the port that
R404 chooses, at one more than its distance, and without one the 10 ms of R405 begin. KEYSTONE_LAUNCH on a
synchronised stopped device on REFCLK, at least 1 ms ahead, with a committed ACTIVE model present, arms the launch and
answers the keystone count; on a device that is not so, or that holds a launch, it is refused with STATE, and for an L
that is too near with INVALID_PARAM. KS_READ answers KS_STATUS and the count. A follower ACQUIRE or LOCKED goes to
HOLDOVER once 1 ms has passed without SYNC_FU, and to UNSYNC once 10 ms have passed without a parent. Which image a
launch runs is the model's choice (log entry 20). -/
def Obligations.KeystoneCommandsComplete : Prop :=
  let left (s : State) : State :=
    let a := match s.seq.launchArmed with
      | some l => post 0x250A 0 0 (l.1 % 2 ^ 32) (l.1 / 2 ^ 32) { s with seq := { s.seq with launchArmed := none } }
      | none => s
    if s.seq.started then post 0x250B 0 0 (ux 32 (offNs s.time)) 0 a else a
  let move (st : KsSt) (s : State) : State :=
    let a := if s.time.st = .locked ∧ st ≠ .locked then left s else s
    { a with time := { s.time with st := st, inTol := 0, outTol := 0 } }
  (∀ s (m : Fin 16) r p, Accepts s m specKsConfig r p →
    let fixed := if bitOf (fld1 p 1) 7 then some (fld1 p 1 % 8) else none
    let role : KsRole := if fld1 p 0 = 1 then .grandmaster else if fld1 p 0 = 2 then .follower else .off
    let u := if s.time.role = role then takeReq s else move .unsync (takeReq s)
    (fld1 p 0 ≠ 2 → exec (.ksConfig m) s = .next (answered m [] s { u with
      time := { u.time with
        role := role, fixedParent := fixed, parent := none, hops := if fld1 p 0 = 1 then 0 else 0xFF,
        gm := if fld1 p 0 = 1 then s.span.node.toNat else u.time.gm, ksInc := 0x0A000000, noParentAt := none } })) ∧
    (fld1 p 0 = 2 → s.time.role ≠ .follower →
      let c := chooseParent { s with time := { s.time with fixedParent := fixed } }
      exec (.ksConfig m) s = .next (answered m [] s { u with
        time := { u.time with
          role := .follower, fixedParent := fixed, parent := c.map (fun x => x.1),
          hops := (c.map (fun x => min 0xFF (x.2.dist + 1))).getD 0xFF, gm := (c.map (fun x => x.2.gm)).getD s.time.gm,
          noParentAt := if c.isNone then s.time.noParentAt.or (some (now s)) else none,
          t1 := if c.map (fun x => x.1) = s.time.parent then s.time.t1 else none } }))) ∧
  (∀ s (m : Fin 16) r p i, Accepts s m specLaunch r p → s.time.internal = false →
    (s.time.st = .locked ∨ s.time.role = .grandmaster) → s.seq.started = false → s.seq.launchArmed = none →
    now s + 1000000 ≤ fld p 0 8 → launchImage s = some i →
    exec (.keystoneLaunch m) s = .next (answered m (leBytes 8 (now s)) s { takeReq s with
      seq := { s.seq with
        launchArmed := some (fld p 0 8, i), img := i, rated := false,
        rating := (((getImg s i).img.ratings.head?).map (fun r => r.idx)).getD 0, crossing := BitVec.allOnes 64, flags := [] } })) ∧
  (∀ s (m : Fin 16) r p, Accepts s m specLaunch r p →
    (s.time.internal = true ∨ (s.time.st ≠ .locked ∧ s.time.role ≠ .grandmaster) ∨ s.seq.started = true ∨
      s.seq.launchArmed ≠ none → exec (.keystoneLaunch m) s = .next (refused m 0x0019 0 s (takeReq s))) ∧
    (s.time.internal = false → (s.time.st = .locked ∨ s.time.role = .grandmaster) → s.seq.started = false →
      s.seq.launchArmed = none → fld p 0 8 < now s + 1000000 →
      exec (.keystoneLaunch m) s = .next (refused m 0x0017 0 s (takeReq s)))) ∧
  (∀ s (m : Fin 16) r p, Accepts s m specKsRead r p →
    exec (.ksRead m) s = .next (answered m (leBytes 4 (ksStatus s) ++ zeros 4 ++ leBytes 8 (now s)) s (takeReq s))) ∧
  (∀ s, s.time.role = .follower → (s.time.st = .acquire ∨ s.time.st = .locked) → s.time.lastFu + 1000000 ≤ now s →
    exec .ksHoldoverTimeout s = .next (settle s (move .holdover s))) ∧
  (∀ s a, s.time.role = .follower → s.time.noParentAt = some a → a + 10000000 ≤ now s →
    exec .ksParentTimeout s = .next (settle s (move .unsync s)))

/-- CAM_CONFIG, CAM_POWER and CAM_READ (R283, R285, R286, R297, R298, R261, R504, 08_determinism_replay.md,
09_camera_ingest.md, 16_gatehouse_protocol.md). CAM_CONFIG of a port with which no crossing runs stores its 32 bytes
and records them; with PIXFMT and ROI_W as they were the tables are kept, with either changed they are discarded with
LUT_EN and FF_EN and an exposure group in the making; of a port with which a crossing runs it is refused with
BUSY_RUNNING. CAM_POWER that would switch on a connection whose latched fault it does not clear is refused with STATE;
else it clears the faults it names, switches the connections of its mask, records itself and answers the levels of the
sixteen connections. CAM_READ answers CPORT_STATUS and the eight counters and clears these. -/
def Obligations.CameraCommandsComplete : Prop :=
  (∀ s (m : Fin 16) r p, Accepts s m specCamConfig r p → portRuns s (fld1 p 0) = false →
    let i := fld1 p 0
    let c := getCam s i
    (camPixfmt c.cfg = camPixfmt (p.drop 8) → camRoiW c.cfg = camRoiW (p.drop 8) →
      exec (.camConfig m) s = .next (answered m [] s (wakeCfg (46 + i) (recConfig i 0x0201 p
        (setCam (takeReq s) i { c with configured := true, cfg := p.drop 8 }))))) ∧
    (camPixfmt c.cfg ≠ camPixfmt (p.drop 8) ∨ camRoiW c.cfg ≠ camRoiW (p.drop 8) →
      exec (.camConfig m) s = .next (answered m [] s (wakeCfg (46 + i) (recConfig i 0x0201 p
        (setCam (takeReq s) i { c with
          configured := true, cfg := p.drop 8, active := ⟨[], []⟩, shadow := ⟨[], []⟩, shadowNew := false,
          ap := apNoTables c.ap, apPending := c.apPending.map apNoTables, group := [] })))))) ∧
  (∀ s (m : Fin 16) r p, Accepts s m specCamConfig r p → portRuns s (fld1 p 0) = true →
    exec (.camConfig m) s = .next (refused m 0x0002 0 s (takeReq s))) ∧
  (∀ s (m : Fin 16) r p, Accepts s m specCamPower r p →
    let mask (i : Nat) : BitVec 4 := BitVec.ofNat 4 (fld p 0 2 / 16 ^ i)
    let on (i : Nat) : BitVec 4 := BitVec.ofNat 4 (fld p 2 2 / 16 ^ i)
    let clr (i : Nat) : BitVec 4 := BitVec.ofNat 4 (fld p 4 2 / 16 ^ i)
    ((∃ i : Fin 4, mask i &&& on i &&& (getCam s i).pocxpFault &&& ~~~(clr i) ≠ 0) →
      exec (.camPower m) s = .next (refused m 0x0019 0 s (takeReq s))) ∧
    ((∀ i : Fin 4, mask i &&& on i &&& (getCam s i).pocxpFault &&& ~~~(clr i) = 0) →
      ∃ t, exec (.camPower m) s = .next (answered m (leBytes 2 ((getCam t 0).pocxpOn.toNat + (getCam t 1).pocxpOn.toNat * 16 +
          (getCam t 2).pocxpOn.toNat * 256 + (getCam t 3).pocxpOn.toNat * 4096) ++ zeros 6) s (recConfig 0 0x0204 p t)) ∧
        { t with cams := s.cams } = takeReq s ∧
        ∀ i : Fin 4, getCam t i = { getCam s i with
          pocxpOn := ((getCam s i).pocxpOn &&& ~~~(mask i)) ||| (mask i &&& on i),
          pocxpFault := (getCam s i).pocxpFault &&& ~~~(clr i) })) ∧
  (∀ s (m : Fin 16) r p, Accepts s m (specSel 0x0205 4 40 (fun i => [.port i])) r p →
    exec (.camRead m) s = .next (answered m
      (leBytes 4 (cportStatus s (fld1 p 0)) ++ zeros 4 ++ ctrsBytes (getCam s (fld1 p 0)).ctrs) s
      (setCam (takeReq s) (fld1 p 0) { getCam s (fld1 p 0) with ctrs := List.replicate 8 Ctr0 })))

/-- CAM_DISCOVER, CAM_CTRL and AP_TABLE act and stay under way; AP_CONFIG waits for the next table boundary (R275, R285,
R288, R295, R489, R501, 09_camera_ingest.md, 16_gatehouse_protocol.md). CAM_DISCOVER of a configured port whose camera
answers and offers every configured connection at the configured rate brings the port up; where the camera answers and
the port is not configured or a connection or the rate is not offered, it leaves the port down, to be answered with
UNSUPPORTED; where the camera does not answer it leaves the port down, to be answered with TIMEOUT (that answer, and
the one of an unconfigured port, are the model's choice, log entry 59). CAM_CTRL sends the control packet to the
camera and holds the camera's answer, with the data of a read; CAM_CTRL_TIMEOUT replaces it by TIMEOUT. AP_TABLE of a
configured port copies the table from toll memory into the shadow set, which is not complete while the command is
under way; of an unconfigured port it is refused with STATE. CAM_DISCOVER, CAM_CTRL and AP_TABLE each hold the port's
objects and their answer as a running command, and the first two are recorded as they act. AP_CONFIG of a configured
port stores its 32 bytes as pending, recorded with the first line they govern; of an unconfigured port it is refused
with STATE, and while a crossing runs with the port and EXPOSURES, AP or IN_LINE differ, with BUSY_RUNNING. -/
def Obligations.CameraLongCommandsStart : Prop :=
  (∀ s (m : Fin 16) (offer : CamOffer) r p, Accepts s m (specSel 0x0202 4 4 (fun i => [.port i])) r p →
    let i := fld1 p 0
    let c := getCam s i
    let need := BitVec.ofNat 4 (2 ^ camConns c.cfg - 1)
    let down := wakeCfg (46 + i) (recConfig i 0x0202 p (setCam (takeReq s) i { c with discovered := false, connUp := 0 }))
    (offer.answers = true → c.configured = true → offer.conns &&& need = need → camRate c.cfg ≤ offer.rate.toNat →
      let u := wakeCfg (46 + i) (recConfig i 0x0202 p (setCam (takeReq s) i { c with discovered := true, connUp := need }))
      exec (.camDiscover m offer) s =
        .next (settle s (hold m 0x0202 p [.port i] false (some (okWith (leBytes 4 (cportStatus u i)))) u).1)) ∧
    (offer.answers = true → c.configured = false ∨ offer.conns &&& need ≠ need ∨ offer.rate.toNat < camRate c.cfg →
      exec (.camDiscover m offer) s = .next (settle s (hold m 0x0202 p [.port i] false (some (refuse 0x0014)) down).1)) ∧
    (offer.answers = false →
      exec (.camDiscover m offer) s = .next (settle s (hold m 0x0202 p [.port i] false (some (refuse 0x001C)) down).1))) ∧
  (∀ s (m : Fin 16) (ack : BitVec 8) (dat : List Byte) r p, Accepts s m specCamCtrl r p →
    let head := [ack, 0] ++ leBytes 2 (fld p 16 2) ++ zeros 4
    let u := recConfig (fld1 p 0) 0x0203 p (emit (.camera (fld1 p 0) (p.drop 8)) (takeReq s))
    (fld1 p 8 = 0 → exec (.camCtrl m ack dat) s = .next (settle s (hold m 0x0203 p [.port (fld1 p 0)] false
      (some (okWith (head ++ padTo (fld p 16 2) dat))) u).1)) ∧
    (fld1 p 8 ≠ 0 → exec (.camCtrl m ack dat) s = .next (settle s (hold m 0x0203 p [.port (fld1 p 0)] false
      (some (okWith head)) u).1))) ∧
  (∀ s (m : Fin 16), s.gh.running.any (fun r => r.mbx == m.val && r.op == 0x0203) = true →
    exec (.camCtrlTimeout m) s = .next (settle s (answerRunning m (refuse 0x001C) s))) ∧
  (∀ s (m : Fin 16) r p, Accepts s m specApTable r p →
    let i := fld1 p 0
    let c := getCam s i
    let bs := tollRead s (fld p 16 8) (tableSize c (fld1 p 8))
    let base := if c.shadowNew then c.shadow else c.active
    let u := tollUse (apAp (apNow c)) (takeReq s)
    (c.configured = false → exec (.apTable m) s = .next (refused m 0x0019 0 s (takeReq s))) ∧
    (c.configured = true → fld1 p 8 ≠ 0 →
      exec (.apTable m) s = .next (settle s (hold m 0x0302 p [.port i] false (some (okWith []))
        (setCam u i { c with shadow := { base with ff := bs }, shadowNew := false })).1)) ∧
    (c.configured = true → fld1 p 8 = 0 →
      exec (.apTable m) s = .next (settle s (hold m 0x0302 p [.port i] false (some (okWith []))
        (setCam u i { c with
          shadow := { base with lut := putAt base.lut (8192 * fld1 p 9) bs }, shadowNew := false })).1))) ∧
  (∀ s (m : Fin 16) r p, Accepts s m specApConfig r p →
    let i := fld1 p 0
    let c := getCam s i
    let a := p.drop 8
    let same := apExp a = apExp (apNow c) ∧ apAp a = apAp (apNow c) ∧ apInline a = apInline (apNow c)
    (c.configured = false → exec (.apConfig m) s = .next (refused m 0x0019 0 s (takeReq s))) ∧
    (c.configured = true → portRuns s i = true → ¬same →
      exec (.apConfig m) s = .next (refused m 0x0002 0 s (takeReq s))) ∧
    (c.configured = true → portRuns s i = false ∨ same →
      exec (.apConfig m) s = .next (answered m [] s (wakeCfg (42 + apAp a) (recConfigAt (apFirstLine s i) i 0x0301 p
        (setCam (takeReq s) i { c with apSet := true, apPending := some a }))))))

/-- Lines, trigger entries, packets and link events of a camera port (R272, R276, R278, R280, R281, R282, R283, R296,
R298, 09_camera_ingest.md). Outside replay mode, a complete line of a configured port whose stream ID is the port's
and whose skew is at most 64 KiB is paired with the oldest trigger entry: one older than LAT_MAX_NS leaves as a LOST
line and the next is tried; one whose age lies from LAT_MIN_NS to LAT_MAX_NS leaves the FIFO and the line passes on,
cut to the region of interest, with the entry's position, correction and stamp; with an empty FIFO, or an entry still
too young, the line is discarded and counted. A line of another stream is discarded and counted as foreign; one with
more skew is lost and changes nothing else. An entry older than LAT_MAX_NS pops as a LOST line. A foreign packet is
discarded and counted. A heartbeat is counted. An event packet gives one entry for each 48 bytes begun, and at least
one, numbered from 0, the last and those after the first flagged. A connection that goes down or, on a discovered
port, comes up changes CONN_UP and posts the event; a PoCXP fault of a powered connection switches it off, latches the
fault and posts it. An owed LOST line takes a place of the ring that has come free. A pass that waits, and has no
waiting pass of the same pipeline at a lower port, runs PASS_LINES lines of the ring through the pipeline. The count
of heartbeats, the entries of an event packet and the place of a line in the ring are the model's choice (log entries
59 and 109). -/
def Obligations.CameraEventsComplete : Prop :=
  (∀ s (p : Fin 4) (line : CamLine), s.replay.mode = false → (getCam s p).configured = true →
    (line.stream.toNat = camStream (getCam s p).cfg → line.skew.toNat ≤ 65536 →
      ((getCam s p).fifo = [] → exec (.lineComplete p line) s =
        .next (settle s (setCam s p { getCam s p with ctrs := modAt (getCam s p).ctrs 3 ctrBump }))) ∧
      (∀ e rest, (getCam s p).fifo = e :: rest →
        let u := setCam s p { getCam s p with fifo := rest }
        (now s < e.stamp + camLatMin (getCam s p).cfg → now s ≤ e.stamp + camLatMax (getCam s p).cfg →
          exec (.lineComplete p line) s =
            .next (settle s (setCam s p { getCam s p with ctrs := modAt (getCam s p).ctrs 3 ctrBump }))) ∧
        (e.stamp + camLatMin (getCam s p).cfg ≤ now s → now s ≤ e.stamp + camLatMax (getCam s p).cfg →
          exec (.lineComplete p line) s = .next (settle s (passLine p
            ⟨line.crc, (cutLineRoi (getCam s p).cfg line).1, false, (cutLineRoi (getCam s p).cfg line).2, e.pos, e.corr, e.stamp, none⟩
            u))) ∧
        (e.stamp + camLatMax (getCam s p).cfg < now s →
          exec (.lineComplete p line) s = .next (settle s (pairLine p line (now s) rest (popLost p e u)))))) ∧
    (line.stream.toNat ≠ camStream (getCam s p).cfg → exec (.lineComplete p line) s =
      .next (settle s (setCam s p { getCam s p with ctrs := modAt (getCam s p).ctrs 4 ctrBump }))) ∧
    (line.stream.toNat = camStream (getCam s p).cfg → 65536 < line.skew.toNat →
      exec (.lineComplete p line) s = .next (settle s s))) ∧
  (∀ s (p : Fin 4) e rest, s.replay.mode = false → (getCam s p).fifo = e :: rest →
    e.stamp + camLatMax (getCam s p).cfg < now s →
    exec (.triggerEntryExpiry p) s = .next (settle s (popLost p e (setCam s p { getCam s p with fifo := rest })))) ∧
  (∀ s (p : Fin 4), s.replay.mode = false → exec (.foreignStreamPacket p) s =
    .next (settle s (setCam s p { getCam s p with ctrs := modAt (getCam s p).ctrs 4 ctrBump }))) ∧
  (∀ s (p : Fin 4), exec (.heartbeatPacket p) s =
    .next (settle s (setCam s p { getCam s p with beats := ctrBump (getCam s p).beats }))) ∧
  (∀ s (p : Fin 4) (packet : List Byte), s.replay.mode = false →
    let n := max 1 ((packet.length + 47) / 48)
    exec (.camEvent p packet) s = .next (settle s ((List.range n).foldl (fun a i =>
      camEntry p 1 ((if i + 1 = n then 2 else 0) + (if i = 0 then 0 else 1)) i ((packet.drop (48 * i)).take 48) a) s))) ∧
  (∀ s (p conn : Fin 4), (getCam s p).connUp.getLsbD conn = true →
    let up := (getCam s p).connUp &&& ~~~(1#4 <<< conn.val)
    exec (.cxpLinkDown p conn) s = .next (settle s (post 0x2301 p (46 + p) (getCam s p).connUp.toNat up.toNat
      (setCam s p { getCam s p with connUp := up })))) ∧
  (∀ s (p conn : Fin 4), (getCam s p).discovered = true → conn.val < camConns (getCam s p).cfg →
    (getCam s p).connUp.getLsbD conn = false →
    let up := (getCam s p).connUp ||| (1#4 <<< conn.val)
    exec (.cxpLinkUp p conn) s =
      .next (settle s (post 0x1302 p (46 + p) up.toNat 0 (setCam s p { getCam s p with connUp := up })))) ∧
  (∀ s (conn : Fin 16), (getCam s (conn.val / 4)).pocxpOn.getLsbD (conn.val % 4) = true →
    let c := getCam s (conn.val / 4)
    exec (.pocxpFault conn) s = .next (settle s (post 0x2303 (conn.val / 4) (46 + conn.val / 4) conn.val 0
      (setCam s (conn.val / 4) { c with
        pocxpOn := c.pocxpOn &&& ~~~(1#4 <<< (conn.val % 4)),
        pocxpFault := c.pocxpFault ||| (1#4 <<< (conn.val % 4)) })))) ∧
  (∀ s (p : Fin 4) r rest, s.replay.mode = false → (getCam s p).owed = r :: rest →
    (getCam s p).ring.length < apRing (getCam s p).apIn →
    exec (.owedLostLineWrite p) s = .next (settle s (ringPut p r (setCam s p { getCam s p with owed := rest })))) ∧
  (∀ s (p : Fin 4), passWaits s p = true →
    (∀ k : Nat, k < p.val → passWaits s k = false ∨ apAp (apNow (getCam s k)) ≠ apAp (apNow (getCam s p))) →
    let n := apPass (apNext s p (getCam s p))
    exec (.passStart p) s = .next (settle s (((getCam s p).ring.take n).foldl (fun a r => pipeRaw p r a)
      (setCam s p { getCam s p with ring := (getCam s p).ring.drop n }))))

/-- PU_CONFIG, PU_REF_ARM, PU_LATCH, PU_READ, PU_CLEAR, LT_CONFIG and LT_ARM (R328, R334, R335, R339, R342, R343, R346,
R347, R348, R567, 11_position_units.md). PU_CONFIG stores the 48 bytes of its structure and unseeds the gap period
where byte 0 changes; where MODE, FILT, RESET or REF_VALUE would change it is refused with BUSY_SLOTS while slots on
the unit are not FREE, and else with BUSY_RUNNING while a generator on it is armed. PU_REF_ARM arms the reference and
unseeds the gap period. PU_LATCH stores and answers COUNT, REV, the last edge, the keystone count and the speed, or,
at or before the instant of the unit's last counter update, those values as they stood before it. PU_READ answers 184
bytes and clears the unit's counters. PU_CLEAR clears the flags whose bits it carries, a wire fault only where the
input is healthy again. LT_CONFIG sets unit, divider and REF_SYNC of a generator that is not armed and is refused with
BUSY_RUNNING of one that is. LT_ARM arms or disarms a generator with its residue at 0; it is refused with STATE where
it would arm one whose camera port is not configured, or whose port triggers by a pin and has none. Every accepted
change but PU_READ's is recorded, and nothing else changes. -/
def Obligations.PositionCommandsComplete : Prop :=
  (∀ s (m : Fin 16) r p, Accepts s m specPuConfig r p →
    let u := fld1 p 0
    let x := getPu s u
    let c := p.drop 8
    (puKeyChange x.cfg c = false ∨ (unitSlots s u = [] ∧ puArmed s u = false) →
      exec (.puConfig m) s = .next (answered m [] s (recConfig 0 0x0501 p (setPu (takeReq s) u { x with
        cfg := c, period := if fld1 x.cfg 0 = fld1 c 0 then x.period else none })))) ∧
    (puKeyChange x.cfg c = true → unitSlots s u ≠ [] → exec (.puConfig m) s = .next (refused m 0x0003 0 s (takeReq s))) ∧
    (puKeyChange x.cfg c = true → unitSlots s u = [] → puArmed s u = true →
      exec (.puConfig m) s = .next (refused m 0x0002 0 s (takeReq s)))) ∧
  (∀ s (m : Fin 16) r p, Accepts s m (specSel 0x0502 4 0 (fun u => [.pu u])) r p →
    exec (.puRefArm m) s = .next (answered m [] s (recConfig 0 0x0502 p (setPu (takeReq s) (fld1 p 0)
      { getPu s (fld1 p 0) with armed := true, period := none })))) ∧
  (∀ s (m : Fin 16) r p, Accepts s m (specSel 0x0503 4 32 (fun u => [.pu u])) r p →
    let x := getPu s (fld1 p 0)
    let l := if x.held.length = 32 ∧ now s ≤ x.heldAt then x.held.take 16 ++ leBytes 8 (now s) ++ x.held.drop 24
      else leBytes 5 x.count.toNat ++ leBytes 3 x.rev.toNat ++ leBytes 8 x.lastEdge ++ leBytes 8 (now s) ++ leBytes 8 x.obsV.toNat
    exec (.puLatch m) s =
      .next (answered m l s (recConfig 0 0x0503 p (setPu (takeReq s) (fld1 p 0) { x with cmdLatch := l })))) ∧
  (∀ s (m : Fin 16) r p, Accepts s m (specSel 0x0504 4 184 (fun u => [.pu u])) r p →
    exec (.puRead m) s = .next (answered m (puBytes s (fld1 p 0)) s (setPu (takeReq s) (fld1 p 0)
      { getPu s (fld1 p 0) with ctrs := List.replicate 4 Ctr0 }))) ∧
  (∀ s (m : Fin 16) r p, Accepts s m specPuClear r p →
    let k := fld p 8 4
    let x := getPu s (fld1 p 0)
    exec (.puClear m) s = .next (answered m [] s (recConfig 0 0x0507 p (setPu (takeReq s) (fld1 p 0) { x with
      refSeen := x.refSeen && !bitOf k 30, illegal := x.illegal && !bitOf k 29, wrap := x.wrap && !bitOf k 28,
      overspeed := x.overspeed && !bitOf k 27,
      wireFault := x.wireFault &&& ~~~(BitVec.ofNat 3 (bitsOf k 24 22) &&& ~~~x.wireBad) })))) ∧
  (∀ s (m : Fin 16) r p, Accepts s m specLtConfig r p →
    let i := fld1 p 0
    ((getGen s i).armed = false → exec (.ltConfig m) s = .next (answered m [] s (recConfig i 0x0505 p (setGen (takeReq s) i
      { getGen s i with pu := fld1 p 1, div := fld p 2 2, refSync := bitOf (fld1 p 4) 0 })))) ∧
    ((getGen s i).armed = true → exec (.ltConfig m) s = .next (refused m 0x0002 0 s (takeReq s)))) ∧
  (∀ s (m : Fin 16) r p, Accepts s m specLtArm r p →
    let i := fld1 p 0
    let on := fld1 p 1 == 1
    (on = false ∨ ((getCam s i).configured = true ∧ (camTrig (getCam s i).cfg ≠ 1 ∨ hasTrigPin s i = true)) →
      exec (.ltArm m) s = .next (answered m [] s (recConfig i 0x0506 p (setGen (takeReq s) i
        { getGen s i with armed := on, residue := 0 })))) ∧
    (on = true → (getCam s i).configured = false ∨ (camTrig (getCam s i).cfg = 1 ∧ hasTrigPin s i = false) →
      exec (.ltArm m) s = .next (refused m 0x0019 0 s (takeReq s))))

/-- Encoder edges, references, observer ticks, stops and wire faults of a position unit, and the ends of pulses (R58,
R267, R328, R329, R330, R333, R337, R344, R373, 02_part_journey_and_verdicts.md, 08_determinism_replay.md,
11_position_units.md). Outside replay mode, a change of the filtered inputs that FILT samples have shown first makes a
reference pending where Z rises with it and the reference source takes it; then, a held input keeping its level: a
transition of one level that counts is one counter update stamped with its time; one that does not count changes the
levels only; levels that change together within FILT samples are taken, set ILLEGAL_EDGE and count nothing; levels
that change further apart are two transitions, in their order, each with its own stamp; no change of level is no
update. In replay mode, or shown for fewer than FILT samples, the change does nothing. A rising edge of a healthy Z
makes a reference pending where REF_SRC is Z, or Z qualified and A and B both stand high, and nothing else; in replay
mode it does nothing. An observer tick predicts and corrects the unit. No edge for STOP_US stops the unit, clears its
speed and acceleration, and ends its count pulses. An input below the threshold is held, latched, counted and posted;
a healthy one is followed again. At the end of a pulse in µs its nozzles return, and at the end of a line trigger
pulse its pin does. -/
def Obligations.EncoderEventsComplete : Prop :=
  (∀ s (u : Fin 4) (e : EncChange), s.replay.mode = true ∨ e.held.toNat < puFilt (getPu s u).cfg →
    exec (.encoderTransition u e) s = .next (settle s s)) ∧
  (∀ s (u : Fin 4) (e : EncChange), s.replay.mode = false → puFilt (getPu s u).cfg ≤ e.held.toNat →
    let takes := (getPu s u).wireBad.getLsbD 0 = false ∧
      (puRefSrc (getPu s u).cfg = 1 ∨ puRefSrc (getPu s u).cfg = 2 ∧ e.a = true ∧ e.b = true)
    let x := if e.z = true ∧ takes then { getPu s u with refPending := true } else getPu s u
    let v := if e.z = true ∧ takes then setPu s u x else s
    let a := if x.wireBad.getLsbD 2 then x.a else e.a
    let b := if x.wireBad.getLsbD 1 then x.b else e.b
    let t := now s + e.offset.val
    (a ≠ x.a ∧ b = x.b ∨ a = x.a ∧ b ≠ x.b →
      let d := decodeDir x.cfg x.a x.b a b
      (d = 0 → exec (.encoderTransition u e) s = .next (settle s (setPu v u { x with a := a, b := b }))) ∧
      (d ≠ 0 → exec (.encoderTransition u e) s =
        .next (settle s (counterUpdate u { x with a := a, b := b } d (!x.a && a) t v)))) ∧
    (a ≠ x.a → b ≠ x.b → e.apart.toNat ≤ puFilt x.cfg →
      exec (.encoderTransition u e) s = .next (settle s (setPu v u { x with
        a := a, b := b, illegal := true, ctrs := modAt x.ctrs 0 ctrBump }))) ∧
    (a ≠ x.a → b ≠ x.b → puFilt x.cfg < e.apart.toNat →
      exec (.encoderTransition u e) s = .next (settle s (transition u a b t
        (if e.aFirst then transition u a x.b (earlier t e.apart.toNat) v else transition u x.a b (earlier t e.apart.toNat) v)))) ∧
    (a = x.a → b = x.b → exec (.encoderTransition u e) s = .next (settle s v))) ∧
  (∀ s (u : Fin 4),
    let x := getPu s u
    let takes := x.wireBad.getLsbD 0 = false ∧ (puRefSrc x.cfg = 1 ∨ puRefSrc x.cfg = 2 ∧ x.a = true ∧ x.b = true)
    (s.replay.mode = false → takes → exec (.zEdge u) s = .next (settle s (setPu s u { x with refPending := true }))) ∧
    (s.replay.mode = true ∨ ¬takes → exec (.zEdge u) s = .next (settle s s))) ∧
  (∀ s (u : Fin 4), exec (.observerTick u) s = .next (settle s (setPu s u (obsTick (getPu s u) (now s))))) ∧
  (∀ s (u : Fin 4), (getPu s u).motion ≠ .stopped → (getPu s u).lastEdge + 1000 * puStopUs (getPu s u).cfg ≤ now s →
    exec (.motionStop u) s = .next (settle s (endPulses (countPulseDue u (getPu s u).count true)
      (setPu s u { getPu s u with motion := .stopped, period := none, obsV := 0, obsA := 0 })))) ∧
  (∀ s (u : Fin 4) (i : EncInput), (getPu s u).wireBad &&& wireBit i = 0 →
    let x := getPu s u
    let w := x.wireFault ||| wireBit i
    exec (.encWireFault u i false) s = .next (settle s (post 0x2401 u 0 w.toNat 0 (setPu s u { x with
      wireBad := x.wireBad ||| wireBit i, wireFault := w, ctrs := modAt x.ctrs 2 ctrBump })))) ∧
  (∀ s (u : Fin 4) (i : EncInput), exec (.encWireFault u i true) s =
    .next (settle s (setPu s u { getPu s u with wireBad := (getPu s u).wireBad &&& ~~~(wireBit i) }))) ∧
  (∀ s x, x ∈ s.pulses → dueUs (now s) x = true →
    exec .pulseEndUs s = .next (settle s { sawLevels s with pulses := s.pulses.filter (fun x => !dueUs (now s) x) })) ∧
  (∀ s (n : Fin 16), Tab.get 0 s.linePulses n ≤ now s → exec (.lineTrigPulseEnd n) s =
    .next (settle s { s with linePulses := Tab.set 0 s.linePulses n 0 }))

/-- RMP_CONFIG, RMP_READ, SAMPLE_WRITE and BAND_COMPLETE (R120, R121, R215, R301, R319, R322, R323,
04_girders_piers_trestles.md, 07_crossing_schedule.md, 10_ramp.md). RMP_CONFIG of a port whose camera and verdict
policy are configured and with which no crossing runs stores its 72 bytes and starts the port's segmentation afresh,
background, objects, lines and crops; it is refused with STATE where the camera or the policy is missing, and with
BUSY_RUNNING where a crossing runs with the port. RMP_READ answers the five counters and clears them. SAMPLE_WRITE
takes the writes of the port's oldest sample still due out of its band and puts them through the approach port, in
their order, where the banks behind them are ON; else it wakes the banks behind the first that waits for one, and
nothing is written yet. BAND_COMPLETE marks a band whose last line has been segmented and whose samples are all
written, with the time; the regions of its buffer pass to DECK with their flags set. -/
def Obligations.RampCommandsComplete : Prop :=
  (∀ s (m : Fin 16) r p, Accepts s m specRmpConfig r p →
    let i := fld1 p 0
    ((getCam s i).configured = true → (getPolicy s i).unset = false → portRuns s i = false →
      exec (.rmpConfig m) s = .next (answered m [] s (wakeCfg 50 (recConfigAt (apExp (getCam s i).ap * (getCam s i).outNo) i 0x0401 p (setRamp (takeReq s) i { getRamp s i with
        cfg := some (p.drop 8), seeded := false, bg := [], objs := [], lines := [], crops := [] }))))) ∧
    ((getCam s i).configured = false ∨ (getPolicy s i).unset = true →
      exec (.rmpConfig m) s = .next (refused m 0x0019 0 s (takeReq s))) ∧
    ((getCam s i).configured = true → (getPolicy s i).unset = false → portRuns s i = true →
      exec (.rmpConfig m) s = .next (refused m 0x0002 0 s (takeReq s)))) ∧
  (∀ s (m : Fin 16) r p, Accepts s m (specSel 0x0402 4 20 (fun i => [.ramp i])) r p →
    exec (.rmpRead m) s = .next (answered m (ctrsBytes (getRamp s (fld1 p 0)).ctrs) s
      (setRamp (takeReq s) (fld1 p 0) { getRamp s (fld1 p 0) with ctrs := List.replicate 5 Ctr0 }))) ∧
  (∀ s (i : Fin 4) b w rest, s.bands.find? (fun b => b.cport == i.val && !b.writes.isEmpty) = some b → b.writes = w :: rest →
    ((∀ x ∈ w, approachAsleep s x.1 x.2.length = []) →
      exec (.sampleWrite i) s = .next (settle s (w.foldl (fun t x => approachWrite 4 x.1 x.2 false t)
        { s with bands := s.bands.map (fun x =>
          if x.cport = b.cport ∧ x.no = b.no then { x with writes := x.writes.drop 1 } else x) }))) ∧
    (∀ before x after, w = before ++ x :: after → (∀ y ∈ before, approachAsleep s y.1 y.2.length = []) →
      approachAsleep s x.1 x.2.length ≠ [] →
      exec (.sampleWrite i) s = .next (settle s (approachWake 4 x.1 x.2.length s)))) ∧
  (∀ s (i : Fin 4) (no : Nat) b, getBand s i no = some b → b.lined = true → b.writes = [] → b.complete = false →
    let u := { s with bands := s.bands.map (fun x =>
      if x.cport = i.val ∧ x.no = no then { x with complete := true, doneAt := now s } else x) }
    (b.buffer = none → exec (.bandComplete i no) s = .next (settle s u)) ∧
    (b.buffer ≠ none → exec (.bandComplete i no) s = .next (settle s { u with deck := { u.deck with
      regions := (regionsOf b.addr b.size).foldl (fun t r => Tab.set Region0 t r ⟨true, true⟩) u.deck.regions } })))

/-- FIO_CONFIG, FIO_SET, FIO_RELEASE, FIO_READ, FIO_CLEAR, TRIG_CONFIG and TRIG_SET (R357, R360, R363, R366, R367, R368,
R370, R371, R373, R504, 12_field_io.md, 16_gatehouse_protocol.md). FIO_CONFIG queues the five register writes of each
entry, DIR_FN last, behind those that wait, records itself and stays under way without an answer; where an entry
changes the function or direction of a channel that a verdict policy selects it is refused with BUSY_SLOTS. FIO_SET
sets the HOST levels its mask names, and the levels active until now stay noted for the next frame. FIO_RELEASE on a
link that is up clears SAFE_CMD (which a thermal trip holds), asks for RELEASE in the next frame and stays under way
for up to 17 frames, its answer at hand where SAFE reads 0 already; on a link that is down it is refused with STATE.
FIO_READ answers the link word, inputs, outputs, latches and counters and clears the counters. FIO_CLEAR clears the
readback latches it names and queues the thermal clears. TRIG_CONFIG stores its pins; where a LINE_TRIG pin names a
port without a camera it is refused with STATE, and else, where it changes the function or level of a pin that a
verdict policy selects, with BUSY_SLOTS. TRIG_SET sets the HOST levels its mask names. Nothing else changes. -/
def Obligations.FieldCommandsComplete : Prop :=
  (∀ s (m : Fin 16) r p, Accepts s m specFioConfig r p →
    let es := (List.range (entries8 p)).map (entry8 p)
    let cur := regsAfter s.field.regs s.field.wq
    ((∀ e ∈ es, policySelectsFio s (fld1 e 0 % 32) = false ∨
        (chFunc cur (fld1 e 0 % 32) = fld1 e 1 % 64 ∧ chOutput cur (fld1 e 0 % 32) = bitOf (fld1 e 1) 7)) →
      exec (.fioConfig m) s = .next (settle s (hold m 0x0601 p [.field] false none (recConfig 0 0x0601 p
        { takeReq s with field := { s.field with wq := s.field.wq ++ es.flatMap fioWrites } })).1)) ∧
    (∀ e ∈ es, policySelectsFio s (fld1 e 0 % 32) = true →
      (chFunc cur (fld1 e 0 % 32) ≠ fld1 e 1 % 64 ∨ chOutput cur (fld1 e 0 % 32) ≠ bitOf (fld1 e 1) 7) →
      exec (.fioConfig m) s = .next (refused m 0x0003 0 s (takeReq s)))) ∧
  (∀ s (m : Fin 16) r p, Accepts s m specFioSet r p →
    let mask := BitVec.ofNat 32 (fld p 0 4)
    exec (.fioSet m) s = .next (answered m [] s (recConfig 0 0x0602 p { takeReq s with field := { s.field with
      seen := s.field.seen ||| fioLevels s, host := (s.field.host &&& ~~~mask) ||| (BitVec.ofNat 32 (fld p 4 4) &&& mask) } }))) ∧
  (∀ s (m : Fin 16) r p, Accepts s m specFioRelease r p →
    (s.field.linkUp = false → exec (.fioRelease m) s = .next (refused m 0x0019 0 s (takeReq s))) ∧
    (s.field.linkUp = true →
      let h := (hold m 0x0603 p [.field] false (if s.field.safe = true then none else some (okWith [])) (recConfig 0 0x0603 p
        { takeReq s with field := { s.field with safeCmd := s.steward.trip, release := true } })).1
      exec (.fioRelease m) s = .next (settle s { h with gh := { h.gh with
        running := h.gh.running.map (fun x => if x.mbx = m.val then { x with limit := 17 } else x) } }))) ∧
  (∀ s (m : Fin 16) r p, Accepts s m specFioRead r p →
    exec (.fioRead m) s = .next (answered m
      (leBytes 4 (fioLinkWord s) ++ leBytes 4 s.field.inn.toNat ++ leBytes 4 s.field.out.toNat ++ leBytes 4 s.field.rbf.toNat ++
        leBytes 4 s.field.ovl.toNat ++ ctrsBytes s.field.ctrs)
      s { takeReq s with field := { s.field with ctrs := List.replicate 5 Ctr0 } })) ∧
  (∀ s (m : Fin 16) r p, Accepts s m specFioClear r p →
    exec (.fioClear m) s = .next (answered m [] s (recConfig 0 0x0605 p { takeReq s with field := { s.field with
      rbf := s.field.rbf &&& ~~~BitVec.ofNat 32 (fld p 0 4),
      wq := s.field.wq ++ (List.range 4).filterMap (fun i =>
        if fld1 p (4 + i) = 0 then none else some (160 + i, BitVec.ofNat 8 (fld1 p (4 + i)))) } }))) ∧
  (∀ s (m : Fin 16) r p, Accepts s m specTrigConfig r p →
    let es := (List.range (entries8 p)).map (entry8 p)
    let t := trigsAfter s es
    ((∀ e ∈ es, teFunc e = 3 → (getCam s (tePort e)).configured = true) →
      (∀ n < 16, policySelectsTrig s n = false ∨
        ((getTrig s n).func = (Tab.get TrigPin0 t n).func ∧ (getTrig s n).inv = (Tab.get TrigPin0 t n).inv)) →
      exec (.trigConfig m) s = .next (answered m [] s (recConfig 0 0x0606 p { takeReq s with trigs := t }))) ∧
    ((∀ e ∈ es, teFunc e = 3 → (getCam s (tePort e)).configured = true) →
      (∀ n < 16, policySelectsTrig s n = true →
        ((getTrig s n).func ≠ (Tab.get TrigPin0 t n).func ∨ (getTrig s n).inv ≠ (Tab.get TrigPin0 t n).inv) →
        exec (.trigConfig m) s = .next (refused m 0x0003 0 s (takeReq s)))) ∧
    (∀ e ∈ es, teFunc e = 3 → (getCam s (tePort e)).configured = false →
      exec (.trigConfig m) s = .next (refused m 0x0019 0 s (takeReq s)))) ∧
  (∀ s (m : Fin 16) r p, Accepts s m specTrigSet r p → ∃ t,
    exec (.trigSet m) s = .next (answered m [] s (recConfig 0 0x0607 p { takeReq s with trigs := t })) ∧
    ∀ n < 16, Tab.get TrigPin0 t n =
      if bitOf (fld p 0 2) n = true then { getTrig s n with host := bitOf (fld p 2 2) n } else getTrig s n)

/-- Frames and events of the field link and the field die (R351, R355, R358, R359, R360, R361, R363, R364, R365, R371,
R504, 12_field_io.md). A frame tick first takes the latches that are due; at a count that is a multiple of 1,000 at
which no frame has been sent yet it sends down frame k with the levels active since the last tick, RELEASE once, SAFE
where SAFE_CMD is set or a replay runs, and the oldest waiting register write, and counts the frame for a FIO_RELEASE
under way; at another count it sends nothing. From tick k + 1,000 on, the oldest down frame is taken out: a good one
is applied by a die out of reset and answered by an up frame, one that fails its CRC restarts the die's count of good
frames, and a die held in reset answers nothing; before it, nothing happens. A good up frame is taken; one that fails
its CRC is counted. 8 µs without a good up frame take a link that is up down, count it, end FIO_RELEASE with STATE and
post the event; 8 µs without a good down frame turn a die out of reset safe. Undervoltage holds the die in its reset
state; above it a held die starts from reset values. A thermal trip latches an output channel of a die out of reset.
That a tick at another count sends nothing is the model's reading (log entry 63). -/
def Obligations.FieldFramesComplete : Prop :=
  (∀ s, let v := takeLatches s
    let out := v.field.seen ||| fioLevels v
    (now v % 1000 = 0 → v.field.lastTick ≠ some (now v) →
      exec .fieldFrameTick s = .next (settle s (releaseFrames { v with field := { v.field with
        out := out, seen := fioLevels v, release := false, lastTick := some (now v), down := v.field.down ++
          [(now v / 1000, downFrame (now v / 1000) (v.field.safeCmd || v.replay.mode) v.field.release out v.field.wq.head?)] } }))) ∧
    (now v % 1000 ≠ 0 ∨ v.field.lastTick = some (now v) → exec .fieldFrameTick s = .next (settle s v))) ∧
  (∀ s (levels : BitVec 32) (low : Bool) k fr rest, s.field.down = (k, fr) :: rest →
    (now s < 1000 * k + 1000 → ∀ good, exec (.fieldDownFrameApply good levels low) s = .next (settle s s)) ∧
    (1000 * k + 1000 ≤ now s → s.die.held = true → ∀ good, exec (.fieldDownFrameApply good levels low) s =
      .next (settle s { s with field := { s.field with down := rest } })) ∧
    (1000 * k + 1000 ≤ now s → s.die.held = false → exec (.fieldDownFrameApply false levels low) s =
      .next (settle s { s with field := { s.field with down := rest }, die := { s.die with good := 0 } })) ∧
    (1000 * k + 1000 ≤ now s → s.die.held = false → let d := dieApply s.die fr levels
      exec (.fieldDownFrameApply true levels low) s = .next (settle s { s with
        die := d.1,
        field := { s.field with
          down := rest, lastDownAt := now s, up := s.field.up ++ [(k, upFrame fr d.1 d.2 low)] } }))) ∧
  (∀ s k fr rest, s.field.up = (k, fr) :: rest →
    exec (.fieldUpFrame true) s = .next (settle s (goodUp k fr { s with field := { s.field with up := rest } })) ∧
    exec (.fieldUpFrame false) s = .next (settle s { s with field := { s.field with
      up := rest, ctrs := modAt s.field.ctrs 0 ctrBump } })) ∧
  (∀ s, s.field.linkUp = true → s.field.lastUpAt + 8000 ≤ now s → exec .fieldLinkTimeout s =
    .next (settle s (answerOp 0x0603 (refuse 0x0019) (post 0x2404 0 0 (s.field.lastSeq.getD 0 % 16) 0 { s with
      field := { s.field with linkUp := false, inValid := false, ctrs := modAt s.field.ctrs 2 ctrBump } })))) ∧
  (∀ s, s.die.held = false → s.field.lastDownAt + 8000 ≤ now s →
    exec .fieldDieSafeTimeout s = .next (settle s { s with die := { s.die with safe := true, good := 0 } })) ∧
  (∀ s, exec (.fieldUvlo true) s = .next (settle s { s with die := FieldDie0 })) ∧
  (∀ s, s.die.held = true → exec (.fieldUvlo false) s = .next (settle s { s with die := { FieldDie0 with held := false } })) ∧
  (∀ s (ch : Fin 32), s.die.held = false → chOutput s.die.regs ch = true →
    exec (.fioThermalTrip ch) s = .next (settle s { s with die := { s.die with ovl := s.die.ovl ||| (1#32 <<< ch.val) } }))

/-- VP_SET, VP_READ, SEQ_SET and SLOT_READ (R36, R40, R54, R56, R70, R504, 02_part_journey_and_verdicts.md,
16_gatehouse_protocol.md). VP_SET with an ACTIVE RECORD queue stores the 216 bytes of its structure as the port's
policy, no longer UNSET, and is recorded; it is refused with NOT_FOUND without such a queue, and else with BUSY_SLOTS
while a slot of the port is not FREE and PU_SEL, EJECT_OFFSET or FREEZE_LEAD would change. VP_READ answers the 216
bytes, SLOT_READ the 40 bytes of a slot, and neither changes anything. SEQ_SET loads the port's part sequence and is
recorded; it is refused with BUSY_RUNNING while a crossing runs with the port. -/
def Obligations.VerdictCommandsComplete : Prop :=
  (∀ s (m : Fin 16) r p, Accepts s m specVpSet r p →
    let i := fld1 p 0
    let v := p.drop 8
    let old := (getPolicy s i).raw
    let q := getQ s (vpQueue v)
    (q.st = .active → q.content = 0 →
      (portSlots s i = [] ∨ (vpPu v = vpPu old ∧ vpEject v = vpEject old ∧ vpLead v = vpLead old)) →
      exec (.vpSet m) s = .next (answered m [] s (recConfig i 0x0701 p { takeReq s with slots := { s.slots with
        policies := Tab.set (Policy0 i) s.slots.policies i ⟨false, v⟩ } }))) ∧
    (q.st ≠ .active ∨ q.content ≠ 0 → exec (.vpSet m) s = .next (refused m 0x0018 0 s (takeReq s))) ∧
    (q.st = .active → q.content = 0 → portSlots s i ≠ [] → (vpPu v ≠ vpPu old ∨ vpEject v ≠ vpEject old ∨ vpLead v ≠ vpLead old) →
      exec (.vpSet m) s = .next (refused m 0x0003 0 s (takeReq s)))) ∧
  (∀ s (m : Fin 16) r p, Accepts s m (specSel 0x0702 4 216 (fun i => [.port i])) r p →
    exec (.vpRead m) s = .next (answered m (getPolicy s (fld1 p 0)).raw s (takeReq s))) ∧
  (∀ s (m : Fin 16) r p, Accepts s m specSeqSet r p →
    let i := fld1 p 0
    (portRuns s i = false → exec (.seqSet m) s = .next (answered m [] s (recConfig i 0x0703 p { takeReq s with
      slots := { s.slots with seqs := Tab.set 0 s.slots.seqs i (BitVec.ofNat 48 (fld p 8 6)) } }))) ∧
    (portRuns s i = true → exec (.seqSet m) s = .next (refused m 0x0002 0 s (takeReq s)))) ∧
  (∀ s (m : Fin 16) r p, Accepts s m specSlotRead r p →
    exec (.slotRead m) s = .next (answered m (slotBytes (getSlot s (fld p 0 2))) s (takeReq s)))

/-- Commits, verdict records, second-look views and standby jobs (R39, R42, R44, R53, R60, R64, R65, R67, R321, R503,
02_part_journey_and_verdicts.md, 10_ramp.md). SLOT_COMMIT takes the oldest commit in flight that replay does not hold
back, and notes it. One whose slot is FREE or of another generation is counted as stale and posted, and changes no
slot. Every other commit ORs its deck flags in, counts, and completes its job: the primary job, or as many views as it
combines. A final commit to an OPEN slot not marked corrupt decides it: CUR takes the verdict, or the mapped code for
UNDECIDED (which sets MAPPED), a primary commit sets PRIMARY and PRIMARY_CONF too, and a combined one the second-look
state ADMITTED_DONE and its number of views. A commit without FINAL to an OPEN slot leaves it OPEN; a primary one sets
PRIMARY and PRIMARY_CONF and, where the policy has views, makes the slot a candidate. A commit to a FROZEN, FIRED or
CLOSED slot, unless it is final and the slot corrupt, sets LATE and the late verdict; of a CLOSED slot a late record
then waits. A commit to a DECIDED slot is counted as a duplicate and posted; a final one to a corrupt slot does
nothing more. RECORD_POST hands the next fire record to its queue where that has room, and drops and counts it
otherwise; its slot moves to CLOSED, and to FREE once nothing is pending. LATE_RECORD_POST does the same with the next
late record. The views of an admitted second look are made from its stored crop and the job starts, each bilinear
replacement counted; a crop overwritten meanwhile ends the job with NOT_ADMITTED, counted. JOB_ENTRY_TAKE consumes the
next entry of a JOB queue: one that reads without error ends with the event of its refusal or becomes a standby job
and is recorded; one that does not is discarded, and in toll memory its error is noted and recorded. A finished
standby job writes its outputs as far as OUT_SIZE reaches and posts its event. The discard of an unreadable entry and
the forms of jobs and outputs are the model's reading (log entries 42, 44, 83). -/
def Obligations.SlotEventsComplete : Prop :=
  (∀ s c, s.slots.commits.find? (fun c => !commitHeld s c) = some c →
    let u := noteInstant c { s with slots := { s.slots with commits := s.slots.commits.erase c } }
    let t := getSlot s c.slot
    let v := if c.verdict = 0xE then BitVec.ofNat 4 (vpMap t.pol) else c.verdict
    let b := { t with flags := t.flags ||| c.flags, commits := t.commits + 1 }
    let w := { b with
      flags := if c.verdict = 0xE then b.flags ||| 0x100 else b.flags,
      primary := if c.primary then v else t.primary, pconf := if c.primary then c.conf else t.pconf }
    let views := if c.primary then t.views else c.views
    let jobOver (x : State) := if c.primary then primaryDone c.slot x else viewsDone c.slot c.views x
    (t.st = .free ∨ t.gen ≠ c.gen → exec .slotCommit s = .next (settle s (post 0x2003 0 0 c.slot c.gen.toNat { u with
      slots := { u.slots with stale := ctrBump s.slots.stale } }))) ∧
    (t.gen = c.gen →
      (t.st = .open_ → c.final = true → isCorrupt t = false → exec .slotCommit s = .next (settle s (jobOver (setSlot u c.slot
        { w with st := .decided, cur := v, everDecided := true, sl := if c.primary then t.sl else 1, views := views })))) ∧
      (t.st = .open_ → c.final = false → exec .slotCommit s = .next (settle s (jobOver
        (if c.primary = true ∧ 1 ≤ vpViews t.pol then addCandidate c.slot c (setSlot u c.slot w) else setSlot u c.slot w)))) ∧
      (t.st = .frozen ∨ t.st = .fired → isCorrupt t = false ∨ c.final = false →
        exec .slotCommit s = .next (settle s (jobOver (setSlot u c.slot
          { w with late := some v, lateKey := now s, flags := w.flags ||| 1, views := views })))) ∧
      (t.st = .closed → isCorrupt t = false ∨ c.final = false →
        let x := setSlot u c.slot { w with late := some v, lateKey := now s, flags := w.flags ||| 1, views := views }
        exec .slotCommit s = .next (settle s (jobOver { x with
          slots := { x.slots with lateRecords := x.slots.lateRecords ++ [(c.slot, t.gen)] } }))) ∧
      (t.st = .decided → let x := setSlot u c.slot b
        exec .slotCommit s = .next (settle s (jobOver (post 0x1004 t.cport 0 c.slot c.gen.toNat { x with
          slots := { x.slots with duplicate := ctrBump x.slots.duplicate } })))) ∧
      (t.st ≠ .free → t.st ≠ .decided → isCorrupt t = true → c.final = true →
        exec .slotCommit s = .next (settle s (jobOver (setSlot u c.slot b)))))) ∧
  (∀ s e, nextRecord s s.slots.records = some e →
    let t := getSlot s e.1
    let u := { s with slots := { s.slots with records := s.slots.records.erase e } }
    let w := if hasRoom s (recordQueue s t) = true then
        { u with q := { u.q with waiting := u.q.waiting ++ [⟨recordQueue s t, verdictRec e.1 t false s.replay.mode⟩] } }
      else { u with slots := { u.slots with recDrops := ctrBump u.slots.recDrops } }
    exec .recordPost s = .next (settle s (maybeFree e.1 (setSlot w e.1 { t with st := .closed })))) ∧
  (∀ s e, nextRecord s s.slots.lateRecords = some e →
    let t := getSlot s e.1
    let u := { s with slots := { s.slots with lateRecords := s.slots.lateRecords.erase e } }
    let w := if hasRoom s (recordQueue s t) = true then
        { u with q := { u.q with waiting := u.q.waiting ++ [⟨recordQueue s t, verdictRec e.1 t true s.replay.mode⟩] } }
      else { u with slots := { u.slots with recDrops := ctrBump u.slots.recDrops } }
    exec .lateRecordPost s = .next (settle s (maybeFree e.1 w))) ∧
  (∀ s j x, s.jobs[j]? = some x → x.kind = .secondLook → x.st = .waiting → x.views = [] →
    let t := getSlot s x.slot
    (∀ c cfg, cropOf s t x.slot = some c → (getRamp s t.cport).cfg = some cfg →
      let vs := viewsOf s t c cfg
      exec (.secondLookViewGenerate j) s = .next (settle s (updJob j (fun y => { y with
          st := if y.bay.isSome then .running else .suspended, views := vs.map (fun v => v.1),
          segs := match vs.head? with
            | some v => x.input.foldl (fun m e => Tab.set [] m e.1 [v.1.1]) []
            | none => [] })
        (times (vs.filter (fun v => v.2)).length (rmpCount t.cport 4) s)))) ∧
    (cropOf s t x.slot = none ∨ (getRamp s t.cport).cfg = none →
      exec (.secondLookViewGenerate j) s = .next (settle s (recAdmit (x.bay.getD 0) 1 0 x.slot x.gen.toNat 0
        (withdrawJob j (rmpCount t.cport 4 (setSlot s x.slot { t with sl := 3, admitted := false }))))))) ∧
  (∀ s q b, halted s = false → fwReady s = true → nextBell s = some (q, b) →
    let x := getQ s q
    let a := x.base.toNat + 64 * (x.head.toNat % 2 ^ x.log2)
    let e := if x.host then memRead s.mem.hostMem a 64 else tollRead s a 64
    let u := queueMessage q queueDue (setQ (if x.host then s else tollUse 8 s) q { x with head := x.head + 1 })
    (∀ st, jobRefusal u e = some st → exec (.jobEntryTake false) s = .next (settle s (post 0x1706 0 0 (jeId e % 2 ^ 32) st u))) ∧
    (jobRefusal u e = none →
      let im := (getImg u (jeImage e)).img
      let input := tollRead u (jeIn e) (jeInSize e)
      exec (.jobEntryTake false) s = .next (settle s (recJob (jeId e) im.modelId (e ++ input)
        { tollUse 5 u with jobs := u.jobs ++ [standbyJob e input im] }))) ∧
    (x.host = true → exec (.jobEntryTake true) s = .next (settle s (discardJob q s))) ∧
    (x.host = false → exec (.jobEntryTake true) s = .next (settle s (recFault 0x3202 (tollChan s a) (tollOffset s a)
      (noteUe (tollChan s a) (tollOffset s a) (discardJob q s)))))) ∧
  (∀ s j x, s.jobs[j]? = some x → standbyFinished s x = true →
    let im := (getImg s x.img).img
    let c := standbyCtx s j x
    let out := (jobOuts im).flatMap (fun t => tensorData s c t.1 ((tensorRec s c t.1).getD TRec0))
    exec (.jobDone j) s = .next (settle s (post 0x1706 0 0 (x.id.toNat % 2 ^ 32) 0
      { tollWrite x.outAddr (out.take x.outSize) (tollUse 5 s) with jobs := s.jobs.eraseIdx j })))

/-- MODEL_STAGE, MODEL_COMMIT, MODEL_SWITCH, MODEL_RETIRE, MODEL_LIST and SWING_READ (R118, R222, R226, R316, R491, R493,
R501, R502, R525, R526, 07_crossing_schedule.md, 16_gatehouse_protocol.md). MODEL_STAGE in PROVISIONED or PRODUCTION
with an empty index runs the checks on the bytes it names: a failed check is held as IMAGE_INVALID with its offset, an
invalid signature as SIGNATURE, an image that does not fit the grade as IMAGE_UNFIT; one that passes takes the lowest
empty index as staged, and its index, role, eligible ratings, version, MODEL_ID and measurement are held as the answer
until COMMAND_COMPLETE. In another lifecycle state LIFECYCLE is held, without an empty index NO_SPACE. MODEL_COMMIT of
an empty index is refused with NOT_FOUND and of a committed one with STATE; of a staged one it waits for the boundary
while crossings run, and else is recorded and either answers what refuses the image or commits it, which then stands
as committed with a fresh pool and the digest of its deck region. MODEL_SWITCH of an empty index is refused with
NOT_FOUND and of one that is not a committed ACTIVE image with STATE; else it waits for the boundary while crossings
run, and otherwise is recorded and makes it the running image, or answers STATE with the port whose ramp does not
agree. MODEL_RETIRE of an image that neither runs nor serves a job empties its index, takes it out of the swing spans
and out of the numbering of the LOT record; it is refused with NOT_FOUND for an empty index and with IN_USE for an
image in use. MODEL_LIST answers 256 bytes and SWING_READ 32, and neither changes anything. The order of the answers
of MODEL_STAGE, the record where no crossing runs and what MODEL_RETIRE does to the numbering are the model's choice
(log entries 76, 113). -/
def Obligations.ModelCommandsComplete : Prop :=
  (∀ s (m : Fin 16) r p, Accepts s m specModelStage r p →
    let v := tollUse 9 (takeReq s)
    let b := tollRead s (fld p 0 8) (fld p 8 4)
    let im := parseImage b
    let meas := sha256 (b.take (fld b 32 4))
    let ok := sigValid s.sec.otp (sigBlock b) meas 1
    (lifecycle s ≠ 1 → lifecycle s ≠ 2 → exec (.modelStage m) s = .next (held m 0x0801 p [] (refuse 0x0024) s v)) ∧
    (lifecycle s = 1 ∨ lifecycle s = 2 →
      (emptyIndex s = none → exec (.modelStage m) s = .next (held m 0x0801 p [] (refuse 0x0005) s v)) ∧
      (∀ i, emptyIndex s = some i →
        (∀ o, imageChecks b (deckChans s) = some o → exec (.modelStage m) s = .next (held m 0x0801 p [] ⟨0x0020, o, []⟩ s v)) ∧
        (imageChecks b (deckChans s) = none → ok = false →
          exec (.modelStage m) s = .next (held m 0x0801 p [] (refuse 0x0022) s v)) ∧
        (imageChecks b (deckChans s) = none → ok = true → fitsGrade s im = false →
          exec (.modelStage m) s = .next (held m 0x0801 p [] (refuse 0x0021) s v)) ∧
        (imageChecks b (deckChans s) = none → ok = true → fitsGrade s im = true → exec (.modelStage m) s =
          .next (held m 0x0801 p [] (okWith (leBytes 1 i ++ leBytes 1 im.role ++ leBytes 1 (eligibleBits s im) ++ zeros 1 ++
            leBytes 4 im.version ++ leBytes 8 im.modelId ++ meas)) s
            (tollUse 9 (stageAt i (fld p 0 8) b meas (takeReq s)))))))) ∧
  (∀ s (m : Fin 16) r p, Accepts s m (specImage 0x0802 0) r p →
    let i := fld1 p 0
    ((getImg s i).st = .empty → exec (.modelCommit m) s = .next (refused m 0x0018 0 s (takeReq s))) ∧
    ((getImg s i).st = .committed → exec (.modelCommit m) s = .next (refused m 0x0019 0 s (takeReq s))) ∧
    ((getImg s i).st = .staged →
      (s.seq.started = true → exec (.modelCommit m) s = .next (settle s (hold m 0x0802 p [.image i] true none (takeReq s)).1)) ∧
      (s.seq.started = false → commitRefusal s i = none →
        exec (.modelCommit m) s = .next (answered m [] s (recNoCrossing [] [(0x0802, p)] (commitNow i (takeReq s))))) ∧
      (∀ rep, s.seq.started = false → commitRefusal s i = some rep →
        exec (.modelCommit m) s = .next (settle s (finish m rep (recNoCrossing [] [(0x0802, p)] (takeReq s))))))) ∧
  (∀ s i, let x := getImg (commitNow i s) i
    x.st = .committed ∧ x.img = (getImg s i).img ∧ x.digest = sha256 (memRead (commitNow i s).deck.dram x.deckBase x.deckSize) ∧
      x.kv = { Kv0 with base := x.deckBase + x.img.poolBase, pages := x.img.poolPages, sets := x.img.sets }) ∧
  (∀ s (m : Fin 16) r p, Accepts s m { specImage 0x0803 0 with objs := fun p => [.image (fld1 p 0), .sequencer] } r p →
    let i := fld1 p 0
    ((getImg s i).st = .empty → exec (.modelSwitch m) s = .next (refused m 0x0018 0 s (takeReq s))) ∧
    ((getImg s i).st = .staged ∨ ((getImg s i).st = .committed ∧ (getImg s i).img.role ≠ 0) →
      exec (.modelSwitch m) s = .next (refused m 0x0019 0 s (takeReq s))) ∧
    ((getImg s i).st = .committed → (getImg s i).img.role = 0 →
      (s.seq.started = true →
        exec (.modelSwitch m) s = .next (settle s (hold m 0x0803 p [.image i, .sequencer] true none (takeReq s)).1)) ∧
      (s.seq.started = false → streamCheck s (getImg s i).img = none → exec (.modelSwitch m) s = .next (answered m [] s
        (recNoCrossing [] [(0x0803, p)] { takeReq s with seq := { s.seq with img := i, rated := s.seq.rated && i == s.seq.img } }))) ∧
      (∀ port, s.seq.started = false → streamCheck s (getImg s i).img = some port →
        exec (.modelSwitch m) s = .next (refused m 0x0019 port s (recNoCrossing [] [(0x0803, p)] (takeReq s)))))) ∧
  (∀ s (m : Fin 16) r p, Accepts s m (specImage 0x0804 0) r p →
    let i := fld1 p 0
    let busy := imageRuns s i || s.jobs.any (fun j => j.kind == .standby && j.img == i)
    ((getImg s i).st = .empty → exec (.modelRetire m) s = .next (refused m 0x0018 0 s (takeReq s))) ∧
    ((getImg s i).st ≠ .empty → busy = true → exec (.modelRetire m) s = .next (refused m 0x0004 0 s (takeReq s))) ∧
    ((getImg s i).st ≠ .empty → busy = false →
      let u := setImg { takeReq s with rec_ := { s.rec_ with lotImgs := s.rec_.lotImgs.map (fun e => if e = some i then none else e) } }
        i ImgSlot0
      exec (.modelRetire m) s = .next (answered m [] s (refreshSwing ((List.range 32).foldl (fun a n =>
        if (getGirder a n).swingImg = some i then setGirder n { getGirder a n with swingImg := none } a else a) u))))) ∧
  (∀ s (m : Fin 16) r p, Accepts s m (plain 0x0805 0x0100 0 256) r p → exec (.modelList m) s = .next (answered m
    ((List.range 16).flatMap (fun i => leBytes 1 (imgState s i) ++ leBytes 1 (getImg s i).img.role ++ zeros 2 ++
      leBytes 4 (getImg s i).img.version ++ leBytes 8 (getImg s i).img.modelId)) s (takeReq s))) ∧
  (∀ s (m : Fin 16) r p, Accepts s m (plain 0x0806 0x0100 0 32) r p → exec (.swingRead m) s = .next (answered m
    ((List.range 32).flatMap (fun l =>
      let g := getGirder s (physGirder s l)
      leBytes 1 (if g.bound && g.logical == l then g.swingImg.getD 0xFF else 0xFF))) s (takeReq s)))

/-- KV_STATUS, KV_DUMP and KV_TRACK_RESET (R188, R190, R191, R198, R213, R493, 06_strip_attention.md,
16_gatehouse_protocol.md). KV_STATUS of a committed image with a pool answers its free and shared pages and its three
counters, and clears the counters; any other index is refused with NOT_FOUND. KV_DUMP of a track of a committed image
answers the track's 64-byte record and its page table, and KV_TRACK_RESET of such tracks resets each named track in
turn, where no crossing runs: both are recorded, and KV_DUMP changes nothing else. While crossings run both wait for
the boundary. A track of no committed image is refused with NOT_FOUND. A reset track is empty again in the mode asked
for, its pages back on the free list. The record where no crossing runs is the model's choice (log entry 113). -/
def Obligations.KvCommandsComplete : Prop :=
  (∀ s (m : Fin 16) r p, Accepts s m { specImage 0x1004 20 with ver := 0x0101 } r p →
    let x := getImg s (fld1 p 0)
    (x.st = .committed → x.kv.pages ≠ 0 → exec (.kvStatus m) s = .next (answered m
      (leBytes 4 (kvFree x.kv) ++ leBytes 4 (kvShared x.kv) ++ ctrsBytes [x.kv.cTrunc, x.kv.cRecyc, x.kv.cUe]) s
      (setImg (takeReq s) (fld1 p 0) { x with kv := { x.kv with cTrunc := Ctr0, cRecyc := Ctr0, cUe := Ctr0 } }))) ∧
    (x.st ≠ .committed ∨ x.kv.pages = 0 → exec (.kvStatus m) s = .next (refused m 0x0018 0 s (takeReq s)))) ∧
  (∀ s (m : Fin 16) r p, Accepts s m specKvDump r p →
    let t := fld p 0 2
    (trackImage s t = none → exec (.kvDump m) s = .next (refused m 0x0018 0 s (takeReq s))) ∧
    (∀ i, trackImage s t = some i → s.seq.started = true →
      exec (.kvDump m) s = .next (settle s (hold m 0x1005 p [.sequencer] true none (takeReq s)).1)) ∧
    (∀ i, trackImage s t = some i → s.seq.started = false → exec (.kvDump m) s = .next (answered m
      (kvTrackBytes t (kvTrack (getImg s i).kv t) ++ kvTableBytes (kvTrack (getImg s i).kv t)) s
      (recNoCrossing [] [(0x1005, p)] (takeReq s))))) ∧
  (∀ s (m : Fin 16) r p, Accepts s m specKvReset r p →
    let t0 := fld p 0 2
    let n := fld p 2 2
    (∀ k < n, trackImage s (t0 + k) = none → exec (.kvTrackReset m) s = .next (refused m 0x0018 0 s (takeReq s))) ∧
    ((∀ k < n, trackImage s (t0 + k) ≠ none) → s.seq.started = true →
      exec (.kvTrackReset m) s = .next (settle s (hold m 0x1006 p [.sequencer] true none (takeReq s)).1)) ∧
    ((∀ k < n, trackImage s (t0 + k) ≠ none) → s.seq.started = false → exec (.kvTrackReset m) s = .next (answered m [] s
      (recNoCrossing [] [(0x1006, p)] ((List.range n).foldl (fun a k => resetTrack (fld1 p 4) (t0 + k) a) (takeReq s)))))) ∧
  (∀ (k : Kv) (t : Nat) (rolling : Bool), (kvSetOf k t).isSome = true →
    kvTrack (kvReset k t rolling) t = { KvTrack0 (kvTrack k t).set rolling with rolling := rolling } ∧
    (kvReset k t rolling).freed = ((kvTrack k t).table.map (fun e => e.2.toNat % 2 ^ 17)).reverse ++ k.freed)

/-- CROSSING_START, CROSSING_STOP, CROSSING_STATUS, the period tick and the launch (R214, R216, R217, R218, R221, R252,
R270, R316, R504, 07_crossing_schedule.md, 08_determinism_replay.md, 10_ramp.md). CROSSING_START of an image that
nothing refuses starts the sequencer, the launch being the present count; otherwise it is refused: with NOT_FOUND for
an empty index, STATE for one that is not a committed ACTIVE image, BUSY_RUNNING while crossings run, STATE while a
launch is armed, IMAGE_UNFIT without an eligible rating, and STATE with the port whose ramp does not agree; nothing
else refuses it. CROSSING_STOP on a stopped sequencer completes at once; on a running one it takes effect at the next
boundary and stays under way; NOW also cancels an armed launch. CROSSING_STATUS answers the crossing number, the bay
words, the five counters and the last slip, and clears the counters. A tick of the period grid makes the next crossing
due, or counts a missed start where one still waits. When the keystone count reaches an armed launch, the sequencer
starts with that count as its launch. A started sequencer has crossing 0 due, no crossing in progress, and its bands,
lines and objects numbered afresh. The order of the refusals is the model's choice (log entry 58). -/
def Obligations.CrossingCommandsComplete : Prop :=
  (∀ s (m : Fin 16) r p, Accepts s m specCrossingStart r p →
    let i := fld1 p 0
    (startRefusal s i = none →
      exec (.crossingStart m) s = .next (answered m [] s (startSeq i (now s) { takeReq s with seq := { s.seq with flags := [] } }))) ∧
    (∀ rep, startRefusal s i = some rep →
      exec (.crossingStart m) s = .next (refused m rep.status rep.detail s (takeReq s)))) ∧
  (∀ s i, startRefusal s i =
    if (getImg s i).st = .empty then some ⟨0x0018, 0, []⟩
    else if (getImg s i).st = .staged ∨ (getImg s i).img.role ≠ 0 then some ⟨0x0019, 0, []⟩
    else if s.seq.started = true then some ⟨0x0002, 0, []⟩
    else if s.seq.launchArmed ≠ none then some ⟨0x0019, 0, []⟩
    else if eligibleBits s (getImg s i).img = 0 then some ⟨0x0021, 0, []⟩
    else (streamCheck s (getImg s i).img).map (fun port => ⟨0x0019, port, []⟩)) ∧
  (∀ s i at_, let t := startSeq i at_ s
    t.seq.started = true ∧ t.seq.active = false ∧ t.seq.due = true ∧ t.seq.dueNo = 0 ∧ t.seq.img = i ∧ t.seq.launch = at_ ∧
      t.seq.launchArmed = none ∧ t.seq.crossing = BitVec.allOnes 64 ∧ t.seq.stop = .none ∧ t.bands = [] ∧
      ∀ p < 4, (getCam t p).rawNo = 0 ∧ (getCam t p).outNo = 0 ∧ (getRamp t p).objs = [] ∧ (getRamp t p).lines = []) ∧
  (∀ s (m : Fin 16) r p, Accepts s m specCrossingStop r p →
    let u := if fld1 p 0 = 1 then { takeReq s with seq := { s.seq with launchArmed := none } } else takeReq s
    (s.seq.started = false → exec (.crossingStop m) s = .next (answered m [] s u)) ∧
    (s.seq.started = true → exec (.crossingStop m) s = .next (settle s (hold m 0x0902 p [.sequencer] true none
      { u with seq := { u.seq with stop := if fld1 p 0 = 1 then .now else .drain, stopAt := now s } }).1))) ∧
  (∀ s (m : Fin 16) r p, Accepts s m specCrossingStatus r p → exec (.crossingStatus m) s = .next (answered m
    (leBytes 8 s.seq.crossing.toNat ++ leBytes 2 s.seq.lastBays.length ++ zeros 6 ++
      ctrsBytes [s.seq.cSlip, s.seq.cQueued, s.seq.cDropped, s.seq.cMissed, s.seq.cRefresh] ++
      leBytes 4 s.seq.slipLast.toNat ++ s.seq.lastBays.flatMap (fun w => leBytes 4 w.toNat)) s
    { takeReq s with seq := { s.seq with cSlip := Ctr0, cQueued := Ctr0, cDropped := Ctr0, cMissed := Ctr0, cRefresh := Ctr0 } })) ∧
  (∀ s, s.seq.started = true → (stewardTable s).startMode = 1 →
    s.seq.launch + (s.seq.periodNo + 1) * (stewardTable s).periodNs ≤ now s →
    (s.seq.due = false → exec .periodTick s = .next (settle s { s with seq := { s.seq with
      periodNo := s.seq.periodNo + 1, due := true, dueNo := s.seq.periodNo + 1 } })) ∧
    (s.seq.due = true → exec .periodTick s = .next (settle s { s with seq := { s.seq with
      periodNo := s.seq.periodNo + 1, cMissed := ctrBump s.seq.cMissed } }))) ∧
  (∀ s at_ i, s.seq.launchArmed = some (at_, i) → at_ ≤ now s → halted s = false →
    exec .launchCountReached s = .next (settle s (startSeq i at_ s)))

/-- The crossing boundary, and the start, pre-emption, deadline and end of bays (R131, R219, R221, R234, R236, R238, R241,
R243, R245, R246, 04_girders_piers_trestles.md, 07_crossing_schedule.md). A due boundary carries out its eight steps;
after the first seven it stops the sequencer where a stop has run out, leaves it waiting where no start is due or no
rating is eligible, in each case recording what was decided, and otherwise starts the next crossing, which is then in
progress with the next number, started now, with the time of the boundary's copies as its first slip and the bays of
its rating waiting (a prologue bay not needed being ended). A bay that is ready, that no RESERVED bay stands ahead of,
and that may pre-empt every bay running or suspended on its units asks each running one to yield and starts once none
runs: it is running, has run, stands at its first command, and an open bay is granted its credits and admits jobs. A
bay that is not ready or may not pre-empt changes nothing. A running bay, at a tile boundary outside a collective,
ends a job whose views were withdrawn, and then suspends where it is asked to yield, or carries its jobs where it is
closing. An open bay at its effective deadline is closing. A bay whose commands are complete ends: a late one is
charged as slip, a step count other than MAX_STEPS is a fault, and the bays it held resume; the last one to end stamps
the crossing. The record where no crossing starts, the copies' time and the count of open bays' steps are the model's
choice (log entries 113, 114, 46). -/
def Obligations.BoundariesAndBaysComplete : Prop :=
  (∀ s, boundaryDue s = true →
    let slack := (runRating s).slackNs
    let s1 := latchCrossing { s with seq := { s.seq with copying := 0 } }
    let mid := s.bands.filter (fun b => b.taken && b.dropped)
    let drops := (List.range 4).map (fun p =>
      (mid.filter (fun b => b.cport == p)).map (fun b => b.no) ++ (dropSet s1 p).map (fun b => b.no))
    let cmds := (waitingCmds s [0x0802, 0x0803] ++ waitingCmds s [0x0D02] ++ waitingCmds s [0x0902, 0x0B05, 0x0B06, 0x1005] ++
      waitingCmds s [0x1006]).map (fun r => (r.op, r.payload))
    let s4 := stepSteward s.seq.active s.seq.slip slack (applyStep [0x0802, 0x0803] (stepBands s1))
    let s7 := stepReload (checkpointStep (applyStep [0x1006] (applyStep [0x0902, 0x0B05, 0x0B06, 0x1005] s4)))
    (stopOver s7 = true → exec .crossingBoundary s = .next (settle s (finishStop (recNoCrossing
      ((List.range 4).map (fun p => drops.getD p [] ++ (portBands s7 p).map (fun b => b.no))) cmds s7)))) ∧
    (stopOver s7 = false → startDue s7 = false → exec .crossingBoundary s = .next (settle s (recNoCrossing drops cmds s7))) ∧
    (stopOver s7 = false → startDue s7 = true → eligibleRatings s7 = [] →
      exec .crossingBoundary s = .next (settle s (noRating (recNoCrossing drops cmds s7)))) ∧
    (stopOver s7 = false → startDue s7 = true → eligibleRatings s7 ≠ [] → exec .crossingBoundary s =
      .next (settle s (startCrossing (if s.seq.active then s.seq.slip else s.seq.slipLast.toNat) slack drops cmds s7)))) ∧
  (∀ s, let t := enterCrossing s
    t.seq.active = true ∧ t.seq.due = false ∧ t.seq.crossing = nextNo s ∧ t.seq.t0 = now s ∧
      t.seq.slip = (if s.seq.copying = 0 then 0 else Config.copyTime s.seq.copying) ∧
      t.seq.bays.length = (runRating s).bays.length ∧
      ∀ k x, t.seq.bays[k]? = some x →
        x = (if k < (runRating s).prologue ∧ s.seq.newRating = false then { BayRun0 with st := .ended } else BayRun0)) ∧
  (∀ s (b : Fin 256) y, getBay s b = some y →
    let rivals := sharers s b y .running ++ sharers s b y .suspended
    (bayReady s b y = true → reservedAhead s b y = false → (∀ v ∈ rivals, mayPreempt s b y v = true) →
      let s1 := (sharers s b y .running).foldl (fun a v => askYield b v a) s
      (sharers s1 b y .running = [] → exec (.bayStart b) s = .next (settle s (startBay b y s1))) ∧
      (sharers s1 b y .running ≠ [] → exec (.bayStart b) s = .next (settle s s1))) ∧
    (bayReady s b y = false ∨ reservedAhead s b y = true ∨ (∃ v ∈ rivals, mayPreempt s b y v = false) →
      exec (.bayStart b) s = .next (settle s s))) ∧
  (∀ s (b : Fin 256) y,
    let u := updBay b (fun r => { r with st := .running, ran := true, pc := 0, effDeadline := s.seq.t0 + y.deadline + s.seq.slip }) s
    startBay b y s = if y.kind = .openBay then
      admitJob b y (updBay b (fun r => { r with credits := (grantCredits y.energyNj u).1 }) (grantCredits y.energyNj u).2) else u) ∧
  (∀ s (b : Fin 256) y, getBay s b = some y → s.seq.active = true → (bayRun s b).st = .running → inCollective s b y = false →
    ((bayRun s b).yieldTo ≠ none → exec (.tileBoundary b) s = .next (settle s (suspendBay b (endWithdrawn b s)))) ∧
    ((bayRun s b).yieldTo = none → (bayRun s b).closing = true →
      exec (.tileBoundary b) s = .next (settle s (carryJobs b (endWithdrawn b s)))) ∧
    ((bayRun s b).yieldTo = none → (bayRun s b).closing = false →
      exec (.tileBoundary b) s = .next (settle s (endWithdrawn b s)))) ∧
  (∀ s (b : Fin 256) y, getBay s b = some y → s.seq.active = true → y.kind = .openBay →
    ((bayRun s b).st = .running ∨ (bayRun s b).st = .suspended) → (bayRun s b).effDeadline ≤ now s →
    exec (.openBayDeadline b) s = .next (settle s (updBay b (fun r => { r with closing := true }) s))) ∧
  (∀ s (b : Fin 256) (steps : BitVec 32) y, getBay s b = some y → s.seq.active = true → (bayRun s b).st = .running →
    bayFinished s b y = true →
    let u := resumeFrom b (updBay b (fun r => { r with st := .ended, yieldTo := none }) (stepCheck b y steps.toNat (chargeSlip b s)))
    (crossingEnded u = true → exec (.bayEnd b steps) s = .next (settle s { u with seq := { u.seq with endedAt := now s } })) ∧
    (crossingEnded u = false → exec (.bayEnd b steps) s = .next (settle s u))) ∧
  (∀ s (b : Nat) y steps, (now s ≤ (bayRun s b).effDeadline → chargeSlip b s = s) ∧
    ((bayRun s b).effDeadline < now s → (chargeSlip b s).seq.slip = s.seq.slip + (now s - (bayRun s b).effDeadline)) ∧
    stepCheck b y y.maxSteps s = s ∧
    (steps ≠ y.maxSteps → stepCheck b y steps s =
      dropTaken (recFault 0x3103 b steps (post 0x3103 0 0 b steps (updBay b (fun r => { r with stepFault := true }) s)))))

/-- The commands of a bay or a job: operator, load, store, swing load, send, signal, wait, refresh and collective (R118,
R124, R229, R237, R238, R391, R392, R393, R396, R397, 07_crossing_schedule.md, 13_span_links_time.md). A thread of the
deck, a bay or a job, stands at one command of its table. Operator: where a region it reads belongs to APPROACH or its
append is not yet in turn it stays; else where a bank it touches is not ON that bank is woken and it stays; else it
runs its descriptor under the tile plans it names, over its banks touched and its swing weights loaded, and moves on
with the operator's status bits. A load wakes sleeping banks and stays, and otherwise writes the deck bytes to the
piece it names, but for bank 9 of a swing span, and moves on; a store, the other way, stays first where its source
region belongs to APPROACH. A swing load writes its share into bank 9 of each girder, the job's or the table's, and
moves on. A send stays while its buffer's region is not DECK's, wakes sleeping banks, and otherwise puts the buffer's
bytes on the span as messages of the running crossing and moves on. A load or store of which a piece does not lie in
its space, a send whose buffer does not and a swing load past the deck region or a bank stop with noSuchAddress. A
signal sends one message and moves on; a wait moves on once its landing flag is set and stays before that; a refresh
moves on. A collective that has not sent stays where a region it reads is not DECK's, wakes sleeping banks, and stays
while it must first wait for a flag; else it sends, and then ends and moves on where its ending holds, or stays marked
as sent; one that has sent ends once its ending holds and stays before that. Moving on puts a bay at its next command
with the status bits in its status word. A thread that does not run, or whose table has no further command, changes
nothing. -/
def Obligations.DeckCommandsComplete : Prop :=
  (∀ s t c desc first count q d, threadCmd s t = some (c, .op desc first count q) → (getImg s c.img).img.descs[desc]? = some d →
    ((ownedAway s (opReads s c d) = true ∨ appendTurn s t d = false) → exec (.deckOp t) s = .next (settle s s)) ∧
    (ownedAway s (opReads s c d) = false → appendTurn s t d = true →
      (sleepingBanks s (opPieces s c d) ≠ [] →
        exec (.deckOp t) s = .next (settle s (wakeBanks (sleepingBanks s (opPieces s c d)) s))) ∧
      (sleepingBanks s (opPieces s c d) = [] →
        let r := runOp c ((c.table.plans.drop first).take count) d (swingReady c (touchBanks (opPieces s c d) s))
        exec (.deckOp t) s = .next (settle s (advance t r.2 r.1))))) ∧
  (∀ s t c src space unit a len, threadCmd s t = some (c, .load src space unit a len) →
    (∀ x y, spacePiece s c 2 0 src len = some x → spacePiece s c space unit a len = some y →
      (sleepingBanks s [x, y] ≠ [] → exec (.deckLoad t) s = .next (settle s (wakeBanks (sleepingBanks s [x, y]) s))) ∧
      (sleepingBanks s [x, y] = [] → exec (.deckLoad t) s = .next (settle s
        (advance t OpStat0 (writePieces (writable s [y]) 0 (readPieces s [x]) (touchBanks [x, y] s)))))) ∧
    ((spacePiece s c 2 0 src len = none ∨ spacePiece s c space unit a len = none) → exec (.deckLoad t) s = .fault .noSuchAddress)) ∧
  (∀ s t c src space unit a len, threadCmd s t = some (c, .store src space unit a len) →
    (∀ x y, spacePiece s c space unit a len = some x → spacePiece s c 2 0 src len = some y →
      (ownedAway s [x] = true → exec (.deckStore t) s = .next (settle s s)) ∧
      (ownedAway s [x] = false → sleepingBanks s [x, y] ≠ [] →
        exec (.deckStore t) s = .next (settle s (wakeBanks (sleepingBanks s [x, y]) s))) ∧
      (ownedAway s [x] = false → sleepingBanks s [x, y] = [] → exec (.deckStore t) s = .next (settle s
        (advance t OpStat0 (writePieces (writable s [y]) 0 (readPieces s [x]) (touchBanks [x, y] s)))))) ∧
    ((spacePiece s c space unit a len = none ∨ spacePiece s c 2 0 src len = none) → exec (.deckStore t) s = .fault .noSuchAddress)) ∧
  (∀ s t c src len, threadCmd s t = some (c, .swing src len) →
    let gs := if c.job.isSome then c.girders else List.range c.table.girders
    (src + len * gs.length ≤ (getImg s c.img).deckSize → len ≤ bankBytes →
      exec (.swingLoad t) s = .next (settle s (advance t OpStat0 (swingWrite c.img src len gs s)))) ∧
    ((getImg s c.img).deckSize < src + len * gs.length ∨ bankBytes < len → exec (.swingLoad t) s = .fault .noSuchAddress)) ∧
  (∀ s t c node flag space a len, threadCmd s t = some (c, .send node flag space a len) →
    (∀ p, spacePiece s (noPier c) space 0 a len = some p →
      (ownedAway s [p] = true → exec (.sendCmd t) s = .next (settle s s)) ∧
      (ownedAway s [p] = false → sleepingBanks s [p] ≠ [] →
        exec (.sendCmd t) s = .next (settle s (wakeBanks (sleepingBanks s [p]) s))) ∧
      (ownedAway s [p] = false → sleepingBanks s [p] = [] → exec (.sendCmd t) s = .next (settle s (advance t OpStat0 (routeOwn
        (sendMsgs node s.span.node.toNat flag (s.seq.crossing.toNat % 2 ^ 32) (readPieces s [p])) (touchBanks [p] s)))))) ∧
    (spacePiece s (noPier c) space 0 a len = none → exec (.sendCmd t) s = .fault .noSuchAddress)) ∧
  (∀ s t c node flag, threadCmd s t = some (c, .signal node flag) →
    exec (.signalCmd t) s = .next (settle s (advance t OpStat0 (routeOwn [signalMsg s node flag] s)))) ∧
  (∀ s t c f, threadCmd s t = some (c, .wait f) →
    (flagSet s f = true → exec (.waitCmd t) s = .next (settle s (advance t OpStat0 s))) ∧
    (flagSet s f = false → exec (.waitCmd t) s = .next (settle s s))) ∧
  (∀ s t c x y, threadCmd s t = some (c, .refresh x y) → exec (.refreshCmd t) s = .next (settle s (advance t OpStat0 s))) ∧
  (∀ s t c r, threadCmd s t = some (c, .collective r) →
    let me := s.span.node.toNat - coFirst r
    let mark := (65536 + coFlag0 r, landHalf s)
    let ps := coReads s c r me
    let unmark : State → State := fun x => { x with seq := { x.seq with flags := x.seq.flags.filter (fun e => e != mark) } }
    (s.seq.flags.contains mark = false →
      (ownedAway s ps = true → exec (.collective t) s = .next (settle s s)) ∧
      (ownedAway s ps = false → sleepingBanks s ps ≠ [] →
        exec (.collective t) s = .next (settle s (wakeBanks (sleepingBanks s ps) s))) ∧
      (ownedAway s ps = false → sleepingBanks s ps = [] → coSends c r me (touchBanks ps s) = none →
        exec (.collective t) s = .next (settle s s)) ∧
      (∀ u, ownedAway s ps = false → sleepingBanks s ps = [] → coSends c r me (touchBanks ps s) = some u →
        let x := { u with seq := { u.seq with flags := u.seq.flags ++ [mark] } }
        exec (.collective t) s = .next (settle s (if coEnds r me x then advance t OpStat0 (unmark x) else x)))) ∧
    (s.seq.flags.contains mark = true →
      exec (.collective t) s = .next (settle s (if coEnds r me s then advance t OpStat0 (unmark s) else s)))) ∧
  (∀ s (b : Fin 256) st, advance (.bay b) st s =
    let bs := modAt s.seq.bays b.val (fun r => { r with stat := statOr r.stat st })
    { s with seq := { s.seq with bays := modAt bs b.val (fun r => { r with pc := r.pc + 1 }) } }) ∧
  (∀ s t, threadCmd s t = none → ∀ c ∈ [Instr.deckOp t, .deckLoad t, .deckStore t, .swingLoad t, .sendCmd t, .signalCmd t,
    .waitCmd t, .refreshCmd t, .collective t], exec c s = .next (settle s s))

/-- MEM_ALLOC, MEM_FREE, QUEUE_CREATE, QUEUE_DESTROY, QUEUE_READ, QUEUE_ATTACH, TOLL_CONFIG and TOLL_READ (R451, R458,
R461, R463, R472, R473, R482, R504, 15_memory_host_queues.md, 16_gatehouse_protocol.md). MEM_ALLOC answers the address
of a free block of the MiB asked for and records it, or NO_SPACE where there is none; the block starts at MiB 256 or
at the end of an allocated block, ends within toll space, overlaps no allocated block, and is the lowest such place
(log entry 29). MEM_FREE drops the block at its address, with IN_USE where something still holds it and INVALID_PARAM
where there is none (log entry 88). QUEUE_CREATE of a FREE queue makes it ACTIVE and empty with the fields of its
request, DROPPED carried over (log entry 30), and reports the last words where it is queue 0x0001; it is refused with
STATE of any other. QUEUE_DESTROY returns a queue to FREE and drops its doorbells, with IN_USE where something names
it, NOT_FOUND where it is FREE and INVALID_PARAM where the host may not create it. QUEUE_READ answers the context and
clears DROPPED (log entry 38), or NOT_FOUND of a FREE queue. QUEUE_ATTACH of a DETACHED host queue sets BASE, moves
HEAD to TAIL, makes it ACTIVE and drops its doorbells, and is refused with STATE otherwise. TOLL_CONFIG sets the
twelve limits. TOLL_READ answers the channels and the byte counters. -/
def Obligations.QueueCommandsComplete : Prop :=
  (∀ s (m : Fin 16) r p, Accepts s m specMemAlloc r p →
    (∀ a, findMib s (fld p 0 4) = some a → exec (.memAlloc m) s = .next (answered m (leBytes 8 (a * 2 ^ 20)) s
      { takeReq s with gh := { (takeReq s).gh with allocs := s.gh.allocs ++ [⟨a, fld p 0 4⟩] } })) ∧
    (findMib s (fld p 0 4) = none → exec (.memAlloc m) s = .next (refused m 0x0005 0 s (takeReq s)))) ∧
  (∀ s n,
    let starts := 256 :: s.gh.allocs.map (fun b => b.mib + b.size)
    let fits := fun a => a + n ≤ tollMib s ∧ ∀ b ∈ s.gh.allocs, overlap a n b.mib b.size = false
    (∀ a, findMib s n = some a → a ∈ starts ∧ fits a ∧ ∀ a' ∈ starts, fits a' → a ≤ a') ∧
    (findMib s n = none → ∀ a ∈ starts, ¬ fits a)) ∧
  (∀ s (m : Fin 16) r p, Accepts s m (plain 0x0A02 0x0100 8 0) r p →
    let at_ := s.gh.allocs.find? (fun b => decide (b.mib * 2 ^ 20 = fld p 0 8))
    (∀ b, at_ = some b → blockHeld s b = false → exec (.memFree m) s = .next (answered m [] s
      { takeReq s with gh := { (takeReq s).gh with allocs := s.gh.allocs.erase b } })) ∧
    (∀ b, at_ = some b → blockHeld s b = true → exec (.memFree m) s = .next (refused m 0x0004 0 s (takeReq s))) ∧
    (at_ = none → exec (.memFree m) s = .next (refused m 0x0017 0 s (takeReq s)))) ∧
  (∀ s (m : Fin 16) r p, Accepts s m specQueueCreate r p →
    let q := fld p 0 2
    let u := setQ (takeReq s) q { Queue0 with
      st := .active, content := BitVec.ofNat 2 (fld1 p 2), log2 := fld1 p 3, host := fld1 p 4 == 1,
      vector := BitVec.ofNat 8 (fld1 p 5), base := BitVec.ofNat 64 (fld p 8 8), watermark := BitVec.ofNat 32 (fld p 16 4),
      holdoff := BitVec.ofNat 16 (fld p 20 2), dropped := (getQ s q).dropped }
    ((getQ s q).st = .free → exec (.queueCreate m) s = .next (answered m [] s (if q = 1 then reportLastWords u else u))) ∧
    ((getQ s q).st ≠ .free → exec (.queueCreate m) s = .next (refused m 0x0019 0 s (takeReq s)))) ∧
  (∀ s (m : Fin 16) r p, Accepts s m (specQueue 0x0A04 8 0) r p →
    let q := fld p 0 2
    (hostQueue q = false → exec (.queueDestroy m) s = .next (refused m 0x0017 0 s (takeReq s))) ∧
    (hostQueue q = true → (getQ s q).st = .free → exec (.queueDestroy m) s = .next (refused m 0x0018 0 s (takeReq s))) ∧
    (hostQueue q = true → (getQ s q).st ≠ .free → queueNamed s q = true →
      exec (.queueDestroy m) s = .next (refused m 0x0004 0 s (takeReq s))) ∧
    (hostQueue q = true → (getQ s q).st ≠ .free → queueNamed s q = false →
      exec (.queueDestroy m) s = .next (answered m [] s { takeReq s with q := { s.q with
        queues := Tab.set Queue0 s.q.queues q Queue0, jobBells := s.q.jobBells.filter (fun b => b.1 != q) } }))) ∧
  (∀ s (m : Fin 16) r p, Accepts s m (specQueue 0x0A05 8 32) r p →
    let q := fld p 0 2
    ((getQ s q).st ≠ .free → exec (.queueRead m) s = .next (answered m (queueBytes q (getQ s q)) s
      (setQ (takeReq s) q { getQ s q with dropped := 0 }))) ∧
    ((getQ s q).st = .free → exec (.queueRead m) s = .next (refused m 0x0018 0 s (takeReq s)))) ∧
  (∀ s (m : Fin 16) r p, Accepts s m specQueueAttach r p →
    let q := fld p 0 2
    let x := getQ s q
    (x.st = .detached → x.host = true → exec (.queueAttach m) s = .next (answered m [] s { takeReq s with q := { s.q with
      queues := Tab.set Queue0 s.q.queues q { x with st := .active, base := BitVec.ofNat 64 (fld p 8 8), head := x.tail },
      jobBells := s.q.jobBells.filter (fun b => b.1 != q) } })) ∧
    (x.st ≠ .detached ∨ x.host = false → exec (.queueAttach m) s = .next (refused m 0x0019 0 s (takeReq s)))) ∧
  (∀ s (m : Fin 16) r p, Accepts s m specTollConfig r p → exec (.tollConfig m) s = .next (answered m [] s
    { takeReq s with mem := { s.mem with limits := (List.range 12).map (fun i => BitVec.ofNat 8 (fld1 p i)) } })) ∧
  (∀ s (m : Fin 16) r p, Accepts s m (plain 0x0A08 0x0100 0 400) r p → exec (.tollRead m) s = .next (answered m
    ((List.range 4).flatMap (fun c => leBytes 4 (tollStatus (Tab.get TollCh0 s.mem.gate c))) ++
      (List.range 48).flatMap (fun k => leBytes 8 (bytesWord (Tab.get ⟨0, false⟩ s.mem.bytes k)))) s (takeReq s)))

/-- Doorbells, production, holdoff timers, failed accesses and toll bursts (R459, R460, R461, R463, R474, R475, R476,
R477, R478, R480, R482, 15_memory_host_queues.md). A doorbell of a queue that is FREE or owned by firmware is
discarded and counted. A PTR write moves HEAD of a produced queue forward by at most the occupancy, and TAIL of a JOB
queue by at most the room that is left, a doorbell where it moves; any other value sets QERR, posts the error and
moves nothing. ARM sets ARMED; where the queue's condition holds and it has a vector, its message is sent at once,
which clears ARMED and the holdoff timer; of queue 0x0001 the last words are reported then. CLEAR_QERR clears QERR,
and for a JOB queue that holds entries stands for a doorbell; without QERR it changes nothing. Of the entries that
wait the oldest that need not wait is taken: it is produced where its queue is ACTIVE and not full, and dropped where
not; with none, nothing changes. Writing an entry into a ring stores its 64 bytes at BASE + 64 × (TAIL modulo the
ring's entries), in host or toll memory, and advances TAIL by one. A holdoff timer that has run out clears, and an
armed queue with a vector that holds an entry sends its message; with no timer, or one that has not run out, nothing
changes. A failed access to an ACTIVE host queue detaches it and posts the error, a JOB queue's entry that was to be
read being discarded with QERR; to any other queue it changes nothing. A toll decision grants the winner, one of the
requesters present, 1 to 32 lines, counts them, clears its wait counter and counts one more wait, up to 255, for every
requester that lost; with no requester the channel is idle. -/
def Obligations.DoorbellsAndProductionComplete : Prop :=
  (∀ s (q : BitVec 16) v, (getQ s q.toNat).st = .free ∨ (getQ s q.toNat).fw = true →
    let u := { s with q := { s.q with discarded := ctrBump s.q.discarded } }
    exec (.queueDoorbellPtr q v) s = .next (settle s u) ∧ exec (.queueDoorbellArm q) s = .next (settle s u) ∧
      exec (.queueDoorbellClearQerr q) s = .next (settle s u)) ∧
  (∀ s (q : BitVec 16) (v : BitVec 32), (getQ s q.toNat).st ≠ .free → (getQ s q.toNat).fw = false →
    let x := getQ s q.toNat
    (x.content ≠ 3 → (v - x.head).toNat ≤ (x.tail - x.head).toNat →
      exec (.queueDoorbellPtr q v) s = .next (settle s (setQ s q.toNat { x with head := v }))) ∧
    (x.content = 3 → (v - x.tail).toNat ≤ 2 ^ x.log2 - (x.tail - x.head).toNat →
      let u := setQ s q.toNat { x with tail := v }
      exec (.queueDoorbellPtr q v) s = .next (settle s
        (if v = x.tail then u else { u with q := { u.q with jobBells := s.q.jobBells ++ [(q.toNat, v)] } }))) ∧
    ((if x.content = 3 then 2 ^ x.log2 - (x.tail - x.head).toNat < (v - x.tail).toNat
        else (x.tail - x.head).toNat < (v - x.head).toNat) →
      exec (.queueDoorbellPtr q v) s = .next (settle s (post 0x2703 0 0 q.toNat v.toNat (setQ s q.toNat { x with qerr := true })))) ∧
    (let u := setQ s q.toNat { x with armed := true }
      let w := if x.vector ≠ 0xFF ∧ queueDue x = true then
        sendVector x.vector.toNat (setQ u q.toNat { x with armed := false, timer := none }) else u
      exec (.queueDoorbellArm q) s = .next (settle s (if q.toNat = 1 then reportLastWords w else w))) ∧
    (x.qerr = true →
      let u := setQ s q.toNat { x with qerr := false }
      exec (.queueDoorbellClearQerr q) s = .next (settle s (if x.content = 3 ∧ x.head ≠ x.tail then
        { u with q := { u.q with jobBells := s.q.jobBells.filter (fun b => b.1 != q.toNat) ++ [(q.toNat, x.tail)] } } else u))) ∧
    (x.qerr = false → exec (.queueDoorbellClearQerr q) s = .next (settle s s))) ∧
  (∀ s i w, nextProd s = some i → s.q.waiting[i]? = some w →
    let u := { s with q := { s.q with waiting := s.q.waiting.eraseIdx i } }
    (queueOpen (getQ s w.queue) = true → exec .queueProduce s = .next (settle s (produce w.queue w.entry u))) ∧
    (queueOpen (getQ s w.queue) = false → exec .queueProduce s = .next (settle s (dropEntryOf w.queue u)))) ∧
  (∀ s, nextProd s = none → exec .queueProduce s = .next (settle s s)) ∧
  (∀ s q e, (getQ (ringWrite q e s) q).tail = (getQ s q).tail + 1 ∧
    let a := (getQ s q).base.toNat + 64 * ((getQ s q).tail.toNat % 2 ^ (getQ s q).log2)
    ((getQ s q).host = true → (ringWrite q e s).mem = { s.mem with hostMem := memWrite s.mem.hostMem a (padTo 64 e) }) ∧
    ((getQ s q).host = false →
      (ringWrite q e s).mem = { s.mem with toll := memWrite s.mem.toll a (padTo 64 e), tollAt := now s })) ∧
  (∀ s (q : BitVec 16), let x := getQ s q.toNat
    (∀ t, x.timer = some t → t ≤ now s →
      let u := setQ s q.toNat { x with timer := none }
      exec (.queueHoldoffExpiry q) s = .next (settle s (if x.armed = true ∧ x.vector ≠ 0xFF ∧ 0 < (x.tail - x.head).toNat then
        sendVector x.vector.toNat (setQ u q.toNat { x with armed := false, timer := none }) else u))) ∧
    ((x.timer = none ∨ ∃ t, x.timer = some t ∧ now s < t) → exec (.queueHoldoffExpiry q) s = .next (settle s s))) ∧
  (∀ s (q : BitVec 16), let x := getQ s q.toNat
    (x.host = true → x.st = .active → x.content ≠ 3 ∨ x.head = x.tail →
      exec (.queueAccessFail q) s = .next (settle s (post 0x2704 0 0 q.toNat 0 (setQ s q.toNat { x with st := .detached })))) ∧
    (x.host = true → x.st = .active → x.content = 3 → x.head ≠ x.tail →
      let y := { x with head := x.head + 1, qerr := true }
      exec (.queueAccessFail q) s = .next (settle s (post 0x2704 0 0 q.toNat 0
        (setQ (setQ s q.toNat y) q.toNat { y with st := .detached })))) ∧
    (x.host = false ∨ x.st ≠ .active → exec (.queueAccessFail q) s = .next (settle s s))) ∧
  (∀ s (c : Fin 4) (req : BitVec 12) (lines : BitVec 6),
    let t := Tab.get TollCh0 s.mem.gate c
    (∀ w, tollWinner t s.mem.limits req = some w →
      exec (.tollArbitration c req lines) s = .next (settle s { s with mem := { s.mem with
        tollAt := now s,
        gate := Tab.set TollCh0 s.mem.gate c ⟨true, BitVec.ofNat 4 w, req, tollWaits w req t.waits⟩,
        bytes := Tab.upd ⟨0, false⟩ s.mem.bytes (4 * w + c) (addBytes (64 * min 32 (max 1 lines.toNat))) } })) ∧
    (tollWinner t s.mem.limits req = none → exec (.tollArbitration c req lines) s = .next (settle s { s with mem :=
      { s.mem with gate := Tab.set TollCh0 s.mem.gate c { t with busy := false, req := 0 } } }))) ∧
  (∀ w (req : BitVec 12) (ws : List (BitVec 8)) i x, ws[i]? = some x →
    (tollWaits w req ws)[i]? = some (if i = w then 0 else if req.getLsbD i = true then (if x = 255 then 255 else x + 1) else x)) ∧
  (∀ t limits (req : BitVec 12), (∀ w, tollWinner t limits req = some w → req.getLsbD w = true) ∧
    tollWinner t limits 0 = none)

/-- Losing the host, poisoned packets and accesses through BAR2 (R69, R422, R469, R471, R482, R517,
02_part_journey_and_verdicts.md, 14_power_steward.md, 15_memory_host_queues.md, 17_boot_security.md). PERST_N, a hot
reset and a loss of the link end the session, discard the staged images (R526), clear the MSI-X table and its pending
bits and the interrupt enables, return the window base to its reset value, and detach every ACTIVE queue in host
memory; queues in toll memory, and everything else, stay; PERST_N also holds the endpoint until it is released, which
wakes its domain. A poisoned packet is counted, a poisoned read is aborted, and nothing is written. An access through
BAR2 within toll space above the firmware region reaches toll memory: a write stores its bytes there, and no other
byte, and a read changes no byte. One outside it is counted and posted and moves nothing (log entry 38). -/
def Obligations.HostEventsComplete : Prop :=
  (∀ s, let u := { s with
      imgs := s.imgs.filter (fun e => e.2.st != .staged),
      gh := { s.gh with session := none },
      host := { s.host with winBase := 0x100, msix := [], pba := 0, intEn := 0 },
      q := { s.q with queues := s.q.queues.map (fun e =>
        if e.2.host && e.2.st == .active then (e.1, { e.2 with st := .detached }) else e) } }
    exec .hotReset s = .next (settle s u) ∧ exec .pcieLinkLoss s = .next (settle s u) ∧
      exec .perstN s = .next (settle s { u with host := { u.host with perst := true } })) ∧
  (∀ s, exec .perstNRelease s = .next (settle s
    (wakeDom 63 (Config.perstWakeSrc (now s) % 16) none { s with host := { s.host with perst := false } }))) ∧
  (∀ s, let u := { s with host := { s.host with poisoned := ctrBump s.host.poisoned } }
    exec (.poisonedTlp false) s = .next (settle s u) ∧ exec (.poisonedTlp true) s = .next (settle s (emit .abortRead u))) ∧
  (∀ s (off : BitVec 30) acc,
    let a := s.host.winBase.toNat * 2 ^ 20 + off.toNat
    tollOk s a (max 1 (bar2Len acc)) = false → exec (.bar2Access off acc) s = .next (settle s
      (post 0x1705 0 63 (a / 64 % 2 ^ 32) 0 { s with host := { s.host with bar2Refused := ctrBump s.host.bar2Refused } }))) ∧
  (∀ s (off : BitVec 30) d,
    let a := s.host.winBase.toNat * 2 ^ 20 + off.toNat
    tollOk s a (max 1 d.length) = true → exec (.bar2Access off (.write d)) s = .next (settle s (tollWrite a d (tollUse 6 s))) ∧
      (tollWrite a d (tollUse 6 s)).mem = { s.mem with toll := memWrite s.mem.toll a d, tollAt := now s }) ∧
  (∀ s (off : BitVec 30) (n : BitVec 13), tollOk s (s.host.winBase.toNat * 2 ^ 20 + off.toNat) (max 1 n.toNat) = true →
    exec (.bar2Access off (.read n)) s = .next (settle s (tollUse 6 s)) ∧ (tollUse 6 s).mem = { s.mem with tollAt := now s }) ∧
  (∀ (m : Mem) a d b, (b < a ∨ a + d.length ≤ b) → memRead (memWrite m a d) b 1 = memRead m b 1)

/-- REC_START, REC_STOP, REC_RELEASE, REC_READ, LOT_OPEN, CHECKPOINT, and a segment written (R256, R257, R258, R261, R264,
R265, R493, R504, 08_determinism_replay.md, 16_gatehouse_protocol.md). REC_START of a stopped recorder takes the rings
and flags of its request, starts at SEG_SEQ 0 with nothing waiting, and writes a LOT record; it is refused with STATE
on a running one. REC_STOP of a running recorder lets what waits be written as far as the policy allows, closes the
stream with an END record and stops with nothing left waiting (log entry 55), and is refused with STATE otherwise.
REC_RELEASE frees host segments up to the one named, never beyond those written and never backwards. REC_READ answers
REC_STATUS, REC_LOST and the next SEG_SEQ and clears REC_LOST. With no crossing running LOT_OPEN and CHECKPOINT act at
once and answer 0: the lot gets its ID and its key and starts its epochs afresh, every track is reset if asked, the
checkpoint is taken, and the command is recorded. While crossings run both wait for the boundary. A checkpoint due
resets the tracks where asked and is taken, once. A segment is written where the recorder runs and one waits: the
oldest goes into its places of the toll ring and, in host mode, of the host ring where the policy allows it, SEG_SEQ
counting on up to its largest value; a loss that is over is reported, with its event, once nothing waits, and a
checkpoint under way goes on. Otherwise nothing changes. -/
def Obligations.RecorderCommandsComplete : Prop :=
  (∀ s (m : Fin 16) r p, Accepts s m specRecStart r p →
    (s.rec_.running = false → exec (.recStart m) s = .next (answered m [] s (recLot { takeReq s with rec_ := { s.rec_ with
      running := true, hostMode := bitOf (fld1 p 0) 0, overwrite := bitOf (fld1 p 0) 1, ringBase := fld p 8 8,
      ringSegs := fld p 16 4, hostBase := fld p 24 8, hostSegs := fld p 32 4, hostReleased := 0, segSeq := 0, written := 0,
      cur := [], full := [], gapCount := 0, gapFirst := 0, gapLast := 0, ckQueue := [], ckptBusy := false } }))) ∧
    (s.rec_.running = true → exec (.recStart m) s = .next (refused m 0x0019 0 s (takeReq s)))) ∧
  (∀ s (m : Fin 16) r p, Accepts s m (plain 0x0B02 0x0102 0 0) r p →
    (s.rec_.running = true →
      let a := times (s.rec_.ckQueue.length + 1) flushOn (takeReq s)
      let u := flushOne (flushOne (closeCur (recPut 0xF (now s) (zeros 8) a)))
      exec (.recStop m) s = .next (answered m [] s { u with rec_ := { u.rec_ with
        running := false, cur := [], full := [], gapCount := 0, ckQueue := [], ckptBusy := false } })) ∧
    (s.rec_.running = false → exec (.recStop m) s = .next (refused m 0x0019 0 s (takeReq s)))) ∧
  (∀ s (m : Fin 16) r p, Accepts s m (plain 0x0B03 0x0102 8 0) r p → exec (.recRelease m) s = .next (answered m [] s
    { takeReq s with rec_ := { s.rec_ with hostReleased := max s.rec_.hostReleased (min s.rec_.segSeq (fld p 0 8 + 1)) } })) ∧
  (∀ s (m : Fin 16) r p, Accepts s m (plain 0x0B04 0x0102 0 16) r p → exec (.recRead m) s = .next (answered m
    (leBytes 4 (recStatus s) ++ ctrBytes s.rec_.lost ++ leBytes 8 s.rec_.segSeq) s
    { takeReq s with rec_ := { s.rec_ with lost := Ctr0 } })) ∧
  (∀ s (m : Fin 16) r p, Accepts s m specLotOpen r p →
    (s.seq.started = true → exec (.lotOpen m) s = .next (settle s (hold m 0x0B05 p [.sequencer] true none (takeReq s)).1)) ∧
    (s.seq.started = false → exec (.lotOpen m) s = .next (answered m (zeros 8) s (recNoCrossing [] [(0x0B05, p)]
      (checkpointStep { takeReq s with
        slots := { s.slots with epochs := [] },
        rec_ := { s.rec_ with
          lotId := BitVec.ofNat 64 (fld p 0 8), lotKey := BitVec.ofNat 64 (now s),
          seqStart := (List.range 4).map (fun i => Tab.get 0 s.slots.seqs i), ckptDue := true,
          ckptReset := s.rec_.ckptReset || bitOf (fld1 p 8) 0 } }))))) ∧
  (∀ s (m : Fin 16) r p, Accepts s m { plain 0x0B06 0x0102 0 8 with objs := fun _ => [.sequencer] } r p →
    (s.seq.started = true → exec (.checkpoint m) s = .next (settle s (hold m 0x0B06 p [.sequencer] true none (takeReq s)).1)) ∧
    (s.seq.started = false → exec (.checkpoint m) s = .next (answered m (zeros 8) s (recNoCrossing [] [(0x0B06, p)]
      (checkpointStep { takeReq s with rec_ := { s.rec_ with ckptDue := true } }))))) ∧
  (∀ s, (s.rec_.ckptDue = true →
    let u := if s.rec_.ckptReset then resetAllTracks s else s
    checkpointStep s = takeCheckpoint (nextCrossing s) { u with rec_ := { u.rec_ with ckptDue := false, ckptReset := false } }) ∧
    (s.rec_.ckptDue = false → checkpointStep s = s)) ∧
  (∀ s, (s.rec_.running = true → s.rec_.full ≠ [] →
      let u := gapRecord (flushOne s)
      exec .recSegmentWritten s = .next (settle s { u with rec_ := recFlow u.rec_ })) ∧
    (s.rec_.running = false ∨ s.rec_.full = [] → exec .recSegmentWritten s = .next (settle s s))) ∧
  (∀ s g rest, s.rec_.full = g :: rest →
    (canWrite s.rec_ = true → flushOne s = { writeSegment g s with rec_ := { s.rec_ with
      full := rest, segSeq := min (2 ^ 64 - 1) (s.rec_.segSeq + 1), written := s.rec_.written + 1 } }) ∧
    (canWrite s.rec_ = false → flushOne s = s)) ∧
  (∀ g s, let b := segmentBytes s.span.node.toNat s.rec_.segSeq s.rec_.lotId.toNat g
    let host := s.rec_.hostBase + s.rec_.segSeq % max 1 s.rec_.hostSegs * 262144
    let toll := memWrite s.mem.toll (s.rec_.ringBase + s.rec_.segSeq % max 1 s.rec_.ringSegs * 262144) b
    (s.rec_.hostMode = false → (writeSegment g s).mem = { s.mem with toll := toll, tollAt := now s }) ∧
    (s.rec_.hostMode = true → (writeSegment g s).mem = { s.mem with toll := toll, tollAt := now s, hostMem := memWrite s.mem.hostMem host b })) ∧
  (∀ s, (s.rec_.gapCount = 0 ∨ s.rec_.full ≠ [] → gapRecord s = s) ∧
    (s.rec_.gapCount ≠ 0 → s.rec_.full = [] →
      let n := min s.rec_.gapCount (2 ^ 32 - 1)
      let g := recBytes 0xE (now s) (leBytes 4 n ++ zeros 4 ++ leBytes 8 s.rec_.gapFirst ++ leBytes 8 s.rec_.gapLast)
      let b := { s.rec_ with gapCount := 0, gap := true }
      gapRecord s = post 0x2701 0 0 n 0 { s with rec_ := (bufPut g b).getD b }))

/-- REPLAY_OPEN, REPLAY_RUN, REPLAY_STOP and the feeding of records (R255, R261, R265, R266, R267, R269,
08_determinism_replay.md). REPLAY_OPEN is refused with STATE on a device that runs, records or replays, and with
NOT_FOUND where its queue is not an ACTIVE RECORD queue. Otherwise its answer is held until COMMAND_COMPLETE:
INVALID_PARAM 8 where the stream holds a reserved type, SIGNATURE where a LOT record names another revision or an
image not committed here, and INVALID_PARAM 24 where no valid segment has the SEG_SEQ of the request or no origin with
its whole checkpoint stands there, nothing being changed; else OK, the device in replay mode, its slots, pools, ramps
and other items restored from the checkpoint and its place at the oldest segment that reaches the origin without a
break. REPLAY_RUN is refused with STATE unless a replay is open and does not run; else the replay runs, and where a
crossing starts after the origin the sequencer stands ready under that crossing's image and rating, the crossing
before it as its last and the halo and ramps as restored. REPLAY_STOP ends a replay, and is refused with STATE without
one. A replay that ends posts the records of fired slots and the event, and leaves no job, band, commit or candidate,
every slot FREE with its generation kept, the sequencer stopped and replay mode off. A replay that runs ends where it
drains and its last record is done; else, at the end of a segment, it goes on to the next; else it feeds the record at
its place, and goes on past it unless the record must wait. A replay that does not run feeds nothing. -/
def Obligations.ReplayCommandsComplete : Prop :=
  (∀ s (m : Fin 16) r p, Accepts s m specReplayOpen r p →
    let q := getQ s (fld p 20 2)
    let x : Stream := ⟨bitOf (fld1 p 0) 0, fld p 8 8, fld p 16 4⟩
    let ans := fun (a : Reply) (u : State) => held m 0x0B07 p [.sequencer, .queue (fld p 20 2)] a s u
    (s.seq.started = true ∨ s.rec_.running = true ∨ s.replay.mode = true →
      exec (.replayOpen m) s = .next (refused m 0x0019 0 s (takeReq s))) ∧
    (s.seq.started = false → s.rec_.running = false → s.replay.mode = false →
      (q.st ≠ .active ∨ q.content ≠ 0 → exec (.replayOpen m) s = .next (refused m 0x0018 0 s (takeReq s))) ∧
      (q.st = .active → q.content = 0 →
        (anyReserved s x = true → exec (.replayOpen m) s = .next (ans ⟨0x0017, 8, []⟩ (takeReq s))) ∧
        (anyReserved s x = false → anyForeign s x = true → exec (.replayOpen m) s = .next (ans (refuse 0x0022) (takeReq s))) ∧
        (anyReserved s x = false → anyForeign s x = false →
          (segFind s x (fld p 24 8) = none → exec (.replayOpen m) s = .next (ans ⟨0x0017, 24, []⟩ (takeReq s))) ∧
          (∀ i, segFind s x (fld p 24 8) = some i →
            let b := segRaw s x i
            let items := checkpointItems (streamFrom s x x.segs (fld p 24 8))
            (originOff (segRecs b) = none ∨ items = none →
              exec (.replayOpen m) s = .next (ans ⟨0x0017, 24, []⟩ (takeReq s))) ∧
            (∀ o l, originOff (segRecs b) = some o → items = some l →
              let old := oldestSeg s x x.segs (fld p 24 8)
              let imgs := lotImages s (streamFrom s x (fld p 24 8 - old) old ++ recsIn 16384 ((slice b 32 (fld b 24 4)).take o))
              exec (.replayOpen m) s = .next (ans ⟨0, 0, []⟩ (noteFreezes (streamFrom s x x.segs (fld p 24 8))
                (restoreItems imgs l { takeReq s with replay := { Replay0 with
                  mode := true, host := x.host, base := x.base, segs := x.segs, seg := (segFind s x old).getD i, segSeq := old, off := 0,
                  origin := (fld p 24 8, o), stopCrossing := BitVec.ofNat 64 (fld p 32 8), queue := fld p 20 2, imgs := imgs,
                  pre := true } }))))))))) ∧
  (∀ s (m : Fin 16) r p, Accepts s m { plain 0x0B08 0x0102 0 0 with objs := fun _ => [.sequencer] } r p →
    (s.replay.mode = false ∨ s.replay.running = true → exec (.replayRun m) s = .next (refused m 0x0019 0 s (takeReq s))) ∧
    (s.replay.mode = true → s.replay.running = false →
      (firstBoundary s = none → exec (.replayRun m) s = .next (answered m [] s
        { takeReq s with replay := { s.replay with running := true } })) ∧
      ∀ b, firstBoundary s = some b →
        let u := startSeq (s.replay.imgs.getD (fld1 b.data 8) 0) (now s) (takeReq s)
        exec (.replayRun m) s = .next (answered m [] s { u with
          seq := { u.seq with
            due := false, halo := s.seq.halo, haloBand := s.seq.haloBand, rated := true, rating := fld1 b.data 9,
            newRating := true, crossing := BitVec.ofNat 64 (fld b.data 0 8) - 1, flags := [] },
          cams := (List.range 4).foldl (fun t p => Tab.upd Cam0 t p (fun c =>
            { c with rawNo := s.replay.first.getD p 0, outNo := s.replay.first.getD p 0 / max 1 (apExp c.ap), group := [] })) u.cams,
          ramps := s.ramps,
          replay := { s.replay with running := true } }))) ∧
  (∀ s (m : Fin 16) r p, Accepts s m { plain 0x0B09 0x0102 0 0 with objs := fun _ => [.sequencer] } r p →
    (s.replay.mode = true → exec (.replayStop m) s = .next (answered m [] s (replayEnd 1 (takeReq s)))) ∧
    (s.replay.mode = false → exec (.replayStop m) s = .next (refused m 0x0019 0 s (takeReq s)))) ∧
  (∀ k s,
    let n := s.slots.lateRecords.length + s.slots.records.length
    let u := times n (fun a => lateRecordPost (recordPost a)) (sawLevels s)
    replayEnd k s = post 0x1702 0 0 k (s.seq.crossing.toNat % 2 ^ 32) { u with
      slots := { u.slots with
        tab := u.slots.tab.foldl (fun t e => Tab.set Slot0 t e.1 { Slot0 with gen := e.2.gen }) [],
        commits := [], records := [], lateRecords := [], cands := [], instant := [] },
      jobs := [], bands := [],
      seq := { u.seq with started := false, active := false, due := false, launched := false, flags := [], segs := [], bandOf := [] },
      replay := Replay0 } ∧
    ∀ i, (getSlot (replayEnd k s) i).st = .free) ∧
  (∀ s, s.replay.mode = true → s.replay.running = true → halted s = false →
    let b := segRaw s ⟨s.replay.host, s.replay.base, s.replay.segs⟩ s.replay.seg
    let u := if (s.replay.pre && s.replay.origin == (s.replay.segSeq, s.replay.off)) = true then
      { s with replay := { s.replay with pre := false } } else s
    exec .replayRecord s = .next (settle s (if (s.replay.draining && replayDone s) = true then replayEnd 0 s else
      match recHead ((slice b 32 (fld b 24 4)).drop s.replay.off) with
      | none => nextSegment s
      | some r =>
        match replayOne r u with
        | none => u
        | some v => if v.replay.mode = true then { v with replay := { v.replay with off := s.replay.off + r.len } } else v))) ∧
  (∀ s, s.replay.mode = false ∨ s.replay.running = false ∨ halted s = true → exec .replayRecord s = .next (settle s s))

/-- SPAN_CONFIG, SPAN_ROUTE, SPAN_RETRAIN, LANE_TEST, SPAN_READ, SPAN_WINDOW and SPAN_COPY (R379, R382, R383, R384, R395,
R398, R399, R401, R402, R412, R504, 13_span_links_time.md). SPAN_CONFIG takes the node ID, the keystone role and the
eight port entries; while crossings run it is refused with BUSY_RUNNING if it changes the node ID or a port that the
running table uses. An entry that changes nothing leaves its port alone; one that enables a port takes its rate and
versions and starts training where the port's domain is ON, and wakes the domain where it is not (log entry 64); one
that disables it leaves the port DISABLED without lanes, version, neighbour or test. SPAN_ROUTE writes its entries at
their places, and is refused with UNSUPPORTED where an entry puts VC 1 on a port at version 1 (log entry 64).
SPAN_RETRAIN retrains every port but a DISABLED one, which is refused with STATE. A retrain puts the port in TRAIN
from now on, without lanes, mask, version, neighbour or test, adds the lanes that caused it to the bad ones, counts in
word 7 and leaves the rest of the port as it was. LANE_TEST of a DISABLED port is refused with STATE; its stop leaves
TEST by a retrain and is refused with STATE in any other state; below version 2.3 it is refused with UNSUPPORTED on a
link that is UP; injection 1 or 2 on such a link falls on one frame to come; otherwise the port is in TEST and its
lanes under test send the pattern asked for. SPAN_READ adds the bit errors that the checkers of the tested lanes have
counted, free values for each port, lane and read, to words 0 to 3 (log entry 116), answers SP_STATUS and the
counters, clears the counters, leaves the lanes still under test as the tested ones, and counts the read. SPAN_WINDOW
takes the copy window. SPAN_COPY hands the messages of its copy to the stack and holds its answer. -/
def Obligations.SpanCommandsComplete : Prop :=
  (∀ s (m : Fin 16) r p, Accepts s m specSpanConfig r p →
    let node := BitVec.ofNat 11 (fld p 0 2)
    (s.seq.started = true → node ≠ s.span.node ∨
        (∃ i, i < 8 ∧ portInUse s i = true ∧ spanSame (getSpan s i) (spanEntry p i) = false) →
      exec (.spanConfig m) s = .next (refused m 0x0002 0 s (takeReq s))) ∧
    (s.seq.started = false ∨ (node = s.span.node ∧
        ∀ i, i < 8 → portInUse s i = true → spanSame (getSpan s i) (spanEntry p i) = true) →
      exec (.spanConfig m) s = .next (answered m [] s ((List.range 8).foldl (fun a i => spanApply i (spanEntry p i) a)
        (setRole (ksRole (fld1 p 2)) s.time.fixedParent { takeReq s with span := { s.span with node := node } }))))) ∧
  (∀ s i e, (spanSame (getSpan s i) e = true → spanApply i e s = s) ∧
    (spanSame (getSpan s i) e = false →
      let x := { getSpan s i with enabled := bitOf (fld1 e 0) 0, rate := fld1 e 1, vmin := fld1 e 2, vmax := fld1 e 3 }
      (x.enabled = true → isOn s (51 + i) = true → spanApply i e s = startTrain i (setSpan s i x)) ∧
      (x.enabled = true → isOn s (51 + i) = false → spanApply i e s = wakeCfg (51 + i) (setSpan s i x)) ∧
      (x.enabled = false → spanApply i e s =
        reparent (setSpan s i { x with st := .disabled, lanes := 0, version := 0, neigh := none, test := none })))) ∧
  (∀ s (m : Fin 16) r p, Accepts s m specSpanRoute r p →
    let es := (List.range (fld1 p 2)).map (fun i => (fld p 0 2 + i, fld p (8 + 2 * i) 2))
    ((∃ e ∈ es, bitOf e.2 14 = true ∧ (getSpan s (e.2 % 8)).version = 1) →
      exec (.spanRoute m) s = .next (refused m 0x0014 0 s (takeReq s))) ∧
    ((∀ e ∈ es, bitOf e.2 14 = true → (getSpan s (e.2 % 8)).version ≠ 1) →
      exec (.spanRoute m) s = .next (answered m [] s { takeReq s with
        span := { s.span with routes := es.foldl (fun t e => Tab.set 0 t e.1 (BitVec.ofNat 16 e.2)) s.span.routes } }))) ∧
  (∀ s (m : Fin 16) r p, Accepts s m (specPort 0x0C03 0) r p →
    ((getSpan s (fld1 p 0)).st = .disabled → exec (.spanRetrain m) s = .next (refused m 0x0019 0 s (takeReq s))) ∧
    ((getSpan s (fld1 p 0)).st ≠ .disabled →
      exec (.spanRetrain m) s = .next (answered m [] s (retrain (fld1 p 0) 0 (takeReq s))))) ∧
  (∀ s p bad, let x := getSpan s p
    getSpan (retrain p bad s) p = { x with
      st := .train, trainAt := now s, lanes := 0, version := 0, neigh := none, test := none, mask := 0,
      badLanes := x.badLanes ||| bad, ctrs := modAt x.ctrs 7 (fun c => ctrAdd c 1),
      lastWidth := if x.st = .up then laneCount x.lanes else x.lastWidth }) ∧
  (∀ s (m : Fin 16) r p, Accepts s m specLaneTest r p →
    let x := getSpan s (fld1 p 0)
    let inj := bitsOf (fld1 p 3) 5 4
    (x.st = .disabled → exec (.laneTest m) s = .next (refused m 0x0019 0 s (takeReq s))) ∧
    (x.st = .test → fld1 p 6 = 1 → exec (.laneTest m) s = .next (answered m [] s (retrain (fld1 p 0) 0 (takeReq s)))) ∧
    (x.st ≠ .test → fld1 p 6 = 1 → exec (.laneTest m) s = .next (refused m 0x0019 0 s (takeReq s))) ∧
    (x.st = .up → fld1 p 6 ≠ 1 → 0x0203 ≤ s.gh.version → inj = 1 ∨ inj = 2 →
      exec (.laneTest m) s = .next (answered m [] s (setSpan (takeReq s) (fld1 p 0)
        { x with inject := some (inj, if inj = 1 then 1 else fld1 p 4) }))) ∧
    (x.st = .up → fld1 p 6 ≠ 1 → s.gh.version < 0x0203 → exec (.laneTest m) s = .next (refused m 0x0014 0 s (takeReq s))) ∧
    (x.st ≠ .disabled → fld1 p 6 ≠ 1 → (x.st = .up → 0x0203 ≤ s.gh.version ∧ inj ≠ 1 ∧ inj ≠ 2) →
      exec (.laneTest m) s = .next (answered m [] s (emit (.spanPattern (fld1 p 0) (slice p 1 5))
        (reparent (setSpan (takeReq s) (fld1 p 0)
          { x with st := .test, lanes := 0, version := 0, neigh := none,
                   lastWidth := if x.st = .up then laneCount x.lanes else x.lastWidth,
                   checked := x.checked ||| BitVec.ofNat 4 (fld1 p 1),
                   test := some ⟨BitVec.ofNat 4 (fld1 p 1), fld1 p 2, inj, fld1 p 4, fld1 p 5⟩ })))))) ∧
  (∀ s (m : Fin 16) r p, Accepts s m (specPort 0x0C05 56) r p →
    let tested := (getSpan s (fld1 p 0)).checked
    let n := (getSpan s (fld1 p 0)).reads
    let x := (List.range 4).foldl (fun y i => if tested.getLsbD i then spBump i (Config.bitErrors (fld1 p 0) i n) y else y)
      (getSpan s (fld1 p 0))
    exec (.spanRead m) s = .next (answered m (leBytes 4 (spStatusWord x) ++ zeros 4 ++ ctrsBytes x.ctrs) s
      (setSpan (takeReq s) (fld1 p 0)
        { x with ctrs := List.replicate 12 Ctr0, checked := (x.test.map (fun t => t.lanes)).getD 0, reads := x.reads + 1 }))) ∧
  (∀ s (m : Fin 16) r p, Accepts s m specSpanWindow r p → exec (.spanWindow m) s = .next (answered m [] s
    { takeReq s with span := { s.span with winBase := fld p 0 8, winMib := fld p 8 4 } })) ∧
  (∀ s (m : Fin 16) r p, Accepts s m specSpanCopy r p → exec (.spanCopy m) s = .next (held m 0x0C07 p [] (okWith []) s
    (routeOwn (copyMsgs (fld p 0 2) s.span.node.toNat (fld p 4 4 % 2 ^ 24) (fld p 16 8) (tollRead s (fld p 8 8) (fld p 24 4)))
      (tollUse 7 (takeReq s)))))

/-- Training of a span link: the width, the capability exchange, the training time-out and loss of lock (R377, R379, R380,
R381, R382, R383, R389, R400, 13_span_links_time.md). In TRAIN the good lanes of both ends less the lanes found bad
choose the width (four lanes, else lanes 0 and 1, else 2 and 3, else the lowest good lane) and the port goes on to
CAPS, sending LOCKED markers and its CAPS block; without a lane in common it stays in TRAIN and its TRAIN markers
carry the good lanes. In CAPS, with the width both ends announce, the port comes UP with the highest version both
offer and its peer noted, DEGRADED where its width is less than before or, with bad lanes, less than four; a peer
other than the last starts the port's sequences and credits again and posts its event, DEGRADED posts its event and
moves restricted service, and a NEIGHBOR message leaves; without a common version an event is posted and training
starts over. A port still in TRAIN or CAPS 2 ms after it started to train starts over, counting in word 7 and posting
its event once until it has been UP. A port that is UP and loses lock on lanes it uses counts each such lane, marks
them bad and retrains. In any other state, with other widths, before the 2 ms and for lanes not in use these change
nothing. Markers of the four lanes carry lane, port, good-lane mask and whether the width is locked. Training that
starts (over) leaves the port in TRAIN from now on without lanes, mask, version, neighbour or test and with its last
width noted, reconsiders the parent and sends TRAIN markers. -/
def Obligations.SpanBringUpCompletes : Prop :=
  (∀ s (p : Fin 8) good partner, (getSpan s p).st = .train →
    let m := good &&& partner &&& ~~~(getSpan s p).badLanes
    (m = 0 → exec (.spanWidthChosen p good partner) s =
      .next (settle s (sendMarkers p false (setSpan s p { getSpan s p with mask := good })))) ∧
    (m ≠ 0 →
      let u := sendMarkers p true (setSpan s p { getSpan s p with mask := good, lanes := chooseLanes m, st := .caps })
      exec (.spanWidthChosen p good partner) s = .next (settle s (emit (.spanCaps p (capsBlock u p)) u)))) ∧
  (∀ s (p : Fin 8) good partner, (getSpan s p).st ≠ .train → exec (.spanWidthChosen p good partner) s = .next (settle s s)) ∧
  (chooseLanes 0xF = 0xF ∧ chooseLanes 0x7 = 3 ∧ chooseLanes 0xE = 0xC ∧ chooseLanes 0xA = 2 ∧
    ∀ m, m ≠ 0 → chooseLanes m ≠ 0 ∧ chooseLanes m &&& m = chooseLanes m) ∧
  (∀ s (p : Fin 8) c, (getSpan s p).st = .caps → laneCount (getSpan s p).lanes = c.width.toNat →
    let v := min (getSpan s p).vmax c.vmax.toNat
    (v < max (getSpan s p).vmin c.vmin.toNat → exec (.spanCaps p c) s =
      .next (settle s (spPost 0x2504 p c.vmin.toNat c.vmax.toNat (startTrain p s)))) ∧
    (max (getSpan s p).vmin c.vmin.toNat ≤ v →
      let x := getSpan s p
      let changed := x.hadPeer = true ∧ (x.peerNode ≠ c.node ∨ x.peerPort ≠ c.port.val)
      let w := laneCount x.lanes
      let deg := w < x.lastWidth ∨ (w < 4 ∧ x.badLanes ≠ 0)
      let y := { (if changed then { newPeer x with peerChanged := true } else x) with
        st := .up, version := v, peerNode := c.node, peerPort := c.port.val, hadPeer := true, degraded := decide deg,
        failPosted := false, lastWidth := w, crcFails := [], neighAt := now s }
      let s1 := if changed then spPost 0x1503 p x.peerNode.toNat c.node.toNat (setSpan s p y) else setSpan s p y
      let s2 := if deg then spPost 0x2502 p x.lanes.toNat x.badLanes.toNat s1 else s1
      exec (.spanCaps p c) s = .next (settle s (pump p (sendMsg p (neighborMsg s p) (degradedRs s2)))))) ∧
  (∀ s (p : Fin 8) c, (getSpan s p).st ≠ .caps ∨ laneCount (getSpan s p).lanes ≠ c.width.toNat →
    exec (.spanCaps p c) s = .next (settle s s)) ∧
  (∀ s (p : Fin 8), (getSpan s p).st = .train ∨ (getSpan s p).st = .caps → (getSpan s p).trainAt + 2000000 ≤ now s →
    exec (.spanTrainTimeout p) s = .next (settle s (startTrain p (setSpan
      (if (getSpan s p).failPosted then s else spPost 0x2501 p (getSpan s p).mask.toNat 0 s) p
      (spBump 7 1 { getSpan s p with failPosted := true }))))) ∧
  (∀ s (p : Fin 8), now s < (getSpan s p).trainAt + 2000000 ∨ ((getSpan s p).st ≠ .train ∧ (getSpan s p).st ≠ .caps) →
    exec (.spanTrainTimeout p) s = .next (settle s s)) ∧
  (∀ s (p : Fin 8) lanes, (getSpan s p).st = .up →
    let l := lanes &&& (getSpan s p).lanes
    (l = 0 → exec (.spanLockLoss p lanes) s = .next (settle s s)) ∧
    (l ≠ 0 → exec (.spanLockLoss p lanes) s =
      .next (settle s (retrain p l (setSpan s p (spBump 4 (laneCount l) (getSpan s p))))))) ∧
  (∀ s (p : Fin 8) lanes, (getSpan s p).st ≠ .up → exec (.spanLockLoss p lanes) s = .next (settle s s)) ∧
  (∀ s p b, sendMarkers p b s = { s with out := s.out ++ (List.range 4).map (fun i =>
    .spanMarker p (leBytes 1 i ++ leBytes 1 p ++ leBytes 1 (getSpan s p).mask.toNat ++ leBytes 1 (if b then 1 else 0))) }) ∧
  (∀ s p, startTrain p s = sendMarkers p false (reparent (setSpan s p { getSpan s p with
    st := .train, trainAt := now s, lanes := 0, version := 0, neigh := none, test := none, mask := 0,
    lastWidth := if (getSpan s p).st = .up then laneCount (getSpan s p).lanes else (getSpan s p).lastWidth })))

/-- A frame received, the replay time-out, and the acknowledgement timer (R386, R387, R388, R389, R390, R391,
13_span_links_time.md). On a port that is UP (outside replay mode) a frame whose length, CRC or LEN is wrong is
dropped: it is counted, a NAK leaves unless one is owed already, and more than 64 within 1 ms retrain the lanes in
use. Of a good frame a NULL frame gives its acknowledgement and credits; a DATA frame of a class with the expected
sequence number hands its messages to that class, the expected number going up by one, and gives its acknowledgement
and credits; one out of sequence is dropped whole and answered with a single NAK; a frame of any other type is
dropped. What waits for credit then leaves as far as it can. On any other port nothing changes. An accepted frame owes
one acknowledgement more, which leaves at once when 32 are owed; without a message its credit returns at once. An
acknowledgement of sequence a leaves exactly the frames after a in the replay buffer, a NAK of a those from a on,
which are sent again; credits set the limits of the three classes. With the oldest unacknowledged frame waiting 10 us
on a port that is UP every such frame is sent again; earlier, without one or on another port nothing changes. The
acknowledgement timer sends a NULL frame while an acknowledgement or a credit is owed, and else nothing. -/
def Obligations.SpanFramesComplete : Prop :=
  (∀ s (p : Fin 8) f, (getSpan s p).st = .up → s.replay.mode = false →
    (f.length ≠ 256 ∨ crc32 (f.take 252) ≠ fld f 252 4 ∨ 236 < fld f 12 2 →
      exec (.spanFrameReceive p f) s = .next (settle s (crcFail p s))) ∧
    (f.length = 256 → crc32 (f.take 252) = fld f 252 4 → fld f 12 2 ≤ 236 →
      (fld1 f 0 % 4 = 2 → exec (.spanFrameReceive p f) s = .next (settle s (pump p (takeAck p f s)))) ∧
      (fld1 f 0 % 4 ≠ 2 → fld1 f 0 % 4 ≠ 1 ∨ bitsOf (fld1 f 0) 3 2 = 3 →
        exec (.spanFrameReceive p f) s = .next (settle s (pump p s))) ∧
      (fld1 f 0 % 4 = 1 → bitsOf (fld1 f 0) 3 2 ≠ 3 →
        (BitVec.ofNat 12 (fld f 2 2) = (getSpan s p).rxSeq →
          exec (.spanFrameReceive p f) s = .next (settle s (pump p (takeAck p f (acceptData p f s))))) ∧
        (BitVec.ofNat 12 (fld f 2 2) ≠ (getSpan s p).rxSeq →
          let u := setSpan s p { getSpan s p with nakSent := true }
          exec (.spanFrameReceive p f) s =
            .next (settle s (pump p (if (getSpan s p).nakSent = true then u else sendNull p true u))))))) ∧
  (∀ s (p : Fin 8) f, (getSpan s p).st ≠ .up ∨ s.replay.mode = true → exec (.spanFrameReceive p f) s = .next (settle s s)) ∧
  (∀ s p, let x := getSpan s p
    let fails := x.crcFails.filter (fun t => decide (now s < t + 1000000)) ++ [now s]
    let u := setSpan s p (spBump 5 1 { x with crcFails := fails, nakSent := true })
    let v := if x.nakSent = true then u else sendNull p true u
    crcFail p s = if 64 < fails.length then retrain p x.lanes v else v) ∧
  (∀ s p f, let x := getSpan s p
    let ms := splitMsgs 16 (slice f 16 (fld f 12 2))
    let cls := bitsOf (fld1 f 0) 3 2
    let u := setSpan s p { x with
      rxSeq := x.rxSeq + 1, nakSent := false, rxOwed := x.rxOwed + 1, rxNo := x.rxNo + 1,
      rxq := x.rxq ++ ms.map (fun m => ⟨x.rxNo + 1, cls, m⟩),
      rxLimit := if ms = [] then modAt x.rxLimit cls (· + 1) else x.rxLimit,
      creditOwed := if ms = [] then true else x.creditOwed }
    acceptData p f s = if 31 ≤ x.rxOwed then sendNull p false u else u) ∧
  (∀ s p f, let x := { getSpan s p with txLimit := (List.range 3).map (fun i => BitVec.ofNat 16 (fld f (6 + 2 * i) 2)) }
    let a := BitVec.ofNat 12 (fld f 4 2)
    takeAck p f s = if bitOf (fld f 4 2) 15 = false then setSpan s p x
      else if bitOf (fld f 4 2) 14 = true then replayAll p (setSpan s p (ackTo (a - 1) x)) else setSpan s p (ackTo a x)) ∧
  (∀ a x f, f ∈ (ackTo a x).replay ↔ f ∈ x.replay ∧ 2048 ≤ (a - f.seq).toNat) ∧
  (∀ s (p : Fin 8),
    (∀ f rest, (getSpan s p).replay = f :: rest → f.at_ + 10000 ≤ now s → (getSpan s p).st = .up →
      exec (.spanReplayTimeout p) s = .next (settle s (replayAll p s))) ∧
    ((getSpan s p).replay = [] ∨ (getSpan s p).st ≠ .up ∨ (∃ f rest, (getSpan s p).replay = f :: rest ∧ now s < f.at_ + 10000) →
      exec (.spanReplayTimeout p) s = .next (settle s s))) ∧
  (∀ s (p : Fin 8), (0 < (getSpan s p).rxOwed ∨ (getSpan s p).creditOwed = true →
      exec (.spanAckTimer p) s = .next (settle s (sendNull p false s))) ∧
    ((getSpan s p).rxOwed = 0 → (getSpan s p).creditOwed = false → exec (.spanAckTimer p) s = .next (settle s s)))

/-- WRITE, SIGNAL and TOLL_WRITE messages taken up, and a message forwarded (R121, R391, R392, R393, R394, R398, R399,
04_girders_piers_trestles.md, 13_span_links_time.md). The oldest waiting message of its kind that is the first of its
class is taken up. A WRITE or SIGNAL message for this node waits while a replay runs, and while its bank is not ON,
which wakes; otherwise it leaves the receive buffer and is landed, discarded or held. With neither a crossing nor a
launch in sight every one is counted and discarded. Otherwise one whose crossing number is two or more ahead is held,
one behind is counted, posted and discarded, and one whose landing buffer does not exist or does not hold it is too.
One that fits is written into its half of the buffer where the approach port owns it, FIN of a flag already set also
being counted and posted; the first FIN sets the flag, gives the half to the deck and is recorded. A TOLL_WRITE
message within an open copy window is written there, and any other is discarded, counted and posted; FIN posts
COPY_LANDED. A message for another node goes out by its route. Without such a message nothing happens. -/
def Obligations.SpanMessagesComplete : Prop :=
  (∀ s (p : Fin 9) typ, typ = 1 ∨ typ = 2 →
    let cmd := if typ = 1 then Instr.writeMessage p else Instr.signalMessage p
    let mine := fun m : List Byte => msgType m == typ && (p.val == 8 || msgDst m == s.span.node.toNat)
    (s.replay.mode = true ∨ takeMsg p mine s = none → exec cmd s = .next (settle s s)) ∧
    (∀ x u, s.replay.mode = false → takeMsg p mine s = some (x, u) →
      (landAsleep s x.bytes = true → exec cmd s = .next (settle s (landWake x.bytes s))) ∧
      (landAsleep s x.bytes = false →
        (∀ v, landMsg p x.bytes u = some v → exec cmd s = .next (settle s (freeMsg p x v))) ∧
        (landMsg p x.bytes u = none →
          exec cmd s = .next (settle s (setSpan u p { getSpan u p with held := (getSpan u p).held ++ [x] })))))) ∧
  (∀ p m s, s.seq.started = false → s.seq.launchArmed = none →
    landMsg p m s = some (setSpan s p (spBump 9 1 (getSpan s p)))) ∧
  (∀ p m s, s.seq.started = true ∨ s.seq.launchArmed.isSome = true →
    let x := BitVec.ofNat 32 (fld m 8 4)
    let diff := (x - xNow s).toNat
    let f := fld m 6 2
    let off := fld m 12 3
    let beyond := some (spPost 0x2508 (p % 8) f off (setSpan s p (spBump 11 1 (getSpan s p))))
    (2 ≤ diff → diff < 2 ^ 31 → landMsg p m s = none) ∧
    (2 ^ 31 ≤ diff → landMsg p m s = some (spPost 0x2506 (p % 8) f x.toNat (setSpan s p (spBump 10 1 (getSpan s p))))) ∧
    (diff < 2 → landingPlace s f = none → landMsg p m s = beyond) ∧
    (∀ q, diff < 2 → landingPlace s f = some q →
      let h := x.toNat % 2
      let a := q.addr + h * (q.size / 2)
      let set := s.seq.flags.contains (f, h)
      let u := if fld1 m 15 = 0 then s else approachWrite 12 (a + off) (msgData m) (set && msgFin m) s
      (q.size / 2 < off + fld1 m 15 → landMsg p m s = beyond) ∧
      (off + fld1 m 15 ≤ q.size / 2 →
        (msgFin m = false → landMsg p m s = some u) ∧
        (msgFin m = true → set = true →
          landMsg p m s = some (spPost 0x1507 (p % 8) f x.toNat (setSpan u p (spBump 10 1 (getSpan u p))))) ∧
        (msgFin m = true → set = false →
          let v := regionsToDeck (halfRegions q h) { u with seq := { u.seq with flags := u.seq.flags ++ [(f, h)] } }
          landMsg p m s = some (recLanding (msgSrc m) f (s.seq.crossing + (x - xNow s).zeroExtend 64)
            (memRead v.deck.abut a (q.size / 2)) v))))) ∧
  (∀ s (p : Fin 9), let mine := fun m : List Byte => msgType m == 5 && (p.val == 8 || msgDst m == s.span.node.toNat)
    (takeMsg p mine s = none → exec (.tollWrite p) s = .next (settle s s)) ∧
    (∀ x u, takeMsg p mine s = some (x, u) →
      let off := fld x.bytes 6 6
      let done := fun v : State => if msgFin x.bytes = true then
        spPost 0x150D (p.val % 8) (fld x.bytes 12 3) (msgSrc x.bytes) v else v
      (s.span.winMib ≠ 0 → off + fld1 x.bytes 15 ≤ s.span.winMib * 2 ^ 20 → exec (.tollWrite p) s =
        .next (settle s (freeMsg p x (done (tollWrite (s.span.winBase + off) (msgData x.bytes) (tollUse 7 u)))))) ∧
      (s.span.winMib = 0 ∨ s.span.winMib * 2 ^ 20 < off + fld1 x.bytes 15 →
        exec (.tollWrite p) s = .next (settle s (freeMsg p x (done
          (spPost 0x2508 (p.val % 8) 0xFFFF (off % 2 ^ 32) (setSpan u p (spBump 11 1 (getSpan u p)))))))))) ∧
  (∀ s (p : Fin 9), let far := fun m : List Byte => [1, 2, 5].contains (msgType m) && msgDst m != s.span.node.toNat
    (takeMsg p far s = none → exec (.messageForward p) s = .next (settle s s)) ∧
    (∀ x u, takeMsg p far s = some (x, u) →
      exec (.messageForward p) s = .next (settle s (freeMsg p x (routeMsg p x.bytes u)))))

/-- NEIGHBOR, SYNC blocks and SYNC_FU, sent and received (R391, R400, R404, R405, 13_span_links_time.md). NEIGHBOR goes
out on every port that is UP, 1 ms or more after the last, and on no other. A received NEIGHBOR takes its place in the
port and the parent is chosen again; a follower that hears of two grandmasters is in conflict, which posts its event
when it begins. The parent is the fixed port where one is set, and else, of the ports that are UP and report a
distance below 255, one that names the lowest grandmaster at the least distance; with no such port there is none.
Every 100,000 ns of the own count, and not sooner, a SYNC exchange sends a block on every UP port, stamped t3 with a
new exchange number on a follower's parent port and t1 elsewhere; none with the role OFF. A SYNC block from a
follower's parent stamps t2, and on any other UP port is answered with t1 and t4 in two SYNC_FU messages of a new
exchange number; on a port that is not UP or with the role OFF it changes nothing. The first SYNC_FU from a follower's
parent gives t1, the second t4, and the exchange is complete; one from any other port is dropped; without one nothing
changes. With its offset the count steps at once, the device in ACQUIRE, the event posted, when the device is not
LOCKED, stopped without a launch pending and more than 1 us away; otherwise the count stands and is slewed by at most
50 ns per exchange, and the device enters ACQUIRE from UNSYNC and HOLDOVER, and from LOCKED after four exchanges
beyond 16 ns, and LOCKED from ACQUIRE after sixteen within 4 ns. -/
def Obligations.KeystoneExchangeCompletes : Prop :=
  (∀ s, exec .neighborSend s = .next (settle s ((List.range 8).foldl (fun a p =>
    if (getSpan a p).st = .up ∧ (now s < (getSpan a p).neighAt ∨ (getSpan a p).neighAt + 1000000 ≤ now s) then
      sendMsg p (neighborMsg a p) (setSpan a p { getSpan a p with neighAt := now s }) else a) s))) ∧
  (∀ s (p : Fin 8), let kind := fun m : List Byte => msgType m == 4
    (takeMsg p kind s = none → exec (.neighborMsg p) s = .next (settle s s)) ∧
    (∀ x u, takeMsg p kind s = some (x, u) →
      let n : Neigh := ⟨fld (msgData x.bytes) 0 2 % 2048, fld1 (msgData x.bytes) 2, fld1 (msgData x.bytes) 3⟩
      let v := reparent (freeMsg p x (setSpan u p { getSpan u p with neigh := some n }))
      let gms := (List.range 8).filterMap (fun i => ((getSpan v i).neigh.filter (fun o => o.dist != 0xFF)).map (fun o => o.gm))
      let two := v.time.role = .follower ∧ ∃ g ∈ gms, ∃ h ∈ gms, g ≠ h
      let w := { v with time := { v.time with conflict := decide two } }
      exec (.neighborMsg p) s = .next (settle s (if two ∧ s.time.conflict = false then
        spPost 0x1509 p v.time.gm ((gms.filter (fun g => g != v.time.gm)).foldl max 0) w else w)))) ∧
  (∀ s, let offers := fun p n => p < 8 ∧ (getSpan s p).st = .up ∧ (getSpan s p).neigh = some n ∧ n.dist ≠ 0xFF
    (∀ f p n, s.time.fixedParent = some f → chooseParent s = some (p, n) → p = f ∧ offers p n) ∧
    (s.time.fixedParent = none →
      (∀ p n, chooseParent s = some (p, n) → offers p n ∧
        ∀ q o, offers q o → n.gm ≤ o.gm ∧ (n.gm = o.gm → n.dist ≤ o.dist)) ∧
      (chooseParent s = none → ∀ q o, o.gm < 2048 → ¬ offers q o))) ∧
  (∀ s,
    ((∃ t, s.time.lastExch = some t ∧ t ≤ now s ∧ now s < t + 100000) → exec .syncExchange s = .next (settle s s)) ∧
    ((∀ t, s.time.lastExch = some t → now s < t ∨ t + 100000 ≤ now s) → exec .syncExchange s = .next (settle s
      ((List.range 8).foldl (fun a p =>
        if (getSpan a p).st ≠ .up ∨ a.time.role = .off then a
        else if a.time.role = .follower ∧ a.time.parent = some p then
          emit (.sync p) { a with time := { a.time with t3 := stamp64 a, exchNo := (a.time.exchNo + 1) % 2 ^ 16 } }
        else emit (.sync p) (setSpan a p { getSpan a p with tx1 := stamp64 a }))
        { s with time := { s.time with lastExch := some (now s) } })))) ∧
  (∀ s (p : Fin 8),
    ((getSpan s p).st ≠ .up ∨ s.time.role = .off → exec (.syncBlock p) s = .next (settle s s)) ∧
    ((getSpan s p).st = .up → s.time.role = .follower → s.time.parent = some p.val →
      exec (.syncBlock p) s = .next (settle s { s with time := { s.time with t2 := stamp64 s } })) ∧
    ((getSpan s p).st = .up → s.time.role ≠ .off → ¬ (s.time.role = .follower ∧ s.time.parent = some p.val) →
      let e := ((getSpan s p).exch + 1) % 2 ^ 16
      exec (.syncBlock p) s = .next (settle s
        (sendMsg p (syncFu s.span.node.toNat e (wireStamp (getSpan s p).version (stamp64 s)))
          (sendMsg p (syncFu s.span.node.toNat e (wireStamp (getSpan s p).version (getSpan s p).tx1))
            (setSpan s p { getSpan s p with exch := e })))))) ∧
  (∀ s (p : Fin 8), (takeMsg p (fun m => msgType m == 3) s = none → exec (.syncFu p) s = .next (settle s s)) ∧
    ∀ x u, takeMsg p (fun m => msgType m == 3) s = some (x, u) →
    (s.time.role ≠ .follower ∨ s.time.parent ≠ some p.val → exec (.syncFu p) s = .next (settle s (freeMsg p x u))) ∧
    (s.time.role = .follower → s.time.parent = some p.val →
      let w := freeMsg p x u
      let v := { w with time := { w.time with lastFu := now s } }
      let st := fld x.bytes 8 4 + 2 ^ 32 * fld x.bytes 12 3
      let t := if (getSpan s p).version = 3 then st else st * 64 % 2 ^ 56
      (v.time.t1 = none → exec (.syncFu p) s = .next (settle s { v with time := { v.time with t1 := some t } })) ∧
      (∀ t1, v.time.t1 = some t1 → exec (.syncFu p) s = .next (settle s
        (exchangeDone (stampDiff (v.time.t2 % 2 ^ 56) t1 - stampDiff t (v.time.t3 % 2 ^ 56))
          { v with time := { v.time with t1 := none } }))))) ∧
  (∀ off s,
    let far := s.time.st ≠ .locked ∧ 128000 < off.natAbs ∧ s.seq.started = false ∧ s.seq.launchArmed = none
    (far → exchangeDone off s = post 0x150C 0 0 (ux 64 (-off / 128) % 2 ^ 32) (ux 64 (-off / 128) / 2 ^ 32) { s with time := { s.time with
      offset := off, lastFu := now s, ks := BitVec.ofInt 88 ((s.time.ks.toNat : Int) - off * 2 ^ 17), st := .acquire,
      inTol := 0, outTol := 0, ksInc := 0x0A000000 } }) ∧
    (¬ far →
      (exchangeDone off s).time.ks = s.time.ks ∧
      (exchangeDone off s).time.ksInc = BitVec.ofInt 32 (0x0A000000 - (max (-6400) (min 6400 off)) * 2 ^ 17 / 10000) ∧
      (exchangeDone off s).time.st =
        (if s.time.st = .unsync ∨ s.time.st = .holdover then .acquire
        else if s.time.st = .locked ∧ 2048 < off.natAbs ∧ 3 ≤ s.time.outTol then .acquire
        else if s.time.st = .acquire ∧ off.natAbs ≤ 512 ∧ 15 ≤ s.time.inTol then .locked
        else s.time.st)))

/-- PREPARE, its answers and time-outs, wakes, an access to a domain that is not ON, and the idle toll group (R416, R418,
R419, R420, R422, R423, R424, R425, R444, 14_power_steward.md). An answer to PREPARE that comes more than 10 us after
it, or after a delay was answered, changes nothing. Within 10 us a block that has served an access since, or that is
in use, refuses and the entry ends; a memory-controller group with accesses outstanding delays; and any other enters
the state asked for, its pads held where it is no bank. A girder that enters it loses its weight registers and
accumulators, and a camera group its connections. No answer within 10 us ends the entry with an event; earlier, or
during a delay, the time-out changes nothing. When a delay has passed PREPARE is sent again with no access served, and
after more than 100 ms of delay the entry is given up with an event; earlier, or with no delay, nothing changes. None
of the three changes anything where no entry is under way. An access of a toll requester or of the deck to a memory-
controller group or an abutment bank wakes it, and nothing else does so; a wake starts in a domain that is OFF or in
RETENTION and not FUSED while there is neither thermal trip nor power failure, and is nothing otherwise. A wake that
completes leaves the domain ON, its pads held only where they were, PWR_SET asked so and the wake was its own; a span
port that is enabled and DISABLED then begins its training, and a memory-controller group is brought to its state
under AUTO. An access to another domain that is not ON posts an event. The toll group (MC3, on the SG7-C MC1) under
AUTO, ON, with no entry and not FUSED is asked to enter RETENTION after 100 us without an access, on the SG7-C only
while no crossing runs; otherwise nothing changes. RETENTION keeps an abutment bank and the toll group whole; OFF
loses them. -/
def Obligations.PowerHandshakeCompletes : Prop :=
  (∀ s (d : Fin 76) (busy : BitVec 16) e, (getDom s d).prep = some e →
    (e.again ≠ none ∨ e.sentAt + 10000 < now s → exec (.prepareAnswer d busy) s = .next (settle s s)) ∧
    (e.again = none → now s ≤ e.sentAt + 10000 → e.served = true ∨ mustRefuse s d e.target = true →
      exec (.prepareAnswer d busy) s = .next (settle s (setDom s d { getDom s d with prep := none }))) ∧
    (e.again = none → now s ≤ e.sentAt + 10000 → e.served = false → mustRefuse s d e.target = false → isMc d = true → busy ≠ 0 →
      exec (.prepareAnswer d busy) s = .next (settle s (setDom s d { getDom s d with
        prep := some { e with delayUs := e.delayUs + busy.toNat, again := some (now s + 1000 * busy.toNat) } }))) ∧
    (e.again = none → now s ≤ e.sentAt + 10000 → e.served = false → mustRefuse s d e.target = false → isMc d = false ∨ busy = 0 →
      exec (.prepareAnswer d busy) s = .next (settle s (enterState d e.target s)))) ∧
  (∀ d t s, (getDom (enterState d t s) d).st = t ∧ (getDom (enterState d t s) d).prep = none ∧
    (getDom (enterState d t s) d).padHold = !isBank d) ∧
  (∀ s i, i < 12 → loseDom (64 + i) .retention s = s ∧
    (loseDom (64 + i) .off s).deck.abut = memClear s.deck.abut (abutBankBytes * i) abutBankBytes) ∧
  (∀ s, loseDom (tollGroup s) .retention s = s ∧ (loseDom (tollGroup s) .off s).mem.toll = []) ∧
  (∀ s n t, n < 32 → let g := getGirder (loseDom (1 + n) t s) n
    g.active = WSet0 ∧ g.shadow = WSet0 ∧ g.acc = AccBank0 ∧ g.drain = AccBank0) ∧
  (∀ s p t, p < 4 → (getCam (loseDom (46 + p) t s) p).connUp = 0) ∧
  (∀ s (d : Fin 76), (getDom s d).prep = none →
    exec (.prepareAnswer d 0) s = .next (settle s s) ∧ exec (.prepareTimeout d) s = .next (settle s s) ∧
    exec (.prepareDelayExpiry d) s = .next (settle s s)) ∧
  (∀ s (d : Fin 76) e, (getDom s d).prep = some e → 
    (e.again = none → e.sentAt + 10000 ≤ now s →
      exec (.prepareTimeout d) s = .next (settle s (post 0x1601 0 (domNo d) (pdCode e.target) 0
        (setDom s d { getDom s d with prep := none })))) ∧
    (e.again ≠ none ∨ now s < e.sentAt + 10000 → exec (.prepareTimeout d) s = .next (settle s s)) ∧
    (e.again = none → exec (.prepareDelayExpiry d) s = .next (settle s s))) ∧
  (∀ s (d : Fin 76) e t, (getDom s d).prep = some e → e.again = some t →
    (now s < t → exec (.prepareDelayExpiry d) s = .next (settle s s)) ∧
    (t ≤ now s → 100000 < e.delayUs → exec (.prepareDelayExpiry d) s = .next (settle s (post 0x1602 0 (domNo d) (pdCode e.target) 0
      (setDom s d { getDom s d with prep := none, gaveUp := true })))) ∧
    (t ≤ now s → e.delayUs ≤ 100000 → exec (.prepareDelayExpiry d) s = .next (settle s
      (setDom s d { getDom s d with prep := some { e with sentAt := now s, again := none, served := false } })))) ∧
  (∀ s (d : Fin 76) (req : BitVec 6), exec (.onDemandWake d req) s = .next (settle s
    (if (isMc d = true ∨ isBank d = true) ∧ (req.toNat < 12 ∨ req = 0x3F) then wakeDom d 5 (some req.toNat) s else s))) ∧
  (∀ d src req s, (getDom s d).fused = false → s.steward.trip = false → s.rst.pfail = false → (getDom s d).st = .off ∨ (getDom s d).st = .retention →
    (getDom (wakeDom d src req s) d).st = .transition ∧ (getDom (wakeDom d src req s) d).wakeSrc = BitVec.ofNat 4 src ∧
    (wakeDom d src req s).pwr.stamp = now s) ∧
  (∀ d src req s, (getDom s d).fused = true ∨ s.steward.trip = true ∨ s.rst.pfail = true ∨ (getDom s d).st = .on ∨
    (getDom s d).st = .transition → wakeDom d src req s = s) ∧
  (∀ s (d : Fin 76),
    ((getDom s d).st = .transition → ∀ s1, s1 = setDom s d { getDom s d with
        st := .on, padHold := (getDom s d).padHold && (getDom s d).holdPads && (getDom s d).wakeSrc == 4 } →
      (51 ≤ d.val ∧ d.val ≤ 58 → exec (.domainWakeComplete d) s = .next (settle s
        (if (getSpan s (d - 51)).enabled = true ∧ (getSpan s (d - 51)).st = .disabled then startTrain (d - 51) s1 else s1))) ∧
      (isMc d = true → exec (.domainWakeComplete d) s = .next (settle s (autoOne d s1))) ∧
      (d.val < 51 ∨ 58 < d.val → isMc d = false → exec (.domainWakeComplete d) s = .next (settle s s1))) ∧
    ((getDom s d).st ≠ .transition → exec (.domainWakeComplete d) s = .next (settle s s))) ∧
  (∀ s (d : Fin 64) (req : BitVec 6) (a : BitVec 32),
    (wakesOnDemand d = true ∨ (getDom s d).st = .on → exec (.pwrAccessOff d req a) s = .next (settle s s)) ∧
    (wakesOnDemand d = false → (getDom s d).st ≠ .on →
      exec (.pwrAccessOff d req a) s = .next (settle s (post 0x2603 0 d req.toNat a.toNat s)))) ∧
  (∀ s, let d := tollGroup s
    ((getDom s d).policy = 0 → (getDom s d).st = .on → (getDom s d).prep = none → (getDom s d).fused = false →
      s.grade ≠ .c ∨ s.seq.started = false → s.mem.tollAt + 100000 ≤ now s → exec .mc3IdleRetention s = .next (settle s
      (setDom s d { getDom s d with prep := some ⟨.retention, now s, 0, none, false⟩ }))) ∧
    ((getDom s d).policy ≠ 0 ∨ (getDom s d).st ≠ .on ∨ (getDom s d).prep ≠ none ∨ (getDom s d).fused = true ∨
        now s < s.mem.tollAt + 100000 ∨ (s.grade = .c ∧ s.seq.started = true) →
      exec .mc3IdleRetention s = .next (settle s s))) ∧
  (∀ s, tollGroup s = if s.grade = .c then 60 else 62)

/-- PWR_SET, PWR_READ, PWR_PAD_RELEASE, STEWARD_CONFIG and STEWARD_FIX (R425, R427, R431, R432, R440, R443, R444, R445,
R493, 14_power_steward.md, 16_gatehouse_protocol.md). PWR_SET applies each entry's policy, pad hold and retention mask
to the domains or banks it names; it is refused with BUSY_RUNNING where an entry would take from a running rating what
it needs, and else with IN_USE where it would take OFF a memory-controller group that holds allocations (log entry
53). Policy ON wakes a domain that is OFF or in RETENTION, without thermal trip or power failure; RETENTION and OFF
ask a domain that is ON, with no entry under way, by PREPARE, and OFF takes one from RETENTION at once, its pads held
where it is no bank; AUTO leaves it to the steward. PWR_READ answers its 864 bytes and changes nothing.
PWR_PAD_RELEASE releases the pads of a domain that is ON and changes nothing of another. STEWARD_CONFIG takes its
fields, ALERT_N following them, and is refused with VRM_FAULT on a regulator in VID mode. STEWARD_FIX names a rating
and a voltage at once when no crossing runs, and is recorded; otherwise it waits for the boundary, where a rating that
is not eligible and a voltage below its floor are refused with INVALID_PARAM. -/
def Obligations.PowerCommandsComplete : Prop :=
  (∀ s (m : Fin 16) r p, Accepts s m specPwrSet r p →
    ((∃ e d, e < p.length / 8 ∧ 2 ≤ pwPol p e ∧ d ∈ pwTargets p e ∧ ratingNeeds s d = true) →
      exec (.pwrSet m) s = .next (refused m 0x0002 0 s (takeReq s))) ∧
    (¬ (∃ e d, e < p.length / 8 ∧ 2 ≤ pwPol p e ∧ d ∈ pwTargets p e ∧ ratingNeeds s d = true) →
      (∃ e, e < p.length / 8 ∧ pwPol p e = 3 ∧ isMc (pwDom p e) = true ∧ mcHolds s (pwDom p e) = true) →
      exec (.pwrSet m) s = .next (refused m 0x0004 0 s (takeReq s))) ∧
    (¬ (∃ e d, e < p.length / 8 ∧ 2 ≤ pwPol p e ∧ d ∈ pwTargets p e ∧ ratingNeeds s d = true) →
      ¬ (∃ e, e < p.length / 8 ∧ pwPol p e = 3 ∧ isMc (pwDom p e) = true ∧ mcHolds s (pwDom p e) = true) →
      exec (.pwrSet m) s = .next (answered m [] s ((List.range (p.length / 8)).foldl (fun a e =>
        (pwTargets p e).foldl (pwrApply (pwPol p e) (pwHold p e) (pwRet p e))
          (if pwDom p e = 41 then setDom a 41 { getDom a 41 with policy := BitVec.ofNat 2 (pwPol p e) } else a)) (takeReq s))))) ∧
  (∀ hold ret s d, (getDom s d).fused = false →
    ((getDom s d).st = .off ∨ (getDom s d).st = .retention → s.steward.trip = false → s.rst.pfail = false → (getDom (pwrApply 1 hold ret s d) d).st = .transition ∧
      (getDom (pwrApply 1 hold ret s d) d).wakeSrc = 4 ∧ (getDom (pwrApply 1 hold ret s d) d).policy = 1) ∧
    ((getDom s d).st = .on → (getDom s d).prep = none →
      (getDom (pwrApply 2 hold ret s d) d).prep = some ⟨.retention, now s, 0, none, false⟩ ∧
      (getDom (pwrApply 3 hold ret s d) d).prep = some ⟨.off, now s, 0, none, false⟩ ∧
      (getDom (pwrApply 3 hold ret s d) d).holdPads = hold ∧ (getDom (pwrApply 3 hold ret s d) d).policy = 3) ∧
    ((getDom s d).st = .retention → (getDom (pwrApply 3 hold ret s d) d).st = .off ∧
      (getDom (pwrApply 3 hold ret s d) d).padHold = !isBank d)) ∧
  (∀ hold ret s d, pwrApply 0 hold ret s d = autoOne d (setDom s d { getDom s d with
    policy := 0, holdPads := hold, retMask := BitVec.ofNat 16 ret, gaveUp := false })) ∧
  (∀ s (m : Fin 16) r p, Accepts s m (plain 0x0D04 0x0100 0 864) r p →
    exec (.pwrRead m) s = .next (answered m
      ((List.range 64).flatMap (fun d => leBytes 4 (pdStatus s d)) ++ leBytes 4 (abState s) ++ zeros 4 ++
        (List.range 64).flatMap (fun d => leBytes 8 (energyWord (getDom s d))) ++
        (List.range 16).flatMap (fun i => leBytes 4 (sensorWord (sensorOf s i))) ++
        leBytes 4 (s.pwr.lastDomain <<< 16 + s.pwr.lastSrc.toNat <<< 8 + s.pwr.lastReq.toNat) ++ zeros 4 ++
        leBytes 8 s.pwr.stamp ++ leBytes 2 s.steward.sense ++ zeros 2 ++ leBytes 4 (stewardWord s)) s (takeReq s))) ∧
  (∀ s (m : Fin 16) r p, Accepts s m { plain 0x0D05 0x0202 8 0 with
      rsv := fun _ => [rsvAll 1 7], ranges := fun _ p => rangesOf [(decide (fld1 p 0 < 64), 0)] } r p →
    exec (.pwrPadRelease m) s = .next (answered m [] s
      (if (getDom s (fld1 p 0)).st = .on then
        setDom (takeReq s) (fld1 p 0) { getDom s (fld1 p 0) with padHold := false, holdPads := false } else takeReq s))) ∧
  (∀ s (m : Fin 16) r p, Accepts s m specStewardConfig r p →
    exec (.stewardConfig m true) s = .next (refused m 0x0031 0 s (takeReq s)) ∧
    exec (.stewardConfig m false) s = .next (answered m [] s
      (alertCheck { takeReq s with steward := { s.steward with cfg := p } }))) ∧
  (∀ s (m : Fin 16) r p, Accepts s m specStewardFix r p →
    (s.seq.started = false → exec (.stewardFix m) s = .next (answered m [] s (recNoCrossing [] [(0x0D02, p)]
      { takeReq s with steward := { s.steward with fix := some (fld1 p 0, fld p 2 2) } }))) ∧
    (s.seq.started = true → exec (.stewardFix m) s =
      .next (settle s (hold m 0x0D02 p [.sequencer] true none (takeReq s)).1))) ∧
  (∀ s p, s.seq.started = true → let f := (eligibleRatings s).find? (fun r => r.idx == fld1 p 0)
    (f = none → applyFix p s = (s, ⟨0x0017, 0, []⟩)) ∧
    (∀ r, f = some r → fld p 2 2 < r.vfloor → applyFix p s = (s, ⟨0x0017, 2, []⟩)) ∧
    (∀ r, f = some r → r.vfloor ≤ fld p 2 2 → applyFix p s =
      ({ s with steward := { s.steward with fix := some (fld1 p 0, fld p 2 2) } }, ⟨0, 0, []⟩)))

/-- The regulator settling, timing out and failing, sensor readings, and the thermal trip (R220, R431, R432, R441, R446,
R549, 07_crossing_schedule.md, 14_power_steward.md, 18_faults_resets.md). A sense reading is recorded, and a reading
below the chosen voltage moves the setpoint up 5 mV, at most to 50 mV above it, a reading more than 15 mV above it
down 5 mV, at most to it; another leaves the setpoint. Where VDD_CORE is not settled and the reading is at least the
chosen voltage, it is settled then, and a crossing that has begun but none of whose bays has started counts its start
from now. SETTLE_US after a raise without settling, the event is posted and the steward chooses again with the voltage
last reached as its limit; where that changes the rating of a crossing none of whose bays has started, its bays are
those of the new rating. Earlier, or once settled, the time-out changes nothing. A regulator fault posts its event and
sets its reason of restricted service. A sensor update gives each sensor its reading, marked valid, and adds what each
domain drew to its energy counter, which wraps at 48 bits with OVF. At the thermal trip the field die is commanded
safe, no pulse is left, the host is detached and every domain but the always-on one that is not fused goes OFF. -/
def Obligations.StewardEventsComplete : Prop :=
  (∀ s (sense : BitVec 16), ∀ s1, s1 = trimVdd sense.toNat { s with steward := { s.steward with sense := sense.toNat } } →
    (s.steward.settled = true ∨ sense.toNat < s.steward.vdd → exec (.vddSettled sense) s = .next (settle s s1)) ∧
    (s.steward.settled = false → s.steward.vdd ≤ sense.toNat → exec (.vddSettled sense) s = .next (settle s { s1 with
      steward := { s1.steward with settled := true },
      seq := { s1.seq with t0 := if unstarted s then now s else s1.seq.t0 } }))) ∧
  (∀ s v, let w := s.steward
    (trimVdd v s).steward.setpoint = (if v < w.vdd then min (w.vdd + 50) (w.setpoint + 5)
      else if w.vdd + 15 < v then max w.vdd (w.setpoint - 5) else w.setpoint) ∧
    (trimVdd v s).steward.sense = w.sense ∧ (trimVdd v s).steward.settled = w.settled ∧ (trimVdd v s).seq = s.seq) ∧
  (∀ s (sense : BitVec 16),
    (s.steward.settled = true ∨ now s < s.steward.settleAt + 1000 * swSettle s.steward.cfg →
      exec (.vddTimeout sense) s = .next (settle s s)) ∧
    (s.steward.settled = false → s.steward.settleAt + 1000 * swSettle s.steward.cfg ≤ now s →
      ∀ s2, s2 = stewardChoose sense.toNat (post 0x2606 0 0 s.steward.vdd sense.toNat
        { s with steward := { s.steward with sense := sense.toNat } }) →
      (s2.seq.rating ≠ s.seq.rating → unstarted s = true → exec (.vddTimeout sense) s = .next (settle s
        { s2 with seq := { s2.seq with bays := newBays s2, newRating := false } })) ∧
      (s2.seq.rating = s.seq.rating ∨ unstarted s = false → exec (.vddTimeout sense) s = .next (settle s s2)))) ∧
  (∀ s (word : BitVec 16), exec (.vrmFault word) s = .next (settle s (rsSet 6 (post 0x2607 0 0 word.toNat 0 s))) ∧
    (rsSet 6 (post 0x2607 0 0 word.toNat 0 s)).rst.rs = s.rst.rs ||| 64) ∧
  (∀ s temps drawn, ∃ u, exec (.sensorUpdate temps drawn) s = .next (settle s u) ∧
    (∀ i v, i < 16 → temps[i]? = some v → sensorOf u i = ⟨true, v⟩) ∧
    (∀ d v, d < 64 → drawn[d]? = some v → (getDom u d).energy = (getDom s d).energy + v ∧
      ((getDom u d).ovf = true ↔ (getDom s d).ovf = true ∨ 2 ^ 48 ≤ (getDom s d).energy.toNat + v.toNat))) ∧
  (∀ s, ∃ u, exec .thermTrip s = .next (settle s u) ∧ u.steward.trip = true ∧ u.field.safeCmd = true ∧ u.pulses = [] ∧
    u.gh.session = none ∧ ∀ d ∈ allDomains, (getDom s d).fused = false → (getDom u d).st = .off)

/-- Corrected and uncorrectable errors of on-chip memory, deck memory and toll memory, scrubs, forced refreshes and
ownership faults (R122, R139, R140, R141, R211, R237, R454, R455, R456, R457, R550, 04_girders_piers_trestles.md). A
corrected error adds one to the counter of its unit or channel and to its count of the hour; the error that takes that
count past the limit (64 for on-chip memory, 256 for a channel) posts CE_RATE once and sets reason 3 of restricted
service, and a new hour starts from zero. An uncorrectable error of on-chip memory is counted, posted and recorded,
notes the weight bank for its reload, and drops the bands that the running crossing took. An uncorrectable deck error
leaves its line bad; in the page pool of a committed image it is counted and logged, and elsewhere the samples of the
running crossing carry ECC_UE, with the event and a FAULT record. An uncorrectable toll error is counted, logged,
posted and recorded. A scrub changes nothing and a forced refresh is counted. A channel that the grade has not, or an
offset past a channel's data, changes nothing. Only a region owned by DECK makes an ownership fault. -/
def Obligations.MemoryErrorsComplete : Prop :=
  (∀ s g b, exec (.sramCorrected (.pier g) b) s = .next (settle s (ceSram g.val (1 + g.val)
    (setGirder g.val { getGirder s g.val with ce := ctrBump (getGirder s g.val).ce } s)))) ∧
  (∀ s b, exec (.sramCorrected .abut b) s = .next (settle s (ceSram 32 41
    { s with deck := { s.deck with ceAbut := ctrBump s.deck.ceAbut } }))) ∧
  (∀ s k b, exec (.sramCorrected (.cluster k) b) s = .next (settle s (ceSram (33 + k.val) (33 + k.val)
    (setCluster k.val { getCluster s k.val with ce := ctrBump (getCluster s k.val).ce } s)))) ∧
  (∀ s (ch : Fin 16), (ch.val < deckChans s + tollChans s → exec (.dramCorrected ch) s = .next (settle s (ceChannel ch.val
      { s with mem := { s.mem with ce := Tab.upd Ctr0 s.mem.ce ch.val ctrBump } }))) ∧
    (deckChans s + tollChans s ≤ ch.val → exec (.dramCorrected ch) s = .next (settle s s))) ∧
  (∀ s ch, ceInterval s = s.mem.intervalNo →
    (let n := Tab.get 0 s.mem.chInterval ch + 1
      let t := { s with mem := { s.mem with chInterval := Tab.set 0 s.mem.chInterval ch n } }
      ceChannel ch s = if n = 257 then rsSet 3 (post 0x2206 0 (59 + ch / 4) ch n t) else t) ∧
    Tab.get 0 (ceChannel ch s).mem.chInterval ch = Tab.get 0 s.mem.chInterval ch + 1 ∧
    ((ceChannel ch s).rst.rs = if Tab.get 0 s.mem.chInterval ch = 256 then s.rst.rs ||| 8 else s.rst.rs)) ∧
  (∀ s i dom, ceInterval s = s.mem.intervalNo →
    (let n := Tab.get 0 s.mem.sramInterval i + 1
      let t := { s with mem := { s.mem with sramInterval := Tab.set 0 s.mem.sramInterval i n } }
      ceSram i dom s = if n = 65 then rsSet 3 (post 0x2206 0 dom (0x100 + i) n t) else t) ∧
    Tab.get 0 (ceSram i dom s).mem.sramInterval i = Tab.get 0 s.mem.sramInterval i + 1 ∧
    ((ceSram i dom s).rst.rs = if Tab.get 0 s.mem.sramInterval i = 64 then s.rst.rs ||| 8 else s.rst.rs)) ∧
  (∀ s ch i dom, ceInterval s ≠ s.mem.intervalNo →
    let t := { s with mem := { s.mem with intervalNo := ceInterval s, chInterval := [], sramInterval := [] } }
    ceChannel ch s = ceChannel ch t ∧ ceSram i dom s = ceSram i dom t) ∧
  (∀ s, (ceInterval s ≠ s.mem.intervalNo → exec .ceRateInterval s = .next (settle s
      { s with mem := { s.mem with intervalNo := ceInterval s, chInterval := [], sramInterval := [] } })) ∧
    (ceInterval s = s.mem.intervalNo → exec .ceRateInterval s = .next (settle s s))) ∧
  (∀ s u (bank : Fin 16) (row : BitVec 16), ∃ v, exec (.sramUe u bank row) s =
      .next (settle s (dropTaken (noteReload u bank.val v))) ∧
    v = recFault 0x3201 (sramIndex u) bank.val (post 0x3201 0 (sramDomain u) (sramIndex u * 2 ^ 16 + bank.val) row.toNat
      { s with deck := { s.deck with cUe := ctrBump s.deck.cUe } })) ∧
  (∀ s (ch : Fin 12) (off : BitVec 35),
    let a := deckAddr s ch.val off.toNat / 64 * 64
    let v := { s with deck := { s.deck with badLines := a :: s.deck.badLines.filter (fun x => x != a) } }
    (deckChans s ≤ ch.val ∨ deckEnd s ≤ a → exec (.dramUe ch off) s = .next (settle s s)) ∧
    (ch.val < deckChans s → a < deckEnd s → inPool s a = true → exec (.dramUe ch off) s = .next (settle s (logUe ch.val off.toNat v))) ∧
    (ch.val < deckChans s → a < deckEnd s → inPool s a = false → exec (.dramUe ch off) s =
      .next (settle s (recFault 0x3202 ch.val off.toNat (noteUe ch.val off.toNat (if s.seq.active = true then flagAllEcc v else v)))))) ∧
  (∀ s ch off, Tab.get Ctr0 (logUe ch off s).mem.ue ch = ctrBump (Tab.get Ctr0 s.mem.ue ch) ∧
    (logUe ch off s).mem.ueLog = BitVec.ofNat 64 (ch <<< 60 + 1 <<< 59 + off % 2 ^ 35)) ∧
  (∀ s (c : Fin 4) (off : BitVec 35),
    (c.val < tollChans s → off.toNat < 0xE0000000 → exec (.tollDramUe c off) s =
      .next (settle s (recFault 0x3202 (deckChans s + c.val) off.toNat (noteUe (deckChans s + c.val) off.toNat s)))) ∧
    (tollChans s ≤ c.val ∨ 0xE0000000 ≤ off.toNat → exec (.tollDramUe c off) s = .next (settle s s))) ∧
  (∀ s ch, exec (.dramScrub ch) s = .next (settle s s)) ∧
  (∀ s ch, (ch.val < deckChans s → exec (.refreshForced ch) s =
      .next (settle s { s with seq := { s.seq with cRefresh := ctrBump s.seq.cRefresh } })) ∧
    (deckChans s ≤ ch.val → exec (.refreshForced ch) s = .next (settle s s))) ∧
  (∀ s (region : Fin 384) (requester : Fin 13),
    ((Tab.get Region0 s.deck.regions region.val).deck = true → exec (.abutOwnFault region requester) s = .next (settle s
      (post 0x2105 0 41 region.val requester.val { s with deck := { s.deck with cOwn := ctrBump s.deck.cOwn } }))) ∧
    ((Tab.get Region0 s.deck.regions region.val).deck = false → exec (.abutOwnFault region requester) s = .next (settle s s)))

/-- UNIT_TEST, UNIT_MAP and DRAM_READ (R31, R32, R133, R134, R135, R136, R137, R138, R141, R457, R501,
04_girders_piers_trestles.md). UNIT_TEST with no crossing running tests every unit as its report says and holds its
answer; while crossings run it is refused with BUSY. Of each girder that the part has the test leaves its rows
repaired, its result, its exhausted banks and whether it is removed as found; a girder that the part has not stays as
it is; and a girder is bound exactly where the part has it and it is not removed. The same holds of each cluster, its
failing cores and its result. A girder is removed for good where a part fails or a failing row finds no spare one, and
otherwise its result is 0 and it is removed only where it was; a failing row takes a spare row of its bank where one
of the 16 is left, and no bank uses more. A cluster with a failing part or core is removed, its result not 0, and
otherwise its result is 0 and it is removed only where it was. UNIT_MAP answers the status of every unit and the
counters of on-chip errors and clears those counters and nothing else of a unit. DRAM_READ answers the counters of
every channel and UE_LOG and clears the counters. -/
def Obligations.DiagnosticsCommandsComplete : Prop :=
  (∀ s (m : Fin 16) report r p, Accepts s m { plain 0x1001 0x0100 0 0 with objs := fun _ => [.units, .sequencer] } r p →
    (s.seq.started = true → exec (.unitTest m report) s = .next (refused m 0x0001 0 s (takeReq s))) ∧
    (s.seq.started = false → exec (.unitTest m report) s = .next (held m 0x1001 p [.units, .sequencer] (okWith []) s
      (selfTest report (takeReq s))))) ∧
  (∀ s report n, n < 32 → let g := getGirder (selfTest report s) n
    let t := if girderPresent s n = true then testGirder (findingOf report n) (getGirder s n) else getGirder s n
    g.removed = t.removed ∧ g.repairs = t.repairs ∧ g.stCode = t.stCode ∧ g.spareExh = t.spareExh ∧
    g.bound = (girderPresent s n && !t.removed)) ∧
  (∀ s report k, k < 8 → let c := getCluster (selfTest report s) k
    let t := if clusterPresent s k = true then testCluster (findingOf report (32 + k)) (getCluster s k) else getCluster s k
    c.removed = t.removed ∧ c.failCore = t.failCore ∧ c.stCode = t.stCode ∧ c.bound = (clusterPresent s k && !t.removed)) ∧
  (∀ t g, (testGirder t g).repairs = (repairRows g.repairs t.rows).1 ∧
    (t.code ≠ 0 ∨ (repairRows g.repairs t.rows).2 = true →
      (testGirder t g).removed = true ∧ (testGirder t g).stCode ≠ 0) ∧
    (t.code = 0 → (repairRows g.repairs t.rows).2 = false →
      (testGirder t g).removed = g.removed ∧ (testGirder t g).stCode = 0)) ∧
  (∀ m r, repairRows m [r] = if sparesOf m r.1.val < 16 then (m ++ [(r.1.val, r.2.val)], false) else (m, true)) ∧
  (∀ m fail b, sparesOf m b ≤ 16 → sparesOf (repairRows m fail).1 b ≤ 16) ∧
  (∀ t c,
    (t.code ≠ 0 ∨ t.failCores ≠ 0 → (testCluster t c).removed = true ∧
      (testCluster t c).stCode ≠ 0) ∧
    (t.code = 0 → t.failCores = 0 → (testCluster t c).removed = c.removed ∧ (testCluster t c).stCode = 0)) ∧
  (∀ s (m : Fin 16) r p, Accepts s m (plain 0x1002 0x0100 0 328) r p →
    exec (.unitMap m) s = .next (answered m
      ((List.range 32).flatMap (fun n => leBytes 4 (guStatus (girderPresent s n) (getGirder s n))) ++
        (List.range 8).flatMap (fun k => leBytes 4 (tclStatus (clusterPresent s k) (getCluster s k))) ++ ctrsBytes (sramCtrs s)) s
      (clearSramCtrs (takeReq s)))) ∧
  (∀ s, sramCtrs (clearSramCtrs s) = List.replicate 42 Ctr0 ∧
    (∀ n, n < 32 → getGirder (clearSramCtrs s) n = { getGirder s n with ce := Ctr0 }) ∧
    ∀ k, k < 8 → getCluster (clearSramCtrs s) k = { getCluster s k with ce := Ctr0 }) ∧
  (∀ s (m : Fin 16) r p, Accepts s m (plain 0x1007 0x0100 0 136) r p →
    exec (.dramRead m) s = .next (answered m
      ((List.range 16).flatMap (fun c => ctrBytes (Tab.get Ctr0 s.mem.ce c)) ++
        (List.range 16).flatMap (fun c => ctrBytes (Tab.get Ctr0 s.mem.ue c)) ++ leBytes 8 s.mem.ueLog.toNat) s
      { takeReq s with mem := { s.mem with ce := [], ue := [] } }))

/-- FW_UPDATE, FW_INFO, ATTEST, RESET, the completion of a command, and ROM recovery (R489, R506, R511, R514, R515, R516,
R519, R520, R523, R528, R530, 17_boot_security.md). FW_UPDATE holds its answer until COMMAND_COMPLETE: it is STATE
once SEQ is used up; what the checks of the image find with nothing written (INVALID_PARAM above 2 MiB, SIGNATURE for
a bad header, size or signature, ROLLBACK below the anti-rollback counter); STATE with the event where the flash
fails, what lies before the failing address being written; or, for a good image, OK with the slot that does not run
and its SEQ, the image programmed into that slot. FW_INFO answers its 112 bytes and changes nothing. ATTEST holds the
report with the signature of the signing engine, and is refused with BUSY while MODEL_COMMIT or FW_UPDATE is under
way. RESET without FORCE is refused with BUSY while another mailbox is busy; otherwise it answers and a warm reset is
due 100 us later, if none is due or under way. COMMAND_COMPLETE publishes the answer of the finished command of its
mailbox and releases its objects; an FW_UPDATE answered OK first programs its commit record, and a completed AP_TABLE
makes its shadow set complete and is recorded. Where no command of the mailbox is finished, it answers a waiting
command at the head of the order whose opcode is not defined with INVALID_OPCODE (NO_SESSION where its session is not
the one in force), and otherwise changes nothing. In ROM recovery blocks of at most 1,024 bytes with the right CRC are
acknowledged and joined, and the first other block ends the load with an error; an image that the checks refuse is
answered so; one that passes goes into slot 0 with a commit record of SEQ 1 and is loaded. Outside recovery the load
does nothing. The order of the image's checks and the blocks' form are the model's choice (log entry 69). -/
def Obligations.BootCommandsComplete : Prop :=
  (∀ s (m : Fin 16) e r p, Accepts s m specFwUpdate r p →
    let b := tollRead s (fld p 0 8) (fld p 8 4)
    let u := takeReq s
    let slot := 1 - s.sec.fw.slot
    (s.sec.fw.seq = 0xFFFFFFFE → exec (.fwUpdate m e) s = .next (held m 0x0E01 p [.flash] ⟨0x0019, 0, []⟩ s (tollUse 9 u))) ∧
    (s.sec.fw.seq ≠ 0xFFFFFFFE → exec (.fwUpdate m e) s = .next (match fwRefusal u b, e with
      | some st, _ => held m 0x0E01 p [.flash] (if st = 0x0017 then ⟨st, 8, []⟩ else ⟨st, 0, []⟩) s (tollUse 9 u)
      | none, none => held m 0x0E01 p [.flash]
          (okWith (leBytes 1 slot ++ zeros 3 ++ leBytes 4 (s.sec.fw.seq + 1))) s (tollUse 9 (writeSlot slot b u))
      | none, some a => held m 0x0E01 p [.flash] ⟨0x0019, 0, []⟩ s
          (tollUse 9 (post 0x2802 0 0 a.toNat 0 (writeSlot slot (b.take (a.toNat - slotAddr slot)) u)))))) ∧
  (∀ s b, fwRefusal s b = if 0x200000 < b.length then some 0x0017
    else if (!fwHeaderOk b || fwSize b != b.length || !fwSigOk s b) = true then some 0x0022
    else if fwSec b < arCounter s then some 0x0023 else none) ∧
  (∀ s (m : Fin 16) r p, Accepts s m (plain 0x0E02 0x0100 0 112) r p →
    exec (.fwInfo m) s = .next (answered m (fwInfo s) s (takeReq s))) ∧
  (∀ s (m : Fin 16) sig r p, Accepts s m { plain 0x0F01 0x0201 32 0 with resp := fun s _ => attestLen s } r p →
    ((∃ x ∈ s.gh.running, x.op = 0x0802 ∨ x.op = 0x0E01) →
      exec (.attest m sig) s = .next (refused m 0x0001 0 s (takeReq s))) ∧
    ((∀ x ∈ s.gh.running, x.op ≠ 0x0802 ∧ x.op ≠ 0x0E01) →
      exec (.attest m sig) s = .next (held m 0x0F01 p [] (okWith (attestBody s p ++ padTo 384 sig)) s (takeReq s)))) ∧
  (∀ s (m : Fin 16) r p, Accepts s m specReset r p →
    (bitOf (fld1 p 1) 0 = false → (∃ e ∈ s.gh.mbx, e.1 ≠ m.val ∧ e.2.st = .busy) →
      exec (.resetCmd m) s = .next (refused m 0x0001 0 s (takeReq s))) ∧
    (bitOf (fld1 p 1) 0 = true ∨ (∀ e ∈ s.gh.mbx, e.1 ≠ m.val → e.2.st ≠ .busy) →
      exec (.resetCmd m) s = .next (answered m [] s
        { takeReq s with gh := { (takeReq s).gh with warmAt := resetDue 1 s } }))) ∧
  (∀ s, resetDue 1 s = if s.rst.warm = none ∧ s.gh.warmAt = none then some (now s + 100000, 1) else s.gh.warmAt) ∧
  (∀ s (m : Fin 16) x a, s.gh.running.find? (fun r => r.mbx = m.val) = some x → x.answer = some a →
    ∀ u, u = completed x (commitFw m s) →
    exec (.commandComplete m) s = .next (settle s (finish m ⟨a.1, a.2.1, a.2.2⟩
      { u with gh := { u.gh with running := u.gh.running.filter (fun r => r.mbx != m.val) } }))) ∧
  (∀ s (m : Fin 16) x,
    (s.gh.running.find? (fun r => r.mbx == m.val && r.op == 0x0E01) = none → commitFw m s = s) ∧
    (s.gh.running.find? (fun r => r.mbx == m.val && r.op == 0x0E01) = some x →
      (∀ d resp, x.answer = some (0, d, resp) → let slot := fld1 resp 0 % 2
        commitFw m s = flashProgram (commitAddr slot) (commitBytes slot (fld resp 4 4)
          (flashRead s (slotAddr slot) (fwSize (flashRead s (slotAddr slot) 64)))) s) ∧
      (x.answer = none ∨ (∃ st d resp, st ≠ 0 ∧ x.answer = some (st, d, resp)) → commitFw m s = s))) ∧
  (∀ s x, (x.op ≠ 0x0302 → completed x s = s) ∧
    (x.op = 0x0302 → let i := fld1 x.payload 0
      completed x s = recConfigAt (apFirstLine s i) i 0x0302 x.payload (setCam s i { getCam s i with shadowNew := true }))) ∧
  (∀ s (m : Fin 16), (∀ y ∈ s.gh.running, y.mbx = m.val → y.answer = none) →
    (∀ h t r, s.gh.order = h :: t → (getMbx s m).cmd = some r → h = m.val → r.op ∉ opcodes →
      exec (.commandComplete m) s = .next (settle s (finish m ⟨if sessionBad s r = true then 0x0010 else 0x0013, 0, []⟩ (takeReq s)))) ∧
    (s.gh.order.head? ≠ some m.val ∨ (getMbx s m).cmd = none ∨ (∃ r, (getMbx s m).cmd = some r ∧ r.op ∈ opcodes) →
      exec (.commandComplete m) s = .next (settle s s))) ∧
  (∀ s blocks, (s.sec.boot ≠ .recovery → exec (.romRecoveryLoad blocks) s = .next (settle s s)) ∧
    (s.sec.boot = .recovery → exec (.romRecoveryLoad blocks) s = .next (settle s (match loadBlocks blocks [] s with
      | (none, s1) => s1
      | (some bs, s1) => let b := bs.take (fwSize bs)
        match fwRefusal s1 b with
        | some st => say (loadErr st) [] s1
        | none => let v := flashProgram (commitAddr 0) (commitBytes 0 1 b) (writeSlot 0 b s1)
          { v with sec := { v.sec with boot := .loaded, fw := loadedFw 0 1 b, bootFlags := v.sec.bootFlags ||| 1 } })))) ∧
  (∀ acc s, loadBlocks [] acc s = (some acc, s)) ∧
  (∀ b c t acc s,
    (b.length ≤ 1024 → crc32 b = c.toNat → loadBlocks ((b, c) :: t) acc s = loadBlocks t (acc ++ b) (say "OK" [] s)) ∧
    (1024 < b.length ∨ crc32 b ≠ c.toNat → loadBlocks ((b, c) :: t) acc s = (none, say "ERR INVALID_PARAM" [] s)))

/-- Cold resets, warm resets, the watchdog, loss of REFCLK, power failure, and the start of the firmware (R430, R516,
R517, R518, R534, R535, R536, R537, R538, R539, R540, 18_faults_resets.md). POWER_ON and RESET_N put every part of the
state at its reset value but OTP, flash, the grade and the units that the part has not, which are set FUSED with their
domains, the encoder inputs and what stands outside the part. The release of RESET_N runs the boot ROM, and does
nothing otherwise; the boot ROM loads the bootable slot of the higher SEQ, or enters recovery where no slot can boot.
A loss of REFCLK after the switch posts its event, brings back the oscillator, leaves the keystone UNSYNC and is a
cause of a warm reset; before it, nothing. A watchdog bite is noted and is a cause while firmware runs without power
failure. A cause commands the field die safe and ends every pulse at once; one under way, a thermal trip or a power
failure leaves it without effect. The warm reset that is due keeps OTP, flash, toll memory and the lot, clears reasons
2, 4 and 5 of restricted service and no other, empties the sequencer, the bands, the jobs, what the gatehouse has
under way and the host session, stops the recorder, and runs the boot ROM; before it is due, or in a thermal trip or a
power failure, nothing happens. A reset asked for by a command is due 100 us later, where none is due or under way.
Two seconds overdue, or at the third bite in 60 s, a warm reset under way becomes a cold reset; otherwise nothing
happens. A power failure stops the recorder, commands the field die safe, detaches the host, leaves every domain but
the always-on one that is not fused OFF and, where firmware runs, writes the last words and abandons an update; once
power returns it ends in a cold reset. The firmware starts from a loaded image; after a cold reset it tests the units,
reports DRAM training and has every field register rewritten, after a warm one it writes the last words and frees
every slot. It then sets FW_READY, ends the warm reset and burns the anti-rollback counter up to its security version.
That the encoder inputs are kept is the model's choice (log 31, 73). -/
def Obligations.ResetsComplete : Prop :=
  (∀ s, let t := coldReset 6 s
    exec .powerOn s = .next t ∧ exec .resetNAssert s = .next t) ∧
  (∀ s c, coldReset c s = { State.reset with
    pending := s.pending, out := s.out, die := s.die, grade := s.grade, deck := coldDeck s, pwr := coldPower s,
    pus := (List.range 4).foldl (fun t p => Tab.set Pu0 t p { Pu0 with a := (getPu s p).a, b := (getPu s p).b }) [],
    host := { HostIf0 with perst := s.host.perst }, mem := { MemSys0 with hostMem := s.mem.hostMem },
    sec := { Security0 with otp := s.sec.otp, flash := s.sec.flash }, rst := { ResetCtl0 with coldCause := c } }) ∧
  (∀ s c, (∀ n, n < 32 → getGirder (coldReset c s) n = if girderPresent s n = true then Girder0 else { Girder0 with fused := true }) ∧
    (∀ k, k < 8 → getCluster (coldReset c s) k = if clusterPresent s k = true then Cluster0 else { Cluster0 with fused := true }) ∧
    ((∀ n, n < 32 → girderPresent s n = true) → (∀ k, k < 8 → clusterPresent s k = true) →
      coldDeck s = Deck0 ∧ (s.grade ≠ .c → coldPower s = Power0))) ∧
  (∀ s, (s.sec.boot = .held → exec .resetNRelease s = .next (settle s (bootRom s))) ∧
    (s.sec.boot ≠ .held → exec .resetNRelease s = .next (settle s s))) ∧
  (∀ s, match bootSlot s with
    | none => (bootRom s).sec.boot = .recovery ∧ slotOk s 0 = false ∧ slotOk s 1 = false
    | some i => (bootRom s).sec.boot = .loaded ∧ (bootRom s).sec.fw.slot = i ∧ slotOk s i = true ∧
        (slotOk s (1 - i) = false ∨ recSeq (commitRec s (1 - i)) ≤ recSeq (commitRec s i))) ∧
  (∀ s, (s.time.internal = true → exec .refclkLost s = .next (settle s s)) ∧
    (s.time.internal = false → ∀ u, u = ksMove .unsync (post 0x4604 0 0 0 0 { s with time := { s.time with internal := true } }) →
      exec .refclkLost s = .next (settle s (warmCause 4 (now s) u)) ∧ u.time.internal = true ∧ u.time.st = .unsync ∧
        u.rst.warm = s.rst.warm)) ∧
  (∀ s, (fwRuns s = false ∨ s.rst.pfail = true → exec .watchdogBite s = .next (settle s s)) ∧
    (fwRuns s = true → s.rst.pfail = false → exec .watchdogBite s = .next (settle s
      (warmCause 3 (now s) { s with rst := { s.rst with bites := now s :: s.rst.bites } })))) ∧
  (∀ c t s, (s.rst.warm ≠ none ∨ s.steward.trip = true ∨ s.rst.pfail = true → warmCause c t s = s) ∧
    (s.rst.warm = none → s.steward.trip = false → s.rst.pfail = false → let u := warmCause c t s
      u.rst.warm = some (c, t) ∧ u.gh.warmAt = some (t, c) ∧ u.field.safeCmd = true ∧ u.pulses = [] ∧ u.linePulses = [])) ∧
  (∀ s t c, s.gh.warmAt = some (t, c) →
    (now s < t ∨ s.steward.trip = true ∨ s.rst.pfail = true → exec .warmReset s = .next (settle s s)) ∧
    (t ≤ now s → s.steward.trip = false → s.rst.pfail = false →
      ∃ u, exec .warmReset s = .next (settle s (bootRom u)) ∧ u.seq = State.reset.seq ∧ u.jobs = [] ∧ u.bands = [] ∧
        u.gh.session = none ∧ u.gh.running = [] ∧ u.gh.order = [] ∧ u.gh.warmAt = none ∧ u.sec.otp = s.sec.otp ∧
        u.sec.flash = s.sec.flash ∧ u.rec_.running = false ∧ u.rec_.lotId = s.rec_.lotId ∧ u.rec_.lotKey = s.rec_.lotKey ∧
        u.rst.rs = s.rst.rs &&& ~~~(0x34 : BitVec 32) ∧ u.rst.warm = some (s.rst.warm.getD (c, t)) ∧ u.mem.toll = s.mem.toll)) ∧
  (∀ s, s.gh.warmAt = none → exec .warmReset s = .next (settle s s)) ∧
  (∀ s c, s.rst.warm = none → s.gh.warmAt = none → resetDue c s = some (now s + 100000, c)) ∧
  (∀ s c, s.rst.warm ≠ none ∨ s.gh.warmAt ≠ none → resetDue c s = s.gh.warmAt) ∧
  (∀ s, (s.rst.warm ≠ none → (threeBites s = true ∨ overdue s = true) →
      exec .warmResetEscalation s = .next (bootRom (coldReset 5 s))) ∧
    (s.rst.warm = none ∨ (threeBites s = false ∧ overdue s = false) → exec .warmResetEscalation s = .next s)) ∧
  (∀ s, (s.rst.pfail = true → exec .pfailNFall s = .next (settle s s) ∧ exec .pfailNReturn s = .next (bootRom (coldReset 0 s))) ∧
    (s.rst.pfail = false → exec .pfailNReturn s = .next s ∧ ∃ u, exec .pfailNFall s = .next (settle s u) ∧ u.rst.pfail = true ∧
      u.field.safeCmd = true ∧ u.rec_.running = false ∧ u.gh.session = none ∧ u.pulses = [] ∧
      (∀ d ∈ allDomains, (getDom s d).fused = false → (getDom u d).st = .off) ∧
      (fwRuns s = false → u.sec = s.sec) ∧
      (fwRuns s = true → u.sec = (writeLw (lwBody 0 (now s) s) s).sec ∧ ∀ x ∈ u.gh.running, x.op ≠ 0x0E01))) ∧
  (∀ s report fail, (s.sec.boot ≠ .loaded ∨ s.rst.pfail = true → exec (.firmwareStart report fail) s = .next (settle s s)) ∧
    (s.sec.boot = .loaded → s.rst.pfail = false → s.rst.warm = none → ∃ u v, exec (.firmwareStart report fail) s = .next (settle s u) ∧
      u.deck = (selfTest report v).deck ∧ v.deck = s.deck ∧
      u.sec.boot = .firmware ∧ u.sec.dramReady = !fail ∧ u.sec.dramFail = fail ∧ u.field.wq = fieldRewrite) ∧
    (s.sec.boot = .loaded → s.rst.pfail = false → s.rst.warm ≠ none → ∃ u, exec (.firmwareStart report fail) s = .next (settle s u) ∧
      u.sec.boot = .firmware ∧ u.slots.commits = [] ∧ u.slots.records = [] ∧ (∀ i, (getSlot u i).st = .free) ∧
      (∀ b, s.rst.lw = some b → u.rst.lw = none ∧ u.sec.flash = (writeLw b s).sec.flash))) ∧
  (∀ s, (s.sec.boot ≠ .firmware ∨ s.rst.pfail = true → exec .fwReady s = .next (settle s s)) ∧
    (s.sec.boot = .firmware → s.rst.pfail = false → ∃ u, exec .fwReady s = .next (settle s u) ∧ u.sec.boot = .ready ∧
      u.rst.warm = none ∧ (s.sec.fw.secVersion ≤ 64 → s.sec.fw.secVersion ≤ arCounter u) ∧ arCounter s ≤ arCounter u))

/-- The commands of the catwalk monitor (R510, R511, R523, R531, R532, R533, 17_boot_security.md). Each monitor command
needs its level: one sent while no firmware runs does nothing, and one below its level is answered ERR LIFECYCLE and
does nothing else. HELP, INFO, BAUD, CHAL, UNLOCK, LOCK and LIFECYCLE PRODUCTION need none, STATUS, LOG and MR need
READ, and MW, PROVISION, REVOKE, LIFECYCLE RETURN and RESET WARM need FULL; INFO and BAUD are answered in ROM recovery
too. HELP names the commands, INFO gives what FW_INFO and GET_CAPS give. BAUD takes one of its five rates and refuses
another with INVALID_PARAM. CHAL gives a fresh challenge, or BUSY during the 60 s after three invalid answers. UNLOCK
without a challenge is refused with STATE and of another level than READ and FULL with INVALID_PARAM; an answer that
is valid under an owner key grants its level, another is answered SIGNATURE, and either way the challenge is spent;
the third invalid answer in a row starts the 60 s, whose expiry ends them. LOCK goes back to locked. STATUS answers
DEV_STATUS, the reasons of restricted service and their names, LOG the newest event records. MR reads up to 4,096
bytes and MW writes 8 bytes of toll space outside the firmware region, and refuse others with INVALID_PARAM. RESET
WARM leaves a warm reset due. PROVISION, REVOKE and LIFECYCLE burn OTP only with the UID typed, and else answer
INVALID_PARAM: PROVISION a hash of 32 bytes into an empty owner slot (a BLANK device becomes PROVISIONED), refusing
another length with INVALID_PARAM and a programmed slot with STATE; REVOKE the revocation bit of a slot that is
neither the last one nor that of the unlocking key in PRODUCTION, refusing those with STATE; LIFECYCLE RETURN the code
from PROVISIONED or PRODUCTION, and LIFECYCLE PRODUCTION its code from PROVISIONED with an unrevoked owner slot, both
refused with LIFECYCLE otherwise. The words of the answers are the model's choice (log entry 70). -/
def Obligations.MonitorCommandsComplete : Prop :=
  (∀ s level f, (fwRuns s = false → monitor level f s = s) ∧
    (fwRuns s = true → catLevel s < level → monitor level f s = say "ERR LIFECYCLE" [] s) ∧
    (fwRuns s = true → level ≤ catLevel s → monitor level f s = f s)) ∧
  (∀ s, exec .helpCmd s = .next (settle s (monitor 0 help s)) ∧ exec .lockCmd s = .next (settle s (monitor 0 lock s)) ∧
    exec .statusCmd s = .next (settle s (monitor 1 statusOf s)) ∧ exec .logCmd s = .next (settle s (monitor 1 logOf s)) ∧
    exec .catwalkResetWarm s = .next (settle s (monitor 2 catwalkReset s)) ∧
    (∀ random, exec (.chal random) s = .next (settle s (monitor 0 (challenge random) s))) ∧
    (∀ level answer, exec (.unlock level answer) s = .next (settle s (monitor 0 (unlock level.toNat answer) s))) ∧
    (∀ a n, exec (.mrCmd a n) s = .next (settle s (monitor 1 (memRead_ a.toNat n.toNat) s))) ∧
    (∀ a v, exec (.mwCmd a v) s = .next (settle s (monitor 2 (memWrite_ a.toNat v.toNat) s))) ∧
    (∀ slot hash c, exec (.provision slot hash c) s = .next (settle s (monitor 2 (confirmed c (provision slot.val hash)) s))) ∧
    (∀ slot c, exec (.revoke slot c) s = .next (settle s (monitor 2 (confirmed c (revoke slot.val)) s))) ∧
    (∀ c, exec (.lifecycleReturn c) s = .next (settle s (monitor 2 (confirmed c toReturned) s))) ∧
    (∀ c, exec (.lifecycleProduction c) s = .next (settle s (monitor 0 (confirmed c toProduction) s)))) ∧
  (∀ s, (s.sec.boot = .recovery → exec .infoCmd s = .next (settle s (info s)) ∧
      ∀ rate, exec (.baud rate) s = .next (settle s (baudSet rate.toNat s))) ∧
    (s.sec.boot ≠ .recovery → exec .infoCmd s = .next (settle s (monitor 0 info s)) ∧
      ∀ rate, exec (.baud rate) s = .next (settle s (monitor 0 (baudSet rate.toNat) s)))) ∧
  (∀ s, help s = say "OK" (ascii "HELP INFO BAUD CHAL UNLOCK STATUS LOG MR MW PROVISION REVOKE LIFECYCLE LOCK RESET") s ∧
    info s = say "OK" (fwInfo s ++ capsResp s) s ∧ lock s = say "OK" [] { s with sec := { s.sec with level := 0 } } ∧
    statusOf s = say "OK" (leBytes 4 (devStatus s) ++ leBytes 4 s.rst.rs.toNat ++ ascii (rsNames s)) s ∧
    logOf s = say "OK" s.q.log.flatten s ∧ catwalkReset s = say "OK" [] { s with gh := { s.gh with warmAt := resetDue 2 s } }) ∧
  (∀ s rate,
    (rate = 230400 ∨ rate = 460800 ∨ rate = 921600 ∨ rate = 1500000 ∨ rate = 3000000 → baudSet rate s =
      { say "OK" [] s with sec := { s.sec with baud := rate } }) ∧
    (rate ≠ 230400 → rate ≠ 460800 → rate ≠ 921600 → rate ≠ 1500000 → rate ≠ 3000000 →
      baudSet rate s = say "ERR INVALID_PARAM" [] s)) ∧
  (∀ s random,
    (lockedOut s = true → challenge random s = say "ERR BUSY" [] s) ∧
    (lockedOut s = false → challenge random s =
      say "OK" (padTo 32 random) { s with sec := { s.sec with challenge := some (padTo 32 random) } })) ∧
  (∀ s level answer,
    (s.sec.challenge = none → unlock level answer s = say "ERR STATE" [] s) ∧
    (∀ c, s.sec.challenge = some c →
      (level ≠ 1 → level ≠ 2 → unlock level answer s = say "ERR INVALID_PARAM" [] s) ∧
      (level = 1 ∨ level = 2 → unlock level answer s =
        if sigValid s.sec.otp answer (sha256 (unlockMessage s c level)) 1 = true then
          say "OK" [] { s with sec := { s.sec with level := level, unlockSlot := fld1 answer 5, challenge := none, invalid := 0 } }
        else if s.sec.invalid = 2 then
          say "ERR SIGNATURE" [] { s with sec := { s.sec with
            challenge := none, invalid := 0, lockout := some (now s + 60000000000) } }
        else say "ERR SIGNATURE" [] { s with sec := { s.sec with challenge := none, invalid := s.sec.invalid + 1 } }))) ∧
  (∀ s, (lockedOut s = true → exec .catwalkLockoutExpiry s = .next (settle s s)) ∧
    (lockedOut s = false → exec .catwalkLockoutExpiry s = .next (settle s { s with sec := { s.sec with lockout := none } }))) ∧
  (∀ s a n,
    (n ≤ 4096 → catRange s a n = true → memRead_ a n s = say "OK" (tollRead s a n) (tollUse 11 s)) ∧
    (4096 < n ∨ catRange s a n = false → memRead_ a n s = say "ERR INVALID_PARAM" [] s)) ∧
  (∀ s a v,
    (catRange s a 8 = true → memWrite_ a v s = say "OK" [] (tollWrite a (leBytes 8 v) (tollUse 11 s))) ∧
    (catRange s a 8 = false → memWrite_ a v s = say "ERR INVALID_PARAM" [] s)) ∧
  (∀ s c f, confirmed c f s = if c = uid s then f s else say "ERR INVALID_PARAM" [] s) ∧
  (∀ s slot hash,
    (hash.length ≠ 32 → provision slot hash s = say "ERR INVALID_PARAM" [] s) ∧
    (hash.length = 32 → otpProgrammed s.sec.otp 1 slot = true → provision slot hash s = say "ERR STATE" [] s) ∧
    (hash.length = 32 → otpProgrammed s.sec.otp 1 slot = false → provision slot hash s = say "OK" []
      (if lifecycle s = 0 then otpBurn 0x101 [1] (otpBurn (0x80 + 32 * slot) hash s) else otpBurn (0x80 + 32 * slot) hash s))) ∧
  (∀ s slot,
    (liveSlots s 1 ≠ [slot] → ¬ (lifecycle s = 2 ∧ s.sec.unlockSlot = slot) →
      revoke slot s = say "OK" [] (otpBurn 0x100 (leBytes 1 (2 ^ (4 + slot))) s)) ∧
    (liveSlots s 1 = [slot] ∨ (lifecycle s = 2 ∧ s.sec.unlockSlot = slot) → revoke slot s = say "ERR STATE" [] s)) ∧
  (∀ s,
    (lifecycle s = 1 ∨ lifecycle s = 2 → toReturned s = say "OK" [] (otpBurn 0x101 [7] s)) ∧
    (lifecycle s ≠ 1 → lifecycle s ≠ 2 → toReturned s = say "ERR LIFECYCLE" [] s) ∧
    (lifecycle s = 1 → liveSlots s 1 ≠ [] → toProduction s =
      say "OK" [] (let u := otpBurn 0x101 [3] s; { u with sec := { u.sec with level := 0 } })) ∧
    (lifecycle s ≠ 1 ∨ liveSlots s 1 = [] → toProduction s = say "ERR LIFECYCLE" [] s))

/-- Host writes to BAR0 registers and to the write-one-to-clear words (R11, R258, R401, R432, R457, R463, R466, R467,
R468, R486, 00_scope.md, 15_memory_host_queues.md). A 4-byte write completes. To INT_CAUSE it clears exactly the
MBX_DONE bits and the STATUS_CHG bit that it writes as one; INT_EN takes the value's 17 bits; the low half of WIN_BASE
takes bits 31 to 20 of the value, the high half bits 1 to 0, and the other half keeps. In a mailbox's block the words
take their fields, an address its low or high half, DB_REJECT clears by a one, and a GO word without bit 0 changes
nothing. A word of the request area takes the value's four bytes. A word of the MSI-X table takes the value's four
bytes, and where the vector is pending and then not masked its message is sent and its pending bit clears. A
misaligned write, and a write to any offset that is none of these (with the GO word), changes nothing. An 8-byte write
at an aligned offset is the write of the low word there and of the high word 4 bytes on; at another it changes
nothing. GAP of REC_STATUS, the bad lanes and PEER_CHANGED of SP_STATUS, bit 59 of UE_LOG, the overflow bit of an
energy counter and that of a toll byte counter clear by a one and keep by a zero, and nothing else changes in those
words, nor in the other toll byte counters. -/
def Obligations.RegisterWritesComplete : Prop :=
  (∀ s (v : BitVec 64),
    exec (.registerWrite (.bar0 0x100 false) v) s = .next (settle s { s with host := { s.host with
      mbxDone := s.host.mbxDone &&& ~~~(v.setWidth 16), statusChg := s.host.statusChg && !v.getLsbD 16 } }) ∧
    exec (.registerWrite (.bar0 0x104 false) v) s = .next (settle s { s with host := { s.host with intEn := v.setWidth 17 } }) ∧
    exec (.registerWrite (.bar0 0x200 false) v) s = .next (settle s { s with host := { s.host with
      winBase := s.host.winBase.extractLsb' 12 2 ++ v.extractLsb' 20 12 } }) ∧
    exec (.registerWrite (.bar0 0x204 false) v) s = .next (settle s { s with host := { s.host with
      winBase := v.extractLsb' 0 2 ++ s.host.winBase.extractLsb' 0 12 } })) ∧
  (∀ s (m : Fin 16) (v : BitVec 64),
    let w := fun o x => exec (.registerWrite (.bar0 (BitVec.ofNat 16 (0x1000 + 0x40 * m.val + o)) false) v) s =
      .next (settle s (setMbx s m x))
    let x := getMbx s m
    w 0x00 { x with opcode := v.extractLsb' 16 16, reqLen := v.extractLsb' 0 16 } ∧
    w 0x04 { x with session := v.extractLsb' 16 16, rspInd := v.getLsbD 1, reqInd := v.getLsbD 0 } ∧
    w 0x08 { x with reqAddr := x.reqAddr.extractLsb' 32 32 ++ v.extractLsb' 0 32 } ∧
    w 0x0C { x with reqAddr := v.extractLsb' 0 32 ++ x.reqAddr.extractLsb' 0 32 } ∧
    w 0x10 { x with rspAddr := x.rspAddr.extractLsb' 32 32 ++ v.extractLsb' 0 32 } ∧
    w 0x14 { x with rspAddr := v.extractLsb' 0 32 ++ x.rspAddr.extractLsb' 0 32 } ∧
    w 0x18 { x with rspMax := v.extractLsb' 0 32 } ∧
    w 0x20 { x with dbReject := x.dbReject && !v.getLsbD 29 } ∧
    (v.getLsbD 0 = false →
      exec (.registerWrite (.bar0 (BitVec.ofNat 16 (0x1000 + 0x40 * m.val + 0x1C)) false) v) s = .next (settle s s))) ∧
  (∀ s (m : Fin 16) o (v : BitVec 64), o < 64 →
    exec (.registerWrite (.bar0 (BitVec.ofNat 16 (0x2000 + 0x100 * m.val + 4 * o)) false) v) s =
      .next (settle s (setMbx s m { getMbx s m with req := memWrite (getMbx s m).req (4 * o) (leBytes 4 (v.toNat % 2 ^ 32)) }))) ∧
  (∀ s o (v : BitVec 64), o < 256 →
    ∃ t, let s1 := { s with host := { s.host with msix := t } }
      exec (.registerWrite (.bar0 (BitVec.ofNat 16 (0x4000 + 4 * o)) false) v) s = .next (settle s
        (if s.host.pba.getLsbD (o / 4) && !vecMasked s1 (o / 4) then
          emit (.msix (o / 4)) { s1 with host := { s1.host with pba := s.host.pba &&& ~~~(1#64 <<< (o / 4)) } }
        else s1)) ∧
      (∀ i, i < 4 → Tab.get (msixReset (4 * o + i)) t (4 * o + i) = v.extractLsb' (8 * i) 8)) ∧
  (∀ s (off : BitVec 16) (v : BitVec 64),
    (off.toNat % 4 ≠ 0 ∨ (off.toNat ≠ 0x100 ∧ off.toNat ≠ 0x104 ∧ off.toNat ≠ 0x200 ∧ off.toNat ≠ 0x204 ∧
      (off.toNat < 0x1000 ∨ 0x1400 ≤ off.toNat ∨ 0x20 < off.toNat % 0x40) ∧ (off.toNat < 0x2000 ∨ 0x3000 ≤ off.toNat) ∧
      (off.toNat < 0x4000 ∨ 0x4400 ≤ off.toNat)) →
      exec (.registerWrite (.bar0 off false) v) s = .next (settle s s)) ∧
    exec (.registerWrite (.bar0 off true) v) s = .next (settle s (if off.toNat % 8 = 0 then
      bar0Word (off.toNat + 4) (v.toNat / 2 ^ 32) (bar0Word off.toNat (v.toNat % 2 ^ 32) s) else s))) ∧
  (∀ s (v : BitVec 64), exec (.registerWrite .recStatus v) s =
    .next (settle s { s with rec_ := { s.rec_ with gap := s.rec_.gap && !v.getLsbD 30 } })) ∧
  (∀ s (p : Fin 8) (v : BitVec 64), exec (.registerWrite (.spStatus p) v) s = .next (settle s (setSpan s p { getSpan s p with
    badLanes := (getSpan s p).badLanes &&& ~~~(v.extractLsb' 18 4), peerChanged := (getSpan s p).peerChanged && !v.getLsbD 12 }))) ∧
  (∀ s (v : BitVec 64), ∃ x, exec (.registerWrite .ueLog v) s = .next (settle s { s with mem := { s.mem with ueLog := x } }) ∧
    ∀ i, i < 64 → x.getLsbD i = (s.mem.ueLog.getLsbD i && !(decide (i = 59) && v.getLsbD 59))) ∧
  (∀ s (d : Fin 64) (v : BitVec 64), exec (.registerWrite (.energy d) v) s =
    .next (settle s (setDom s d { getDom s d with ovf := (getDom s d).ovf && !v.getLsbD 63 }))) ∧
  (∀ s (r : Fin 12) (c : Fin 4) (v : BitVec 64), ∃ t, exec (.registerWrite (.tollBytes r c) v) s =
      .next (settle s { s with mem := { s.mem with bytes := t } }) ∧
    ∀ j, Tab.get ⟨0, false⟩ t j = (let x := Tab.get ⟨0, false⟩ s.mem.bytes j
      if j = 4 * r.val + c.val then { x with ovf := x.ovf && !v.getLsbD 63 } else x))

/-- The counter of a position unit, its revolution extension, and WRAP (R331). A counted edge moves the extended position
REV x 2^40 + COUNT, a 64-bit two's-complement value, by one in its direction. COUNT is a residue modulo 2^40. From
0xFF_FFFF_FFFF upwards COUNT goes to 0, REV rises by one modulo 2^24 and WRAP is set; from 0 downwards COUNT goes to
0xFF_FFFF_FFFF, REV falls by one modulo 2^24 and WRAP is set; anywhere else REV and WRAP keep. ENCODER_TRANSITION
completes so: outside replay mode, on a unit with no faulty input, no reference pending and a REF_SRC other than gap,
when A or B alone changes, for at least FILT samples and without Z, and the change decodes as a counted edge, COUNT,
REV and WRAP are those of that one step. -/
def Obligations.CounterStepsByOne : Prop :=
  (∀ u : Pu,
    (countStep u 1).rev ++ (countStep u 1).count = (u.rev ++ u.count) + (1 : BitVec 64) ∧
    (countStep u 1).count = u.count + 1 ∧ (countStep u 1).rev = (if u.count = 0xFFFFFFFFFF then u.rev + 1 else u.rev) ∧
    (countStep u 1).wrap = (u.wrap || decide (u.count = 0xFFFFFFFFFF)) ∧
    (countStep u (-1)).rev ++ (countStep u (-1)).count = (u.rev ++ u.count) - (1 : BitVec 64) ∧
    (countStep u (-1)).count = u.count - 1 ∧ (countStep u (-1)).rev = (if u.count = 0 then u.rev - 1 else u.rev) ∧
    (countStep u (-1)).wrap = (u.wrap || decide (u.count = 0))) ∧
  (∀ (s : State) (u : Fin 4) (e : EncChange), s.replay.mode = false → (getPu s u).wireBad = 0 → (getPu s u).refPending = false →
    puRefSrc (getPu s u).cfg ≠ 3 → puFilt (getPu s u).cfg ≤ e.held.toNat → e.z = false →
    (e.a ≠ (getPu s u).a ∧ e.b = (getPu s u).b ∨ e.a = (getPu s u).a ∧ e.b ≠ (getPu s u).b) →
    let d := decodeDir (getPu s u).cfg (getPu s u).a (getPu s u).b e.a e.b
    d = 1 ∨ d = -1 → ∃ t, exec (.encoderTransition u e) s = .next t ∧ (getPu t u).count = (countStep (getPu s u) d).count ∧
      (getPu t u).rev = (countStep (getPu s u) d).rev ∧ (getPu t u).wrap = (countStep (getPu s u) d).wrap)

/-- What a cold and a warm reset do to the queues (R484). POWER_ON and RESET_N_ASSERT answer one state, and in it every
queue is FREE. So is every queue after PFAIL_N_RETURN while a power failure is under way, and after an escalation of a
warm reset that is overdue. A warm reset that is due, outside a thermal trip and a power failure, leaves every queue
its context, HEAD and TAIL among it, with ARMED cleared (and the moderation timer, which only an armed queue runs),
and leaves every byte of the rings: toll memory and host memory are as they were. -/
def Obligations.QueuesThroughResets : Prop :=
  (∀ (s : State) q, ∃ t, exec .powerOn s = .next t ∧ exec .resetNAssert s = .next t ∧ (getQ t q).st = .free) ∧
  (∀ (s : State), s.rst.pfail = true → ∃ t, exec .pfailNReturn s = .next t ∧ ∀ q, (getQ t q).st = .free) ∧
  (∀ (s : State), s.rst.warm ≠ none → overdue s = true → ∃ t, exec .warmResetEscalation s = .next t ∧ ∀ q, (getQ t q).st = .free) ∧
  (∀ (s : State) w c, s.gh.warmAt = some (w, c) → w ≤ now s → s.steward.trip = false → s.rst.pfail = false →
    ∃ t, exec .warmReset s = .next t ∧ (∀ q, getQ t q = { getQ s q with armed := false, timer := none }) ∧
      t.mem.toll = s.mem.toll ∧ t.mem.hostMem = s.mem.hostMem)

/-- An integer contraction is the exact sum of its products modulo 2^32, in any order and any grouping (R89). The
accumulator of an integer contraction is the exact sum of the products reduced modulo 2^32 and read as INT32: it lies
in the INT32 range, and it differs from the exact sum by a multiple of 2^32. Any other order of the products gives the
same value, and so does summing two groups, or any list of groups, apart and adding their accumulators. -/
def Obligations.IntegerContractionIsExact : Prop :=
  (∀ ps : List Int, contractInt ps = (BitVec.ofInt 32 ps.sum).toInt) ∧
  (∀ ps : List Int, -2 ^ 31 ≤ contractInt ps ∧ contractInt ps < 2 ^ 31 ∧ ∃ k : Int, ps.sum = contractInt ps + k * 2 ^ 32) ∧
  (∀ ps qs : List Int, ps.Perm qs → contractInt ps = contractInt qs) ∧
  (∀ ps qs : List Int, contractInt (ps ++ qs) = contractInt [contractInt ps, contractInt qs]) ∧
  (∀ gs : List (List Int), contractInt gs.flatten = contractInt (gs.map contractInt))

/-- Error and event counters count exactly up to their largest value and then stay there with SAT (R548, R13,
18_faults_resets.md). From zero, k counted events leave COUNT at k as long as that is at most 2^31 - 1, and at 2^31 -
1 with SAT set once it is more. Counting k events at once is counting them one by one, from every counter in range,
and no counter leaves its range. -/
def Obligations.CountersSaturate : Prop :=
  (∀ k : Nat, ctrBump^[k] Ctr0 = ⟨decide (2 ^ 31 - 1 < k), min k (2 ^ 31 - 1)⟩) ∧
  (∀ (k : Nat) (c : Ctr), c.n ≤ 2 ^ 31 - 1 → ctrAdd c k = ctrBump^[k] c ∧ (ctrAdd c k).n ≤ 2 ^ 31 - 1 ∧
    (c.sat = true → (ctrAdd c k).sat = true))

/-- Maximum and minimum of FP32 values (R76, R100, 03_number_formats.md). Maximum and minimum are NaN when either operand
is NaN, the canonical NaN as FP32 words. Of other operands the maximum is one of the two and not below either, the
minimum one of the two and not above either; of zeros of both signs, in either order, the maximum is +0 and the
minimum is -0. A finite NaN-free pair gives the same value in either order. -/
def Obligations.MaximumAndMinimum : Prop :=
  (∀ a b : Ext, a = .nan ∨ b = .nan → extMax a b = .nan ∧ extMin a b = .nan) ∧
  (∀ a b : F32, f32 a = .nan ∨ f32 b = .nan → fmax a b = 0x7FC00000 ∧ fmin a b = 0x7FC00000) ∧
  (∀ a b : Ext, a ≠ .nan → b ≠ .nan →
    (extMax a b = a ∨ extMax a b = b) ∧ extLe a (extMax a b) = true ∧ extLe b (extMax a b) = true ∧
    (extMin a b = a ∨ extMin a b = b) ∧ extLe (extMin a b) a = true ∧ extLe (extMin a b) b = true) ∧
  (∀ a b : Ext, extMax a b = extMax b a ∧ extMin a b = extMin b a) ∧
  (extMax (.fin 0) .negZero = .fin 0 ∧ extMin (.fin 0) .negZero = .negZero)
end

