-- ==== Sys2Proof/Laws/Memory.lean ====
section
/-! SUPPORT. Sys2Proof/Laws/Memory.lean: the sparse tables and byte memories keep their canonical form, and reading after
writing.
-/

namespace Sys2Proof

set_option Elab.async false

variable {α : Type} [DecidableEq α]

/-! ## The canonical form -/

/-- A list whose keys rise from `k` reads as the default at `k` and below. -/
theorem Tab.get_below (d : α) (t : Tab α) (k i : Nat) (h : Tab.wfFrom d (some k) t = true) (hi : i ≤ k) : Tab.get d t i = d := by
  cases t with
  | nil => rfl
  | cons e r =>
    obtain ⟨k', v⟩ := e
    simp [Tab.wfFrom] at h
    simp [Tab.get, show ¬ i = k' by omega, show i < k' by omega]

/-- The lower bound of a canonical list may fall. -/
theorem Tab.wfFrom_mono (d : α) (t : Tab α) (lo lo' : Option Nat) (hl : ∀ l', lo' = some l' → ∃ l, lo = some l ∧ l' ≤ l)
    (h : Tab.wfFrom d lo t = true) : Tab.wfFrom d lo' t = true := by
  cases t with
  | nil => rfl
  | cons e r =>
    obtain ⟨k, v⟩ := e
    simp only [Tab.wfFrom, Bool.and_eq_true] at h ⊢
    refine ⟨⟨?_, h.1.2⟩, h.2⟩
    cases lo' with
    | none => rfl
    | some l' =>
      obtain ⟨l, rfl, hle⟩ := hl l' rfl
      have := h.1.1
      simp at this ⊢; omega

/-- A sublist of a canonical list is canonical. -/
theorem Tab.wfFrom_filter (d : α) (p : Nat × α → Bool) (t : Tab α) (lo : Option Nat) (h : Tab.wfFrom d lo t = true) :
    Tab.wfFrom d lo (t.filter p) = true := by
  induction t generalizing lo with
  | nil => exact h
  | cons e r ih =>
    obtain ⟨k, v⟩ := e
    simp only [Tab.wfFrom, Bool.and_eq_true] at h
    by_cases hp : p (k, v)
    · simp only [List.filter_cons, hp, if_true, Tab.wfFrom, Bool.and_eq_true]
      exact ⟨h.1, ih _ h.2⟩
    · simp only [List.filter_cons, hp]
      refine Tab.wfFrom_mono d _ (some k) lo (fun l hl => ⟨k, rfl, ?_⟩) (ih _ h.2)
      have := h.1.1; subst hl; simp at this; omega

/-- Writing above the lower bound keeps the canonical form. -/
theorem Tab.wfFrom_set (d : α) (t : Tab α) (lo : Option Nat) (i : Nat) (v : α) (h : Tab.wfFrom d lo t = true)
    (hi : ∀ l, lo = some l → l < i) : Tab.wfFrom d lo (Tab.set d t i v) = true := by
  have top : ∀ lo : Option Nat, (∀ l, lo = some l → l < i) → (match lo with
     | none => true
     | some l => decide (l < i)) = true := by
    intro lo hi
    cases lo with
    | none => rfl
    | some l => simpa using hi l rfl
  induction t generalizing lo with
  | nil =>
    unfold Tab.set; split
    · rfl
    · rename_i hv; simp [Tab.wfFrom, hv]; exact top lo hi
  | cons e r ih =>
    obtain ⟨k, w⟩ := e
    have h' := h
    simp only [Tab.wfFrom, Bool.and_eq_true] at h
    unfold Tab.set; split
    · rename_i hk; subst hk
      split
      · exact Tab.wfFrom_mono d _ (some i) lo (fun l hl => ⟨i, rfl, (hi l hl).le⟩) (Tab.wfFrom_filter d _ r _ h.2)
      · rename_i hv; simp [Tab.wfFrom, hv, h.2]; exact top lo hi
    · split
      · rename_i hk
        split
        · exact h'
        · rename_i hv
          simp only [Tab.wfFrom, Bool.and_eq_true]
          exact ⟨⟨top lo hi, by simpa using hv⟩, ⟨by simpa using hk, h.1.2⟩, h.2⟩
      · simp only [Tab.wfFrom, Bool.and_eq_true]
        exact ⟨h.1, ih (some k) h.2 (fun l hl => by cases hl; omega)⟩

/-- Writing keeps the canonical form. -/
theorem Tab.wf_set (d : α) (t : Tab α) (i : Nat) (v : α) (h : Tab.wf d t = true) : Tab.wf d (Tab.set d t i v) = true :=
  Tab.wfFrom_set d t none i v h (fun _ hl => by cases hl)

/-! ## Reading after writing -/

omit [DecidableEq α] in
/-- Dropping the keys up to `i` changes no read above `i`, and reads at and below `i` give the default. -/
theorem Tab.get_filter (d : α) (t : Tab α) (i j : Nat) :
    Tab.get d (t.filter (fun e => decide (i < e.1))) j = if j ≤ i then d else Tab.get d t j := by
  induction t with
  | nil => simp [Tab.get]
  | cons e r ih =>
    obtain ⟨k, w⟩ := e
    by_cases hk : i < k
    · simp only [List.filter_cons, hk, decide_true, if_true, Tab.get, ih]
      by_cases hj : j ≤ i
      · rw [if_neg (by omega), if_pos (by omega), if_pos hj]
      · simp [hj]
    · simp only [List.filter_cons, hk, decide_false, Bool.false_eq_true, if_false, ih, Tab.get]
      by_cases hj : j ≤ i
      · simp [hj]
      · rw [if_neg hj, if_neg hj, if_neg (by omega), if_neg (by omega)]

/-- A table read after a write: the written key reads as written, every other as before. -/
theorem Tab.get_set (d : α) (t : Tab α) (i : Nat) (v : α) (j : Nat) :
    Tab.get d (Tab.set d t i v) j = if j = i then v else Tab.get d t j := by
  induction t with
  | nil =>
    unfold Tab.set; split
    · rename_i hv; subst hv; simp [Tab.get]
    · simp only [Tab.get]; split <;> simp
  | cons e r ih =>
    obtain ⟨k, w⟩ := e
    unfold Tab.set; split
    · rename_i hk; subst hk
      split
      · rename_i hv; subst hv
        rw [Tab.get_filter]; simp only [Tab.get]
        by_cases hj : j = i
        · simp [hj]
        · simp only [if_neg hj]; split <;> split <;> first | rfl | omega
      · simp only [Tab.get]; split <;> rfl
    · rename_i hik
      split
      · rename_i hk
        split
        · rename_i hv; subst hv
          by_cases hj : j = i
          · subst hj; simp [Tab.get, hik, hk]
          · rw [if_neg hj]
        · by_cases hj : j = i
          · subst hj; simp [Tab.get]
          · simp only [Tab.get, if_neg hj]
            split
            · rw [if_neg (by omega), if_pos (by omega)]
            · rfl
      · rename_i hk
        simp only [Tab.get, ih]
        by_cases hj : j = i
        · subst hj; simp [hik, hk]
        · simp [hj]

@[simp] theorem Tab.get_set_same (d : α) (t : Tab α) (i : Nat) (v : α) : Tab.get d (Tab.set d t i v) i = v := by
  simp [Tab.get_set]

theorem Tab.get_set_ne (d : α) (t : Tab α) (i : Nat) (v : α) (j : Nat) (h : j ≠ i) :
    Tab.get d (Tab.set d t i v) j = Tab.get d t j := by simp [Tab.get_set, h]

/-! ## Byte memories -/

theorem memWriteD_wf (d : Byte) (m : Mem) (a : Nat) (bs : List Byte) (h : Tab.wf d m = true) :
    Tab.wf d (memWriteD d m a bs) = true := by
  induction bs generalizing m a with
  | nil => exact h
  | cons b t ih => exact ih _ _ (Tab.wf_set d m a b h)

theorem memWrite_wf (m : Mem) (a : Nat) (bs : List Byte) (h : Tab.wf 0 m = true) : Tab.wf 0 (memWrite m a bs) = true :=
  memWriteD_wf 0 m a bs h

theorem memClear_wf (d : Byte) (m : Mem) (a n : Nat) (h : Tab.wf d m = true) : Tab.wf d (memClear m a n) = true :=
  Tab.wfFrom_filter d _ m none h

/-- A memory read after a write: the written bytes, and elsewhere what stood there. -/
theorem memWriteD_get (d : Byte) (m : Mem) (a : Nat) (bs : List Byte) (x : Nat) :
    Tab.get d (memWriteD d m a bs) x = if a ≤ x ∧ x < a + bs.length then bs.getD (x - a) d else Tab.get d m x := by
  induction bs generalizing m a with
  | nil => simp [memWriteD]
  | cons b t ih =>
    simp only [memWriteD, ih, Tab.get_set d m a b x, List.length_cons]
    by_cases h1 : x = a
    · subst h1; simp
    · rw [if_neg h1]
      by_cases h2 : a + 1 ≤ x ∧ x < a + 1 + t.length
      · rw [if_pos h2, if_pos (by omega), show x - a = (x - (a + 1)) + 1 by omega]; rfl
      · rw [if_neg h2, if_neg (by omega)]

/-- A memory read after a range is cleared. -/
theorem memClear_get_from (d : Byte) (m : Mem) (lo : Option Nat) (a n x : Nat) (h : Tab.wfFrom d lo m = true) :
    Tab.get d (memClear m a n) x = if a ≤ x ∧ x < a + n then d else Tab.get d m x := by
  induction m generalizing lo with
  | nil => simp [memClear, Tab.get]
  | cons e r ih =>
    obtain ⟨k, v⟩ := e
    have hr : Tab.wfFrom d (some k) (memClear r a n) = true := by
      simp only [Tab.wfFrom, Bool.and_eq_true] at h
      exact Tab.wfFrom_filter d _ r _ h.2
    simp only [Tab.wfFrom, Bool.and_eq_true] at h
    have ih := ih _ h.2
    by_cases hk : k < a ∨ a + n ≤ k
    · have : memClear ((k, v) :: r) a n = (k, v) :: memClear r a n := by simp [memClear, hk]
      rw [this]; simp only [Tab.get, ih]
      by_cases hx : x = k
      · subst hx; rw [if_pos rfl, if_neg (by omega), if_pos rfl]
      · simp only [if_neg hx]; split <;> simp
    · have : memClear ((k, v) :: r) a n = memClear r a n := by simp [memClear, hk]
      rw [this, ih]; simp only [Tab.get]
      by_cases hin : a ≤ x ∧ x < a + n
      · simp [hin]
      · rw [if_neg hin, if_neg hin, if_neg (by omega)]
        split
        · exact Tab.get_below d r k x h.2 (by omega)
        · rfl

theorem memClear_get (d : Byte) (m : Mem) (a n x : Nat) (h : Tab.wf d m = true) :
    Tab.get d (memClear m a n) x = if a ≤ x ∧ x < a + n then d else Tab.get d m x := memClear_get_from d m none a n x h

/-- A read of `n` bytes has `n` bytes, each the memory's. -/
@[simp] theorem memReadD_length (d : Byte) (m : Mem) (a n : Nat) : (memReadD d m a n).length = n := by
  induction n generalizing a with
  | zero => rfl
  | succ n ih => simp [memReadD, ih]

theorem memReadD_getD (d : Byte) (m : Mem) (a n i : Nat) (e : Byte) (h : i < n) :
    (memReadD d m a n).getD i e = Tab.get d m (a + i) := by
  induction n generalizing a i with
  | zero => omega
  | succ n ih =>
    cases i with
    | zero => rfl
    | succ i => simp only [memReadD, List.getD_cons_succ]; rw [ih _ _ (by omega)]; congr 1; omega

end Sys2Proof
end

