-- ==== Sys2Proof/Laws/Trust.lean ====
section
/-! SUPPORT. Sys2Proof/Laws/Trust.lean: the part of the state that holds the device's trust, and the queue of waiting commands:
what stands here is changed by few meanings, and every other one is shown to leave it alone.
-/

namespace Sys2Proof.Machine

set_option Elab.async false

/-- The waiting commands, and OTP, flash, boot and monitor. -/
def trust (s : State) : List Instr × Security := (s.pending, s.sec)

/-- The trust state of a record written out. -/
@[simp] theorem trust_mk (p time pus gens slots cams ramps field die trigs pulses linePulses deck imgs seq bands jobs rec_ replay span pwr
    steward mem host q gh c rst lineSlow out grade) :
    trust ⟨p, time, pus, gens, slots, cams, ramps, field, die, trigs, pulses, linePulses, deck, imgs, seq, bands, jobs, rec_, replay,
      span, pwr, steward, mem, host, q, gh, c, rst, lineSlow, out, grade⟩ = (p, c) := rfl

@[simp] theorem trust_fold (s : State) : (s.pending, s.sec) = trust s := rfl

@[simp] theorem trust_ite (c : Prop) [Decidable c] (a b : State) :
    trust (if c then a else b) = if c then trust a else trust b := by split <;> rfl

/-- A fold whose every step keeps the trust state keeps it. -/
@[simp] theorem trust_foldl {α : Type} (f : State → α → State) (h : ∀ a x, trust (f a x) = trust a) (l : List α) (s : State) :
    trust (l.foldl f s) = trust s := by
  induction l generalizing s with
  | nil => rfl
  | cons x t ih => simp [ih, h]

/-- A fold over a state carried with other data. -/
theorem trust_foldl_pair {α β : Type} (f : State × β → α → State × β) (h : ∀ a x, trust (f a x).1 = trust a.1) (l : List α)
    (s : State × β) : trust (l.foldl f s).1 = trust s.1 := by
  induction l generalizing s with
  | nil => rfl
  | cons x t ih => simp [ih, h]

@[simp] theorem trust_when (c : Bool) (f : State → State) (s : State) :
    trust (when_ c f s) = if c then trust (f s) else trust s := by
  unfold when_; split <;> rfl

/-- The device status and its interrupt message touch neither. -/
@[simp] theorem trust_settle_ (old s : State) : trust (settle old s) = trust s := by
  unfold settle sendVector emit; dsimp only; (repeat' split) <;> rfl

/-- A meaning that always goes on. -/
theorem trust_done (f : State → State) (s : State) (h : trust (f s) = trust s) :
    ∀ t, done f s = .next t → trust t = trust s := by
  intro t e; cases e; rw [trust_settle_, h]

end Sys2Proof.Machine
end

