-- ==== Sys2Proof/Laws/TrustOps.lean ====
section
/-! SUPPORT. Sys2Proof/Laws/TrustOps.lean: what the operations of Ops leave alone.
-/

namespace Sys2Proof.Machine

set_option Elab.async false

@[simp] theorem trust_setPu (s : State) (p : Nat) (u : Pu) :
    trust (setPu s p u) = trust s := by
  unfold setPu; simp

@[simp] theorem trust_setGen (s : State) (p : Nat) (g : LineGen) :
    trust (setGen s p g) = trust s := by
  unfold setGen; simp

@[simp] theorem trust_setCam (s : State) (p : Nat) (c : Cam) :
    trust (setCam s p c) = trust s := by
  unfold setCam; simp

@[simp] theorem trust_setRamp (s : State) (p : Nat) (r : Ramp) :
    trust (setRamp s p r) = trust s := by
  unfold setRamp; simp

@[simp] theorem trust_setSlot (s : State) (i : Nat) (t : Slot) :
    trust (setSlot s i t) = trust s := by
  unfold setSlot; simp

@[simp] theorem trust_setImg (s : State) (i : Nat) (x : ImgSlot) :
    trust (setImg s i x) = trust s := by
  unfold setImg; simp

@[simp] theorem trust_setSpan (s : State) (p : Nat) (x : SpanPort) :
    trust (setSpan s p x) = trust s := by
  unfold setSpan; simp

@[simp] theorem trust_setDom (s : State) (d : Nat) (x : Domain) :
    trust (setDom s d x) = trust s := by
  unfold setDom; simp

@[simp] theorem trust_setQ (s : State) (q : Nat) (x : Queue) :
    trust (setQ s q x) = trust s := by
  unfold setQ; simp

@[simp] theorem trust_setMbx (s : State) (m : Nat) (x : Mbx) :
    trust (setMbx s m x) = trust s := by
  unfold setMbx; simp

@[simp] theorem trust_emit (o : Out) (s : State) :
    trust (emit o s) = trust s := by
  unfold emit; simp

@[simp] theorem trust_sendVector (v : Nat) (s : State) :
    trust (sendVector v s) = trust s := by
  unfold sendVector; (repeat' split) <;> simp

@[simp] theorem trust_settle (old : State) (s : State) :
    trust (settle old s) = trust s := by
  unfold settle; dsimp only; (repeat' split) <;> simp_all

@[simp] theorem trust_post (code : Nat) (inst : Nat) (dom : Nat) (a0 : Nat) (a1 : Nat) (s : State) :
    trust (post code inst dom a0 a1 s) = trust s := by
  unfold post; simp

@[simp] theorem trust_postAt (stamp : Nat) (code : Nat) (inst : Nat) (dom : Nat) (a0 : Nat) (a1 : Nat) (s : State) :
    trust (postAt stamp code inst dom a0 a1 s) = trust s := by
  unfold postAt; simp

@[simp] theorem trust_rsSet (b : Nat) (s : State) :
    trust (rsSet b s) = trust s := by
  unfold rsSet; (repeat' split) <;> simp

@[simp] theorem trust_recPut (typ : Nat) (stamp : Nat) (payload : List Byte) (s : State) :
    trust (recPut typ stamp payload s) = trust s := by
  unfold recPut; dsimp only; (repeat' split) <;> simp_all

@[simp] theorem trust_recFault (code : Nat) (unit : Nat) (place : Nat) (s : State) :
    trust (recFault code unit place s) = trust s := by
  unfold recFault; simp

@[simp] theorem trust_recConfigAt (line : Nat) (port : Nat) (opcode : Nat) (payload : List Byte) (s : State) :
    trust (recConfigAt line port opcode payload s) = trust s := by
  unfold recConfigAt; simp

@[simp] theorem trust_recConfig (port : Nat) (opcode : Nat) (payload : List Byte) (s : State) :
    trust (recConfig port opcode payload s) = trust s := by
  unfold recConfig; simp

@[simp] theorem trust_tollWrite (a : Nat) (bs : List Byte) (s : State) :
    trust (tollWrite a bs s) = trust s := by
  unfold tollWrite; simp

@[simp] theorem trust_wakeDom (d : Nat) (src : Nat) (req : Option Nat) (s : State) :
    trust (wakeDom d src req s) = trust s := by
  unfold wakeDom; dsimp only; (repeat' split) <;> simp_all

@[simp] theorem trust_accessDom (req : Nat) (d : Nat) (s : State) :
    trust (accessDom req d s) = trust s := by
  unfold accessDom; dsimp only; (repeat' split) <;> simp_all

@[simp] theorem trust_tollUse (req : Nat) (s : State) :
    trust (tollUse req s) = trust s := by
  unfold tollUse; simp

@[simp] theorem trust_deckUse (req : Nat) (s : State) :
    trust (deckUse req s) = trust s := by
  unfold deckUse; simp

@[simp] theorem trust_wakeCfg (d : Nat) (s : State) :
    trust (wakeCfg d s) = trust s := by
  unfold wakeCfg; (repeat' split) <;> simp

end Sys2Proof.Machine
end

