-- ==== Sys2Proof/Laws/TrustMailbox.lean ====
section
/-! SUPPORT. Sys2Proof/Laws/TrustMailbox.lean: what the operations of Mailbox leave alone.
-/

namespace Sys2Proof.Machine

set_option Elab.async false

@[simp] theorem trust_takeReq (s : State) :
    trust (takeReq s) = trust s := by
  unfold takeReq; simp

@[simp] theorem trust_finish (m : Nat) (rep : Reply) (s : State) :
    trust (finish m rep s) = trust s := by
  unfold finish; dsimp only; (repeat' split) <;> simp_all

@[simp] theorem trust_command (m : Nat) (c : Spec) (body : State → List Byte → State × Option Reply) (s : State) (hbody : ∀ x y, trust (body x y).1 = trust x) :
    trust (command m c body s) = trust s := by
  unfold command; dsimp only; (repeat' split) <;> simp_all

@[simp] theorem trust_no (s : State) (r : Reply) :
    trust (no s r).1 = trust s := by
  unfold no; simp

@[simp] theorem trust_yes (s : State) (resp : List Byte) :
    trust (yes s resp).1 = trust s := by
  unfold yes; simp

@[simp] theorem trust_hold (m : Nat) (op : Nat) (p : List Byte) (objs : List Objt) (boundary : Bool) (ans : Option Reply) (s : State) :
    trust (hold m op p objs boundary ans s).1 = trust s := by
  unfold hold; simp

@[simp] theorem trust_answerRunning (m : Nat) (r : Reply) (s : State) :
    trust (answerRunning m r s) = trust s := by
  unfold answerRunning; simp

@[simp] theorem trust_goWrite (m : Nat) (s : State) :
    trust (goWrite m s) = trust s := by
  unfold goWrite; dsimp only; (repeat' split) <;> simp_all

@[simp] theorem trust_completed (r : Running) (s : State) :
    trust (completed r s) = trust s := by
  unfold completed; simp

@[simp] theorem trust_publish (m : Nat) (s : State) :
    trust (publish m s) = trust s := by
  unfold publish; (repeat' split) <;> simp

end Sys2Proof.Machine
end

