-- ==== Sys2Proof/Laws/TrustTimebase.lean ====
section
/-! SUPPORT. Sys2Proof/Laws/TrustTimebase.lean: what the operations of Timebase leave alone.
-/

namespace Sys2Proof.Machine

set_option Elab.async false

@[simp] theorem trust_tick (s : State) :
    trust (tick s) = trust s := by
  unfold tick; simp

@[simp] theorem trust_bodyHello (s : State) (p : List Byte) :
    trust (bodyHello s p).1 = trust s := by
  unfold bodyHello; (repeat' split) <;> simp

@[simp] theorem trust_bodyGoodbye (s : State) (x1 : List Byte) :
    trust (bodyGoodbye s x1).1 = trust s := by
  unfold bodyGoodbye; simp

@[simp] theorem trust_bodyGetCaps (s : State) (x1 : List Byte) :
    trust (bodyGetCaps s x1).1 = trust s := by
  unfold bodyGetCaps; simp

@[simp] theorem trust_bodyTimebase (hz : Nat) (s : State) (x1 : List Byte) :
    trust (bodyTimebase hz s x1).1 = trust s := by
  unfold bodyTimebase; (repeat' split) <;> simp

@[simp] theorem trust_bodyTimeRead (s : State) (x1 : List Byte) :
    trust (bodyTimeRead s x1).1 = trust s := by
  unfold bodyTimeRead; simp

@[simp] theorem trust_wcWrite (w : WcWrite) (s : State) :
    trust (wcWrite w s) = trust s := by
  unfold wcWrite; simp

@[simp] theorem trust_bodyWcInc (s : State) (p : List Byte) :
    trust (bodyWcInc s p).1 = trust s := by
  unfold bodyWcInc; simp

@[simp] theorem trust_bodyWcStep (s : State) (p : List Byte) :
    trust (bodyWcStep s p).1 = trust s := by
  unfold bodyWcStep; simp

@[simp] theorem trust_bodyWcSet (s : State) (p : List Byte) :
    trust (bodyWcSet s p).1 = trust s := by
  unfold bodyWcSet; simp

@[simp] theorem trust_leaveLocked (s : State) :
    trust (leaveLocked s) = trust s := by
  unfold leaveLocked; (repeat' split) <;> simp

@[simp] theorem trust_ksMove (st : KsSt) (s : State) :
    trust (ksMove st s) = trust s := by
  unfold ksMove; simp

@[simp] theorem trust_reparent (s : State) :
    trust (reparent s) = trust s := by
  unfold reparent; (repeat' split) <;> simp

@[simp] theorem trust_setRole (role : KsRole) (fixed : Option Nat) (s : State) :
    trust (setRole role fixed s) = trust s := by
  unfold setRole; (repeat' split) <;> simp

@[simp] theorem trust_bodyKsConfig (s : State) (p : List Byte) :
    trust (bodyKsConfig s p).1 = trust s := by
  unfold bodyKsConfig; simp

@[simp] theorem trust_bodyLaunch (s : State) (p : List Byte) :
    trust (bodyLaunch s p).1 = trust s := by
  unfold bodyLaunch; (repeat' split) <;> simp

@[simp] theorem trust_bodyKsRead (s : State) (x1 : List Byte) :
    trust (bodyKsRead s x1).1 = trust s := by
  unfold bodyKsRead; simp

end Sys2Proof.Machine
end

