-- ==== Sys2Proof/Laws/TrustSlots.lean ====
section
/-! SUPPORT. Sys2Proof/Laws/TrustSlots.lean: what the operations of Slots leave alone.
-/

namespace Sys2Proof.Machine

set_option Elab.async false

@[simp] theorem trust_slotLow (pu : Nat) (s : State) :
    trust (slotLow pu s) = trust s := by
  unfold slotLow; simp

@[simp] theorem trust_maybeFree (i : Nat) (s : State) :
    trust (maybeFree i s) = trust s := by
  unfold maybeFree; simp

@[simp] theorem trust_primaryDone (i : Nat) (s : State) :
    trust (primaryDone i s) = trust s := by
  unfold primaryDone; simp

@[simp] theorem trust_viewsDone (i : Nat) (k : Nat) (s : State) :
    trust (viewsDone i k s) = trust s := by
  unfold viewsDone; simp

@[simp] theorem trust_markCorrupt (i : Nat) (s : State) :
    trust (markCorrupt i s) = trust s := by
  unfold markCorrupt; simp

@[simp] theorem trust_recAdmitAt (stamp : Nat) (bay : Nat) (dec : Nat) (views : Nat) (slot : Nat) (gen : Nat) (girders : Nat) (s : State) :
    trust (recAdmitAt stamp bay dec views slot gen girders s) = trust s := by
  unfold recAdmitAt; simp

@[simp] theorem trust_recAdmit (bay : Nat) (dec : Nat) (views : Nat) (slot : Nat) (gen : Nat) (girders : Nat) (s : State) :
    trust (recAdmit bay dec views slot gen girders s) = trust s := by
  unfold recAdmit; simp

@[simp] theorem trust_dropCandidate (i : Nat) (stamp : Nat) (s : State) :
    trust (dropCandidate i stamp s) = trust s := by
  unfold dropCandidate; simp

@[simp] theorem trust_withdrawViews (i : Nat) (stamp : Nat) (s : State) :
    trust (withdrawViews i stamp s) = trust s := by
  unfold withdrawViews; dsimp only; (repeat' split) <;> simp_all

@[simp] theorem trust_freezeSlot (i : Nat) (stamp : Nat) (s : State) :
    trust (freezeSlot i stamp s) = trust s := by
  unfold freezeSlot; simp

@[simp] theorem trust_fireSlot (i : Nat) (stamp : Nat) (quiet : Bool) (s : State) :
    trust (fireSlot i stamp quiet s) = trust s := by
  unfold fireSlot; simp

@[simp] theorem trust_noSlotSet (p : Nat) (s : State) :
    trust (noSlotSet p s) = trust s := by
  unfold noSlotSet; simp

@[simp] theorem trust_noSlotEnd (p : Nat) (s : State) :
    trust (noSlotEnd p s) = trust s := by
  unfold noSlotEnd; simp

@[simp] theorem trust_exhausted (p : Nat) (part : BitVec 64) (s : State) :
    trust (exhausted p part s) = trust s := by
  unfold exhausted; simp

@[simp] theorem trust_openAt (i : Nat) (p : Nat) (part : BitVec 64) (detect : BitVec 40) (x0 : Nat) (x1 : Nat) (s : State) :
    trust (openAt i p part detect x0 x1 s) = trust s := by
  unfold openAt; simp

@[simp] theorem trust_openSlot (p : Nat) (part : BitVec 64) (detect : BitVec 40) (x0 : Nat) (x1 : Nat) (s : State) :
    trust (openSlot p part detect x0 x1 s).1 = trust s := by
  unfold openSlot; dsimp only; (repeat' split) <;> simp_all

@[simp] theorem trust_nextPart (p : Nat) (s : State) :
    trust (nextPart p s).2 = trust s := by
  unfold nextPart; simp

@[simp] theorem trust_shiftSlots (pu : Nat) (c : BitVec 40) (s : State) :
    trust (shiftSlots pu c s) = trust s := by
  unfold shiftSlots; simp

@[simp] theorem trust_addCandidate (i : Nat) (c : FlightCommit) (s : State) :
    trust (addCandidate i c s) = trust s := by
  unfold addCandidate; simp

@[simp] theorem trust_noteInstant (c : FlightCommit) (s : State) :
    trust (noteInstant c s) = trust s := by
  unfold noteInstant; simp

@[simp] theorem trust_applyCommit (c : FlightCommit) (s0 : State) :
    trust (applyCommit c s0) = trust s0 := by
  unfold applyCommit; simp

@[simp] theorem trust_undoDuplicate (e : Nat × Nat × Slot × FlightCommit) (s : State) :
    trust (undoDuplicate e s) = trust s := by
  unfold undoDuplicate; simp

@[simp] theorem trust_freezeFirst (i : Nat) (stamp : Nat) (s : State) :
    trust (freezeFirst i stamp s) = trust s := by
  unfold freezeFirst; (repeat' split) <;> simp

@[simp] theorem trust_slotCommit (s : State) :
    trust (slotCommit s) = trust s := by
  unfold slotCommit; (repeat' split) <;> simp

@[simp] theorem trust_postRecord (t : Slot) (r : List Byte) (s : State) :
    trust (postRecord t r s) = trust s := by
  unfold postRecord; simp

@[simp] theorem trust_recordPost (s : State) :
    trust (recordPost s) = trust s := by
  unfold recordPost; (repeat' split) <;> simp

@[simp] theorem trust_lateRecordPost (s : State) :
    trust (lateRecordPost s) = trust s := by
  unfold lateRecordPost; (repeat' split) <;> simp

@[simp] theorem trust_bodySlotRead (s : State) (p : List Byte) :
    trust (bodySlotRead s p).1 = trust s := by
  unfold bodySlotRead; simp

@[simp] theorem trust_bodyVpSet (s : State) (p : List Byte) :
    trust (bodyVpSet s p).1 = trust s := by
  unfold bodyVpSet; dsimp only; (repeat' split) <;> simp_all

@[simp] theorem trust_bodyVpRead (s : State) (p : List Byte) :
    trust (bodyVpRead s p).1 = trust s := by
  unfold bodyVpRead; simp

@[simp] theorem trust_bodySeqSet (s : State) (p : List Byte) :
    trust (bodySeqSet s p).1 = trust s := by
  unfold bodySeqSet; dsimp only; (repeat' split) <;> simp_all

end Sys2Proof.Machine
end

