-- ==== Sys2Proof/Laws/TrustField.lean ====
section
/-! SUPPORT. Sys2Proof/Laws/TrustField.lean: what the operations of Field leave alone.
-/

namespace Sys2Proof.Machine

set_option Elab.async false

@[simp] theorem trust_sawLevels (s : State) :
    trust (sawLevels s) = trust s := by
  unfold sawLevels; simp

@[simp] theorem trust_rsClear (b : Nat) (s : State) :
    trust (rsClear b s) = trust s := by
  unfold rsClear; simp

@[simp] theorem trust_setLineSlow (b : Bool) (s : State) :
    trust (setLineSlow b s) = trust s := by
  unfold setLineSlow; simp

@[simp] theorem trust_endPulses (f : Pulse → Bool) (s : State) :
    trust (endPulses f s) = trust s := by
  unfold endPulses; simp

@[simp] theorem trust_lineTrigPulseEnd (n : Nat) (s : State) :
    trust (lineTrigPulseEnd n s) = trust s := by
  unfold lineTrigPulseEnd; simp

@[simp] theorem trust_lineTrigPulse (p : Nat) (stamp : Nat) (s : State) :
    trust (lineTrigPulse p stamp s) = trust s := by
  unfold lineTrigPulse; (repeat' split) <;> simp

@[simp] theorem trust_fioLatch (p : Nat) (at_ : Nat) (s : State) :
    trust (fioLatch p at_ s) = trust s := by
  unfold fioLatch; simp

@[simp] theorem trust_takeLatches (s : State) :
    trust (takeLatches s) = trust s := by
  unfold takeLatches; simp

@[simp] theorem trust_answerOp (op : Nat) (r : Reply) (s : State) :
    trust (answerOp op r s) = trust s := by
  unfold answerOp; (repeat' split) <;> simp

@[simp] theorem trust_releaseFrames (s : State) :
    trust (releaseFrames s) = trust s := by
  unfold releaseFrames; simp

@[simp] theorem trust_fieldFrameTick (s0 : State) :
    trust (fieldFrameTick s0) = trust s0 := by
  unfold fieldFrameTick; dsimp only; split <;> simp [fieldFrameTick.sendDown]

@[simp] theorem trust_fieldDownApply (good : Bool) (levels : BitVec 32) (lplusLow : Bool) (s : State) :
    trust (fieldDownApply good levels lplusLow s) = trust s := by
  unfold fieldDownApply; (repeat' split) <;> simp

@[simp] theorem trust_inputChange (n : Nat) (level : Bool) (resync : Bool) (stamp : Nat) (s : State) :
    trust (inputChange n level resync stamp s) = trust s := by
  unfold inputChange; simp

@[simp] theorem trust_inputChanges (old : BitVec 32) (new_ : BitVec 32) (resync : Bool) (stamp : Nat) (s : State) :
    trust (inputChanges old new_ resync stamp s) = trust s := by
  unfold inputChanges; simp

@[simp] theorem trust_readbackFaults (rbf : BitVec 32) (s : State) :
    trust (readbackFaults rbf s) = trust s := by
  unfold readbackFaults; simp

@[simp] theorem trust_thermalLatches (ovl : BitVec 32) (s : State) :
    trust (thermalLatches ovl s) = trust s := by
  unfold thermalLatches; simp

@[simp] theorem trust_takeEcho (addr : Nat) (v : Byte) (s : State) :
    trust (takeEcho addr v s) = trust s := by
  unfold takeEcho; (repeat' split) <;> simp

@[simp] theorem trust_linkReturn (missed : Nat) (s : State) :
    trust (linkReturn missed s) = trust s := by
  unfold linkReturn; simp

@[simp] theorem trust_goodUp (k : Nat) (fr : List Byte) (s : State) :
    trust (goodUp k fr s) = trust s := by
  unfold goodUp; simp

@[simp] theorem trust_fieldUpFrame (good : Bool) (s : State) :
    trust (fieldUpFrame good s) = trust s := by
  unfold fieldUpFrame; (repeat' split) <;> simp

@[simp] theorem trust_fieldLinkTimeout (s : State) :
    trust (fieldLinkTimeout s) = trust s := by
  unfold fieldLinkTimeout; simp

@[simp] theorem trust_fieldDieTimeout (s : State) :
    trust (fieldDieTimeout s) = trust s := by
  unfold fieldDieTimeout; simp

@[simp] theorem trust_fieldUvlo (low : Bool) (s : State) :
    trust (fieldUvlo low s) = trust s := by
  unfold fieldUvlo; simp

@[simp] theorem trust_fioThermalTrip (ch : Nat) (s : State) :
    trust (fioThermalTrip ch s) = trust s := by
  unfold fioThermalTrip; simp

@[simp] theorem trust_bodyFioConfig (m : Nat) (s : State) (p : List Byte) :
    trust (bodyFioConfig m s p).1 = trust s := by
  unfold bodyFioConfig; dsimp only; (repeat' split) <;> simp_all

@[simp] theorem trust_bodyFioSet (s : State) (p : List Byte) :
    trust (bodyFioSet s p).1 = trust s := by
  unfold bodyFioSet; simp

@[simp] theorem trust_bodyFioRelease (m : Nat) (s : State) (p : List Byte) :
    trust (bodyFioRelease m s p).1 = trust s := by
  unfold bodyFioRelease; (repeat' split) <;> simp

@[simp] theorem trust_bodyFioRead (s : State) (x1 : List Byte) :
    trust (bodyFioRead s x1).1 = trust s := by
  unfold bodyFioRead; simp

@[simp] theorem trust_bodyFioClear (s : State) (p : List Byte) :
    trust (bodyFioClear s p).1 = trust s := by
  unfold bodyFioClear; simp

@[simp] theorem trust_bodyTrigConfig (s : State) (p : List Byte) :
    trust (bodyTrigConfig s p).1 = trust s := by
  unfold bodyTrigConfig; dsimp only; (repeat' split) <;> simp_all

@[simp] theorem trust_bodyTrigSet (s : State) (p : List Byte) :
    trust (bodyTrigSet s p).1 = trust s := by
  unfold bodyTrigSet; simp

end Sys2Proof.Machine
end

