-- ==== Sys2Proof/Laws/TrustSpan.lean ====
section
/-! SUPPORT. Sys2Proof/Laws/TrustSpan.lean: what the operations of Span leave alone.
-/

namespace Sys2Proof.Machine

set_option Elab.async false

@[simp] theorem trust_spPost (code : Nat) (p : Nat) (a0 : Nat) (a1 : Nat) (s : State) :
    trust (spPost code p a0 a1 s) = trust s := by
  unfold spPost; simp

@[simp] theorem trust_sendMarkers (p : Nat) (locked : Bool) (s : State) :
    trust (sendMarkers p locked s) = trust s := by
  unfold sendMarkers; simp

@[simp] theorem trust_startTrain (p : Nat) (s : State) :
    trust (startTrain p s) = trust s := by
  unfold startTrain; simp

@[simp] theorem trust_retrain (p : Nat) (bad : BitVec 4) (s : State) :
    trust (retrain p bad s) = trust s := by
  unfold retrain; simp

@[simp] theorem trust_degradedRs (s : State) :
    trust (degradedRs s) = trust s := by
  unfold degradedRs; (repeat' split) <;> simp

@[simp] theorem trust_sendNull (p : Nat) (nak : Bool) (s : State) :
    trust (sendNull p nak s) = trust s := by
  unfold sendNull; dsimp only; (repeat' split) <;> simp_all

theorem trust_trySend (p : Nat) (cls : Nat) (msg : List Byte) (s : State) :
    ∀ t, trySend p cls msg s = some t → trust t = trust s := by
  unfold trySend; dsimp only; (repeat' split) <;> simp_all

@[simp] theorem trust_pumpList (p : Nat) (a0 : List (Nat × List Byte)) (a1 : List (Nat × List Byte)) (a2 : State) :
    trust (pumpList p a0 a1 a2) = trust a2 := by
  induction a0 generalizing a1 a2 with
  | nil => simp [pumpList]
  | cons m r ih =>
    unfold pumpList; dsimp only; split
    · exact ih _ _
    · split
      · rename_i h; rw [ih, trust_trySend _ _ _ _ _ h]
      · exact ih _ _

@[simp] theorem trust_pump (p : Nat) (s : State) :
    trust (pump p s) = trust s := by
  unfold pump; simp

@[simp] theorem trust_sendMsg (p : Nat) (msg : List Byte) (s : State) :
    trust (sendMsg p msg s) = trust s := by
  unfold sendMsg; simp

@[simp] theorem trust_replayAll (p : Nat) (s : State) :
    trust (replayAll p s) = trust s := by
  unfold replayAll; dsimp only; (repeat' split) <;> simp_all

@[simp] theorem trust_freeMsg (p : Nat) (m : RxMsg) (s : State) :
    trust (freeMsg p m s) = trust s := by
  unfold freeMsg; dsimp only; (repeat' split) <;> simp_all

@[simp] theorem trust_crcFail (p : Nat) (s : State) :
    trust (crcFail p s) = trust s := by
  unfold crcFail; dsimp only; (repeat' split) <;> simp_all

@[simp] theorem trust_takeAck (p : Nat) (f : List Byte) (s : State) :
    trust (takeAck p f s) = trust s := by
  unfold takeAck; dsimp only; (repeat' split) <;> simp_all

@[simp] theorem trust_acceptData (p : Nat) (f : List Byte) (s : State) :
    trust (acceptData p f s) = trust s := by
  unfold acceptData; simp

@[simp] theorem trust_frameReceive (p : Nat) (f : List Byte) (s : State) :
    trust (frameReceive p f s) = trust s := by
  unfold frameReceive; dsimp only; (repeat' split) <;> simp_all

@[simp] theorem trust_replayTimeout (p : Nat) (s : State) :
    trust (replayTimeout p s) = trust s := by
  unfold replayTimeout; (repeat' split) <;> simp

@[simp] theorem trust_ackTimer (p : Nat) (s : State) :
    trust (ackTimer p s) = trust s := by
  unfold ackTimer; simp

@[simp] theorem trust_routeMsg (p : Nat) (m : List Byte) (s : State) :
    trust (routeMsg p m s) = trust s := by
  unfold routeMsg; dsimp only; (repeat' split) <;> simp_all

@[simp] theorem trust_routeOwn (ms : List (List Byte)) (s : State) :
    trust (routeOwn ms s) = trust s := by
  unfold routeOwn; simp

theorem trust_takeMsg (p : Nat) (f : List Byte → Bool) (s : State) :
    ∀ t, takeMsg p f s = some t → trust t.2 = trust s := by
  unfold takeMsg; dsimp only; (repeat' split) <;> simp_all

@[simp] theorem trust_messageForward (p : Nat) (s : State) :
    trust (messageForward p s) = trust s := by
  unfold messageForward; (repeat' split) <;> (try have h := trust_takeMsg _ _ _ _ ‹_›) <;> simp_all

@[simp] theorem trust_regionsToDeck (rs : List Nat) (s : State) :
    trust (regionsToDeck rs s) = trust s := by
  unfold regionsToDeck; simp

@[simp] theorem trust_regionsToApproach (rs : List Nat) (s : State) :
    trust (regionsToApproach rs s) = trust s := by
  unfold regionsToApproach; simp

@[simp] theorem trust_ownFault (region : Nat) (requester : Nat) (s : State) :
    trust (ownFault region requester s) = trust s := by
  unfold ownFault; simp

@[simp] theorem trust_approachWrite (requester : Nat) (a : Nat) (bs : List Byte) (force : Bool) (s : State) :
    trust (approachWrite requester a bs force s) = trust s := by
  unfold approachWrite; dsimp only; (repeat' split) <;> simp_all

@[simp] theorem trust_approachWake (requester : Nat) (a : Nat) (n : Nat) (s : State) :
    trust (approachWake requester a n s) = trust s := by
  unfold approachWake; simp

@[simp] theorem trust_recLanding (src : Nat) (f : Nat) (crossing : BitVec 64) (bytes : List Byte) (s : State) :
    trust (recLanding src f crossing bytes s) = trust s := by
  unfold recLanding; simp

@[simp] theorem trust_landWake (m : List Byte) (s : State) :
    trust (landWake m s) = trust s := by
  unfold landWake; simp

theorem trust_landMsg (p : Nat) (m : List Byte) (s : State) :
    ∀ t, landMsg p m s = some t → trust t = trust s := by
  unfold landMsg; dsimp only; (repeat' split) <;> simp_all

@[simp] theorem trust_messageIn (typ : Nat) (p : Nat) (s : State) :
    trust (messageIn typ p s) = trust s := by
  unfold messageIn; (repeat' split) <;> (try have h := trust_takeMsg _ _ _ _ ‹_›) <;> (try have g := trust_landMsg _ _ _ _ ‹_›) <;> simp_all

@[simp] theorem trust_releasePort (p : Nat) (s : State) :
    trust (releasePort p s) = trust s := by
  unfold releasePort; dsimp only
  rw [trust_foldl _ (fun a m => by split; · rename_i h; simp [trust_landMsg _ _ _ _ h]
                                   · rfl), trust_foldl _ (fun a m => trust_landWake _ _)]
  split <;> simp

@[simp] theorem trust_releaseHeld (s : State) :
    trust (releaseHeld s) = trust s := by
  unfold releaseHeld; simp

@[simp] theorem trust_tollWriteMsg (p : Nat) (s : State) :
    trust (tollWriteMsg p s) = trust s := by
  unfold tollWriteMsg; (repeat' split) <;> (try have h := trust_takeMsg _ _ _ _ ‹_›) <;> simp_all

@[simp] theorem trust_bodySpanCopy (m : Nat) (s : State) (p : List Byte) :
    trust (bodySpanCopy m s p).1 = trust s := by
  unfold bodySpanCopy; simp

@[simp] theorem trust_bodySpanWindow (s : State) (p : List Byte) :
    trust (bodySpanWindow s p).1 = trust s := by
  unfold bodySpanWindow; simp

@[simp] theorem trust_spanApply (i : Nat) (e : List Byte) (s : State) :
    trust (spanApply i e s) = trust s := by
  unfold spanApply; dsimp only; (repeat' split) <;> simp_all

@[simp] theorem trust_bodySpanConfig (s : State) (p : List Byte) :
    trust (bodySpanConfig s p).1 = trust s := by
  unfold bodySpanConfig; dsimp only; (repeat' split) <;> simp_all

@[simp] theorem trust_bodySpanRoute (s : State) (p : List Byte) :
    trust (bodySpanRoute s p).1 = trust s := by
  unfold bodySpanRoute; dsimp only; (repeat' split) <;> simp_all

@[simp] theorem trust_bodySpanRetrain (s : State) (p : List Byte) :
    trust (bodySpanRetrain s p).1 = trust s := by
  unfold bodySpanRetrain; (repeat' split) <;> simp

@[simp] theorem trust_bodyLaneTest (s : State) (p : List Byte) :
    trust (bodyLaneTest s p).1 = trust s := by
  unfold bodyLaneTest; dsimp only; (repeat' split) <;> simp_all

@[simp] theorem trust_bodySpanRead (s : State) (p : List Byte) :
    trust (bodySpanRead s p).1 = trust s := by
  unfold bodySpanRead; simp

@[simp] theorem trust_widthChosen (p : Nat) (good : BitVec 4) (partner : BitVec 4) (s : State) :
    trust (widthChosen p good partner s) = trust s := by
  unfold widthChosen; dsimp only; (repeat' split) <;> simp_all

@[simp] theorem trust_capsIn (p : Nat) (c : SpanCaps) (s : State) :
    trust (capsIn p c s) = trust s := by
  unfold capsIn; dsimp only; (repeat' split) <;> simp_all

@[simp] theorem trust_trainTimeout (p : Nat) (s : State) :
    trust (trainTimeout p s) = trust s := by
  unfold trainTimeout; dsimp only; (repeat' split) <;> simp_all

@[simp] theorem trust_lockLoss (p : Nat) (lanes : BitVec 4) (s : State) :
    trust (lockLoss p lanes s) = trust s := by
  unfold lockLoss; dsimp only; (repeat' split) <;> simp_all

@[simp] theorem trust_neighborIn (p : Nat) (s : State) :
    trust (neighborIn p s) = trust s := by
  unfold neighborIn; (repeat' split) <;> (try have h := trust_takeMsg _ _ _ _ ‹_›) <;> simp_all

@[simp] theorem trust_neighborSend (s : State) :
    trust (neighborSend s) = trust s := by
  unfold neighborSend; simp

@[simp] theorem trust_syncExchange (s : State) :
    trust (syncExchange s) = trust s := by
  unfold syncExchange; simp

@[simp] theorem trust_syncBlock (p : Nat) (s : State) :
    trust (syncBlock p s) = trust s := by
  unfold syncBlock; dsimp only; (repeat' split) <;> simp_all

@[simp] theorem trust_exchangeDone (off : Int) (s : State) :
    trust (exchangeDone off s) = trust s := by
  unfold exchangeDone; dsimp only; (repeat' split) <;> simp_all

@[simp] theorem trust_syncFuIn (p : Nat) (s : State) :
    trust (syncFuIn p s) = trust s := by
  unfold syncFuIn; (repeat' split) <;> (try have h := trust_takeMsg _ _ _ _ ‹_›) <;> (try simp only [] at *) <;> (repeat' split) <;> simp_all

@[simp] theorem trust_holdoverTimeout (s : State) :
    trust (holdoverTimeout s) = trust s := by
  unfold holdoverTimeout; (repeat' split) <;> simp

@[simp] theorem trust_parentTimeout (s : State) :
    trust (parentTimeout s) = trust s := by
  unfold parentTimeout; (repeat' split) <;> simp

end Sys2Proof.Machine
end

