-- ==== Sys2Proof/Laws/TrustRamp.lean ====
section
/-! SUPPORT. Sys2Proof/Laws/TrustRamp.lean: what the operations of Ramp leave alone.
-/

namespace Sys2Proof.Machine

set_option Elab.async false

@[simp] theorem trust_recLot (s : State) :
    trust (recLot s) = trust s := by
  unfold recLot; simp

@[simp] theorem trust_updBand (p : Nat) (no : Nat) (f : Band → Band) (s : State) :
    trust (updBand p no f s) = trust s := by
  unfold updBand; simp

@[simp] theorem trust_startBand (p : Nat) (no : Nat) (r0 : Ramp) (s : State) :
    trust (startBand p no r0 s) = trust s := by
  unfold startBand; dsimp only; (repeat' split) <;> simp_all

@[simp] theorem trust_storeCrop (p : Nat) (x : Crop) (s : State) :
    trust (storeCrop p x s) = trust s := by
  unfold storeCrop; simp

@[simp] theorem trust_rmpCount (p : Nat) (w : Nat) (s : State) :
    trust (rmpCount p w s) = trust s := by
  unfold rmpCount; simp

@[simp] theorem trust_unpacked (h : Option (Nat × Nat)) (mark : Bool) (s : State) :
    trust (unpacked h mark s) = trust s := by
  unfold unpacked; (repeat' split) <;> simp

@[simp] theorem trust_packSample (p : Nat) (no : Nat) (c : List Byte) (o : Obj) (h : Nat × Nat) (px : List (List (List Nat))) (s : State) :
    trust (packSample p no c o h px s) = trust s := by
  unfold packSample; dsimp only; (repeat' split) <;> simp_all

@[simp] theorem trust_closeSample (p : Nat) (n : Nat) (c : List Byte) (o : Obj) (s : State) :
    trust (closeSample p n c o s) = trust s := by
  unfold closeSample; (repeat' split) <;> simp

@[simp] theorem trust_detectObj (p : Nat) (o : Obj) (s : State) :
    trust (detectObj p o s).1 = trust s := by
  unfold detectObj; simp

@[simp] theorem trust_putObj (p : Nat) (i : Nat) (o : Obj) (s : State) :
    trust (putObj p i o s) = trust s := by
  unfold putObj; simp

@[simp] theorem trust_detectAll (p : Nat) (is : List Nat) (s : State) :
    trust (detectAll p is s) = trust s := by
  unfold detectAll; apply trust_foldl; intro a x; (repeat' split) <;> simp_all

@[simp] theorem trust_followLat (p : Nat) (o : Obj) (s : State) :
    trust (followLat p o s) = trust s := by
  unfold followLat; (repeat' split) <;> simp

@[simp] theorem trust_closeDue (p : Nat) (n : Nat) (c : List Byte) (s : State) :
    trust (closeDue p n c s) = trust s := by
  unfold closeDue; simp

@[simp] theorem trust_tidy (p : Nat) (n : Nat) (c : List Byte) (s : State) :
    trust (tidy p n c s) = trust s := by
  unfold tidy; simp

@[simp] theorem trust_objRoom (p : Nat) (s : State) :
    trust (objRoom p s) = trust s := by
  unfold objRoom; simp

@[simp] theorem trust_objOverflow (p : Nat) (n : Nat) (k : Nat) (s : State) :
    trust (objOverflow p n k s) = trust s := by
  unfold objOverflow; simp

@[simp] theorem trust_detectLine (p : Nat) (n : Nat) (c : List Byte) (l : OutLine) (runs : List Run) (s : State) :
    trust (detectLine p n c l runs s) = trust s := by
  unfold detectLine; simp

@[simp] theorem trust_cutLine (p : Nat) (n : Nat) (c : List Byte) (l : OutLine) (s : State) :
    trust (cutLine p n c l s) = trust s := by
  unfold cutLine; simp

@[simp] theorem trust_endBand (p : Nat) (n : Nat) (s : State) :
    trust (endBand p n s) = trust s := by
  unfold endBand; dsimp only; (repeat' split) <;> simp_all

@[simp] theorem trust_rampNumbered (p : Nat) (n : Nat) (c : List Byte) (l : OutLine) (runs : List Run) (r0 : Ramp) (s : State) :
    trust (rampNumbered p n c l runs r0 s) = trust s := by
  unfold rampNumbered; simp

@[simp] theorem trust_rampLine (p : Nat) (l : OutLine) (s : State) :
    trust (rampLine p l s) = trust s := by
  unfold rampLine; dsimp only; (repeat' split) <;> simp_all

@[simp] theorem trust_sampleWrite (p : Nat) (s : State) :
    trust (sampleWrite p s) = trust s := by
  unfold sampleWrite; dsimp only; (repeat' split) <;> simp_all

@[simp] theorem trust_bandComplete (p : Nat) (no : Nat) (s : State) :
    trust (bandComplete p no s) = trust s := by
  unfold bandComplete; (repeat' split) <;> simp

@[simp] theorem trust_bodyRmpConfig (s : State) (p : List Byte) :
    trust (bodyRmpConfig s p).1 = trust s := by
  unfold bodyRmpConfig; dsimp only; (repeat' split) <;> simp_all

@[simp] theorem trust_bodyRmpRead (s : State) (p : List Byte) :
    trust (bodyRmpRead s p).1 = trust s := by
  unfold bodyRmpRead; simp

end Sys2Proof.Machine
end

