-- ==== Sys2Proof/Laws/TrustCamera.lean ====
section
/-! SUPPORT. Sys2Proof/Laws/TrustCamera.lean: what the operations of Camera leave alone.
-/

namespace Sys2Proof.Machine

set_option Elab.async false

@[simp] theorem trust_camCount (p : Nat) (w : Nat) (s : State) :
    trust (camCount p w s) = trust s := by
  unfold camCount; simp

@[simp] theorem trust_camEntry (p : Nat) (kind : Nat) (flags : Nat) (frag : Nat) (dat : List Byte) (s : State) :
    trust (camEntry p kind flags frag dat s) = trust s := by
  unfold camEntry; simp

@[simp] theorem trust_lineRecord (p : Nat) (r : RawLine) (x : Nat) (n : Nat) (s : State) :
    trust (lineRecord p r x n s) = trust s := by
  unfold lineRecord; simp

@[simp] theorem trust_recLine (p : Nat) (r : RawLine) (s : State) :
    trust (recLine p r s) = trust s := by
  unfold recLine; simp

@[simp] theorem trust_statsClose (p : Nat) (s : State) :
    trust (statsClose p s) = trust s := by
  unfold statsClose; simp

@[simp] theorem trust_statsLine (p : Nat) (v : List (List Nat)) (l : OutLine) (s : State) :
    trust (statsLine p v l s) = trust s := by
  unfold statsLine; simp

@[simp] theorem trust_pipeRaw (p : Nat) (r : RawLine) (s : State) :
    trust (pipeRaw p r s) = trust s := by
  unfold pipeRaw; simp

@[simp] theorem trust_ringPut (p : Nat) (r : RawLine) (s : State) :
    trust (ringPut p r s) = trust s := by
  unfold ringPut; simp

@[simp] theorem trust_ringLine (p : Nat) (r : RawLine) (s : State) :
    trust (ringLine p r s) = trust s := by
  unfold ringLine; simp

@[simp] theorem trust_passLine (p : Nat) (r : RawLine) (s : State) :
    trust (passLine p r s) = trust s := by
  unfold passLine; simp

@[simp] theorem trust_popLost (p : Nat) (e : TrigEntry) (s : State) :
    trust (popLost p e s) = trust s := by
  unfold popLost; simp

@[simp] theorem trust_dropEntry (p : Nat) (s : State) :
    trust (dropEntry p s) = trust s := by
  unfold dropEntry; simp

@[simp] theorem trust_pushTrigger (p : Nat) (e : TrigEntry) (s : State) :
    trust (pushTrigger p e s) = trust s := by
  unfold pushTrigger; dsimp only; (repeat' split) <;> simp_all

@[simp] theorem trust_pairLine (p : Nat) (l : CamLine) (ta : Nat) (a0 : List TrigEntry) (a1 : State) :
    trust (pairLine p l ta a0 a1) = trust a1 := by
  induction a0 generalizing a1 with
  | nil => simp [pairLine]
  | cons e t ih => unfold pairLine; dsimp only; (repeat' split) <;> simp_all

@[simp] theorem trust_lineComplete (p : Nat) (l : CamLine) (s : State) :
    trust (lineComplete p l s) = trust s := by
  unfold lineComplete; simp

@[simp] theorem trust_triggerExpiry (p : Nat) (s : State) :
    trust (triggerExpiry p s) = trust s := by
  unfold triggerExpiry; (repeat' split) <;> simp

@[simp] theorem trust_owedWrite (p : Nat) (s : State) :
    trust (owedWrite p s) = trust s := by
  unfold owedWrite; dsimp only; (repeat' split) <;> simp_all

@[simp] theorem trust_passStart (p : Nat) (s : State) :
    trust (passStart p s) = trust s := by
  unfold passStart; simp

@[simp] theorem trust_foreignPacket (p : Nat) (s : State) :
    trust (foreignPacket p s) = trust s := by
  unfold foreignPacket; simp

@[simp] theorem trust_heartbeat (p : Nat) (s : State) :
    trust (heartbeat p s) = trust s := by
  unfold heartbeat; simp

@[simp] theorem trust_camEvent (p : Nat) (packet : List Byte) (s : State) :
    trust (camEvent p packet s) = trust s := by
  unfold camEvent; simp

@[simp] theorem trust_cxpDown (p : Nat) (i : Nat) (s : State) :
    trust (cxpDown p i s) = trust s := by
  unfold cxpDown; simp

@[simp] theorem trust_cxpUp (p : Nat) (i : Nat) (s : State) :
    trust (cxpUp p i s) = trust s := by
  unfold cxpUp; simp

@[simp] theorem trust_pocxpFault (n : Nat) (s : State) :
    trust (pocxpFault n s) = trust s := by
  unfold pocxpFault; simp

@[simp] theorem trust_bodyCamConfig (s : State) (p : List Byte) :
    trust (bodyCamConfig s p).1 = trust s := by
  unfold bodyCamConfig; dsimp only; (repeat' split) <;> simp_all

@[simp] theorem trust_bodyCamDiscover (m : Nat) (offer : CamOffer) (s : State) (p : List Byte) :
    trust (bodyCamDiscover m offer s p).1 = trust s := by
  unfold bodyCamDiscover; simp

@[simp] theorem trust_bodyCamCtrl (m : Nat) (ack : BitVec 8) (dat : List Byte) (s : State) (p : List Byte) :
    trust (bodyCamCtrl m ack dat s p).1 = trust s := by
  unfold bodyCamCtrl; simp

@[simp] theorem trust_camCtrlTimeout (m : Nat) (s : State) :
    trust (camCtrlTimeout m s) = trust s := by
  unfold camCtrlTimeout; simp

@[simp] theorem trust_bodyCamPower (s : State) (p : List Byte) :
    trust (bodyCamPower s p).1 = trust s := by
  unfold bodyCamPower; dsimp only; (repeat' split) <;> simp_all

@[simp] theorem trust_bodyCamRead (s : State) (p : List Byte) :
    trust (bodyCamRead s p).1 = trust s := by
  unfold bodyCamRead; simp

@[simp] theorem trust_bodyApConfig (s : State) (p : List Byte) :
    trust (bodyApConfig s p).1 = trust s := by
  unfold bodyApConfig; dsimp only; (repeat' split) <;> simp_all

@[simp] theorem trust_bodyApTable (m : Nat) (s : State) (p : List Byte) :
    trust (bodyApTable m s p).1 = trust s := by
  unfold bodyApTable; dsimp only; (repeat' split) <;> simp_all

end Sys2Proof.Machine
end

