-- ==== Sys2Proof/Laws/TrustEncoder.lean ====
section
/-! SUPPORT. Sys2Proof/Laws/TrustEncoder.lean: what the operations of Encoder leave alone.
-/

namespace Sys2Proof.Machine

set_option Elab.async false

@[simp] theorem trust_overspeed (u : Nat) (p : Nat) (stamp : Nat) (s : State) :
    trust (overspeed u p stamp s) = trust s := by
  unfold overspeed; simp

@[simp] theorem trust_lineTrigger (u : Nat) (p : Nat) (stamp : Nat) (s : State) :
    trust (lineTrigger u p stamp s) = trust s := by
  unfold lineTrigger; simp

@[simp] theorem trust_genStep (u : Nat) (p : Nat) (advance : Nat) (stamp : Nat) (ref : Bool) (s : State) :
    trust (genStep u p advance stamp ref s) = trust s := by
  unfold genStep; simp

@[simp] theorem trust_compare (u : Nat) (left : Bool) (stamp : Nat) (s : State) :
    trust (compare u left stamp s) = trust s := by
  unfold compare; simp

@[simp] theorem trust_shiftTargets (u : Nat) (c : BitVec 40) (s : State) :
    trust (shiftTargets u c s) = trust s := by
  unfold shiftTargets; simp

@[simp] theorem trust_trackRelease (u : Nat) (s : State) :
    trust (trackRelease u s) = trust s := by
  unfold trackRelease; simp

@[simp] theorem trust_counterUpdate (u : Nat) (x : Pu) (d : Int) (riseA : Bool) (stamp : Nat) (s : State) :
    trust (counterUpdate u x d riseA stamp s) = trust s := by
  unfold counterUpdate; simp

@[simp] theorem trust_transition (u : Nat) (a : Bool) (b : Bool) (stamp : Nat) (s : State) :
    trust (transition u a b stamp s) = trust s := by
  unfold transition; simp

@[simp] theorem trust_illegal (u : Nat) (a : Bool) (b : Bool) (s : State) :
    trust (illegal u a b s) = trust s := by
  unfold illegal; simp

@[simp] theorem trust_zPend (u : Nat) (a : Bool) (b : Bool) (s : State) :
    trust (zPend u a b s) = trust s := by
  unfold zPend; dsimp only; (repeat' split) <;> simp_all

@[simp] theorem trust_encoderTransition (u : Nat) (e : EncChange) (s0 : State) :
    trust (encoderTransition u e s0) = trust s0 := by
  unfold encoderTransition; simp

@[simp] theorem trust_zEdge (u : Nat) (s : State) :
    trust (zEdge u s) = trust s := by
  unfold zEdge; simp

@[simp] theorem trust_observerTick (u : Nat) (s : State) :
    trust (observerTick u s) = trust s := by
  unfold observerTick; simp

@[simp] theorem trust_motionStop (u : Nat) (s : State) :
    trust (motionStop u s) = trust s := by
  unfold motionStop; simp

@[simp] theorem trust_encWireFault (u : Nat) (i : EncInput) (good : Bool) (s : State) :
    trust (encWireFault u i good s) = trust s := by
  unfold encWireFault; simp

@[simp] theorem trust_bodyPuConfig (s : State) (p : List Byte) :
    trust (bodyPuConfig s p).1 = trust s := by
  unfold bodyPuConfig; dsimp only; (repeat' split) <;> simp_all

@[simp] theorem trust_bodyPuRefArm (s : State) (p : List Byte) :
    trust (bodyPuRefArm s p).1 = trust s := by
  unfold bodyPuRefArm; simp

@[simp] theorem trust_bodyPuLatch (s : State) (p : List Byte) :
    trust (bodyPuLatch s p).1 = trust s := by
  unfold bodyPuLatch; simp

@[simp] theorem trust_bodyPuRead (s : State) (p : List Byte) :
    trust (bodyPuRead s p).1 = trust s := by
  unfold bodyPuRead; simp

@[simp] theorem trust_bodyPuClear (s : State) (p : List Byte) :
    trust (bodyPuClear s p).1 = trust s := by
  unfold bodyPuClear; simp

@[simp] theorem trust_bodyLtConfig (s : State) (p : List Byte) :
    trust (bodyLtConfig s p).1 = trust s := by
  unfold bodyLtConfig; dsimp only; (repeat' split) <;> simp_all

@[simp] theorem trust_bodyLtArm (s : State) (p : List Byte) :
    trust (bodyLtArm s p).1 = trust s := by
  unfold bodyLtArm; dsimp only; (repeat' split) <;> simp_all

end Sys2Proof.Machine
end

