-- ==== Sys2Proof/Laws/TrustQueues.lean ====
section
/-! SUPPORT. Sys2Proof/Laws/TrustQueues.lean: what the operations of Queues leave alone.
-/

namespace Sys2Proof.Machine

set_option Elab.async false

@[simp] theorem trust_addAlloc (a : Nat) (n : Nat) (s : State) :
    trust (addAlloc a n s) = trust s := by
  unfold addAlloc; simp

@[simp] theorem trust_bodyMemAlloc (s : State) (p : List Byte) :
    trust (bodyMemAlloc s p).1 = trust s := by
  unfold bodyMemAlloc; dsimp only; (repeat' split) <;> simp_all

@[simp] theorem trust_bodyMemFree (s : State) (p : List Byte) :
    trust (bodyMemFree s p).1 = trust s := by
  unfold bodyMemFree; (repeat' split) <;> simp

@[simp] theorem trust_reportLastWords (s : State) :
    trust (reportLastWords s) = trust s := by
  unfold reportLastWords; (repeat' split) <;> simp

@[simp] theorem trust_queueMessage (q : Nat) (cond : Queue → Bool) (s : State) :
    trust (queueMessage q cond s) = trust s := by
  unfold queueMessage; simp

@[simp] theorem trust_queueTimer (q : Nat) (s : State) :
    trust (queueTimer q s) = trust s := by
  unfold queueTimer; simp

@[simp] theorem trust_ringWrite (q : Nat) (entry : List Byte) (s : State) :
    trust (ringWrite q entry s) = trust s := by
  unfold ringWrite; simp

@[simp] theorem trust_produce (q : Nat) (e : List Byte) (s : State) :
    trust (produce q e s) = trust s := by
  unfold produce; simp

@[simp] theorem trust_dropEntryOf (q : Nat) (s : State) :
    trust (dropEntryOf q s) = trust s := by
  unfold dropEntryOf; simp

@[simp] theorem trust_queueProduce (s : State) :
    trust (queueProduce s) = trust s := by
  unfold queueProduce; (repeat' split) <;> simp

@[simp] theorem trust_bellOf (q : Nat) (f : State → State) (s : State) (hf : ∀ x, trust (f x) = trust x) :
    trust (bellOf q f s) = trust s := by
  unfold bellOf; simp_all

@[simp] theorem trust_doorbellPtr (q : Nat) (p : BitVec 32) (s : State) :
    trust (doorbellPtr q p s) = trust s := by
  unfold doorbellPtr; simp

@[simp] theorem trust_doorbellArm (q : Nat) (s : State) :
    trust (doorbellArm q s) = trust s := by
  unfold doorbellArm; simp

@[simp] theorem trust_doorbellClear (q : Nat) (s : State) :
    trust (doorbellClear q s) = trust s := by
  unfold doorbellClear; simp

@[simp] theorem trust_holdoffExpiry (q : Nat) (s : State) :
    trust (holdoffExpiry q s) = trust s := by
  unfold holdoffExpiry; (repeat' split) <;> simp

@[simp] theorem trust_detachHost (s : State) :
    trust (detachHost s) = trust s := by
  unfold detachHost; simp

@[simp] theorem trust_discardJob (q : Nat) (s : State) :
    trust (discardJob q s) = trust s := by
  unfold discardJob; simp

@[simp] theorem trust_accessFail (q : Nat) (s : State) :
    trust (accessFail q s) = trust s := by
  unfold accessFail; simp

@[simp] theorem trust_hostReset (s : State) :
    trust (hostReset s) = trust s := by
  unfold hostReset; simp

@[simp] theorem trust_perstAssert (s : State) :
    trust (perstAssert s) = trust s := by
  unfold perstAssert; simp

@[simp] theorem trust_hotReset (s : State) :
    trust (hotReset s) = trust s := by
  unfold hotReset; simp

@[simp] theorem trust_pcieLinkLoss (s : State) :
    trust (pcieLinkLoss s) = trust s := by
  unfold pcieLinkLoss; simp

@[simp] theorem trust_perstRelease (s : State) :
    trust (perstRelease s) = trust s := by
  unfold perstRelease; simp

@[simp] theorem trust_poisoned (nonPosted : Bool) (s : State) :
    trust (poisoned nonPosted s) = trust s := by
  unfold poisoned; simp

@[simp] theorem trust_bar2Access (off : Nat) (acc : Bar2Acc) (s : State) :
    trust (bar2Access off acc s) = trust s := by
  unfold bar2Access; (repeat' split) <;> simp

@[simp] theorem trust_bodyQueueCreate (s : State) (p : List Byte) :
    trust (bodyQueueCreate s p).1 = trust s := by
  unfold bodyQueueCreate; dsimp only; (repeat' split) <;> simp_all

@[simp] theorem trust_bodyQueueDestroy (s : State) (p : List Byte) :
    trust (bodyQueueDestroy s p).1 = trust s := by
  unfold bodyQueueDestroy; dsimp only; (repeat' split) <;> simp_all

@[simp] theorem trust_bodyQueueRead (s : State) (p : List Byte) :
    trust (bodyQueueRead s p).1 = trust s := by
  unfold bodyQueueRead; dsimp only; (repeat' split) <;> simp_all

@[simp] theorem trust_bodyQueueAttach (s : State) (p : List Byte) :
    trust (bodyQueueAttach s p).1 = trust s := by
  unfold bodyQueueAttach; dsimp only; (repeat' split) <;> simp_all

@[simp] theorem trust_tollArbitrate (c : Nat) (req : BitVec 12) (lines : Nat) (s : State) :
    trust (tollArbitrate c req lines s) = trust s := by
  unfold tollArbitrate; dsimp only; (repeat' split) <;> simp_all

@[simp] theorem trust_bodyTollConfig (s : State) (p : List Byte) :
    trust (bodyTollConfig s p).1 = trust s := by
  unfold bodyTollConfig; simp

@[simp] theorem trust_bodyTollRead (s : State) (x1 : List Byte) :
    trust (bodyTollRead s x1).1 = trust s := by
  unfold bodyTollRead; simp

end Sys2Proof.Machine
end

