-- ==== Sys2Proof/Laws/TrustExecA.lean ====
section
/-! SUPPORT. Sys2Proof/Laws/TrustExecA.lean: commands that leave the trust state and the queue alone.
-/

namespace Sys2Proof.Machine

set_option Elab.async false

theorem trust_execHello (m : Fin 16) (s : State) :
    ∀ u_, execHello m s = .next u_ → trust u_ = trust s := by
  unfold execHello; exact trust_done _ _ (by simp)

theorem trust_execGoodbye (m : Fin 16) (s : State) :
    ∀ u_, execGoodbye m s = .next u_ → trust u_ = trust s := by
  unfold execGoodbye; exact trust_done _ _ (by simp)

theorem trust_execGetCaps (m : Fin 16) (s : State) :
    ∀ u_, execGetCaps m s = .next u_ → trust u_ = trust s := by
  unfold execGetCaps; exact trust_done _ _ (by simp)

theorem trust_execTimebaseSwitch (m : Fin 16) (hz : BitVec 32) (s : State) :
    ∀ u_, execTimebaseSwitch m hz s = .next u_ → trust u_ = trust s := by
  unfold execTimebaseSwitch; exact trust_done _ _ (by simp)

theorem trust_execTimeRead (m : Fin 16) (s : State) :
    ∀ u_, execTimeRead m s = .next u_ → trust u_ = trust s := by
  unfold execTimeRead; exact trust_done _ _ (by simp)

theorem trust_execWcIncSet (m : Fin 16) (s : State) :
    ∀ u_, execWcIncSet m s = .next u_ → trust u_ = trust s := by
  unfold execWcIncSet; exact trust_done _ _ (by simp)

theorem trust_execWcStep (m : Fin 16) (s : State) :
    ∀ u_, execWcStep m s = .next u_ → trust u_ = trust s := by
  unfold execWcStep; exact trust_done _ _ (by simp)

theorem trust_execWcSet (m : Fin 16) (s : State) :
    ∀ u_, execWcSet m s = .next u_ → trust u_ = trust s := by
  unfold execWcSet; exact trust_done _ _ (by simp)

theorem trust_execKsConfig (m : Fin 16) (s : State) :
    ∀ u_, execKsConfig m s = .next u_ → trust u_ = trust s := by
  unfold execKsConfig; exact trust_done _ _ (by simp)

theorem trust_execKeystoneLaunch (m : Fin 16) (s : State) :
    ∀ u_, execKeystoneLaunch m s = .next u_ → trust u_ = trust s := by
  unfold execKeystoneLaunch; exact trust_done _ _ (by simp)

theorem trust_execKsRead (m : Fin 16) (s : State) :
    ∀ u_, execKsRead m s = .next u_ → trust u_ = trust s := by
  unfold execKsRead; exact trust_done _ _ (by simp)

theorem trust_execSpanFrameReceive (p : Fin 8) (frame : List Byte) (s : State) :
    ∀ u_, execSpanFrameReceive p frame s = .next u_ → trust u_ = trust s := by
  unfold execSpanFrameReceive; exact trust_done _ _ (by simp)

theorem trust_execSpanReplayTimeout (p : Fin 8) (s : State) :
    ∀ u_, execSpanReplayTimeout p s = .next u_ → trust u_ = trust s := by
  unfold execSpanReplayTimeout; exact trust_done _ _ (by simp)

theorem trust_execSpanAckTimer (p : Fin 8) (s : State) :
    ∀ u_, execSpanAckTimer p s = .next u_ → trust u_ = trust s := by
  unfold execSpanAckTimer; exact trust_done _ _ (by simp)

theorem trust_execMessageForward (p : Fin 9) (s : State) :
    ∀ u_, execMessageForward p s = .next u_ → trust u_ = trust s := by
  unfold execMessageForward; exact trust_done _ _ (by simp)

theorem trust_execWriteMessage (p : Fin 9) (s : State) :
    ∀ u_, execWriteMessage p s = .next u_ → trust u_ = trust s := by
  unfold execWriteMessage; exact trust_done _ _ (by simp)

theorem trust_execSignalMessage (p : Fin 9) (s : State) :
    ∀ u_, execSignalMessage p s = .next u_ → trust u_ = trust s := by
  unfold execSignalMessage; exact trust_done _ _ (by simp)

theorem trust_execTollWrite (p : Fin 9) (s : State) :
    ∀ u_, execTollWrite p s = .next u_ → trust u_ = trust s := by
  unfold execTollWrite; exact trust_done _ _ (by simp)

theorem trust_execSpanCopy (m : Fin 16) (s : State) :
    ∀ u_, execSpanCopy m s = .next u_ → trust u_ = trust s := by
  unfold execSpanCopy; exact trust_done _ _ (by simp)

theorem trust_execSpanWindow (m : Fin 16) (s : State) :
    ∀ u_, execSpanWindow m s = .next u_ → trust u_ = trust s := by
  unfold execSpanWindow; exact trust_done _ _ (by simp)

theorem trust_execSpanConfig (m : Fin 16) (s : State) :
    ∀ u_, execSpanConfig m s = .next u_ → trust u_ = trust s := by
  unfold execSpanConfig; exact trust_done _ _ (by simp)

theorem trust_execSpanRoute (m : Fin 16) (s : State) :
    ∀ u_, execSpanRoute m s = .next u_ → trust u_ = trust s := by
  unfold execSpanRoute; exact trust_done _ _ (by simp)

theorem trust_execSpanRetrain (m : Fin 16) (s : State) :
    ∀ u_, execSpanRetrain m s = .next u_ → trust u_ = trust s := by
  unfold execSpanRetrain; exact trust_done _ _ (by simp)

theorem trust_execLaneTest (m : Fin 16) (s : State) :
    ∀ u_, execLaneTest m s = .next u_ → trust u_ = trust s := by
  unfold execLaneTest; exact trust_done _ _ (by simp)

theorem trust_execSpanRead (m : Fin 16) (s : State) :
    ∀ u_, execSpanRead m s = .next u_ → trust u_ = trust s := by
  unfold execSpanRead; exact trust_done _ _ (by simp)

theorem trust_execSpanWidthChosen (p : Fin 8) (good : BitVec 4) (partner : BitVec 4) (s : State) :
    ∀ u_, execSpanWidthChosen p good partner s = .next u_ → trust u_ = trust s := by
  unfold execSpanWidthChosen; exact trust_done _ _ (by simp)

theorem trust_execSpanCaps (p : Fin 8) (caps : SpanCaps) (s : State) :
    ∀ u_, execSpanCaps p caps s = .next u_ → trust u_ = trust s := by
  unfold execSpanCaps; exact trust_done _ _ (by simp)

theorem trust_execSpanTrainTimeout (p : Fin 8) (s : State) :
    ∀ u_, execSpanTrainTimeout p s = .next u_ → trust u_ = trust s := by
  unfold execSpanTrainTimeout; exact trust_done _ _ (by simp)

theorem trust_execSpanLockLoss (p : Fin 8) (lanes : BitVec 4) (s : State) :
    ∀ u_, execSpanLockLoss p lanes s = .next u_ → trust u_ = trust s := by
  unfold execSpanLockLoss; exact trust_done _ _ (by simp)

theorem trust_execNeighborMsg (p : Fin 8) (s : State) :
    ∀ u_, execNeighborMsg p s = .next u_ → trust u_ = trust s := by
  unfold execNeighborMsg; exact trust_done _ _ (by simp)

theorem trust_execNeighborSend (s : State) :
    ∀ u_, execNeighborSend s = .next u_ → trust u_ = trust s := by
  unfold execNeighborSend; exact trust_done _ _ (by simp)

theorem trust_execSyncExchange (s : State) :
    ∀ u_, execSyncExchange s = .next u_ → trust u_ = trust s := by
  unfold execSyncExchange; exact trust_done _ _ (by simp)

theorem trust_execSyncBlock (p : Fin 8) (s : State) :
    ∀ u_, execSyncBlock p s = .next u_ → trust u_ = trust s := by
  unfold execSyncBlock; exact trust_done _ _ (by simp)

theorem trust_execSyncFu (p : Fin 8) (s : State) :
    ∀ u_, execSyncFu p s = .next u_ → trust u_ = trust s := by
  unfold execSyncFu; exact trust_done _ _ (by simp)

theorem trust_execKsHoldoverTimeout (s : State) :
    ∀ u_, execKsHoldoverTimeout s = .next u_ → trust u_ = trust s := by
  unfold execKsHoldoverTimeout; exact trust_done _ _ (by simp)

theorem trust_execKsParentTimeout (s : State) :
    ∀ u_, execKsParentTimeout s = .next u_ → trust u_ = trust s := by
  unfold execKsParentTimeout; exact trust_done _ _ (by simp)

theorem trust_execSlotCommit (s : State) :
    ∀ u_, execSlotCommit s = .next u_ → trust u_ = trust s := by
  unfold execSlotCommit; exact trust_done _ _ (by simp)

theorem trust_execRecordPost (s : State) :
    ∀ u_, execRecordPost s = .next u_ → trust u_ = trust s := by
  unfold execRecordPost; exact trust_done _ _ (by simp)

theorem trust_execLateRecordPost (s : State) :
    ∀ u_, execLateRecordPost s = .next u_ → trust u_ = trust s := by
  unfold execLateRecordPost; exact trust_done _ _ (by simp)

theorem trust_execSlotRead (m : Fin 16) (s : State) :
    ∀ u_, execSlotRead m s = .next u_ → trust u_ = trust s := by
  unfold execSlotRead; exact trust_done _ _ (by simp)

theorem trust_execVpSet (m : Fin 16) (s : State) :
    ∀ u_, execVpSet m s = .next u_ → trust u_ = trust s := by
  unfold execVpSet; exact trust_done _ _ (by simp)

theorem trust_execVpRead (m : Fin 16) (s : State) :
    ∀ u_, execVpRead m s = .next u_ → trust u_ = trust s := by
  unfold execVpRead; exact trust_done _ _ (by simp)

theorem trust_execSeqSet (m : Fin 16) (s : State) :
    ∀ u_, execSeqSet m s = .next u_ → trust u_ = trust s := by
  unfold execSeqSet; exact trust_done _ _ (by simp)

theorem trust_execPulseEndUs (s : State) :
    ∀ u_, execPulseEndUs s = .next u_ → trust u_ = trust s := by
  unfold execPulseEndUs; exact trust_done _ _ (by simp)

theorem trust_execLineTrigPulseEnd (n : Fin 16) (s : State) :
    ∀ u_, execLineTrigPulseEnd n s = .next u_ → trust u_ = trust s := by
  unfold execLineTrigPulseEnd; exact trust_done _ _ (by simp)

theorem trust_execFieldFrameTick (s : State) :
    ∀ u_, execFieldFrameTick s = .next u_ → trust u_ = trust s := by
  unfold execFieldFrameTick; exact trust_done _ _ (by simp)

theorem trust_execFieldDownFrameApply (good : Bool) (levels : BitVec 32) (lplusLow : Bool) (s : State) :
    ∀ u_, execFieldDownFrameApply good levels lplusLow s = .next u_ → trust u_ = trust s := by
  unfold execFieldDownFrameApply; exact trust_done _ _ (by simp)

theorem trust_execFieldUpFrame (good : Bool) (s : State) :
    ∀ u_, execFieldUpFrame good s = .next u_ → trust u_ = trust s := by
  unfold execFieldUpFrame; exact trust_done _ _ (by simp)

theorem trust_execFieldLinkTimeout (s : State) :
    ∀ u_, execFieldLinkTimeout s = .next u_ → trust u_ = trust s := by
  unfold execFieldLinkTimeout; exact trust_done _ _ (by simp)

theorem trust_execFieldDieSafeTimeout (s : State) :
    ∀ u_, execFieldDieSafeTimeout s = .next u_ → trust u_ = trust s := by
  unfold execFieldDieSafeTimeout; exact trust_done _ _ (by simp)

theorem trust_execFieldUvlo (low : Bool) (s : State) :
    ∀ u_, execFieldUvlo low s = .next u_ → trust u_ = trust s := by
  unfold execFieldUvlo; exact trust_done _ _ (by simp)

theorem trust_execFioThermalTrip (ch : Fin 32) (s : State) :
    ∀ u_, execFioThermalTrip ch s = .next u_ → trust u_ = trust s := by
  unfold execFioThermalTrip; exact trust_done _ _ (by simp)

theorem trust_execFioConfig (m : Fin 16) (s : State) :
    ∀ u_, execFioConfig m s = .next u_ → trust u_ = trust s := by
  unfold execFioConfig; exact trust_done _ _ (by simp)

theorem trust_execFioSet (m : Fin 16) (s : State) :
    ∀ u_, execFioSet m s = .next u_ → trust u_ = trust s := by
  unfold execFioSet; exact trust_done _ _ (by simp)

theorem trust_execFioRelease (m : Fin 16) (s : State) :
    ∀ u_, execFioRelease m s = .next u_ → trust u_ = trust s := by
  unfold execFioRelease; exact trust_done _ _ (by simp)

theorem trust_execFioRead (m : Fin 16) (s : State) :
    ∀ u_, execFioRead m s = .next u_ → trust u_ = trust s := by
  unfold execFioRead; exact trust_done _ _ (by simp)

theorem trust_execFioClear (m : Fin 16) (s : State) :
    ∀ u_, execFioClear m s = .next u_ → trust u_ = trust s := by
  unfold execFioClear; exact trust_done _ _ (by simp)

theorem trust_execTrigConfig (m : Fin 16) (s : State) :
    ∀ u_, execTrigConfig m s = .next u_ → trust u_ = trust s := by
  unfold execTrigConfig; exact trust_done _ _ (by simp)

theorem trust_execTrigSet (m : Fin 16) (s : State) :
    ∀ u_, execTrigSet m s = .next u_ → trust u_ = trust s := by
  unfold execTrigSet; exact trust_done _ _ (by simp)

theorem trust_execSampleWrite (p : Fin 4) (s : State) :
    ∀ u_, execSampleWrite p s = .next u_ → trust u_ = trust s := by
  unfold execSampleWrite; exact trust_done _ _ (by simp)

theorem trust_execBandComplete (p : Fin 4) (band : Nat) (s : State) :
    ∀ u_, execBandComplete p band s = .next u_ → trust u_ = trust s := by
  unfold execBandComplete; exact trust_done _ _ (by simp)

theorem trust_execRmpConfig (m : Fin 16) (s : State) :
    ∀ u_, execRmpConfig m s = .next u_ → trust u_ = trust s := by
  unfold execRmpConfig; exact trust_done _ _ (by simp)

theorem trust_execRmpRead (m : Fin 16) (s : State) :
    ∀ u_, execRmpRead m s = .next u_ → trust u_ = trust s := by
  unfold execRmpRead; exact trust_done _ _ (by simp)

theorem trust_execLineComplete (p : Fin 4) (line : CamLine) (s : State) :
    ∀ u_, execLineComplete p line s = .next u_ → trust u_ = trust s := by
  unfold execLineComplete; exact trust_done _ _ (by simp)

theorem trust_execTriggerEntryExpiry (p : Fin 4) (s : State) :
    ∀ u_, execTriggerEntryExpiry p s = .next u_ → trust u_ = trust s := by
  unfold execTriggerEntryExpiry; exact trust_done _ _ (by simp)

theorem trust_execOwedLostLineWrite (p : Fin 4) (s : State) :
    ∀ u_, execOwedLostLineWrite p s = .next u_ → trust u_ = trust s := by
  unfold execOwedLostLineWrite; exact trust_done _ _ (by simp)

theorem trust_execPassStart (p : Fin 4) (s : State) :
    ∀ u_, execPassStart p s = .next u_ → trust u_ = trust s := by
  unfold execPassStart; exact trust_done _ _ (by simp)

theorem trust_execForeignStreamPacket (p : Fin 4) (s : State) :
    ∀ u_, execForeignStreamPacket p s = .next u_ → trust u_ = trust s := by
  unfold execForeignStreamPacket; exact trust_done _ _ (by simp)

theorem trust_execHeartbeatPacket (p : Fin 4) (s : State) :
    ∀ u_, execHeartbeatPacket p s = .next u_ → trust u_ = trust s := by
  unfold execHeartbeatPacket; exact trust_done _ _ (by simp)

theorem trust_execCamEvent (p : Fin 4) (packet : List Byte) (s : State) :
    ∀ u_, execCamEvent p packet s = .next u_ → trust u_ = trust s := by
  unfold execCamEvent; exact trust_done _ _ (by simp)

theorem trust_execCxpLinkDown (p : Fin 4) (conn : Fin 4) (s : State) :
    ∀ u_, execCxpLinkDown p conn s = .next u_ → trust u_ = trust s := by
  unfold execCxpLinkDown; exact trust_done _ _ (by simp)

theorem trust_execCxpLinkUp (p : Fin 4) (conn : Fin 4) (s : State) :
    ∀ u_, execCxpLinkUp p conn s = .next u_ → trust u_ = trust s := by
  unfold execCxpLinkUp; exact trust_done _ _ (by simp)

theorem trust_execPocxpFault (conn : Fin 16) (s : State) :
    ∀ u_, execPocxpFault conn s = .next u_ → trust u_ = trust s := by
  unfold execPocxpFault; exact trust_done _ _ (by simp)

theorem trust_execCamConfig (m : Fin 16) (s : State) :
    ∀ u_, execCamConfig m s = .next u_ → trust u_ = trust s := by
  unfold execCamConfig; exact trust_done _ _ (by simp)

theorem trust_execCamDiscover (m : Fin 16) (offer : CamOffer) (s : State) :
    ∀ u_, execCamDiscover m offer s = .next u_ → trust u_ = trust s := by
  unfold execCamDiscover; exact trust_done _ _ (by simp)

theorem trust_execCamCtrl (m : Fin 16) (ack : BitVec 8) (data : List Byte) (s : State) :
    ∀ u_, execCamCtrl m ack data s = .next u_ → trust u_ = trust s := by
  unfold execCamCtrl; exact trust_done _ _ (by simp)

theorem trust_execCamCtrlTimeout (m : Fin 16) (s : State) :
    ∀ u_, execCamCtrlTimeout m s = .next u_ → trust u_ = trust s := by
  unfold execCamCtrlTimeout; exact trust_done _ _ (by simp)

theorem trust_execCamPower (m : Fin 16) (s : State) :
    ∀ u_, execCamPower m s = .next u_ → trust u_ = trust s := by
  unfold execCamPower; exact trust_done _ _ (by simp)

theorem trust_execCamRead (m : Fin 16) (s : State) :
    ∀ u_, execCamRead m s = .next u_ → trust u_ = trust s := by
  unfold execCamRead; exact trust_done _ _ (by simp)

theorem trust_execApConfig (m : Fin 16) (s : State) :
    ∀ u_, execApConfig m s = .next u_ → trust u_ = trust s := by
  unfold execApConfig; exact trust_done _ _ (by simp)

theorem trust_execApTable (m : Fin 16) (s : State) :
    ∀ u_, execApTable m s = .next u_ → trust u_ = trust s := by
  unfold execApTable; exact trust_done _ _ (by simp)

theorem trust_execEncoderTransition (p : Fin 4) (change : EncChange) (s : State) :
    ∀ u_, execEncoderTransition p change s = .next u_ → trust u_ = trust s := by
  unfold execEncoderTransition; exact trust_done _ _ (by simp)

theorem trust_execZEdge (p : Fin 4) (s : State) :
    ∀ u_, execZEdge p s = .next u_ → trust u_ = trust s := by
  unfold execZEdge; exact trust_done _ _ (by simp)

theorem trust_execObserverTick (p : Fin 4) (s : State) :
    ∀ u_, execObserverTick p s = .next u_ → trust u_ = trust s := by
  unfold execObserverTick; exact trust_done _ _ (by simp)

theorem trust_execMotionStop (p : Fin 4) (s : State) :
    ∀ u_, execMotionStop p s = .next u_ → trust u_ = trust s := by
  unfold execMotionStop; exact trust_done _ _ (by simp)

theorem trust_execEncWireFault (p : Fin 4) (input : EncInput) (good : Bool) (s : State) :
    ∀ u_, execEncWireFault p input good s = .next u_ → trust u_ = trust s := by
  unfold execEncWireFault; exact trust_done _ _ (by simp)

theorem trust_execPuConfig (m : Fin 16) (s : State) :
    ∀ u_, execPuConfig m s = .next u_ → trust u_ = trust s := by
  unfold execPuConfig; exact trust_done _ _ (by simp)

theorem trust_execPuRefArm (m : Fin 16) (s : State) :
    ∀ u_, execPuRefArm m s = .next u_ → trust u_ = trust s := by
  unfold execPuRefArm; exact trust_done _ _ (by simp)

theorem trust_execPuLatch (m : Fin 16) (s : State) :
    ∀ u_, execPuLatch m s = .next u_ → trust u_ = trust s := by
  unfold execPuLatch; exact trust_done _ _ (by simp)

theorem trust_execPuRead (m : Fin 16) (s : State) :
    ∀ u_, execPuRead m s = .next u_ → trust u_ = trust s := by
  unfold execPuRead; exact trust_done _ _ (by simp)

theorem trust_execPuClear (m : Fin 16) (s : State) :
    ∀ u_, execPuClear m s = .next u_ → trust u_ = trust s := by
  unfold execPuClear; exact trust_done _ _ (by simp)

theorem trust_execLtConfig (m : Fin 16) (s : State) :
    ∀ u_, execLtConfig m s = .next u_ → trust u_ = trust s := by
  unfold execLtConfig; exact trust_done _ _ (by simp)

theorem trust_execLtArm (m : Fin 16) (s : State) :
    ∀ u_, execLtArm m s = .next u_ → trust u_ = trust s := by
  unfold execLtArm; exact trust_done _ _ (by simp)

theorem trust_execMemAlloc (m : Fin 16) (s : State) :
    ∀ u_, execMemAlloc m s = .next u_ → trust u_ = trust s := by
  unfold execMemAlloc; exact trust_done _ _ (by simp)

theorem trust_execMemFree (m : Fin 16) (s : State) :
    ∀ u_, execMemFree m s = .next u_ → trust u_ = trust s := by
  unfold execMemFree; exact trust_done _ _ (by simp)

theorem trust_execQueueProduce (s : State) :
    ∀ u_, execQueueProduce s = .next u_ → trust u_ = trust s := by
  unfold execQueueProduce; exact trust_done _ _ (by simp)

theorem trust_execQueueDoorbellPtr (q : BitVec 16) (p : BitVec 32) (s : State) :
    ∀ u_, execQueueDoorbellPtr q p s = .next u_ → trust u_ = trust s := by
  unfold execQueueDoorbellPtr; exact trust_done _ _ (by simp)

theorem trust_execQueueDoorbellArm (q : BitVec 16) (s : State) :
    ∀ u_, execQueueDoorbellArm q s = .next u_ → trust u_ = trust s := by
  unfold execQueueDoorbellArm; exact trust_done _ _ (by simp)

theorem trust_execQueueDoorbellClearQerr (q : BitVec 16) (s : State) :
    ∀ u_, execQueueDoorbellClearQerr q s = .next u_ → trust u_ = trust s := by
  unfold execQueueDoorbellClearQerr; exact trust_done _ _ (by simp)

theorem trust_execQueueHoldoffExpiry (q : BitVec 16) (s : State) :
    ∀ u_, execQueueHoldoffExpiry q s = .next u_ → trust u_ = trust s := by
  unfold execQueueHoldoffExpiry; exact trust_done _ _ (by simp)

theorem trust_execQueueAccessFail (q : BitVec 16) (s : State) :
    ∀ u_, execQueueAccessFail q s = .next u_ → trust u_ = trust s := by
  unfold execQueueAccessFail; exact trust_done _ _ (by simp)

theorem trust_execPerstN (s : State) :
    ∀ u_, execPerstN s = .next u_ → trust u_ = trust s := by
  unfold execPerstN; exact trust_done _ _ (by simp)

theorem trust_execHotReset (s : State) :
    ∀ u_, execHotReset s = .next u_ → trust u_ = trust s := by
  unfold execHotReset; exact trust_done _ _ (by simp)

theorem trust_execPcieLinkLoss (s : State) :
    ∀ u_, execPcieLinkLoss s = .next u_ → trust u_ = trust s := by
  unfold execPcieLinkLoss; exact trust_done _ _ (by simp)

theorem trust_execPerstNRelease (s : State) :
    ∀ u_, execPerstNRelease s = .next u_ → trust u_ = trust s := by
  unfold execPerstNRelease; exact trust_done _ _ (by simp)

theorem trust_execPoisonedTlp (nonPosted : Bool) (s : State) :
    ∀ u_, execPoisonedTlp nonPosted s = .next u_ → trust u_ = trust s := by
  unfold execPoisonedTlp; exact trust_done _ _ (by simp)

theorem trust_execBar2Access (off : BitVec 30) (acc : Bar2Acc) (s : State) :
    ∀ u_, execBar2Access off acc s = .next u_ → trust u_ = trust s := by
  unfold execBar2Access; exact trust_done _ _ (by simp)

theorem trust_execQueueCreate (m : Fin 16) (s : State) :
    ∀ u_, execQueueCreate m s = .next u_ → trust u_ = trust s := by
  unfold execQueueCreate; exact trust_done _ _ (by simp)

theorem trust_execQueueDestroy (m : Fin 16) (s : State) :
    ∀ u_, execQueueDestroy m s = .next u_ → trust u_ = trust s := by
  unfold execQueueDestroy; exact trust_done _ _ (by simp)

theorem trust_execQueueRead (m : Fin 16) (s : State) :
    ∀ u_, execQueueRead m s = .next u_ → trust u_ = trust s := by
  unfold execQueueRead; exact trust_done _ _ (by simp)

theorem trust_execQueueAttach (m : Fin 16) (s : State) :
    ∀ u_, execQueueAttach m s = .next u_ → trust u_ = trust s := by
  unfold execQueueAttach; exact trust_done _ _ (by simp)

theorem trust_execTollArbitration (c : Fin 4) (req : BitVec 12) (lines : BitVec 6) (s : State) :
    ∀ u_, execTollArbitration c req lines s = .next u_ → trust u_ = trust s := by
  unfold execTollArbitration; exact trust_done _ _ (by simp)

theorem trust_execTollConfig (m : Fin 16) (s : State) :
    ∀ u_, execTollConfig m s = .next u_ → trust u_ = trust s := by
  unfold execTollConfig; exact trust_done _ _ (by simp)

theorem trust_execTollRead (m : Fin 16) (s : State) :
    ∀ u_, execTollRead m s = .next u_ → trust u_ = trust s := by
  unfold execTollRead; exact trust_done _ _ (by simp)

end Sys2Proof.Machine
end

