-- ==== Sys2Proof/Laws/TrustGirder.lean ====
section
/-! SUPPORT. Sys2Proof/Laws/TrustGirder.lean: what the operations of Girder leave alone.
-/

namespace Sys2Proof.Machine

set_option Elab.async false

@[simp] theorem trust_setGirder (n : Nat) (g : Girder) (s : State) :
    trust (setGirder n g s) = trust s := by
  unfold setGirder; simp

@[simp] theorem trust_spillAll (k : Nat) (ns : List Nat) (s : State) :
    trust (spillAll k ns s) = trust s := by
  unfold spillAll; simp

@[simp] theorem trust_reloadAll (k : Nat) (ns : List Nat) (s : State) :
    trust (reloadAll k ns s) = trust s := by
  unfold reloadAll; simp

end Sys2Proof.Machine
end

