-- ==== Sys2Proof/Laws/TrustDeck.lean ====
section
/-! SUPPORT. Sys2Proof/Laws/TrustDeck.lean: what the operations of Deck leave alone.
-/

namespace Sys2Proof.Machine

set_option Elab.async false

@[simp] theorem trust_setDeckMem (m : DeckMem) (x : Mem) (s : State) :
    trust (setDeckMem m x s) = trust s := by
  unfold setDeckMem; (repeat' split) <;> simp

@[simp] theorem trust_setCluster (k : Nat) (c : Cluster) (s : State) :
    trust (setCluster k c s) = trust s := by
  unfold setCluster; simp

@[simp] theorem trust_writePieces (a0 : List Piece) (a1 : Nat) (a2 : List Byte) (a3 : State) :
    trust (writePieces a0 a1 a2 a3) = trust a3 := by
  induction a0 generalizing a1 a2 a3 with
  | nil => simp [writePieces]
  | cons e t ih => unfold writePieces; dsimp only; (repeat' split) <;> simp_all

@[simp] theorem trust_clearPieces (ps : List Piece) (s : State) :
    trust (clearPieces ps s) = trust s := by
  unfold clearPieces; simp

@[simp] theorem trust_touchBanks (ps : List Piece) (s : State) :
    trust (touchBanks ps s) = trust s := by
  unfold touchBanks; simp

@[simp] theorem trust_wakeBanks (ds : List Nat) (s : State) :
    trust (wakeBanks ds s) = trust s := by
  unfold wakeBanks; simp

@[simp] theorem trust_updJob (j : Nat) (f : Job → Job) (s : State) :
    trust (updJob j f s) = trust s := by
  unfold updJob; simp

@[simp] theorem trust_setSegs (c : Ctx) (tid : Nat) (l : List Seg) (s : State) :
    trust (setSegs c tid l s) = trust s := by
  unfold setSegs; (repeat' split) <;> simp

@[simp] theorem trust_flagSegs (p : Nat) (x0 : Nat) (x1 : Nat) (f : Nat) (s : State) :
    trust (flagSegs p x0 x1 f s) = trust s := by
  unfold flagSegs; simp

@[simp] theorem trust_saveHalo (s : State) :
    trust (saveHalo s) = trust s := by
  unfold saveHalo; simp

@[simp] theorem trust_haloFor (p : Nat) (n : Nat) (s : State) :
    trust (haloFor p n s) = trust s := by
  unfold haloFor; simp

@[simp] theorem trust_kvRearm (i : Nat) (s : State) :
    trust (kvRearm i s) = trust s := by
  unfold kvRearm; simp

@[simp] theorem trust_kvEmptyCheck (i : Nat) (s : State) :
    trust (kvEmptyCheck i s) = trust s := by
  unfold kvEmptyCheck; simp

@[simp] theorem trust_cleanPages (p : Kv) (pages : List Nat) (s : State) :
    trust (cleanPages p pages s) = trust s := by
  unfold cleanPages; simp

@[simp] theorem trust_appendTok (i : Nat) (q : KvSet) (k : KvProj) (s : State) :
    trust (appendTok i q k s) = trust s := by
  unfold appendTok; dsimp only; (repeat' split) <;> simp_all

@[simp] theorem trust_kvUe (i : Nat) (q : KvSet) (track : Nat) (bad : List (Nat × Nat × Nat)) (s : State) :
    trust (kvUe i q track bad s) = trust s := by
  unfold kvUe; (repeat' split) <;> simp

@[simp] theorem trust_keepWork (c : Ctx) (tid : Nat) (ws : List (Nat × List Byte)) (fresh : Bool) (s : State) :
    trust (keepWork c tid ws fresh s) = trust s := by
  unfold keepWork; (repeat' split) <;> simp

@[simp] theorem trust_applyRes (c : Ctx) (d : Desc) (r : OpRes) (s : State) :
    trust (applyRes c d r s) = trust s := by
  unfold applyRes; simp

@[simp] theorem trust_runContr (c : Ctx) (plans : List Plan) (d : Desc) (s : State) :
    trust (runContr c plans d s).1 = trust s := by
  unfold runContr; dsimp only; (repeat' split) <;> simp_all

@[simp] theorem trust_runAttnBand (c : Ctx) (d : Desc) (acc : AccFn) (s : State) :
    trust (runAttnBand c d acc s).1 = trust s := by
  unfold runAttnBand; (repeat' split) <;> simp

@[simp] theorem trust_runAttnToken (c : Ctx) (d : Desc) (s : State) :
    trust (runAttnToken c d s).1 = trust s := by
  unfold runAttnToken; (repeat' split) <;> simp

@[simp] theorem trust_sendCommits (l : List FlightCommit) (s : State) :
    trust (sendCommits l s) = trust s := by
  unfold sendCommits; simp

@[simp] theorem trust_runVerdict (c : Ctx) (d : Desc) (s : State) :
    trust (runVerdict c d s).1 = trust s := by
  unfold runVerdict; simp

@[simp] theorem trust_runCombine (c : Ctx) (d : Desc) (s : State) :
    trust (runCombine c d s).1 = trust s := by
  unfold runCombine; dsimp only; (repeat' split) <;> simp_all

@[simp] theorem trust_finishOp (c : Ctx) (d : Desc) (acc : AccFn) (s : State) :
    trust (finishOp c d acc s).1 = trust s := by
  unfold finishOp; (repeat' split) <;> simp

@[simp] theorem trust_runOp (c : Ctx) (plans : List Plan) (d : Desc) (s : State) :
    trust (runOp c plans d s).1 = trust s := by
  unfold runOp; (repeat' split) <;> simp

@[simp] theorem trust_updBay (b : Nat) (f : BayRun → BayRun) (s : State) :
    trust (updBay b f s) = trust s := by
  unfold updBay; simp

@[simp] theorem trust_jobRetire (j : Nat) (s : State) :
    trust (jobRetire j s) = trust s := by
  unfold jobRetire; (repeat' split) <;> simp

@[simp] theorem trust_bayStat (b : Nat) (st : OpStat) (s : State) :
    trust (bayStat b st s) = trust s := by
  unfold bayStat; simp

@[simp] theorem trust_advance (t : Thread) (st : OpStat) (s : State) :
    trust (advance t st s) = trust s := by
  unfold advance; (repeat' split) <;> simp

@[simp] theorem trust_loadPieces (keep : Piece → Bool) (bs : List Byte) (a0 : List Piece) (a1 : Nat) (a2 : State) :
    trust (loadPieces keep bs a0 a1 a2) = trust a2 := by
  induction a0 generalizing a1 a2 with
  | nil => simp [loadPieces]
  | cons p t ih => unfold loadPieces; split <;> simp [ih]

@[simp] theorem trust_loadWeights (c : Ctx) (keep : Piece → Bool) (s : State) :
    trust (loadWeights c keep s) = trust s := by
  unfold loadWeights; apply trust_foldl; intro a x; (repeat' split) <;> simp_all

@[simp] theorem trust_swingReady (c : Ctx) (s : State) :
    trust (swingReady c s) = trust s := by
  unfold swingReady; (repeat' split) <;> simp

@[simp] theorem trust_deckOp (t : Thread) (s : State) :
    trust (deckOp t s) = trust s := by
  unfold deckOp; (repeat' split) <;> simp

@[simp] theorem trust_moveBytes (t : Thread) (src : Piece) (dst : Piece) (s : State) :
    trust (moveBytes t src dst s) = trust s := by
  unfold moveBytes; simp

@[simp] theorem trust_swingWrite (img : Nat) (src : Nat) (len : Nat) (gs : List Nat) (s : State) :
    trust (swingWrite img src len gs s) = trust s := by
  unfold swingWrite; simp

@[simp] theorem trust_sendBuffer (t : Thread) (p : Piece) (node : Nat) (flag : Nat) (s : State) :
    trust (sendBuffer t p node flag s) = trust s := by
  unfold sendBuffer; simp

@[simp] theorem trust_signalSend (t : Thread) (s : State) :
    trust (signalSend t s) = trust s := by
  unfold signalSend; (repeat' split) <;> simp

@[simp] theorem trust_waitFlag (t : Thread) (s : State) :
    trust (waitFlag t s) = trust s := by
  unfold waitFlag; (repeat' split) <;> simp

@[simp] theorem trust_refreshChans (t : Thread) (s : State) :
    trust (refreshChans t s) = trust s := by
  unfold refreshChans; (repeat' split) <;> simp

@[simp] theorem trust_coSend (r : List Byte) (rks : List Nat) (flag : Nat) (bs : List Byte) (s : State) :
    trust (coSend r rks flag bs s) = trust s := by
  unfold coSend; simp

@[simp] theorem trust_coSignal (r : List Byte) (rks : List Nat) (flag : Nat) (s : State) :
    trust (coSignal r rks flag s) = trust s := by
  unfold coSignal; simp

theorem trust_coSends (c : Ctx) (r : List Byte) (me : Nat) (s : State) :
    ∀ t, coSends c r me s = some t → trust t = trust s := by
  unfold coSends; dsimp only; (repeat' split) <;> simp_all

@[simp] theorem trust_collective (t : Thread) (s : State) :
    trust (collective t s) = trust s := by
  unfold collective; split
  · dsimp only; split
    · rfl
    · split
      · simp only [List.isEmpty_nil, Bool.not_true, Bool.false_eq_true, if_false]; split <;> simp
      · split
        · simp
        · split
          · rfl
          · rename_i h
            rw [Option.map_eq_some_iff] at h
            obtain ⟨y, hy, rfl⟩ := h
            have g := trust_coSends _ _ _ _ _ hy
            split <;> simp [g]
  · rfl

end Sys2Proof.Machine
end

