-- ==== Sys2Proof/Laws/TrustModel.lean ====
section
/-! SUPPORT. Sys2Proof/Laws/TrustModel.lean: what the operations of Model leave alone.
-/

namespace Sys2Proof.Machine

set_option Elab.async false

@[simp] theorem trust_refreshSwing (s : State) :
    trust (refreshSwing s) = trust s := by
  unfold refreshSwing; simp

@[simp] theorem trust_stageAt (i : Nat) (src : Nat) (b : List Byte) (meas : List Byte) (s : State) :
    trust (stageAt i src b meas s) = trust s := by
  unfold stageAt; simp

@[simp] theorem trust_bodyModelStage (m : Nat) (s : State) (p : List Byte) :
    trust (bodyModelStage m s p).1 = trust s := by
  unfold bodyModelStage; dsimp only; (repeat' split) <;> simp_all

@[simp] theorem trust_commitNow (i : Nat) (s : State) :
    trust (commitNow i s) = trust s := by
  unfold commitNow; simp

@[simp] theorem trust_applyCommitCmd (p : List Byte) (s : State) :
    trust (applyCommitCmd p s).1 = trust s := by
  unfold applyCommitCmd; (repeat' split) <;> simp

@[simp] theorem trust_recBoundary (crossing : Nat) (taken : List (Option (Nat × Bool))) (drops : List (List Nat)) (cmds : List (Nat × List Byte)) (s : State) :
    trust (recBoundary crossing taken drops cmds s) = trust s := by
  unfold recBoundary; simp

@[simp] theorem trust_recNoCrossing (drops : List (List Nat)) (cmds : List (Nat × List Byte)) (s : State) :
    trust (recNoCrossing drops cmds s) = trust s := by
  unfold recNoCrossing; simp

@[simp] theorem trust_boundaryCmd (m : Nat) (op : Nat) (objs : List Byte → List Objt) (early : State → List Byte → Option Reply) (apply : List Byte → State → State × Reply) (s : State) (p : List Byte) (happly : ∀ x y, trust (apply y x).1 = trust x) :
    trust (boundaryCmd m op objs early apply s p).1 = trust s := by
  unfold boundaryCmd; (repeat' split) <;> simp_all

@[simp] theorem trust_applySwitch (p : List Byte) (s : State) :
    trust (applySwitch p s).1 = trust s := by
  unfold applySwitch; dsimp only; (repeat' split) <;> simp_all

@[simp] theorem trust_bodyModelRetire (s : State) (p : List Byte) :
    trust (bodyModelRetire s p).1 = trust s := by
  unfold bodyModelRetire; dsimp only; (repeat' split) <;> simp_all

@[simp] theorem trust_bodyModelList (s : State) (x1 : List Byte) :
    trust (bodyModelList s x1).1 = trust s := by
  unfold bodyModelList; simp

@[simp] theorem trust_bodySwingRead (s : State) (x1 : List Byte) :
    trust (bodySwingRead s x1).1 = trust s := by
  unfold bodySwingRead; simp

@[simp] theorem trust_bodyKvStatus (s : State) (p : List Byte) :
    trust (bodyKvStatus s p).1 = trust s := by
  unfold bodyKvStatus; dsimp only; (repeat' split) <;> simp_all

@[simp] theorem trust_applyKvDump (p : List Byte) (s : State) :
    trust (applyKvDump p s).1 = trust s := by
  unfold applyKvDump; dsimp only; (repeat' split) <;> simp_all

@[simp] theorem trust_resetTrack (mode : Nat) (t : Nat) (s : State) :
    trust (resetTrack mode t s) = trust s := by
  unfold resetTrack; (repeat' split) <;> simp

@[simp] theorem trust_applyKvReset (p : List Byte) (s : State) :
    trust (applyKvReset p s).1 = trust s := by
  unfold applyKvReset; simp

@[simp] theorem trust_resetAllTracks (s : State) :
    trust (resetAllTracks s) = trust s := by
  unfold resetAllTracks; apply trust_foldl; intro a i
  apply trust_foldl; intro b q; apply trust_foldl; intro c j; simp

end Sys2Proof.Machine
end

