-- ==== Sys2Proof/Laws/TrustPower.lean ====
section
/-! SUPPORT. Sys2Proof/Laws/TrustPower.lean: what the operations of Power leave alone.
-/

namespace Sys2Proof.Machine

set_option Elab.async false

@[simp] theorem trust_loseDom (d : Nat) (target : PdSt) (s : State) :
    trust (loseDom d target s) = trust s := by
  unfold loseDom; simp

@[simp] theorem trust_enterState (d : Nat) (target : PdSt) (s : State) :
    trust (enterState d target s) = trust s := by
  unfold enterState; simp

@[simp] theorem trust_sendPrepare (d : Nat) (target : PdSt) (s : State) :
    trust (sendPrepare d target s) = trust s := by
  unfold sendPrepare; simp

@[simp] theorem trust_goDown (d : Nat) (target : PdSt) (s : State) :
    trust (goDown d target s) = trust s := by
  unfold goDown; simp

@[simp] theorem trust_prepareAnswer (d : Nat) (busy : Nat) (s : State) :
    trust (prepareAnswer d busy s) = trust s := by
  unfold prepareAnswer; dsimp only; (repeat' split) <;> simp_all

@[simp] theorem trust_prepareTimeout (d : Nat) (s : State) :
    trust (prepareTimeout d s) = trust s := by
  unfold prepareTimeout; dsimp only; (repeat' split) <;> simp_all

@[simp] theorem trust_prepareDelayExpiry (d : Nat) (s : State) :
    trust (prepareDelayExpiry d s) = trust s := by
  unfold prepareDelayExpiry; dsimp only; (repeat' split) <;> simp_all

@[simp] theorem trust_onDemandWake (d : Nat) (req : Nat) (s : State) :
    trust (onDemandWake d req s) = trust s := by
  unfold onDemandWake; simp

@[simp] theorem trust_accessOff (d : Nat) (req : Nat) (addr : Nat) (s : State) :
    trust (accessOff d req addr s) = trust s := by
  unfold accessOff; simp

@[simp] theorem trust_autoOne (d : Nat) (s : State) :
    trust (autoOne d s) = trust s := by
  unfold autoOne; (repeat' split) <;> simp

@[simp] theorem trust_autoPower (boundary : Bool) (s : State) :
    trust (autoPower boundary s) = trust s := by
  unfold autoPower; simp

@[simp] theorem trust_wakeComplete (d : Nat) (s : State) :
    trust (wakeComplete d s) = trust s := by
  unfold wakeComplete; simp

@[simp] theorem trust_mc3Idle (s : State) :
    trust (mc3Idle s) = trust s := by
  unfold mc3Idle; simp

@[simp] theorem trust_pwrApply (pol : Nat) (hold_ : Bool) (ret : Nat) (s : State) (d : Nat) :
    trust (pwrApply pol hold_ ret s d) = trust s := by
  unfold pwrApply; (repeat' split) <;> simp

@[simp] theorem trust_bodyPwrSet (s : State) (p : List Byte) :
    trust (bodyPwrSet s p).1 = trust s := by
  unfold bodyPwrSet; (repeat' split) <;> simp

@[simp] theorem trust_bodyPwrRead (s : State) (x1 : List Byte) :
    trust (bodyPwrRead s x1).1 = trust s := by
  unfold bodyPwrRead; simp

@[simp] theorem trust_bodyPadRelease (s : State) (p : List Byte) :
    trust (bodyPadRelease s p).1 = trust s := by
  unfold bodyPadRelease; simp

@[simp] theorem trust_addEnergy (d : Nat) (n : Nat) (s : State) :
    trust (addEnergy d n s) = trust s := by
  unfold addEnergy; simp

@[simp] theorem trust_alertCheck (s : State) :
    trust (alertCheck s) = trust s := by
  unfold alertCheck; (repeat' split) <;> simp

@[simp] theorem trust_sensorUpdate (temps : List (BitVec 16)) (drawn : List (BitVec 48)) (s : State) :
    trust (sensorUpdate temps drawn s) = trust s := by
  unfold sensorUpdate; simp

@[simp] theorem trust_forceDown (target : PdSt) (d : Nat) (s : State) :
    trust (forceDown target d s) = trust s := by
  unfold forceDown; simp

@[simp] theorem trust_thermTrip (s : State) :
    trust (thermTrip s) = trust s := by
  unfold thermTrip; simp

end Sys2Proof.Machine
end

