-- ==== Sys2Proof/Laws/TrustSteward.lean ====
section
/-! SUPPORT. Sys2Proof/Laws/TrustSteward.lean: what the operations of Steward leave alone.
-/

namespace Sys2Proof.Machine

set_option Elab.async false

@[simp] theorem trust_refreshSlow (s : State) :
    trust (refreshSlow s) = trust s := by
  unfold refreshSlow; simp

@[simp] theorem trust_applyPair (p : Pair) (s : State) :
    trust (applyPair p s) = trust s := by
  unfold applyPair; simp

@[simp] theorem trust_enterNoFit (t : Option Nat) (est : Nat) (s : State) :
    trust (enterNoFit t est s) = trust s := by
  unfold enterNoFit; simp

@[simp] theorem trust_fitBoundary (s : State) :
    trust (fitBoundary s) = trust s := by
  unfold fitBoundary; simp

@[simp] theorem trust_creditPool (s : State) :
    trust (creditPool s) = trust s := by
  unfold creditPool; simp

@[simp] theorem trust_grantCredits (energy : Nat) (s : State) :
    trust (grantCredits energy s).2 = trust s := by
  unfold grantCredits; dsimp only; (repeat' split) <;> simp_all

@[simp] theorem trust_stewardChoose (vmax : Nat) (s : State) :
    trust (stewardChoose vmax s) = trust s := by
  unfold stewardChoose; dsimp only; (repeat' split) <;> simp_all

@[simp] theorem trust_bodyStewardConfig (vid : Bool) (s : State) (p : List Byte) :
    trust (bodyStewardConfig vid s p).1 = trust s := by
  unfold bodyStewardConfig; (repeat' split) <;> simp

@[simp] theorem trust_applyFix (p : List Byte) (s : State) :
    trust (applyFix p s).1 = trust s := by
  unfold applyFix; (repeat' split) <;> simp

@[simp] theorem trust_trimVdd (sense : Nat) (s : State) :
    trust (trimVdd sense s) = trust s := by
  unfold trimVdd; simp

@[simp] theorem trust_vddSettled (sense : Nat) (s : State) :
    trust (vddSettled sense s) = trust s := by
  unfold vddSettled; simp

@[simp] theorem trust_vrmFault (word : Nat) (s : State) :
    trust (vrmFault word s) = trust s := by
  unfold vrmFault; simp

end Sys2Proof.Machine
end

