-- ==== Sys2Proof/Laws/TrustRecorder.lean ====
section
/-! SUPPORT. Sys2Proof/Laws/TrustRecorder.lean: what the operations of Recorder leave alone.
-/

namespace Sys2Proof.Machine

set_option Elab.async false

@[simp] theorem trust_writeSegment (recs : List Byte) (s : State) :
    trust (writeSegment recs s) = trust s := by
  unfold writeSegment; simp

@[simp] theorem trust_flushOne (s : State) :
    trust (flushOne s) = trust s := by
  unfold flushOne; (repeat' split) <;> simp

@[simp] theorem trust_gapRecord (s : State) :
    trust (gapRecord s) = trust s := by
  unfold gapRecord; simp

@[simp] theorem trust_flushOn (s : State) :
    trust (flushOn s) = trust s := by
  unfold flushOn; simp

@[simp] theorem trust_segmentWritten (s : State) :
    trust (segmentWritten s) = trust s := by
  unfold segmentWritten; simp

@[simp] theorem trust_bodyRecStart (s : State) (p : List Byte) :
    trust (bodyRecStart s p).1 = trust s := by
  unfold bodyRecStart; (repeat' split) <;> simp

@[simp] theorem trust_closeCur (s : State) :
    trust (closeCur s) = trust s := by
  unfold closeCur; simp

theorem trust_times (n : Nat) (f : State → State) (h : ∀ x, trust (f x) = trust x) (s : State) :
    trust (times n f s) = trust s := by
  induction n generalizing s with
  | zero => rfl
  | succ k ih => simp [times, ih, h]

@[simp] theorem trust_bodyRecStop (s : State) (x1 : List Byte) :
    trust (bodyRecStop s x1).1 = trust s := by
  unfold bodyRecStop; split
  · simp
  · simp [trust_times _ _ trust_flushOn]

@[simp] theorem trust_bodyRecRelease (s : State) (p : List Byte) :
    trust (bodyRecRelease s p).1 = trust s := by
  unfold bodyRecRelease; simp

@[simp] theorem trust_bodyRecRead (s : State) (x1 : List Byte) :
    trust (bodyRecRead s x1).1 = trust s := by
  unfold bodyRecRead; simp

@[simp] theorem trust_noteCopy (n : Nat) (s : State) :
    trust (noteCopy n s) = trust s := by
  unfold noteCopy; simp

@[simp] theorem trust_takeCheckpoint (next : Nat) (s : State) :
    trust (takeCheckpoint next s) = trust s := by
  unfold takeCheckpoint; simp

@[simp] theorem trust_applyLotOpen (p : List Byte) (s : State) :
    trust (applyLotOpen p s).1 = trust s := by
  unfold applyLotOpen; simp

@[simp] theorem trust_applyCheckpoint (x1 : List Byte) (s : State) :
    trust (applyCheckpoint x1 s).1 = trust s := by
  unfold applyCheckpoint; simp

@[simp] theorem trust_checkpointStep (s : State) :
    trust (checkpointStep s) = trust s := by
  unfold checkpointStep; simp

@[simp] theorem trust_atOnce (f : List Byte → State → State × Reply) (p : List Byte) (s : State) (hf : ∀ x y, trust (f y x).1 = trust x) :
    trust (atOnce f p s).1 = trust s := by
  unfold atOnce; simp_all

@[simp] theorem trust_rdKvImage (imgs : List Nat) (x : State × List Byte) :
    trust (rdKvImage imgs x).1 = trust x.1 := by
  unfold rdKvImage; simp

@[simp] theorem trust_rdKv (imgs : List Nat) (b : List Byte) (s : State) :
    trust (rdKv imgs b s) = trust s := by
  unfold rdKv; exact trust_foldl_pair _ (fun a _ => trust_rdKvImage imgs a) _ _

@[simp] theorem trust_rdSlots (b : List Byte) (s : State) :
    trust (rdSlots b s) = trust s := by
  unfold rdSlots; simp

@[simp] theorem trust_rdPus (b : List Byte) (s : State) :
    trust (rdPus b s) = trust s := by
  unfold rdPus; simp

@[simp] theorem trust_rdRamp (x : State × List Byte) (p : Nat) :
    trust (rdRamp x p).1 = trust x.1 := by
  unfold rdRamp; simp

@[simp] theorem trust_rdRamps (b : List Byte) (s : State) :
    trust (rdRamps b s) = trust s := by
  unfold rdRamps; exact trust_foldl_pair _ (fun a p => trust_rdRamp a p) _ _

@[simp] theorem trust_rdSeqs (b : List Byte) (s : State) :
    trust (rdSeqs b s) = trust s := by
  unfold rdSeqs; simp

@[simp] theorem trust_rdHalo (b : List Byte) (s : State) :
    trust (rdHalo b s) = trust s := by
  unfold rdHalo; simp

@[simp] theorem trust_restoreItems (imgs : List Nat) (items : List (List Byte)) (s : State) :
    trust (restoreItems imgs items s) = trust s := by
  unfold restoreItems; simp

end Sys2Proof.Machine
end

