-- ==== Sys2Proof/Laws/TrustJobs.lean ====
section
/-! SUPPORT. Sys2Proof/Laws/TrustJobs.lean: what the operations of Jobs leave alone.
-/

namespace Sys2Proof.Machine

set_option Elab.async false

@[simp] theorem trust_logUe (ch : Nat) (off : Nat) (s : State) :
    trust (logUe ch off s) = trust s := by
  unfold logUe; simp

@[simp] theorem trust_noteUe (ch : Nat) (off : Nat) (s : State) :
    trust (noteUe ch off s) = trust s := by
  unfold noteUe; simp

@[simp] theorem trust_recJob (id : Nat) (model : Nat) (d : List Byte) (s : State) :
    trust (recJob id model d s) = trust s := by
  unfold recJob; simp

@[simp] theorem trust_postJobDone (id : Nat) (status : Nat) (s : State) :
    trust (postJobDone id status s) = trust s := by
  unfold postJobDone; simp

@[simp] theorem trust_takeEntry (e : List Byte) (s : State) :
    trust (takeEntry e s) = trust s := by
  unfold takeEntry; (repeat' split) <;> simp

@[simp] theorem trust_jobEntryTake (ue : Bool) (s : State) :
    trust (jobEntryTake ue s) = trust s := by
  unfold jobEntryTake; (repeat' split) <;> simp

@[simp] theorem trust_jobDone (j : Nat) (s : State) :
    trust (jobDone j s) = trust s := by
  unfold jobDone; (repeat' split) <;> simp

@[simp] theorem trust_refuseCand (b : Nat) (i : Nat) (s : State) :
    trust (refuseCand b i s) = trust s := by
  unfold refuseCand; simp

@[simp] theorem trust_takeCand (b : Nat) (i : Nat) (gs : List Nat) (rec_ : Bool) (s : State) :
    trust (takeCand b i gs rec_ s) = trust s := by
  unfold takeCand; simp

@[simp] theorem trust_tryCand (b : Nat) (y : Bay) (u : Used) (i : Nat) (s : State) :
    trust (tryCand b y u i s).1 = trust s := by
  unfold tryCand; dsimp only; (repeat' split) <;> simp_all

@[simp] theorem trust_startStandby (b : Nat) (j : Nat) (gs : List Nat) (s : State) :
    trust (startStandby b j gs s) = trust s := by
  unfold startStandby; dsimp only; (repeat' split) <;> simp_all

@[simp] theorem trust_tryStandby (b : Nat) (y : Bay) (u : Used) (j : Nat) (s : State) :
    trust (tryStandby b y u j s).1 = trust s := by
  unfold tryStandby; dsimp only; (repeat' split) <;> simp_all

@[simp] theorem trust_resumeCarried (b : Nat) (y : Bay) (s : State) :
    trust (resumeCarried b y s) = trust s := by
  unfold resumeCarried; simp

@[simp] theorem trust_withdrawJob (j : Nat) (s : State) :
    trust (withdrawJob j s) = trust s := by
  unfold withdrawJob; (repeat' split) <;> simp

@[simp] theorem trust_refuseJob (j : Nat) (s : State) :
    trust (refuseJob j s) = trust s := by
  unfold refuseJob; (repeat' split) <;> simp

@[simp] theorem trust_viewGenerate (j : Nat) (s : State) :
    trust (viewGenerate j s) = trust s := by
  unfold viewGenerate; dsimp only; (repeat' split) <;> simp [trust_times _ _ (fun x => trust_rmpCount _ _ x)]

@[simp] theorem trust_admit (b : Nat) (y : Bay) (s : State) :
    trust (admitJob b y s) = trust s := by
  unfold admitJob; dsimp only; split
  · simp
  · rw [trust_foldl_pair _ (fun _ _ => trust_tryStandby ..), trust_foldl_pair _ (fun _ _ => trust_tryCand ..)]
    simp

end Sys2Proof.Machine
end

