-- ==== Sys2Proof/Laws/TrustCrossing.lean ====
section
/-! SUPPORT. Sys2Proof/Laws/TrustCrossing.lean: what the operations of Crossing leave alone.
-/

namespace Sys2Proof.Machine

set_option Elab.async false

@[simp] theorem trust_startSeq (i : Nat) (launch : Nat) (s : State) :
    trust (startSeq i launch s) = trust s := by
  unfold startSeq; simp

@[simp] theorem trust_bodyCrossingStart (s : State) (p : List Byte) :
    trust (bodyCrossingStart s p).1 = trust s := by
  unfold bodyCrossingStart; (repeat' split) <;> simp

@[simp] theorem trust_launchReached (s : State) :
    trust (launchReached s) = trust s := by
  unfold launchReached; (repeat' split) <;> simp

@[simp] theorem trust_bodyCrossingStop (m : Nat) (s : State) (p : List Byte) :
    trust (bodyCrossingStop m s p).1 = trust s := by
  unfold bodyCrossingStop; (repeat' split) <;> simp

@[simp] theorem trust_bodyCrossingStatus (s : State) (x1 : List Byte) :
    trust (bodyCrossingStatus s x1).1 = trust s := by
  unfold bodyCrossingStatus; simp

@[simp] theorem trust_markBand (b : Band) (s : State) :
    trust (markBand b s).1 = trust s := by
  unfold markBand; simp

@[simp] theorem trust_dropBand (b : Band) (s : State) :
    trust (dropBand b s) = trust s := by
  unfold dropBand; simp

@[simp] theorem trust_returnRegions (rs : List Nat) (s : State) :
    trust (returnRegions rs s) = trust s := by
  unfold returnRegions; simp

@[simp] theorem trust_freeBand (b : Band) (s : State) :
    trust (freeBand b s) = trust s := by
  unfold freeBand; simp

@[simp] theorem trust_discardBand (b : Band) (s : State) :
    trust (discardBand b s) = trust s := by
  unfold discardBand; simp

@[simp] theorem trust_latchCrossing (s : State) :
    trust (latchCrossing s) = trust s := by
  unfold latchCrossing; simp

@[simp] theorem trust_fatePort (s : State) (p : Nat) :
    trust (fatePort s p) = trust s := by
  unfold fatePort; simp

@[simp] theorem trust_countQueued (s : State) :
    trust (countQueued s) = trust s := by
  unfold countQueued; simp

@[simp] theorem trust_stepBands (s : State) :
    trust (stepBands s) = trust s := by
  unfold stepBands; simp

@[simp] theorem trust_applyOne (s : State) (r : Running) :
    trust (applyOne s r) = trust s := by
  unfold applyOne; (repeat' split) <;> simp

@[simp] theorem trust_applyStep (ops : List Nat) (s : State) :
    trust (applyStep ops s) = trust s := by
  unfold applyStep; simp

@[simp] theorem trust_stepSteward (ended : Bool) (slip : Nat) (slack : Nat) (s : State) :
    trust (stepSteward ended slip slack s) = trust s := by
  unfold stepSteward; simp

@[simp] theorem trust_reloadSwing (n : Nat) (s : State) :
    trust (reloadSwing n s) = trust s := by
  unfold reloadSwing; dsimp only; (repeat' split) <;> simp_all

@[simp] theorem trust_stepReload (s : State) :
    trust (stepReload s) = trust s := by
  unfold stepReload; simp

@[simp] theorem trust_takeBands (s : State) :
    trust (takeBands s) = trust s := by
  unfold takeBands; apply trust_foldl; intro a x; (repeat' split) <;> simp_all

@[simp] theorem trust_boundaryRec (drops : List (List Nat)) (cmds : List (Nat × List Byte)) (s : State) :
    trust (boundaryRec drops cmds s) = trust s := by
  unfold boundaryRec; simp

@[simp] theorem trust_cleanStart (prevSlip : Nat) (slack : Nat) (s : State) :
    trust (cleanStart prevSlip slack s) = trust s := by
  unfold cleanStart; simp

@[simp] theorem trust_enterCrossing (s : State) :
    trust (enterCrossing s) = trust s := by
  unfold enterCrossing; simp

@[simp] theorem trust_startCrossing (prevSlip : Nat) (slack : Nat) (drops : List (List Nat)) (cmds : List (Nat × List Byte)) (s : State) :
    trust (startCrossing prevSlip slack drops cmds s) = trust s := by
  unfold startCrossing; simp

@[simp] theorem trust_finishStop (s : State) :
    trust (finishStop s) = trust s := by
  unfold finishStop; simp

@[simp] theorem trust_noRating (s : State) :
    trust (noRating s) = trust s := by
  unfold noRating; simp

@[simp] theorem trust_boundary (s : State) :
    trust (boundary s) = trust s := by
  unfold boundary; simp

@[simp] theorem trust_periodTick (s : State) :
    trust (periodTick s) = trust s := by
  unfold periodTick; simp

@[simp] theorem trust_dropTaken (s : State) :
    trust (dropTaken s) = trust s := by
  unfold dropTaken; simp

@[simp] theorem trust_suspendJobs (b : Nat) (keep : Bool) (s : State) :
    trust (suspendJobs b keep s) = trust s := by
  unfold suspendJobs; simp

@[simp] theorem trust_suspendBay (v : Nat) (s : State) :
    trust (suspendBay v s) = trust s := by
  unfold suspendBay; simp

@[simp] theorem trust_askYield (b : Nat) (v : Nat × Bay) (s : State) :
    trust (askYield b v s) = trust s := by
  unfold askYield; simp

@[simp] theorem trust_startBay (b : Nat) (y : Bay) (s : State) :
    trust (startBay b y s) = trust s := by
  unfold startBay; simp

@[simp] theorem trust_bayStart (b : Nat) (s : State) :
    trust (bayStart b s) = trust s := by
  unfold bayStart; (repeat' split) <;> simp

@[simp] theorem trust_endWithdrawn (b : Nat) (s : State) :
    trust (endWithdrawn b s) = trust s := by
  unfold endWithdrawn; (repeat' split) <;> simp

@[simp] theorem trust_carryJobs (b : Nat) (s : State) :
    trust (carryJobs b s) = trust s := by
  unfold carryJobs; simp

@[simp] theorem trust_tileBoundary (b : Nat) (s : State) :
    trust (tileBoundary b s) = trust s := by
  unfold tileBoundary; (repeat' split) <;> simp

@[simp] theorem trust_openDeadline (b : Nat) (s : State) :
    trust (openDeadline b s) = trust s := by
  unfold openDeadline; (repeat' split) <;> simp

@[simp] theorem trust_chargeSlip (b : Nat) (s : State) :
    trust (chargeSlip b s) = trust s := by
  unfold chargeSlip; simp

@[simp] theorem trust_stepCheck (b : Nat) (y : Bay) (steps : Nat) (s : State) :
    trust (stepCheck b y steps s) = trust s := by
  unfold stepCheck; simp

@[simp] theorem trust_resumeFrom (b : Nat) (s : State) :
    trust (resumeFrom b s) = trust s := by
  unfold resumeFrom; apply trust_foldl; intro a x; (repeat' split) <;> simp_all

@[simp] theorem trust_bayEnd (b : Nat) (steps : Nat) (s : State) :
    trust (bayEnd b steps s) = trust s := by
  unfold bayEnd; (repeat' split) <;> simp

@[simp] theorem trust_vddTimeout (sense : Nat) (s : State) :
    trust (vddTimeout sense s) = trust s := by
  unfold vddTimeout; simp

end Sys2Proof.Machine
end

