-- ==== Sys2Proof/Laws/TrustReplay.lean ====
section
/-! SUPPORT. Sys2Proof/Laws/TrustReplay.lean: what the operations of Replay leave alone.
-/

namespace Sys2Proof.Machine

set_option Elab.async false

@[simp] theorem trust_noteFreezes (rs : List Rec) (s : State) :
    trust (noteFreezes rs s) = trust s := by
  unfold noteFreezes; simp

@[simp] theorem trust_bodyReplayOpen (m : Nat) (s : State) (p : List Byte) :
    trust (bodyReplayOpen m s p).1 = trust s := by
  unfold bodyReplayOpen; dsimp only; (repeat' split) <;> simp_all

@[simp] theorem trust_bodyReplayRun (s : State) (x1 : List Byte) :
    trust (bodyReplayRun s x1).1 = trust s := by
  unfold bodyReplayRun; (repeat' split) <;> simp

@[simp] theorem trust_replayEnd (reason : Nat) (s : State) :
    trust (replayEnd reason s) = trust s := by
  unfold replayEnd; simp only [trust_post, trust_mk, trust_fold]
  rw [trust_times _ _ (fun x => by simp)]; simp

@[simp] theorem trust_bodyReplayStop (s : State) (x1 : List Byte) :
    trust (bodyReplayStop s x1).1 = trust s := by
  unfold bodyReplayStop; (repeat' split) <;> simp

@[simp] theorem trust_replayEdge (u : Nat) (back : Bool) (ref : Bool) (stamp : Nat) (s : State) :
    trust (replayEdge u back ref stamp s) = trust s := by
  unfold replayEdge; simp

@[simp] theorem trust_replayEncoder (r : Rec) (s : State) :
    trust (replayEncoder r s) = trust s := by
  unfold replayEncoder; refine (trust_foldl_pair _ ?_ _ _).trans rfl
  intro a x; simp

@[simp] theorem trust_replayFio (p : List Byte) (s : State) :
    trust (replayFio p s) = trust s := by
  unfold replayFio; simp

@[simp] theorem trust_replayCmd (op : Nat) (p : List Byte) (s : State) :
    trust (replayCmd op p s) = trust s := by
  unfold replayCmd; (repeat' split) <;> simp

@[simp] theorem trust_applyCfgs (p : Nat) (no : Nat) (s : State) :
    trust (applyCfgs p no s) = trust s := by
  unfold applyCfgs; simp

@[simp] theorem trust_replayConfig (r : Rec) (s : State) :
    trust (replayConfig r s) = trust s := by
  unfold replayConfig; simp

@[simp] theorem trust_replayField (r : Rec) (s : State) :
    trust (replayField r s) = trust s := by
  unfold replayField; simp

@[simp] theorem trust_replayStart (t : Nat) (s : State) :
    trust (replayStart t s) = trust s := by
  unfold replayStart; simp

@[simp] theorem trust_replayLine (r : Rec) (s : State) :
    trust (replayLine r s) = trust s := by
  unfold replayLine; simp

@[simp] theorem trust_moveHandle (old : Nat × Nat) (new : Option (Nat × Nat)) (s : State) :
    trust (moveHandle old new s) = trust s := by
  unfold moveHandle; simp

theorem trust_replaySlot (r : Rec) (s : State) :
    ∀ t, replaySlot r s = some t → trust t = trust s := by
  unfold replaySlot; dsimp only; (repeat' split) <;> simp

theorem trust_replayFreeze (r : Rec) (s : State) :
    ∀ t, replayFreeze r s = some t → trust t = trust s := by
  unfold replayFreeze; (repeat' split) <;> simp

@[simp] theorem trust_replayFire (r : Rec) (s : State) :
    trust (replayFire r s) = trust s := by
  unfold replayFire; (repeat' split) <;> simp

theorem trust_replayAdmit (r : Rec) (s : State) :
    ∀ t, replayAdmit r s = some t → trust t = trust s := by
  unfold replayAdmit; dsimp only; (repeat' split) <;> simp_all

@[simp] theorem trust_replayLanding (r : Rec) (s : State) :
    trust (replayLanding r s) = trust s := by
  unfold replayLanding; dsimp only; (repeat' split) <;> simp_all

@[simp] theorem trust_replayJob (r : Rec) (s : State) :
    trust (replayJob r s) = trust s := by
  unfold replayJob; (repeat' split) <;> simp

@[simp] theorem trust_replayCommit (k : Nat) (s : State) :
    trust (replayCommit k s) = trust s := by
  unfold replayCommit; (repeat' split) <;> simp

@[simp] theorem trust_replayBoundaryCmd (s : State) (x : Nat × List Byte) :
    trust (replayBoundaryCmd s x) = trust s := by
  unfold replayBoundaryCmd; (repeat' split) <;> simp

@[simp] theorem trust_replayStopMode (cmds : List (Nat × List Byte)) (s : State) :
    trust (replayStopMode cmds s) = trust s := by
  unfold replayStopMode; (repeat' split) <;> simp

@[simp] theorem trust_replayDrops (d : List Byte) (s : State) :
    trust (replayDrops d s) = trust s := by
  unfold replayDrops; apply trust_foldl; intro a x; apply trust_foldl; intro a n; (repeat' split) <;> simp

@[simp] theorem trust_replayMidDrops (next : Option Rec) (s : State) :
    trust (replayMidDrops next s) = trust s := by
  unfold replayMidDrops; split
  · rfl
  · apply trust_foldl; intro a x; apply trust_foldl; intro b n
    split
    · split <;> simp
    · rfl

@[simp] theorem trust_replayTake (d : List Byte) (s : State) :
    trust (replayTake d s) = trust s := by
  unfold replayTake; apply trust_foldl; intro a x; (repeat' split) <;> simp_all

@[simp] theorem trust_replayDrain (s : State) :
    trust (replayDrain s) = trust s := by
  unfold replayDrain; simp

theorem trust_replayBoundary (r : Rec) (s : State) :
    ∀ t, replayBoundary r s = some t → trust t = trust s := by
  unfold replayBoundary; dsimp only; (repeat' split) <;> simp_all

@[simp] theorem trust_replayLot (r : Rec) (s : State) :
    trust (replayLot r s) = trust s := by
  unfold replayLot; simp

theorem trust_feedLine (r : Rec) (s : State) :
    ∀ t, feedLine r s = some t → trust t = trust s := by
  unfold feedLine; simp

theorem trust_replayOne (r : Rec) (s : State) :
    ∀ t, replayOne r s = some t → trust t = trust s := by
  intro t h; unfold replayOne at h; (repeat' split at h)
  all_goals first
    | exact trust_feedLine _ _ _ h
    | exact trust_replayBoundary _ _ _ h
    | exact trust_replayFreeze _ _ _ h
    | exact trust_replayAdmit _ _ _ h
    | exact trust_replaySlot _ _ _ h
    | (injection h with h; subst h; simp)

@[simp] theorem trust_nextSegment (s : State) :
    trust (nextSegment s) = trust s := by
  unfold nextSegment; dsimp only; (repeat' split) <;> simp_all

@[simp] theorem trust_feedRecord (s : State) :
    trust (feedRecord s) = trust s := by
  unfold feedRecord; dsimp only; split
  · simp
  · split
    · simp
    · split
      · split <;> simp
      · rename_i h; have g := trust_replayOne _ _ _ h
        split <;> split at g <;> simp_all

@[simp] theorem trust_replayRecord (s : State) :
    trust (replayRecord s) = trust s := by
  unfold replayRecord; simp

end Sys2Proof.Machine
end

