-- ==== Sys2Proof/Laws/TrustExecB.lean ====
section
/-! SUPPORT. Sys2Proof/Laws/TrustExecB.lean: commands that leave the trust state and the queue alone.
-/

namespace Sys2Proof.Machine

set_option Elab.async false

theorem trust_execDeckOp (t : Thread) (s : State) :
    ∀ u_, execDeckOp t s = .next u_ → trust u_ = trust s := by
  unfold execDeckOp; exact trust_done _ _ (by simp)

theorem trust_execDeckLoad (t : Thread) (s : State) :
    ∀ u_, execDeckLoad t s = .next u_ → trust u_ = trust s := by
  unfold execDeckLoad; (repeat' split) <;> first | exact trust_done _ _ (by simp) | (intro u h; cases h)

theorem trust_execDeckStore (t : Thread) (s : State) :
    ∀ u_, execDeckStore t s = .next u_ → trust u_ = trust s := by
  unfold execDeckStore; (repeat' split) <;> first | exact trust_done _ _ (by simp) | (intro u h; cases h)

theorem trust_execSwingLoad (t : Thread) (s : State) :
    ∀ u_, execSwingLoad t s = .next u_ → trust u_ = trust s := by
  unfold execSwingLoad; dsimp only; (repeat' split) <;> first | exact trust_done _ _ (by simp) | (intro u h; cases h)

theorem trust_execSendCmd (t : Thread) (s : State) :
    ∀ u_, execSendCmd t s = .next u_ → trust u_ = trust s := by
  unfold execSendCmd; (repeat' split) <;> first | exact trust_done _ _ (by simp) | (intro u h; cases h)

theorem trust_execSignalCmd (t : Thread) (s : State) :
    ∀ u_, execSignalCmd t s = .next u_ → trust u_ = trust s := by
  unfold execSignalCmd; exact trust_done _ _ (by simp)

theorem trust_execWaitCmd (t : Thread) (s : State) :
    ∀ u_, execWaitCmd t s = .next u_ → trust u_ = trust s := by
  unfold execWaitCmd; exact trust_done _ _ (by simp)

theorem trust_execRefreshCmd (t : Thread) (s : State) :
    ∀ u_, execRefreshCmd t s = .next u_ → trust u_ = trust s := by
  unfold execRefreshCmd; exact trust_done _ _ (by simp)

theorem trust_execCollective (t : Thread) (s : State) :
    ∀ u_, execCollective t s = .next u_ → trust u_ = trust s := by
  unfold execCollective; exact trust_done _ _ (by simp)

theorem trust_execModelStage (m : Fin 16) (s : State) :
    ∀ u_, execModelStage m s = .next u_ → trust u_ = trust s := by
  unfold execModelStage; exact trust_done _ _ (by simp)

theorem trust_execModelCommit (m : Fin 16) (s : State) :
    ∀ u_, execModelCommit m s = .next u_ → trust u_ = trust s := by
  unfold execModelCommit; exact trust_done _ _ (by simp)

theorem trust_execModelSwitch (m : Fin 16) (s : State) :
    ∀ u_, execModelSwitch m s = .next u_ → trust u_ = trust s := by
  unfold execModelSwitch; exact trust_done _ _ (by simp)

theorem trust_execModelRetire (m : Fin 16) (s : State) :
    ∀ u_, execModelRetire m s = .next u_ → trust u_ = trust s := by
  unfold execModelRetire; exact trust_done _ _ (by simp)

theorem trust_execModelList (m : Fin 16) (s : State) :
    ∀ u_, execModelList m s = .next u_ → trust u_ = trust s := by
  unfold execModelList; exact trust_done _ _ (by simp)

theorem trust_execSwingRead (m : Fin 16) (s : State) :
    ∀ u_, execSwingRead m s = .next u_ → trust u_ = trust s := by
  unfold execSwingRead; exact trust_done _ _ (by simp)

theorem trust_execKvStatus (m : Fin 16) (s : State) :
    ∀ u_, execKvStatus m s = .next u_ → trust u_ = trust s := by
  unfold execKvStatus; exact trust_done _ _ (by simp)

theorem trust_execKvDump (m : Fin 16) (s : State) :
    ∀ u_, execKvDump m s = .next u_ → trust u_ = trust s := by
  unfold execKvDump; exact trust_done _ _ (by simp)

theorem trust_execKvTrackReset (m : Fin 16) (s : State) :
    ∀ u_, execKvTrackReset m s = .next u_ → trust u_ = trust s := by
  unfold execKvTrackReset; exact trust_done _ _ (by simp)

theorem trust_execPrepareAnswer (d : Fin 76) (busy : BitVec 16) (s : State) :
    ∀ u_, execPrepareAnswer d busy s = .next u_ → trust u_ = trust s := by
  unfold execPrepareAnswer; exact trust_done _ _ (by simp)

theorem trust_execPrepareTimeout (d : Fin 76) (s : State) :
    ∀ u_, execPrepareTimeout d s = .next u_ → trust u_ = trust s := by
  unfold execPrepareTimeout; exact trust_done _ _ (by simp)

theorem trust_execPrepareDelayExpiry (d : Fin 76) (s : State) :
    ∀ u_, execPrepareDelayExpiry d s = .next u_ → trust u_ = trust s := by
  unfold execPrepareDelayExpiry; exact trust_done _ _ (by simp)

theorem trust_execOnDemandWake (d : Fin 76) (requester : BitVec 6) (s : State) :
    ∀ u_, execOnDemandWake d requester s = .next u_ → trust u_ = trust s := by
  unfold execOnDemandWake; exact trust_done _ _ (by simp)

theorem trust_execDomainWakeComplete (d : Fin 76) (s : State) :
    ∀ u_, execDomainWakeComplete d s = .next u_ → trust u_ = trust s := by
  unfold execDomainWakeComplete; exact trust_done _ _ (by simp)

theorem trust_execPwrAccessOff (d : Fin 64) (requester : BitVec 6) (address : BitVec 32) (s : State) :
    ∀ u_, execPwrAccessOff d requester address s = .next u_ → trust u_ = trust s := by
  unfold execPwrAccessOff; exact trust_done _ _ (by simp)

theorem trust_execMc3IdleRetention (s : State) :
    ∀ u_, execMc3IdleRetention s = .next u_ → trust u_ = trust s := by
  unfold execMc3IdleRetention; exact trust_done _ _ (by simp)

theorem trust_execPwrSet (m : Fin 16) (s : State) :
    ∀ u_, execPwrSet m s = .next u_ → trust u_ = trust s := by
  unfold execPwrSet; exact trust_done _ _ (by simp)

theorem trust_execPwrRead (m : Fin 16) (s : State) :
    ∀ u_, execPwrRead m s = .next u_ → trust u_ = trust s := by
  unfold execPwrRead; exact trust_done _ _ (by simp)

theorem trust_execPwrPadRelease (m : Fin 16) (s : State) :
    ∀ u_, execPwrPadRelease m s = .next u_ → trust u_ = trust s := by
  unfold execPwrPadRelease; exact trust_done _ _ (by simp)

theorem trust_execSensorUpdate (temps : List (BitVec 16)) (drawn : List (BitVec 48)) (s : State) :
    ∀ u_, execSensorUpdate temps drawn s = .next u_ → trust u_ = trust s := by
  unfold execSensorUpdate; exact trust_done _ _ (by simp)

theorem trust_execThermTrip (s : State) :
    ∀ u_, execThermTrip s = .next u_ → trust u_ = trust s := by
  unfold execThermTrip; exact trust_done _ _ (by simp)

theorem trust_execStewardConfig (m : Fin 16) (vidMode : Bool) (s : State) :
    ∀ u_, execStewardConfig m vidMode s = .next u_ → trust u_ = trust s := by
  unfold execStewardConfig; exact trust_done _ _ (by simp)

theorem trust_execStewardFix (m : Fin 16) (s : State) :
    ∀ u_, execStewardFix m s = .next u_ → trust u_ = trust s := by
  unfold execStewardFix; exact trust_done _ _ (by simp)

theorem trust_execVddSettled (sense : BitVec 16) (s : State) :
    ∀ u_, execVddSettled sense s = .next u_ → trust u_ = trust s := by
  unfold execVddSettled; exact trust_done _ _ (by simp)

theorem trust_execVrmFault (word : BitVec 16) (s : State) :
    ∀ u_, execVrmFault word s = .next u_ → trust u_ = trust s := by
  unfold execVrmFault; exact trust_done _ _ (by simp)

theorem trust_execRecSegmentWritten (s : State) :
    ∀ u_, execRecSegmentWritten s = .next u_ → trust u_ = trust s := by
  unfold execRecSegmentWritten; exact trust_done _ _ (by simp)

theorem trust_execRecStart (m : Fin 16) (s : State) :
    ∀ u_, execRecStart m s = .next u_ → trust u_ = trust s := by
  unfold execRecStart; exact trust_done _ _ (by simp)

theorem trust_execRecStop (m : Fin 16) (s : State) :
    ∀ u_, execRecStop m s = .next u_ → trust u_ = trust s := by
  unfold execRecStop; exact trust_done _ _ (by simp)

theorem trust_execRecRelease (m : Fin 16) (s : State) :
    ∀ u_, execRecRelease m s = .next u_ → trust u_ = trust s := by
  unfold execRecRelease; exact trust_done _ _ (by simp)

theorem trust_execRecRead (m : Fin 16) (s : State) :
    ∀ u_, execRecRead m s = .next u_ → trust u_ = trust s := by
  unfold execRecRead; exact trust_done _ _ (by simp)

theorem trust_execLotOpen (m : Fin 16) (s : State) :
    ∀ u_, execLotOpen m s = .next u_ → trust u_ = trust s := by
  unfold execLotOpen; exact trust_done _ _ (trust_command _ _ _ _ (fun x y => by simp))

theorem trust_execCheckpoint (m : Fin 16) (s : State) :
    ∀ u_, execCheckpoint m s = .next u_ → trust u_ = trust s := by
  unfold execCheckpoint; exact trust_done _ _ (trust_command _ _ _ _ (fun x y => by simp))

theorem trust_execJobEntryTake (uncorrectable : Bool) (s : State) :
    ∀ u_, execJobEntryTake uncorrectable s = .next u_ → trust u_ = trust s := by
  unfold execJobEntryTake; exact trust_done _ _ (by simp)

theorem trust_execJobDone (j : Nat) (s : State) :
    ∀ u_, execJobDone j s = .next u_ → trust u_ = trust s := by
  unfold execJobDone; exact trust_done _ _ (by simp)

theorem trust_execSecondLookViewGenerate (j : Nat) (s : State) :
    ∀ u_, execSecondLookViewGenerate j s = .next u_ → trust u_ = trust s := by
  unfold execSecondLookViewGenerate; exact trust_done _ _ (by simp)

theorem trust_execCrossingStart (m : Fin 16) (s : State) :
    ∀ u_, execCrossingStart m s = .next u_ → trust u_ = trust s := by
  unfold execCrossingStart; exact trust_done _ _ (by simp)

theorem trust_execLaunchCountReached (s : State) :
    ∀ u_, execLaunchCountReached s = .next u_ → trust u_ = trust s := by
  unfold execLaunchCountReached; exact trust_done _ _ (by simp)

theorem trust_execCrossingStop (m : Fin 16) (s : State) :
    ∀ u_, execCrossingStop m s = .next u_ → trust u_ = trust s := by
  unfold execCrossingStop; exact trust_done _ _ (by simp)

theorem trust_execCrossingStatus (m : Fin 16) (s : State) :
    ∀ u_, execCrossingStatus m s = .next u_ → trust u_ = trust s := by
  unfold execCrossingStatus; exact trust_done _ _ (by simp)

theorem trust_execCrossingBoundary (s : State) :
    ∀ u_, execCrossingBoundary s = .next u_ → trust u_ = trust s := by
  unfold execCrossingBoundary; exact trust_done _ _ (by simp)

theorem trust_execPeriodTick (s : State) :
    ∀ u_, execPeriodTick s = .next u_ → trust u_ = trust s := by
  unfold execPeriodTick; exact trust_done _ _ (by simp)

theorem trust_execBayStart (b : Fin 256) (s : State) :
    ∀ u_, execBayStart b s = .next u_ → trust u_ = trust s := by
  unfold execBayStart; exact trust_done _ _ (by simp)

theorem trust_execTileBoundary (b : Fin 256) (s : State) :
    ∀ u_, execTileBoundary b s = .next u_ → trust u_ = trust s := by
  unfold execTileBoundary; exact trust_done _ _ (by simp)

theorem trust_execOpenBayDeadline (b : Fin 256) (s : State) :
    ∀ u_, execOpenBayDeadline b s = .next u_ → trust u_ = trust s := by
  unfold execOpenBayDeadline; exact trust_done _ _ (by simp)

theorem trust_execBayEnd (b : Fin 256) (steps : BitVec 32) (s : State) :
    ∀ u_, execBayEnd b steps s = .next u_ → trust u_ = trust s := by
  unfold execBayEnd; exact trust_done _ _ (by simp)

theorem trust_execVddTimeout (sense : BitVec 16) (s : State) :
    ∀ u_, execVddTimeout sense s = .next u_ → trust u_ = trust s := by
  unfold execVddTimeout; exact trust_done _ _ (by simp)

theorem trust_execReplayOpen (m : Fin 16) (s : State) :
    ∀ u_, execReplayOpen m s = .next u_ → trust u_ = trust s := by
  unfold execReplayOpen; exact trust_done _ _ (by simp)

theorem trust_execReplayRun (m : Fin 16) (s : State) :
    ∀ u_, execReplayRun m s = .next u_ → trust u_ = trust s := by
  unfold execReplayRun; exact trust_done _ _ (by simp)

theorem trust_execReplayStop (m : Fin 16) (s : State) :
    ∀ u_, execReplayStop m s = .next u_ → trust u_ = trust s := by
  unfold execReplayStop; exact trust_done _ _ (by simp)

theorem trust_execReplayRecord (s : State) :
    ∀ u_, execReplayRecord s = .next u_ → trust u_ = trust s := by
  unfold execReplayRecord; exact trust_done _ _ (by simp)

end Sys2Proof.Machine
end

