-- ==== Sys2Proof/Laws/TrustErrors.lean ====
section
/-! SUPPORT. Sys2Proof/Laws/TrustErrors.lean: what the operations of Errors leave alone.
-/

namespace Sys2Proof.Machine

set_option Elab.async false

@[simp] theorem trust_rollInterval (s : State) :
    trust (rollInterval s) = trust s := by
  unfold rollInterval; simp

@[simp] theorem trust_ceOver (n : Nat) (limit : Nat) (dom : Nat) (arg : Nat) (s : State) :
    trust (ceOver n limit dom arg s) = trust s := by
  unfold ceOver; simp

@[simp] theorem trust_ceChannel (ch : Nat) (s0 : State) :
    trust (ceChannel ch s0) = trust s0 := by
  unfold ceChannel; simp

@[simp] theorem trust_ceSram (i : Nat) (dom : Nat) (s0 : State) :
    trust (ceSram i dom s0) = trust s0 := by
  unfold ceSram; simp

@[simp] theorem trust_ceRateInterval (s : State) :
    trust (ceRateInterval s) = trust s := by
  unfold ceRateInterval; simp

@[simp] theorem trust_countCe (u : SramUnit) (s : State) :
    trust (countCe u s) = trust s := by
  unfold countCe; (repeat' split) <;> simp

@[simp] theorem trust_sramCorrected (u : SramUnit) (s : State) :
    trust (sramCorrected u s) = trust s := by
  unfold sramCorrected; simp

@[simp] theorem trust_noteReload (u : SramUnit) (bank : Nat) (s : State) :
    trust (noteReload u bank s) = trust s := by
  unfold noteReload; (repeat' split) <;> simp

@[simp] theorem trust_sramUe (u : SramUnit) (bank : Nat) (row : Nat) (s : State) :
    trust (sramUe u bank row s) = trust s := by
  unfold sramUe; simp

@[simp] theorem trust_dramCorrected (ch : Nat) (s : State) :
    trust (dramCorrected ch s) = trust s := by
  unfold dramCorrected; simp

@[simp] theorem trust_dramScrub (_ch : Nat) (s : State) :
    trust (dramScrub _ch s) = trust s := by
  unfold dramScrub; simp

@[simp] theorem trust_flagAllEcc (s : State) :
    trust (flagAllEcc s) = trust s := by
  unfold flagAllEcc; simp

@[simp] theorem trust_dramUe (ch : Nat) (off : Nat) (s : State) :
    trust (dramUe ch off s) = trust s := by
  unfold dramUe; simp

@[simp] theorem trust_tollDramUe (c : Nat) (off : Nat) (s : State) :
    trust (tollDramUe c off s) = trust s := by
  unfold tollDramUe; simp

@[simp] theorem trust_refreshForced (ch : Nat) (s : State) :
    trust (refreshForced ch s) = trust s := by
  unfold refreshForced; simp

@[simp] theorem trust_abutOwnFault (region : Nat) (requester : Nat) (s : State) :
    trust (abutOwnFault region requester s) = trust s := by
  unfold abutOwnFault; simp

@[simp] theorem trust_bindUnits (s : State) :
    trust (bindUnits s) = trust s := by
  unfold bindUnits; simp

@[simp] theorem trust_domainOff (d : Nat) (s : State) :
    trust (domainOff d s) = trust s := by
  unfold domainOff; simp

@[simp] theorem trust_removedOff (s : State) :
    trust (removedOff s) = trust s := by
  unfold removedOff; simp

@[simp] theorem trust_testReasons (s : State) :
    trust (testReasons s) = trust s := by
  unfold testReasons; simp

@[simp] theorem trust_selfTest (report : List UnitTest) (s : State) :
    trust (selfTest report s) = trust s := by
  unfold selfTest; simp

@[simp] theorem trust_bodyUnitTest (m : Nat) (report : List UnitTest) (s : State) (p : List Byte) :
    trust (bodyUnitTest m report s p).1 = trust s := by
  unfold bodyUnitTest; (repeat' split) <;> simp

@[simp] theorem trust_clearSramCtrs (s : State) :
    trust (clearSramCtrs s) = trust s := by
  unfold clearSramCtrs; simp

@[simp] theorem trust_bodyUnitMap (s : State) (x1 : List Byte) :
    trust (bodyUnitMap s x1).1 = trust s := by
  unfold bodyUnitMap; simp

@[simp] theorem trust_bodyDramRead (s : State) (x1 : List Byte) :
    trust (bodyDramRead s x1).1 = trust s := by
  unfold bodyDramRead; simp

end Sys2Proof.Machine
end

