-- ==== Sys2Proof/Laws/TrustBoot.lean ====
section
/-! SUPPORT. Sys2Proof/Laws/TrustBoot.lean: what the operations of Boot leave alone.
-/

namespace Sys2Proof.Machine

set_option Elab.async false

@[simp] theorem trust_say (line : String) (bs : List Byte) (s : State) :
    trust (say line bs s) = trust s := by
  unfold say; simp

theorem trust_loadBlocks (a0 : List (List Byte × BitVec 32)) (a1 : List Byte) (a2 : State) :
    trust (loadBlocks a0 a1 a2).2 = trust a2 := by
  induction a0 generalizing a1 a2 with
  | nil => simp [loadBlocks]
  | cons e t ih => unfold loadBlocks; split <;> simp [ih]

@[simp] theorem trust_bodyFwInfo (s : State) (x1 : List Byte) :
    trust (bodyFwInfo s x1).1 = trust s := by
  unfold bodyFwInfo; simp

@[simp] theorem trust_bodyAttest (m : Nat) (signature : List Byte) (s : State) (p : List Byte) :
    trust (bodyAttest m signature s p).1 = trust s := by
  unfold bodyAttest; (repeat' split) <;> simp

end Sys2Proof.Machine
end

