-- ==== Sys2Proof/Laws/TrustGatehouse.lean ====
section
/-! SUPPORT. Sys2Proof/Laws/TrustGatehouse.lean: what the operations of Gatehouse leave alone.
-/

namespace Sys2Proof.Machine

set_option Elab.async false

@[simp] theorem trust_mbxWrite (m : Nat) (o : Nat) (v : Nat) (s : State) :
    trust (mbxWrite m o v s) = trust s := by
  unfold mbxWrite; (repeat' split) <;> simp

@[simp] theorem trust_unmask (v : Nat) (s : State) :
    trust (unmask v s) = trust s := by
  unfold unmask; simp

@[simp] theorem trust_msixWrite (a : Nat) (v : Nat) (s : State) :
    trust (msixWrite a v s) = trust s := by
  unfold msixWrite; simp

@[simp] theorem trust_bar0Word (off : Nat) (v : Nat) (s : State) :
    trust (bar0Word off v s) = trust s := by
  unfold bar0Word; simp

@[simp] theorem trust_bar0Write (off : Nat) (eight : Bool) (v : Nat) (s : State) :
    trust (bar0Write off eight v s) = trust s := by
  unfold bar0Write; simp

@[simp] theorem trust_registerWrite (r : RegName) (v : Nat) (s : State) :
    trust (registerWrite r v s) = trust s := by
  unfold registerWrite; (repeat' split) <;> simp

@[simp] theorem trust_bodyReset (m : Nat) (s : State) (p : List Byte) :
    trust (bodyReset m s p).1 = trust s := by
  unfold bodyReset; (repeat' split) <;> simp

end Sys2Proof.Machine
end

