-- ==== Sys2Proof/Laws/TrustCatwalk.lean ====
section
/-! SUPPORT. Sys2Proof/Laws/TrustCatwalk.lean: what the operations of Catwalk leave alone.
-/

namespace Sys2Proof.Machine

set_option Elab.async false

theorem trust_monitor (level : Nat) (f : State → State) (s : State) (h : ∀ x, trust (f x) = trust x) :
    trust (monitor level f s) = trust s := by
  unfold monitor; (repeat' split) <;> simp [h]

@[simp] theorem trust_help (s : State) :
    trust (help s) = trust s := by
  unfold help; simp

@[simp] theorem trust_info (s : State) :
    trust (info s) = trust s := by
  unfold info; simp

@[simp] theorem trust_statusOf (s : State) :
    trust (statusOf s) = trust s := by
  unfold statusOf; simp

@[simp] theorem trust_logOf (s : State) :
    trust (logOf s) = trust s := by
  unfold logOf; simp

@[simp] theorem trust_memRead_ (a : Nat) (n : Nat) (s : State) :
    trust (memRead_ a n s) = trust s := by
  unfold memRead_; simp

@[simp] theorem trust_memWrite_ (a : Nat) (v : Nat) (s : State) :
    trust (memWrite_ a v s) = trust s := by
  unfold memWrite_; simp

@[simp] theorem trust_catwalkReset (s : State) :
    trust (catwalkReset s) = trust s := by
  unfold catwalkReset; simp

end Sys2Proof.Machine
end

