-- ==== Sys2Proof/Laws/TrustReset.lean ====
section
/-! SUPPORT. Sys2Proof/Laws/TrustReset.lean: what the operations of Reset leave alone.
-/

namespace Sys2Proof.Machine

set_option Elab.async false

@[simp] theorem trust_safeNow (s : State) :
    trust (safeNow s) = trust s := by
  unfold safeNow; simp

@[simp] theorem trust_warmCause (cause : Nat) (at_ : Nat) (s : State) :
    trust (warmCause cause at_ s) = trust s := by
  unfold warmCause; simp

@[simp] theorem trust_warmApproach (s : State) :
    trust (warmApproach s) = trust s := by
  unfold warmApproach; simp

@[simp] theorem trust_warmDeck (s : State) :
    trust (warmDeck s) = trust s := by
  unfold warmDeck; simp

@[simp] theorem trust_warmLinks (s : State) :
    trust (warmLinks s) = trust s := by
  unfold warmLinks; simp

@[simp] theorem trust_warmPower (s : State) :
    trust (warmPower s) = trust s := by
  unfold warmPower; simp

@[simp] theorem trust_warmReasons (s : State) :
    trust (warmReasons s) = trust s := by
  unfold warmReasons; simp

@[simp] theorem trust_refclkLost (s : State) :
    trust (refclkLost s) = trust s := by
  unfold refclkLost; simp

@[simp] theorem trust_watchdogBite (s : State) :
    trust (watchdogBite s) = trust s := by
  unfold watchdogBite; simp

@[simp] theorem trust_wakeNow (src : Nat) (s : State) (d : Nat) :
    trust (wakeNow src s d) = trust s := by
  unfold wakeNow; simp

@[simp] theorem trust_freeSlots (s : State) :
    trust (freeSlots s) = trust s := by
  unfold freeSlots; simp

@[simp] theorem trust_reverify (s : State) :
    trust (reverify s) = trust s := by
  unfold reverify; simp

@[simp] theorem trust_banner (s : State) :
    trust (banner s) = trust s := by
  unfold banner; simp

end Sys2Proof.Machine
end

