-- ==== Sys2Proof/Laws/TrustExecC.lean ====
section
/-! SUPPORT. Sys2Proof/Laws/TrustExecC.lean: commands that leave the trust state and the queue alone.
-/

namespace Sys2Proof.Machine

set_option Elab.async false

theorem trust_execCeRateInterval (s : State) :
    ∀ u_, execCeRateInterval s = .next u_ → trust u_ = trust s := by
  unfold execCeRateInterval; exact trust_done _ _ (by simp)

theorem trust_execSramCorrected (unit : SramUnit) (u1 : Fin 16) (s : State) :
    ∀ u_, execSramCorrected unit u1 s = .next u_ → trust u_ = trust s := by
  unfold execSramCorrected; exact trust_done _ _ (by simp)

theorem trust_execSramUe (unit : SramUnit) (bank : Fin 16) (row : BitVec 16) (s : State) :
    ∀ u_, execSramUe unit bank row s = .next u_ → trust u_ = trust s := by
  unfold execSramUe; exact trust_done _ _ (by simp)

theorem trust_execDramCorrected (ch : Fin 16) (s : State) :
    ∀ u_, execDramCorrected ch s = .next u_ → trust u_ = trust s := by
  unfold execDramCorrected; exact trust_done _ _ (by simp)

theorem trust_execDramScrub (ch : Fin 16) (s : State) :
    ∀ u_, execDramScrub ch s = .next u_ → trust u_ = trust s := by
  unfold execDramScrub; exact trust_done _ _ (by simp)

theorem trust_execDramUe (ch : Fin 12) (off : BitVec 35) (s : State) :
    ∀ u_, execDramUe ch off s = .next u_ → trust u_ = trust s := by
  unfold execDramUe; exact trust_done _ _ (by simp)

theorem trust_execTollDramUe (c : Fin 4) (off : BitVec 35) (s : State) :
    ∀ u_, execTollDramUe c off s = .next u_ → trust u_ = trust s := by
  unfold execTollDramUe; exact trust_done _ _ (by simp)

theorem trust_execRefreshForced (u0 : Fin 12) (s : State) :
    ∀ u_, execRefreshForced u0 s = .next u_ → trust u_ = trust s := by
  unfold execRefreshForced; exact trust_done _ _ (by simp)

theorem trust_execAbutOwnFault (region : Fin 384) (requester : Fin 13) (s : State) :
    ∀ u_, execAbutOwnFault region requester s = .next u_ → trust u_ = trust s := by
  unfold execAbutOwnFault; exact trust_done _ _ (by simp)

theorem trust_execUnitTest (m : Fin 16) (report : List UnitTest) (s : State) :
    ∀ u_, execUnitTest m report s = .next u_ → trust u_ = trust s := by
  unfold execUnitTest; exact trust_done _ _ (by simp)

theorem trust_execUnitMap (m : Fin 16) (s : State) :
    ∀ u_, execUnitMap m s = .next u_ → trust u_ = trust s := by
  unfold execUnitMap; exact trust_done _ _ (by simp)

theorem trust_execDramRead (m : Fin 16) (s : State) :
    ∀ u_, execDramRead m s = .next u_ → trust u_ = trust s := by
  unfold execDramRead; exact trust_done _ _ (by simp)

theorem trust_execFwInfo (m : Fin 16) (s : State) :
    ∀ u_, execFwInfo m s = .next u_ → trust u_ = trust s := by
  unfold execFwInfo; exact trust_done _ _ (by simp)

theorem trust_execAttest (m : Fin 16) (signature : List Byte) (s : State) :
    ∀ u_, execAttest m signature s = .next u_ → trust u_ = trust s := by
  unfold execAttest; exact trust_done _ _ (by simp)

theorem trust_execRegisterWrite (r : RegName) (v : BitVec 64) (s : State) :
    ∀ u_, execRegisterWrite r v s = .next u_ → trust u_ = trust s := by
  unfold execRegisterWrite; exact trust_done _ _ (by simp)

theorem trust_execResetCmd (m : Fin 16) (s : State) :
    ∀ u_, execResetCmd m s = .next u_ → trust u_ = trust s := by
  unfold execResetCmd; exact trust_done _ _ (by simp)

theorem trust_execHelpCmd (s : State) :
    ∀ u_, execHelpCmd s = .next u_ → trust u_ = trust s := by
  unfold execHelpCmd; exact trust_done _ _ (trust_monitor _ _ _ (fun x => by simp))

theorem trust_execInfoCmd (s : State) :
    ∀ u_, execInfoCmd s = .next u_ → trust u_ = trust s := by
  unfold execInfoCmd; refine trust_done _ _ ?_
  split
  · simp
  · exact trust_monitor _ _ _ (fun x => by simp)

theorem trust_execStatusCmd (s : State) :
    ∀ u_, execStatusCmd s = .next u_ → trust u_ = trust s := by
  unfold execStatusCmd; exact trust_done _ _ (trust_monitor _ _ _ (fun x => by simp))

theorem trust_execLogCmd (s : State) :
    ∀ u_, execLogCmd s = .next u_ → trust u_ = trust s := by
  unfold execLogCmd; exact trust_done _ _ (trust_monitor _ _ _ (fun x => by simp))

theorem trust_execMrCmd (addr : BitVec 64) (count : BitVec 13) (s : State) :
    ∀ u_, execMrCmd addr count s = .next u_ → trust u_ = trust s := by
  unfold execMrCmd; exact trust_done _ _ (trust_monitor _ _ _ (fun x => by simp))

theorem trust_execMwCmd (addr : BitVec 64) (v : BitVec 64) (s : State) :
    ∀ u_, execMwCmd addr v s = .next u_ → trust u_ = trust s := by
  unfold execMwCmd; exact trust_done _ _ (trust_monitor _ _ _ (fun x => by simp))

theorem trust_execCatwalkResetWarm (s : State) :
    ∀ u_, execCatwalkResetWarm s = .next u_ → trust u_ = trust s := by
  unfold execCatwalkResetWarm; exact trust_done _ _ (trust_monitor _ _ _ (fun x => by simp))

theorem trust_execRefclkLost (s : State) :
    ∀ u_, execRefclkLost s = .next u_ → trust u_ = trust s := by
  unfold execRefclkLost; exact trust_done _ _ (by simp)

theorem trust_execWatchdogBite (s : State) :
    ∀ u_, execWatchdogBite s = .next u_ → trust u_ = trust s := by
  unfold execWatchdogBite; exact trust_done _ _ (by simp)

end Sys2Proof.Machine
end

