-- ==== Sys2Proof/Laws/Advance.lean ====
section
/-! SUPPORT. Sys2Proof/Laws/Advance.lean: every command keeps the queue and moves OTP, flash and the lifecycle only forward.
-/

namespace Sys2Proof.Machine

set_option Elab.async false

/-- From `s` to `t` the queue is kept, OTP only burns, the lifecycle only advances, and from a sound state flash changes only
in its areas and the state stays sound. -/
def Adv (s t : State) : Prop :=
  t.pending = s.pending ∧ OtpRises s t ∧ lifecycle s ≤ lifecycle t ∧
    (Inv s → Inv t ∧ ∀ a, ¬ flashArea a → flashByte t a = flashByte s a)

theorem adv_of_mem (s t : State) (hp : t.pending = s.pending) (ho : t.sec.otp = s.sec.otp) (hf : t.sec.flash = s.sec.flash) :
    Adv s t := by
  refine ⟨hp, ?_, ?_, fun hi => ⟨?_, ?_⟩⟩
  · intro a i h; unfold otpBit at *; rw [ho]; exact h
  · unfold lifecycle lifecycleCode; rw [ho]
  · unfold Inv lifeLegal lifecycleCode at *; rw [ho, hf]; exact hi
  · intro a _; unfold flashByte; rw [hf]

theorem adv_of_trust (s t : State) (h : trust t = trust s) : Adv s t := by
  have h1 : t.pending = s.pending := congrArg Prod.fst h
  have h2 : t.sec = s.sec := congrArg Prod.snd h
  exact adv_of_mem s t h1 (by rw [h2]) (by rw [h2])

theorem adv_refl (s : State) : Adv s s := adv_of_mem s s rfl rfl rfl

theorem adv_trans {s t u : State} (h : Adv s t) (g : Adv t u) : Adv s u := by
  refine ⟨g.1.trans h.1, fun a i x => g.2.1 a i (h.2.1 a i x), h.2.2.1.trans g.2.2.1, fun hi => ?_⟩
  obtain ⟨i1, f1⟩ := h.2.2.2 hi
  obtain ⟨i2, f2⟩ := g.2.2.2 i1
  exact ⟨i2, fun a ha => (f2 a ha).trans (f1 a ha)⟩

theorem adv_done (f : State → State) (s : State) (h : Adv s (f s)) : ∀ t, done f s = .next t → Adv s t := by
  intro t e; cases e; exact adv_trans h (adv_of_trust _ _ (trust_settle_ _ _))

/-- A step of the trust state after an advance. -/
theorem adv_then {s t u : State} (h : Adv s t) (g : trust u = trust t) : Adv s u := adv_trans h (adv_of_trust _ _ g)

/-! ## Burning -/

/-- An OTP byte after a burn. -/
theorem otpBurn_get (a : Nat) (bs : List Byte) (s : State) (x : Nat) :
    Tab.get 0 (otpBurn a bs s).sec.otp x =
      if a ≤ x ∧ x < a + bs.length then Tab.get 0 s.sec.otp x ||| bs.getD (x - a) 0 else Tab.get 0 s.sec.otp x := by
  unfold otpBurn memWrite
  simp only [memWriteD_get 0 _ a _ x, List.length_zipWith, memRead, memReadD_length, min_self]
  by_cases hx : a ≤ x ∧ x < a + bs.length
  · rw [if_pos hx, if_pos hx]
    have hl : x - a < bs.length := by omega
    have hr := memReadD_getD 0 s.sec.otp a bs.length (x - a) 0 hl
    rw [show a + (x - a) = x by omega] at hr
    rw [← hr]
    simp [List.getD_eq_getElem?_getD, hl]
  · rw [if_neg hx, if_neg hx]

theorem otpBurn_rises (a : Nat) (bs : List Byte) (s : State) : OtpRises s (otpBurn a bs s) := by
  intro x i hb
  unfold otpBit at *
  rw [otpBurn_get a bs s x]; split
  · rw [BitVec.getLsbD_or, hb, Bool.true_or]
  · exact hb

/-- The lifecycle code is read from one byte. -/
theorem lifecycleCode_eq (s : State) : lifecycleCode s = (Tab.get 0 s.sec.otp 0x101).toNat % 8 := by
  simp [lifecycleCode, memVal, memRead, memReadD, leVal]

/-- A burn outside the lifecycle byte. -/
theorem adv_otpBurn (a : Nat) (bs : List Byte) (s : State) (hr : ¬ (a ≤ 0x101 ∧ 0x101 < a + bs.length)) :
    Adv s (otpBurn a bs s) := by
  have hc : lifecycleCode (otpBurn a bs s) = lifecycleCode s := by
    rw [lifecycleCode_eq, lifecycleCode_eq, otpBurn_get, if_neg hr]
  refine ⟨rfl, otpBurn_rises a bs s, ?_, fun hi => ⟨⟨memWrite_wf _ _ _ hi.1, hi.2.1, ?_⟩, fun _ _ => rfl⟩⟩
  · unfold lifecycle; rw [hc]
  · unfold lifeLegal; rw [hc]; exact hi.2.2

/-- The place of a lifecycle code in the order of R511. -/
def lifeRank (c : Nat) : Nat :=
  match c with
  | 0 => 0
  | 1 => 1
  | 3 => 2
  | _ => 3

theorem lifecycle_rank (s : State) : lifecycle s = lifeRank (lifecycleCode s) := rfl

/-- A burn of the lifecycle byte that gives a higher thermometer code. -/
theorem adv_lifeBurn (v c d : Nat) (s : State) (hs : lifecycleCode s = c)
    (hv : ∀ b : BitVec 8, b.toNat % 8 = c → (b ||| BitVec.ofNat 8 v).toNat % 8 = d)
    (hd : d = 0 ∨ d = 1 ∨ d = 3 ∨ d = 7) (hm : lifeRank c ≤ lifeRank d) :
    Adv s (otpBurn 0x101 [BitVec.ofNat 8 v] s) := by
  have hc : lifecycleCode (otpBurn 0x101 [BitVec.ofNat 8 v] s) = d := by
    rw [lifecycleCode_eq, otpBurn_get, if_pos (by simp)]
    rw [lifecycleCode_eq] at hs
    exact hv _ hs
  refine ⟨rfl, otpBurn_rises _ _ s, ?_, fun hi => ⟨⟨memWrite_wf _ _ _ hi.1, hi.2.1, ?_⟩, fun _ _ => rfl⟩⟩
  · rw [lifecycle_rank, lifecycle_rank, hc, hs]; exact hm
  · unfold lifeLegal; rw [hc]; exact hd

theorem life_or (v c d : Nat) (hv : v < 8) (h : (v ||| c) = d) (b : BitVec 8) (hb : b.toNat % 8 = c) :
    (b ||| BitVec.ofNat 8 v).toNat % 8 = d := by
  subst h
  rw [BitVec.toNat_or, BitVec.toNat_ofNat, ← hb]
  have e : ∀ x : Nat, x % 8 = x % 2 ^ 3 := fun _ => rfl
  rw [e, Nat.or_mod_two_pow, e b.toNat, Nat.or_comm]
  congr 1
  have : v % 2 ^ 8 = v := Nat.mod_eq_of_lt (by omega)
  rw [this]; exact Nat.mod_eq_of_lt (by omega)

theorem life_provision (s : State) (h : lifecycle s = 0) : Adv s (otpBurn 0x101 [1] s) := by
  refine adv_lifeBurn 1 0 1 s ?_ (life_or 1 0 1 (by decide) (by decide)) (by decide) (by decide)
  have hl : lifecycleCode s < 8 := Nat.mod_lt _ (by decide)
  unfold lifecycle at h; split at h <;> first | assumption | cases h

theorem life_production (s : State) (h : lifecycle s = 1) : Adv s (otpBurn 0x101 [3] s) := by
  refine adv_lifeBurn 3 1 3 s ?_ (life_or 3 1 3 (by decide) (by decide)) (by decide) (by decide)
  unfold lifecycle at h; split at h <;> first | assumption | cases h

theorem life_returned (s : State) (h : lifecycle s = 1 ∨ lifecycle s = 2) : Adv s (otpBurn 0x101 [7] s) := by
  have hc : lifecycleCode s = 1 ∨ lifecycleCode s = 3 := by
    unfold lifecycle at h; split at h <;> simp_all
  obtain hc | hc := hc
  · exact adv_lifeBurn 7 1 7 s hc (life_or 7 1 7 (by decide) (by decide)) (by decide) (by decide)
  · exact adv_lifeBurn 7 3 7 s hc (life_or 7 3 7 (by decide) (by decide)) (by decide) (by decide)

/-! ## Flash -/

theorem adv_flashErase (a n : Nat) (s : State) (h : ∀ x, a ≤ x → x < a + n → flashArea x) : Adv s (flashErase a n s) := by
  refine ⟨rfl, fun _ _ h => h, le_rfl, fun hi => ⟨⟨hi.1, memClear_wf _ _ _ _ hi.2.1, hi.2.2⟩, fun x hx => ?_⟩⟩
  unfold flashByte flashErase
  rw [memClear_get _ _ _ _ _ hi.2.1, if_neg (fun g => hx (h x g.1 g.2))]

theorem adv_flashProgram (a : Nat) (bs : List Byte) (s : State) (h : ∀ x, a ≤ x → x < a + bs.length → flashArea x) :
    Adv s (flashProgram a bs s) := by
  refine ⟨rfl, fun _ _ h => h, le_rfl, fun hi => ⟨⟨hi.1, memWriteD_wf _ _ _ _ hi.2.1, hi.2.2⟩, fun x hx => ?_⟩⟩
  unfold flashByte flashProgram
  rw [memWriteD_get, if_neg]
  intro g; refine hx (h x g.1 ?_)
  have := g.2; simp only [List.length_zipWith] at this; omega

end Sys2Proof.Machine
end

