-- ==== Sys2Proof/Laws/AdvanceBoot.lean ====
section
/-! SUPPORT. Sys2Proof/Laws/AdvanceBoot.lean: boot, firmware update, the monitor and the resets move the trust state only forward.
-/

namespace Sys2Proof.Machine

set_option Elab.async false

/-! ## Lengths -/

@[simp] theorem leBytes_length (n v : Nat) : (leBytes n v).length = n := by
  induction n generalizing v with
  | zero => rfl
  | succ n ih => simp [leBytes, ih]

@[simp] theorem beBytes_length (n v : Nat) : (beBytes n v).length = n := by simp [beBytes]

@[simp] theorem sha256_length (m : List Byte) : (sha256 m).length = 32 := by simp [sha256]

theorem slice_length_le (b : List Byte) (o n : Nat) : (slice b o n).length ≤ n := by
  unfold slice; rw [List.length_take]; exact min_le_left _ _

theorem commitBytes_length (slot seq : Nat) (b : List Byte) : (commitBytes slot seq b).length ≤ 256 := by
  have := slice_length_le b 6 2
  unfold commitBytes zeros
  simp only [List.length_append, leBytes_length, sha256_length, List.length_replicate]
  omega

/-! ## Boot ROM and firmware slots -/

theorem adv_bootRom (s : State) : Adv s (bootRom s) := by
  unfold bootRom; dsimp only; split <;> exact adv_of_mem _ _ rfl rfl rfl

theorem adv_resetNRelease (s : State) : Adv s (resetNRelease s) := by
  unfold resetNRelease; split
  · exact adv_bootRom s
  · exact adv_refl s

theorem adv_writeSlot (slot : Nat) (b : List Byte) (s : State) (hs : slot ≤ 1) (hb : b.length ≤ fwMax) :
    Adv s (writeSlot slot b s) := by
  unfold writeSlot
  unfold fwMax at *
  refine adv_trans (adv_trans (adv_flashErase _ _ s ?_) (adv_flashErase _ _ _ ?_)) (adv_flashProgram _ _ _ ?_) <;>
    (intro x h1 h2; simp only [flashArea, commitAddr, slotAddr] at *; omega)

theorem adv_commitProgram (slot seq : Nat) (b : List Byte) (s : State) (hs : slot ≤ 1) :
    Adv s (flashProgram (commitAddr slot) (commitBytes slot seq b) s) := by
  have := commitBytes_length slot seq b
  refine adv_flashProgram _ _ _ ?_
  intro x h1 h2; unfold flashArea; unfold commitAddr at *; omega

theorem fwRefusal_none (s : State) (b : List Byte) (h : fwRefusal s b = none) : b.length ≤ fwMax := by
  unfold fwRefusal at h; by_contra hc; rw [if_pos (by omega)] at h; cases h

theorem adv_loaded {s : State} (u : State) (f : Firmware) (h : Adv s u) :
    Adv s { u with sec := { u.sec with boot := .loaded, fw := f, bootFlags := u.sec.bootFlags ||| 1 } } :=
  adv_trans h (adv_of_mem _ _ rfl rfl rfl)

theorem adv_romLoad (blocks : List (List Byte × BitVec 32)) (s : State) : Adv s (romLoad blocks s) := by
  have hl := trust_loadBlocks blocks [] s
  unfold romLoad; split
  · exact adv_refl s
  · split
    · rename_i h; rw [h] at hl; exact adv_of_trust _ _ hl
    · rename_i h; rw [h] at hl
      dsimp only; split
      · exact adv_of_trust _ _ (by simpa using hl)
      · rename_i hf
        exact adv_loaded _ _ (adv_trans (adv_trans (adv_of_trust _ _ hl) (adv_writeSlot 0 _ _ (by decide) (fwRefusal_none _ _ hf)))
          (adv_commitProgram 0 1 _ _ (by decide)))

/-! ## FW_UPDATE -/

theorem adv_command (m : Nat) (c : Spec) (body : State → List Byte → State × Option Reply) (s : State)
    (h : ∀ x y, Adv x (body x y).1) : Adv s (command m c body s) := by
  have ht : trust (takeReq s) = trust s := by simp
  unfold command; split
  · exact adv_refl s
  · dsimp only; split
    · exact adv_of_trust _ _ (by simp)
    · split
      · exact adv_then (adv_trans (adv_of_trust _ _ ht) (h _ (reqPayload (takeReq s) _))) (by simp; rfl)
      · exact adv_trans (adv_of_trust _ _ ht) (h _ _)

theorem adv_bodyFwUpdate (m : Nat) (e : Option (BitVec 24)) (s : State) (p : List Byte) : Adv s (bodyFwUpdate m e s p).1 := by
  have ht : targetSlot s ≤ 1 := by unfold targetSlot; omega
  unfold bodyFwUpdate; dsimp only; split
  · exact adv_of_trust _ _ (by simp)
  · split
    · exact adv_of_trust _ _ (by simp)
    · rename_i hf
      have hb := fwRefusal_none _ _ hf
      split
      · rename_i a
        refine adv_then (adv_writeSlot (targetSlot s)
          ((tollRead s (fld p 0 8) (fld p 8 4)).take (a.toNat - slotAddr (targetSlot s))) s ht (le_trans ?_ hb)) (by simp)
        rw [List.length_take]; exact min_le_right _ _
      · exact adv_then (adv_writeSlot (targetSlot s) _ s ht hb) (by simp)

theorem adv_commitFw (m : Nat) (s : State) : Adv s (commitFw m s) := by
  unfold commitFw; split
  · exact adv_refl s
  · split
    · exact adv_commitProgram _ _ _ _ (by omega)
    · exact adv_refl s

theorem adv_commandComplete (m : Nat) (s : State) : Adv s (commandComplete m s) := by
  unfold commandComplete; exact adv_then (adv_commitFw m s) (by simp)

/-! ## The monitor -/

theorem adv_monitor (level : Nat) (f : State → State) (s : State) (h : Adv s (f s)) : Adv s (monitor level f s) := by
  unfold monitor; (repeat' split) <;> first | exact adv_refl s | exact h

theorem adv_say {s t : State} (line : String) (bs : List Byte) (h : Adv s t) : Adv s (say line bs t) := adv_then h (by simp)

theorem adv_baudSet (rate : Nat) (s : State) : Adv s (baudSet rate s) := by
  unfold baudSet; split
  · exact adv_trans (adv_say "OK" [] (adv_refl s)) (adv_of_mem _ _ rfl rfl rfl)
  · exact adv_say _ _ (adv_refl s)

theorem adv_challenge (r : List Byte) (s : State) : Adv s (challenge r s) := by
  unfold challenge; split
  · exact adv_say _ _ (adv_refl s)
  · exact adv_say _ _ (adv_of_mem _ _ rfl rfl rfl)

theorem adv_unlock (l : Nat) (a : List Byte) (s : State) : Adv s (unlock l a s) := by
  unfold unlock; (repeat' split) <;> exact adv_say _ _ (adv_of_mem _ _ rfl rfl rfl)

theorem adv_lockoutExpiry (s : State) : Adv s (lockoutExpiry s) := by
  unfold lockoutExpiry; split
  · exact adv_refl s
  · exact adv_of_mem _ _ rfl rfl rfl

theorem adv_lock (s : State) : Adv s (lock s) := adv_say _ _ (adv_of_mem _ _ rfl rfl rfl)

theorem adv_confirmed (c : List Byte) (f : State → State) (s : State) (h : Adv s (f s)) : Adv s (confirmed c f s) := by
  unfold confirmed; split
  · exact h
  · exact adv_say _ _ (adv_refl s)

theorem adv_provision (slot : Nat) (hash : List Byte) (s : State) (hs : slot < 4) : Adv s (provision slot hash s) := by
  unfold provision; split
  · exact adv_say _ _ (adv_refl s)
  · rename_i hl
    split
    · exact adv_say _ _ (adv_refl s)
    · refine adv_say _ _ ?_
      have h1 : Adv s (otpBurn (0x80 + 32 * slot) hash s) := adv_otpBurn _ _ _ (by omega)
      unfold when_; split
      · rename_i h0
        refine adv_trans h1 (life_provision _ ?_)
        rw [lifecycle_rank, lifecycleCode_eq, otpBurn_get, if_neg (by omega), ← lifecycleCode_eq, ← lifecycle_rank]
        simpa using h0
      · exact h1

theorem adv_revoke (slot : Nat) (s : State) : Adv s (revoke slot s) := by
  unfold revoke; split
  · exact adv_say _ _ (adv_refl s)
  · exact adv_say _ _ (adv_otpBurn _ _ _ (by simp))

theorem adv_toProduction (s : State) : Adv s (toProduction s) := by
  unfold toProduction; split
  · exact adv_say _ _ (adv_refl s)
  · rename_i h
    have h1 : lifecycle s = 1 := by by_contra hc; exact h (.inl hc)
    exact adv_say _ _ (adv_trans (life_production s h1) (adv_of_mem _ _ rfl rfl rfl))

theorem adv_toReturned (s : State) : Adv s (toReturned s) := by
  unfold toReturned; split
  · exact adv_say _ _ (adv_refl s)
  · rename_i h
    exact adv_say _ _ (life_returned s (by omega))

/-! ## Resets -/

theorem adv_coldReset (cause : Nat) (s : State) : Adv s (coldReset cause s) := adv_of_mem _ _ rfl rfl rfl

theorem adv_innerCold (cause : Nat) (s : State) : Adv s (innerCold cause s) := adv_trans (adv_coldReset cause s) (adv_bootRom _)

theorem adv_writeLw (body : List Byte) (s : State) : Adv s (writeLw body s) := by
  unfold writeLw
  refine adv_flashProgram _ _ _ ?_
  intro x h1 h2
  rw [List.length_take] at h2
  have := min_le_left 4096 (lwRecord (nextLwSeq s) body).length
  unfold flashArea; omega

theorem adv_warmHost (s : State) : Adv s (warmHost s) := adv_of_mem _ _ rfl rfl rfl

theorem adv_warmBody (cause at_ : Nat) (s : State) : Adv s (warmBody cause at_ s) := by
  unfold warmBody
  refine adv_trans ?_ (adv_bootRom _)
  refine adv_then (adv_trans (adv_of_trust s (warmDeck (warmApproach (sawLevels s))) (by simp)) (adv_warmHost _)) ?_
  simp

theorem adv_warmReset (s : State) : Adv s (warmReset s) := by
  unfold warmReset; split
  · exact adv_refl s
  · split
    · exact adv_refl s
    · exact adv_trans (adv_of_trust _ _ (trust_warmCause _ _ _)) (adv_warmBody _ _ _)

theorem adv_escalate (s : State) : Adv s (escalate s) := by
  unfold escalate; split
  · exact adv_innerCold _ _
  · exact adv_refl s

theorem adv_pfailFall (s : State) : Adv s (pfailFall s) := by
  unfold pfailFall; split
  · exact adv_refl s
  · dsimp only; split
    · exact adv_trans (adv_of_trust _ _ (by simp)) (adv_writeLw _ _)
    · exact adv_of_trust _ _ (by simp)

theorem adv_pfailReturn (s : State) : Adv s (pfailReturn s) := by
  unfold pfailReturn; split
  · exact adv_innerCold _ _
  · exact adv_refl s

theorem adv_trained {s : State} (u : State) (d : Bool) (f : FieldCtl) (h : Adv s u) :
    Adv s { u with sec := { u.sec with dramReady := !d, dramFail := d }, field := f } :=
  adv_trans h (adv_of_mem _ _ rfl rfl rfl)

theorem adv_boot (s : State) (b : BootSt) : Adv s { s with sec := { s.sec with boot := b } } := adv_of_mem _ _ rfl rfl rfl

theorem adv_coldStart (r : List UnitTest) (d : Bool) (s : State) : Adv s (coldStart r d s) := by
  unfold coldStart
  exact adv_trained _ _ _ (adv_of_trust _ _ (by simp))

theorem adv_warmStart (s : State) : Adv s (warmStart s) := by
  unfold warmStart; dsimp only; split
  · rename_i b _
    exact adv_then (adv_trans (adv_of_trust s { s with rst := { s.rst with lw := none } } rfl) (adv_writeLw b _)) (by simp)
  · exact adv_of_trust _ _ (by simp)

theorem adv_firmwareStart (r : List UnitTest) (d : Bool) (s : State) : Adv s (firmwareStart r d s) := by
  have h (f : State → State) (hf : ∀ x, Adv x (f x)) : Adv s (f { s with sec := { s.sec with boot := .firmware } }) :=
    adv_trans (adv_boot s _) (hf _)
  unfold firmwareStart; split
  · exact adv_refl s
  · dsimp only; split
    · exact adv_then (h _ adv_warmStart) (by simp)
    · exact adv_then (h _ (adv_coldStart r d)) (by simp)

theorem adv_raiseAr (s : State) : Adv s (raiseAr s) := by
  unfold raiseAr; dsimp only; split
  · exact adv_refl s
  · exact adv_then (adv_otpBurn 0x108 _ s (by omega)) (by simp; rfl)

theorem adv_foldl {α : Type} (f : State → α → State) (h : ∀ a x, Adv a (f a x)) (l : List α) (s : State) : Adv s (l.foldl f s) := by
  induction l generalizing s with
  | nil => exact adv_refl s
  | cons x t ih => exact adv_trans (h s x) (ih _)

theorem adv_revokeVendor (s : State) : Adv s (revokeVendor s) := by
  unfold revokeVendor
  refine adv_foldl _ (fun a i => ?_) _ _
  split
  · exact adv_otpBurn _ _ _ (by simp)
  · exact adv_refl a

theorem adv_eraseLw (s : State) : Adv s (eraseLw s) := by
  unfold eraseLw
  refine adv_flashErase _ _ _ ?_
  intro x h1 h2; unfold flashArea; omega

theorem adv_fwReadyNow (s : State) : Adv s (fwReadyNow s) := by
  unfold fwReadyNow; split
  · exact adv_refl s
  · dsimp only
    have h : Adv s (eraseLw (revokeVendor (raiseAr { s with sec := { s.sec with boot := .ready } }))) :=
      adv_trans (adv_trans (adv_trans (adv_boot s .ready) (adv_raiseAr _)) (adv_revokeVendor _)) (adv_eraseLw _)
    split <;> exact adv_then h (by simp)

end Sys2Proof.Machine
end

