-- ==== Sys2Proof/Laws/AdvanceStep.lean ====
section
/-! SUPPORT. Sys2Proof/Laws/AdvanceStep.lean: every command and every step moves the trust state only forward, and no command
touches the queue.
-/

namespace Sys2Proof.Machine

set_option Elab.async false

theorem adv_doneCold (f : State → State) (s : State) (h : Adv s (f s)) : ∀ t, doneCold f s = .next t → Adv s t := by
  intro t e; cases e; exact h

theorem adv_baud (rate : BitVec 32) (s : State) : ∀ t, execBaud rate s = .next t → Adv s t := by
  unfold execBaud
  refine adv_done _ _ ?_
  split
  · exact adv_baudSet _ _
  · exact adv_monitor _ _ _ (adv_baudSet _ _)

/-- What a command does to the queue, OTP, flash and the lifecycle. -/
theorem exec_adv (c : Instr) (s u_ : State) (h : exec c s = .next u_) : Adv s u_ := by
  cases c with
  | registerWrite r v => exact adv_of_trust _ _ (trust_execRegisterWrite r v s u_ h)
  | hello m => exact adv_of_trust _ _ (trust_execHello m s u_ h)
  | goodbye m => exact adv_of_trust _ _ (trust_execGoodbye m s u_ h)
  | getCaps m => exact adv_of_trust _ _ (trust_execGetCaps m s u_ h)
  | timebaseSwitch m hz => exact adv_of_trust _ _ (trust_execTimebaseSwitch m hz s u_ h)
  | timeRead m => exact adv_of_trust _ _ (trust_execTimeRead m s u_ h)
  | wcIncSet m => exact adv_of_trust _ _ (trust_execWcIncSet m s u_ h)
  | wcStep m => exact adv_of_trust _ _ (trust_execWcStep m s u_ h)
  | wcSet m => exact adv_of_trust _ _ (trust_execWcSet m s u_ h)
  | ksConfig m => exact adv_of_trust _ _ (trust_execKsConfig m s u_ h)
  | keystoneLaunch m => exact adv_of_trust _ _ (trust_execKeystoneLaunch m s u_ h)
  | ksRead m => exact adv_of_trust _ _ (trust_execKsRead m s u_ h)
  | camConfig m => exact adv_of_trust _ _ (trust_execCamConfig m s u_ h)
  | camDiscover m offer => exact adv_of_trust _ _ (trust_execCamDiscover m offer s u_ h)
  | camCtrl m ack data => exact adv_of_trust _ _ (trust_execCamCtrl m ack data s u_ h)
  | camCtrlTimeout m => exact adv_of_trust _ _ (trust_execCamCtrlTimeout m s u_ h)
  | camPower m => exact adv_of_trust _ _ (trust_execCamPower m s u_ h)
  | camRead m => exact adv_of_trust _ _ (trust_execCamRead m s u_ h)
  | apConfig m => exact adv_of_trust _ _ (trust_execApConfig m s u_ h)
  | apTable m => exact adv_of_trust _ _ (trust_execApTable m s u_ h)
  | rmpConfig m => exact adv_of_trust _ _ (trust_execRmpConfig m s u_ h)
  | rmpRead m => exact adv_of_trust _ _ (trust_execRmpRead m s u_ h)
  | puConfig m => exact adv_of_trust _ _ (trust_execPuConfig m s u_ h)
  | puRefArm m => exact adv_of_trust _ _ (trust_execPuRefArm m s u_ h)
  | puLatch m => exact adv_of_trust _ _ (trust_execPuLatch m s u_ h)
  | puRead m => exact adv_of_trust _ _ (trust_execPuRead m s u_ h)
  | ltConfig m => exact adv_of_trust _ _ (trust_execLtConfig m s u_ h)
  | ltArm m => exact adv_of_trust _ _ (trust_execLtArm m s u_ h)
  | puClear m => exact adv_of_trust _ _ (trust_execPuClear m s u_ h)
  | fioConfig m => exact adv_of_trust _ _ (trust_execFioConfig m s u_ h)
  | fioSet m => exact adv_of_trust _ _ (trust_execFioSet m s u_ h)
  | fioRelease m => exact adv_of_trust _ _ (trust_execFioRelease m s u_ h)
  | fioRead m => exact adv_of_trust _ _ (trust_execFioRead m s u_ h)
  | fioClear m => exact adv_of_trust _ _ (trust_execFioClear m s u_ h)
  | trigConfig m => exact adv_of_trust _ _ (trust_execTrigConfig m s u_ h)
  | trigSet m => exact adv_of_trust _ _ (trust_execTrigSet m s u_ h)
  | vpSet m => exact adv_of_trust _ _ (trust_execVpSet m s u_ h)
  | vpRead m => exact adv_of_trust _ _ (trust_execVpRead m s u_ h)
  | seqSet m => exact adv_of_trust _ _ (trust_execSeqSet m s u_ h)
  | modelStage m => exact adv_of_trust _ _ (trust_execModelStage m s u_ h)
  | modelCommit m => exact adv_of_trust _ _ (trust_execModelCommit m s u_ h)
  | modelSwitch m => exact adv_of_trust _ _ (trust_execModelSwitch m s u_ h)
  | modelRetire m => exact adv_of_trust _ _ (trust_execModelRetire m s u_ h)
  | modelList m => exact adv_of_trust _ _ (trust_execModelList m s u_ h)
  | swingRead m => exact adv_of_trust _ _ (trust_execSwingRead m s u_ h)
  | crossingStart m => exact adv_of_trust _ _ (trust_execCrossingStart m s u_ h)
  | crossingStop m => exact adv_of_trust _ _ (trust_execCrossingStop m s u_ h)
  | crossingStatus m => exact adv_of_trust _ _ (trust_execCrossingStatus m s u_ h)
  | memAlloc m => exact adv_of_trust _ _ (trust_execMemAlloc m s u_ h)
  | memFree m => exact adv_of_trust _ _ (trust_execMemFree m s u_ h)
  | queueCreate m => exact adv_of_trust _ _ (trust_execQueueCreate m s u_ h)
  | queueDestroy m => exact adv_of_trust _ _ (trust_execQueueDestroy m s u_ h)
  | queueRead m => exact adv_of_trust _ _ (trust_execQueueRead m s u_ h)
  | queueAttach m => exact adv_of_trust _ _ (trust_execQueueAttach m s u_ h)
  | tollConfig m => exact adv_of_trust _ _ (trust_execTollConfig m s u_ h)
  | tollRead m => exact adv_of_trust _ _ (trust_execTollRead m s u_ h)
  | recStart m => exact adv_of_trust _ _ (trust_execRecStart m s u_ h)
  | recStop m => exact adv_of_trust _ _ (trust_execRecStop m s u_ h)
  | recRelease m => exact adv_of_trust _ _ (trust_execRecRelease m s u_ h)
  | recRead m => exact adv_of_trust _ _ (trust_execRecRead m s u_ h)
  | lotOpen m => exact adv_of_trust _ _ (trust_execLotOpen m s u_ h)
  | checkpoint m => exact adv_of_trust _ _ (trust_execCheckpoint m s u_ h)
  | replayOpen m => exact adv_of_trust _ _ (trust_execReplayOpen m s u_ h)
  | replayRun m => exact adv_of_trust _ _ (trust_execReplayRun m s u_ h)
  | replayStop m => exact adv_of_trust _ _ (trust_execReplayStop m s u_ h)
  | spanConfig m => exact adv_of_trust _ _ (trust_execSpanConfig m s u_ h)
  | spanRoute m => exact adv_of_trust _ _ (trust_execSpanRoute m s u_ h)
  | spanRetrain m => exact adv_of_trust _ _ (trust_execSpanRetrain m s u_ h)
  | laneTest m => exact adv_of_trust _ _ (trust_execLaneTest m s u_ h)
  | spanRead m => exact adv_of_trust _ _ (trust_execSpanRead m s u_ h)
  | spanWindow m => exact adv_of_trust _ _ (trust_execSpanWindow m s u_ h)
  | spanCopy m => exact adv_of_trust _ _ (trust_execSpanCopy m s u_ h)
  | stewardConfig m vidMode => exact adv_of_trust _ _ (trust_execStewardConfig m vidMode s u_ h)
  | stewardFix m => exact adv_of_trust _ _ (trust_execStewardFix m s u_ h)
  | pwrSet m => exact adv_of_trust _ _ (trust_execPwrSet m s u_ h)
  | pwrRead m => exact adv_of_trust _ _ (trust_execPwrRead m s u_ h)
  | pwrPadRelease m => exact adv_of_trust _ _ (trust_execPwrPadRelease m s u_ h)
  | fwUpdate m flashError => exact adv_done _ _ (adv_command _ _ _ _ (fun x y => adv_bodyFwUpdate _ _ x y)) u_ h
  | fwInfo m => exact adv_of_trust _ _ (trust_execFwInfo m s u_ h)
  | attest m signature => exact adv_of_trust _ _ (trust_execAttest m signature s u_ h)
  | unitTest m report => exact adv_of_trust _ _ (trust_execUnitTest m report s u_ h)
  | unitMap m => exact adv_of_trust _ _ (trust_execUnitMap m s u_ h)
  | slotRead m => exact adv_of_trust _ _ (trust_execSlotRead m s u_ h)
  | kvStatus m => exact adv_of_trust _ _ (trust_execKvStatus m s u_ h)
  | kvDump m => exact adv_of_trust _ _ (trust_execKvDump m s u_ h)
  | kvTrackReset m => exact adv_of_trust _ _ (trust_execKvTrackReset m s u_ h)
  | dramRead m => exact adv_of_trust _ _ (trust_execDramRead m s u_ h)
  | resetCmd m => exact adv_of_trust _ _ (trust_execResetCmd m s u_ h)
  | commandComplete m => exact adv_done _ _ (adv_commandComplete _ _) u_ h
  | queueDoorbellPtr q p => exact adv_of_trust _ _ (trust_execQueueDoorbellPtr q p s u_ h)
  | queueDoorbellArm q => exact adv_of_trust _ _ (trust_execQueueDoorbellArm q s u_ h)
  | queueDoorbellClearQerr q => exact adv_of_trust _ _ (trust_execQueueDoorbellClearQerr q s u_ h)
  | bar2Access off acc => exact adv_of_trust _ _ (trust_execBar2Access off acc s u_ h)
  | poisonedTlp nonPosted => exact adv_of_trust _ _ (trust_execPoisonedTlp nonPosted s u_ h)
  | perstN => exact adv_of_trust _ _ (trust_execPerstN s u_ h)
  | hotReset => exact adv_of_trust _ _ (trust_execHotReset s u_ h)
  | pcieLinkLoss => exact adv_of_trust _ _ (trust_execPcieLinkLoss s u_ h)
  | queueAccessFail q => exact adv_of_trust _ _ (trust_execQueueAccessFail q s u_ h)
  | queueProduce => exact adv_of_trust _ _ (trust_execQueueProduce s u_ h)
  | queueHoldoffExpiry q => exact adv_of_trust _ _ (trust_execQueueHoldoffExpiry q s u_ h)
  | jobEntryTake uncorrectable => exact adv_of_trust _ _ (trust_execJobEntryTake uncorrectable s u_ h)
  | jobDone j => exact adv_of_trust _ _ (trust_execJobDone j s u_ h)
  | tollArbitration c req lines => exact adv_of_trust _ _ (trust_execTollArbitration c req lines s u_ h)
  | encoderTransition p change => exact adv_of_trust _ _ (trust_execEncoderTransition p change s u_ h)
  | zEdge p => exact adv_of_trust _ _ (trust_execZEdge p s u_ h)
  | pulseEndUs => exact adv_of_trust _ _ (trust_execPulseEndUs s u_ h)
  | observerTick p => exact adv_of_trust _ _ (trust_execObserverTick p s u_ h)
  | motionStop p => exact adv_of_trust _ _ (trust_execMotionStop p s u_ h)
  | encWireFault p input good => exact adv_of_trust _ _ (trust_execEncWireFault p input good s u_ h)
  | lineComplete p line => exact adv_of_trust _ _ (trust_execLineComplete p line s u_ h)
  | triggerEntryExpiry p => exact adv_of_trust _ _ (trust_execTriggerEntryExpiry p s u_ h)
  | foreignStreamPacket p => exact adv_of_trust _ _ (trust_execForeignStreamPacket p s u_ h)
  | heartbeatPacket p => exact adv_of_trust _ _ (trust_execHeartbeatPacket p s u_ h)
  | camEvent p packet => exact adv_of_trust _ _ (trust_execCamEvent p packet s u_ h)
  | cxpLinkDown p conn => exact adv_of_trust _ _ (trust_execCxpLinkDown p conn s u_ h)
  | cxpLinkUp p conn => exact adv_of_trust _ _ (trust_execCxpLinkUp p conn s u_ h)
  | pocxpFault conn => exact adv_of_trust _ _ (trust_execPocxpFault conn s u_ h)
  | owedLostLineWrite p => exact adv_of_trust _ _ (trust_execOwedLostLineWrite p s u_ h)
  | passStart p => exact adv_of_trust _ _ (trust_execPassStart p s u_ h)
  | sampleWrite p => exact adv_of_trust _ _ (trust_execSampleWrite p s u_ h)
  | bandComplete p band => exact adv_of_trust _ _ (trust_execBandComplete p band s u_ h)
  | secondLookViewGenerate j => exact adv_of_trust _ _ (trust_execSecondLookViewGenerate j s u_ h)
  | slotCommit => exact adv_of_trust _ _ (trust_execSlotCommit s u_ h)
  | recordPost => exact adv_of_trust _ _ (trust_execRecordPost s u_ h)
  | lateRecordPost => exact adv_of_trust _ _ (trust_execLateRecordPost s u_ h)
  | periodTick => exact adv_of_trust _ _ (trust_execPeriodTick s u_ h)
  | launchCountReached => exact adv_of_trust _ _ (trust_execLaunchCountReached s u_ h)
  | crossingBoundary => exact adv_of_trust _ _ (trust_execCrossingBoundary s u_ h)
  | bayStart b => exact adv_of_trust _ _ (trust_execBayStart b s u_ h)
  | bayEnd b steps => exact adv_of_trust _ _ (trust_execBayEnd b steps s u_ h)
  | openBayDeadline b => exact adv_of_trust _ _ (trust_execOpenBayDeadline b s u_ h)
  | tileBoundary b => exact adv_of_trust _ _ (trust_execTileBoundary b s u_ h)
  | deckOp t => exact adv_of_trust _ _ (trust_execDeckOp t s u_ h)
  | deckLoad t => exact adv_of_trust _ _ (trust_execDeckLoad t s u_ h)
  | deckStore t => exact adv_of_trust _ _ (trust_execDeckStore t s u_ h)
  | swingLoad t => exact adv_of_trust _ _ (trust_execSwingLoad t s u_ h)
  | sendCmd t => exact adv_of_trust _ _ (trust_execSendCmd t s u_ h)
  | signalCmd t => exact adv_of_trust _ _ (trust_execSignalCmd t s u_ h)
  | collective t => exact adv_of_trust _ _ (trust_execCollective t s u_ h)
  | waitCmd t => exact adv_of_trust _ _ (trust_execWaitCmd t s u_ h)
  | refreshCmd t => exact adv_of_trust _ _ (trust_execRefreshCmd t s u_ h)
  | sramCorrected unit bank => exact adv_of_trust _ _ (trust_execSramCorrected unit bank s u_ h)
  | sramUe unit bank row => exact adv_of_trust _ _ (trust_execSramUe unit bank row s u_ h)
  | dramCorrected ch => exact adv_of_trust _ _ (trust_execDramCorrected ch s u_ h)
  | dramUe ch off => exact adv_of_trust _ _ (trust_execDramUe ch off s u_ h)
  | tollDramUe c off => exact adv_of_trust _ _ (trust_execTollDramUe c off s u_ h)
  | dramScrub ch => exact adv_of_trust _ _ (trust_execDramScrub ch s u_ h)
  | refreshForced ch => exact adv_of_trust _ _ (trust_execRefreshForced ch s u_ h)
  | abutOwnFault region requester => exact adv_of_trust _ _ (trust_execAbutOwnFault region requester s u_ h)
  | ceRateInterval => exact adv_of_trust _ _ (trust_execCeRateInterval s u_ h)
  | recSegmentWritten => exact adv_of_trust _ _ (trust_execRecSegmentWritten s u_ h)
  | spanWidthChosen p good partner => exact adv_of_trust _ _ (trust_execSpanWidthChosen p good partner s u_ h)
  | spanCaps p caps => exact adv_of_trust _ _ (trust_execSpanCaps p caps s u_ h)
  | spanTrainTimeout p => exact adv_of_trust _ _ (trust_execSpanTrainTimeout p s u_ h)
  | spanLockLoss p lanes => exact adv_of_trust _ _ (trust_execSpanLockLoss p lanes s u_ h)
  | spanFrameReceive p frame => exact adv_of_trust _ _ (trust_execSpanFrameReceive p frame s u_ h)
  | spanReplayTimeout p => exact adv_of_trust _ _ (trust_execSpanReplayTimeout p s u_ h)
  | spanAckTimer p => exact adv_of_trust _ _ (trust_execSpanAckTimer p s u_ h)
  | writeMessage p => exact adv_of_trust _ _ (trust_execWriteMessage p s u_ h)
  | signalMessage p => exact adv_of_trust _ _ (trust_execSignalMessage p s u_ h)
  | tollWrite p => exact adv_of_trust _ _ (trust_execTollWrite p s u_ h)
  | messageForward p => exact adv_of_trust _ _ (trust_execMessageForward p s u_ h)
  | syncFu p => exact adv_of_trust _ _ (trust_execSyncFu p s u_ h)
  | neighborMsg p => exact adv_of_trust _ _ (trust_execNeighborMsg p s u_ h)
  | syncExchange => exact adv_of_trust _ _ (trust_execSyncExchange s u_ h)
  | neighborSend => exact adv_of_trust _ _ (trust_execNeighborSend s u_ h)
  | ksHoldoverTimeout => exact adv_of_trust _ _ (trust_execKsHoldoverTimeout s u_ h)
  | ksParentTimeout => exact adv_of_trust _ _ (trust_execKsParentTimeout s u_ h)
  | fieldFrameTick => exact adv_of_trust _ _ (trust_execFieldFrameTick s u_ h)
  | fieldDownFrameApply good levels lplusLow => exact adv_of_trust _ _ (trust_execFieldDownFrameApply good levels lplusLow s u_ h)
  | fieldUpFrame good => exact adv_of_trust _ _ (trust_execFieldUpFrame good s u_ h)
  | fieldLinkTimeout => exact adv_of_trust _ _ (trust_execFieldLinkTimeout s u_ h)
  | fieldDieSafeTimeout => exact adv_of_trust _ _ (trust_execFieldDieSafeTimeout s u_ h)
  | fieldUvlo low => exact adv_of_trust _ _ (trust_execFieldUvlo low s u_ h)
  | fioThermalTrip ch => exact adv_of_trust _ _ (trust_execFioThermalTrip ch s u_ h)
  | prepareAnswer d busyUs => exact adv_of_trust _ _ (trust_execPrepareAnswer d busyUs s u_ h)
  | prepareTimeout d => exact adv_of_trust _ _ (trust_execPrepareTimeout d s u_ h)
  | prepareDelayExpiry d => exact adv_of_trust _ _ (trust_execPrepareDelayExpiry d s u_ h)
  | onDemandWake d requester => exact adv_of_trust _ _ (trust_execOnDemandWake d requester s u_ h)
  | domainWakeComplete d => exact adv_of_trust _ _ (trust_execDomainWakeComplete d s u_ h)
  | pwrAccessOff d requester address => exact adv_of_trust _ _ (trust_execPwrAccessOff d requester address s u_ h)
  | mc3IdleRetention => exact adv_of_trust _ _ (trust_execMc3IdleRetention s u_ h)
  | vddSettled sense => exact adv_of_trust _ _ (trust_execVddSettled sense s u_ h)
  | vddTimeout sense => exact adv_of_trust _ _ (trust_execVddTimeout sense s u_ h)
  | vrmFault word => exact adv_of_trust _ _ (trust_execVrmFault word s u_ h)
  | sensorUpdate temps drawn => exact adv_of_trust _ _ (trust_execSensorUpdate temps drawn s u_ h)
  | thermTrip => exact adv_of_trust _ _ (trust_execThermTrip s u_ h)
  | refclkLost => exact adv_of_trust _ _ (trust_execRefclkLost s u_ h)
  | powerOn => exact adv_doneCold _ _ (adv_coldReset _ _) u_ h
  | resetNAssert => exact adv_doneCold _ _ (adv_coldReset _ _) u_ h
  | resetNRelease => exact adv_done _ _ (adv_resetNRelease _) u_ h
  | firmwareStart report dramFail => exact adv_done _ _ (adv_firmwareStart _ _ _) u_ h
  | fwReady => exact adv_done _ _ (adv_fwReadyNow _) u_ h
  | warmReset => exact adv_done _ _ (adv_warmReset _) u_ h
  | watchdogBite => exact adv_of_trust _ _ (trust_execWatchdogBite s u_ h)
  | warmResetEscalation => exact adv_doneCold _ _ (adv_escalate _) u_ h
  | pfailNFall => exact adv_done _ _ (adv_pfailFall _) u_ h
  | pfailNReturn => exact adv_doneCold _ _ (adv_pfailReturn _) u_ h
  | helpCmd => exact adv_of_trust _ _ (trust_execHelpCmd s u_ h)
  | infoCmd => exact adv_of_trust _ _ (trust_execInfoCmd s u_ h)
  | baud rate => exact adv_baud _ _ u_ h
  | chal random => exact adv_done _ _ (adv_monitor _ _ _ (adv_challenge _ _)) u_ h
  | unlock level answer => exact adv_done _ _ (adv_monitor _ _ _ (adv_unlock _ _ _)) u_ h
  | catwalkLockoutExpiry => exact adv_done _ _ (adv_lockoutExpiry _) u_ h
  | statusCmd => exact adv_of_trust _ _ (trust_execStatusCmd s u_ h)
  | logCmd => exact adv_of_trust _ _ (trust_execLogCmd s u_ h)
  | mrCmd addr count => exact adv_of_trust _ _ (trust_execMrCmd addr count s u_ h)
  | mwCmd addr v => exact adv_of_trust _ _ (trust_execMwCmd addr v s u_ h)
  | provision slot hash confirm => exact adv_done _ _ (adv_monitor _ _ _ (adv_confirmed _ _ _ (adv_provision _ _ _ (Fin.isLt _)))) u_ h
  | revoke slot confirm => exact adv_done _ _ (adv_monitor _ _ _ (adv_confirmed _ _ _ (adv_revoke _ _))) u_ h
  | lifecycleProduction confirm => exact adv_done _ _ (adv_monitor _ _ _ (adv_confirmed _ _ _ (adv_toProduction _))) u_ h
  | lifecycleReturn confirm => exact adv_done _ _ (adv_monitor _ _ _ (adv_confirmed _ _ _ (adv_toReturned _))) u_ h
  | lockCmd => exact adv_done _ _ (adv_monitor _ _ _ (adv_lock _)) u_ h
  | catwalkResetWarm => exact adv_of_trust _ _ (trust_execCatwalkResetWarm s u_ h)
  | romRecoveryLoad blocks => exact adv_done _ _ (adv_romLoad _ _) u_ h
  | perstNRelease => exact adv_of_trust _ _ (trust_execPerstNRelease s u_ h)
  | replayRecord => exact adv_of_trust _ _ (trust_execReplayRecord s u_ h)
  | lineTrigPulseEnd n => exact adv_of_trust _ _ (trust_execLineTrigPulseEnd n s u_ h)
  | syncBlock p => exact adv_of_trust _ _ (trust_execSyncBlock p s u_ h)

/-- A tick of an empty queue touches none of them. -/
theorem trust_tick_step (s t : State) (hs : s.pending = []) (h : step s = .next t) : trust t = trust s := by
  unfold step at h; rw [hs] at h
  exact trust_done _ _ (by simp) t h

end Sys2Proof.Machine
end

