-- ==== Sys2Proof/Laws/State.lean ====
section
/-! SUPPORT. Sys2Proof/Laws/State.lean: each named update of the state leaves every field alone but its own, and reading back what was
written: one lemma per field and update, so that no proof unfolds a record update.
-/

namespace Sys2Proof.Machine

set_option Elab.async false

/-! ## setPu -/

@[simp] theorem setPu_pending (s : State) (p : Nat) (u : Pu) : (setPu s p u).pending = s.pending := rfl
@[simp] theorem setPu_time (s : State) (p : Nat) (u : Pu) : (setPu s p u).time = s.time := rfl
@[simp] theorem setPu_gens (s : State) (p : Nat) (u : Pu) : (setPu s p u).gens = s.gens := rfl
@[simp] theorem setPu_slots (s : State) (p : Nat) (u : Pu) : (setPu s p u).slots = s.slots := rfl
@[simp] theorem setPu_cams (s : State) (p : Nat) (u : Pu) : (setPu s p u).cams = s.cams := rfl
@[simp] theorem setPu_ramps (s : State) (p : Nat) (u : Pu) : (setPu s p u).ramps = s.ramps := rfl
@[simp] theorem setPu_field (s : State) (p : Nat) (u : Pu) : (setPu s p u).field = s.field := rfl
@[simp] theorem setPu_die (s : State) (p : Nat) (u : Pu) : (setPu s p u).die = s.die := rfl
@[simp] theorem setPu_trigs (s : State) (p : Nat) (u : Pu) : (setPu s p u).trigs = s.trigs := rfl
@[simp] theorem setPu_pulses (s : State) (p : Nat) (u : Pu) : (setPu s p u).pulses = s.pulses := rfl
@[simp] theorem setPu_linePulses (s : State) (p : Nat) (u : Pu) : (setPu s p u).linePulses = s.linePulses := rfl
@[simp] theorem setPu_deck (s : State) (p : Nat) (u : Pu) : (setPu s p u).deck = s.deck := rfl
@[simp] theorem setPu_imgs (s : State) (p : Nat) (u : Pu) : (setPu s p u).imgs = s.imgs := rfl
@[simp] theorem setPu_seq (s : State) (p : Nat) (u : Pu) : (setPu s p u).seq = s.seq := rfl
@[simp] theorem setPu_bands (s : State) (p : Nat) (u : Pu) : (setPu s p u).bands = s.bands := rfl
@[simp] theorem setPu_jobs (s : State) (p : Nat) (u : Pu) : (setPu s p u).jobs = s.jobs := rfl
@[simp] theorem setPu_rec (s : State) (p : Nat) (u : Pu) : (setPu s p u).rec_ = s.rec_ := rfl
@[simp] theorem setPu_replay (s : State) (p : Nat) (u : Pu) : (setPu s p u).replay = s.replay := rfl
@[simp] theorem setPu_span (s : State) (p : Nat) (u : Pu) : (setPu s p u).span = s.span := rfl
@[simp] theorem setPu_pwr (s : State) (p : Nat) (u : Pu) : (setPu s p u).pwr = s.pwr := rfl
@[simp] theorem setPu_steward (s : State) (p : Nat) (u : Pu) : (setPu s p u).steward = s.steward := rfl
@[simp] theorem setPu_mem (s : State) (p : Nat) (u : Pu) : (setPu s p u).mem = s.mem := rfl
@[simp] theorem setPu_host (s : State) (p : Nat) (u : Pu) : (setPu s p u).host = s.host := rfl
@[simp] theorem setPu_q (s : State) (p : Nat) (u : Pu) : (setPu s p u).q = s.q := rfl
@[simp] theorem setPu_gh (s : State) (p : Nat) (u : Pu) : (setPu s p u).gh = s.gh := rfl
@[simp] theorem setPu_sec (s : State) (p : Nat) (u : Pu) : (setPu s p u).sec = s.sec := rfl
@[simp] theorem setPu_rst (s : State) (p : Nat) (u : Pu) : (setPu s p u).rst = s.rst := rfl
@[simp] theorem setPu_lineSlow (s : State) (p : Nat) (u : Pu) : (setPu s p u).lineSlow = s.lineSlow := rfl
@[simp] theorem setPu_out (s : State) (p : Nat) (u : Pu) : (setPu s p u).out = s.out := rfl
@[simp] theorem setPu_grade (s : State) (p : Nat) (u : Pu) : (setPu s p u).grade = s.grade := rfl

/-! ## setGen -/

@[simp] theorem setGen_pending (s : State) (p : Nat) (g : LineGen) : (setGen s p g).pending = s.pending := rfl
@[simp] theorem setGen_time (s : State) (p : Nat) (g : LineGen) : (setGen s p g).time = s.time := rfl
@[simp] theorem setGen_pus (s : State) (p : Nat) (g : LineGen) : (setGen s p g).pus = s.pus := rfl
@[simp] theorem setGen_slots (s : State) (p : Nat) (g : LineGen) : (setGen s p g).slots = s.slots := rfl
@[simp] theorem setGen_cams (s : State) (p : Nat) (g : LineGen) : (setGen s p g).cams = s.cams := rfl
@[simp] theorem setGen_ramps (s : State) (p : Nat) (g : LineGen) : (setGen s p g).ramps = s.ramps := rfl
@[simp] theorem setGen_field (s : State) (p : Nat) (g : LineGen) : (setGen s p g).field = s.field := rfl
@[simp] theorem setGen_die (s : State) (p : Nat) (g : LineGen) : (setGen s p g).die = s.die := rfl
@[simp] theorem setGen_trigs (s : State) (p : Nat) (g : LineGen) : (setGen s p g).trigs = s.trigs := rfl
@[simp] theorem setGen_pulses (s : State) (p : Nat) (g : LineGen) : (setGen s p g).pulses = s.pulses := rfl
@[simp] theorem setGen_linePulses (s : State) (p : Nat) (g : LineGen) : (setGen s p g).linePulses = s.linePulses := rfl
@[simp] theorem setGen_deck (s : State) (p : Nat) (g : LineGen) : (setGen s p g).deck = s.deck := rfl
@[simp] theorem setGen_imgs (s : State) (p : Nat) (g : LineGen) : (setGen s p g).imgs = s.imgs := rfl
@[simp] theorem setGen_seq (s : State) (p : Nat) (g : LineGen) : (setGen s p g).seq = s.seq := rfl
@[simp] theorem setGen_bands (s : State) (p : Nat) (g : LineGen) : (setGen s p g).bands = s.bands := rfl
@[simp] theorem setGen_jobs (s : State) (p : Nat) (g : LineGen) : (setGen s p g).jobs = s.jobs := rfl
@[simp] theorem setGen_rec (s : State) (p : Nat) (g : LineGen) : (setGen s p g).rec_ = s.rec_ := rfl
@[simp] theorem setGen_replay (s : State) (p : Nat) (g : LineGen) : (setGen s p g).replay = s.replay := rfl
@[simp] theorem setGen_span (s : State) (p : Nat) (g : LineGen) : (setGen s p g).span = s.span := rfl
@[simp] theorem setGen_pwr (s : State) (p : Nat) (g : LineGen) : (setGen s p g).pwr = s.pwr := rfl
@[simp] theorem setGen_steward (s : State) (p : Nat) (g : LineGen) : (setGen s p g).steward = s.steward := rfl
@[simp] theorem setGen_mem (s : State) (p : Nat) (g : LineGen) : (setGen s p g).mem = s.mem := rfl
@[simp] theorem setGen_host (s : State) (p : Nat) (g : LineGen) : (setGen s p g).host = s.host := rfl
@[simp] theorem setGen_q (s : State) (p : Nat) (g : LineGen) : (setGen s p g).q = s.q := rfl
@[simp] theorem setGen_gh (s : State) (p : Nat) (g : LineGen) : (setGen s p g).gh = s.gh := rfl
@[simp] theorem setGen_sec (s : State) (p : Nat) (g : LineGen) : (setGen s p g).sec = s.sec := rfl
@[simp] theorem setGen_rst (s : State) (p : Nat) (g : LineGen) : (setGen s p g).rst = s.rst := rfl
@[simp] theorem setGen_lineSlow (s : State) (p : Nat) (g : LineGen) : (setGen s p g).lineSlow = s.lineSlow := rfl
@[simp] theorem setGen_out (s : State) (p : Nat) (g : LineGen) : (setGen s p g).out = s.out := rfl
@[simp] theorem setGen_grade (s : State) (p : Nat) (g : LineGen) : (setGen s p g).grade = s.grade := rfl

/-! ## setCam -/

@[simp] theorem setCam_pending (s : State) (p : Nat) (c : Cam) : (setCam s p c).pending = s.pending := rfl
@[simp] theorem setCam_time (s : State) (p : Nat) (c : Cam) : (setCam s p c).time = s.time := rfl
@[simp] theorem setCam_pus (s : State) (p : Nat) (c : Cam) : (setCam s p c).pus = s.pus := rfl
@[simp] theorem setCam_gens (s : State) (p : Nat) (c : Cam) : (setCam s p c).gens = s.gens := rfl
@[simp] theorem setCam_slots (s : State) (p : Nat) (c : Cam) : (setCam s p c).slots = s.slots := rfl
@[simp] theorem setCam_ramps (s : State) (p : Nat) (c : Cam) : (setCam s p c).ramps = s.ramps := rfl
@[simp] theorem setCam_field (s : State) (p : Nat) (c : Cam) : (setCam s p c).field = s.field := rfl
@[simp] theorem setCam_die (s : State) (p : Nat) (c : Cam) : (setCam s p c).die = s.die := rfl
@[simp] theorem setCam_trigs (s : State) (p : Nat) (c : Cam) : (setCam s p c).trigs = s.trigs := rfl
@[simp] theorem setCam_pulses (s : State) (p : Nat) (c : Cam) : (setCam s p c).pulses = s.pulses := rfl
@[simp] theorem setCam_linePulses (s : State) (p : Nat) (c : Cam) : (setCam s p c).linePulses = s.linePulses := rfl
@[simp] theorem setCam_deck (s : State) (p : Nat) (c : Cam) : (setCam s p c).deck = s.deck := rfl
@[simp] theorem setCam_imgs (s : State) (p : Nat) (c : Cam) : (setCam s p c).imgs = s.imgs := rfl
@[simp] theorem setCam_seq (s : State) (p : Nat) (c : Cam) : (setCam s p c).seq = s.seq := rfl
@[simp] theorem setCam_bands (s : State) (p : Nat) (c : Cam) : (setCam s p c).bands = s.bands := rfl
@[simp] theorem setCam_jobs (s : State) (p : Nat) (c : Cam) : (setCam s p c).jobs = s.jobs := rfl
@[simp] theorem setCam_rec (s : State) (p : Nat) (c : Cam) : (setCam s p c).rec_ = s.rec_ := rfl
@[simp] theorem setCam_replay (s : State) (p : Nat) (c : Cam) : (setCam s p c).replay = s.replay := rfl
@[simp] theorem setCam_span (s : State) (p : Nat) (c : Cam) : (setCam s p c).span = s.span := rfl
@[simp] theorem setCam_pwr (s : State) (p : Nat) (c : Cam) : (setCam s p c).pwr = s.pwr := rfl
@[simp] theorem setCam_steward (s : State) (p : Nat) (c : Cam) : (setCam s p c).steward = s.steward := rfl
@[simp] theorem setCam_mem (s : State) (p : Nat) (c : Cam) : (setCam s p c).mem = s.mem := rfl
@[simp] theorem setCam_host (s : State) (p : Nat) (c : Cam) : (setCam s p c).host = s.host := rfl
@[simp] theorem setCam_q (s : State) (p : Nat) (c : Cam) : (setCam s p c).q = s.q := rfl
@[simp] theorem setCam_gh (s : State) (p : Nat) (c : Cam) : (setCam s p c).gh = s.gh := rfl
@[simp] theorem setCam_sec (s : State) (p : Nat) (c : Cam) : (setCam s p c).sec = s.sec := rfl
@[simp] theorem setCam_rst (s : State) (p : Nat) (c : Cam) : (setCam s p c).rst = s.rst := rfl
@[simp] theorem setCam_lineSlow (s : State) (p : Nat) (c : Cam) : (setCam s p c).lineSlow = s.lineSlow := rfl
@[simp] theorem setCam_out (s : State) (p : Nat) (c : Cam) : (setCam s p c).out = s.out := rfl
@[simp] theorem setCam_grade (s : State) (p : Nat) (c : Cam) : (setCam s p c).grade = s.grade := rfl

/-! ## setRamp -/

@[simp] theorem setRamp_pending (s : State) (p : Nat) (r : Ramp) : (setRamp s p r).pending = s.pending := rfl
@[simp] theorem setRamp_time (s : State) (p : Nat) (r : Ramp) : (setRamp s p r).time = s.time := rfl
@[simp] theorem setRamp_pus (s : State) (p : Nat) (r : Ramp) : (setRamp s p r).pus = s.pus := rfl
@[simp] theorem setRamp_gens (s : State) (p : Nat) (r : Ramp) : (setRamp s p r).gens = s.gens := rfl
@[simp] theorem setRamp_slots (s : State) (p : Nat) (r : Ramp) : (setRamp s p r).slots = s.slots := rfl
@[simp] theorem setRamp_cams (s : State) (p : Nat) (r : Ramp) : (setRamp s p r).cams = s.cams := rfl
@[simp] theorem setRamp_field (s : State) (p : Nat) (r : Ramp) : (setRamp s p r).field = s.field := rfl
@[simp] theorem setRamp_die (s : State) (p : Nat) (r : Ramp) : (setRamp s p r).die = s.die := rfl
@[simp] theorem setRamp_trigs (s : State) (p : Nat) (r : Ramp) : (setRamp s p r).trigs = s.trigs := rfl
@[simp] theorem setRamp_pulses (s : State) (p : Nat) (r : Ramp) : (setRamp s p r).pulses = s.pulses := rfl
@[simp] theorem setRamp_linePulses (s : State) (p : Nat) (r : Ramp) : (setRamp s p r).linePulses = s.linePulses := rfl
@[simp] theorem setRamp_deck (s : State) (p : Nat) (r : Ramp) : (setRamp s p r).deck = s.deck := rfl
@[simp] theorem setRamp_imgs (s : State) (p : Nat) (r : Ramp) : (setRamp s p r).imgs = s.imgs := rfl
@[simp] theorem setRamp_seq (s : State) (p : Nat) (r : Ramp) : (setRamp s p r).seq = s.seq := rfl
@[simp] theorem setRamp_bands (s : State) (p : Nat) (r : Ramp) : (setRamp s p r).bands = s.bands := rfl
@[simp] theorem setRamp_jobs (s : State) (p : Nat) (r : Ramp) : (setRamp s p r).jobs = s.jobs := rfl
@[simp] theorem setRamp_rec (s : State) (p : Nat) (r : Ramp) : (setRamp s p r).rec_ = s.rec_ := rfl
@[simp] theorem setRamp_replay (s : State) (p : Nat) (r : Ramp) : (setRamp s p r).replay = s.replay := rfl
@[simp] theorem setRamp_span (s : State) (p : Nat) (r : Ramp) : (setRamp s p r).span = s.span := rfl
@[simp] theorem setRamp_pwr (s : State) (p : Nat) (r : Ramp) : (setRamp s p r).pwr = s.pwr := rfl
@[simp] theorem setRamp_steward (s : State) (p : Nat) (r : Ramp) : (setRamp s p r).steward = s.steward := rfl
@[simp] theorem setRamp_mem (s : State) (p : Nat) (r : Ramp) : (setRamp s p r).mem = s.mem := rfl
@[simp] theorem setRamp_host (s : State) (p : Nat) (r : Ramp) : (setRamp s p r).host = s.host := rfl
@[simp] theorem setRamp_q (s : State) (p : Nat) (r : Ramp) : (setRamp s p r).q = s.q := rfl
@[simp] theorem setRamp_gh (s : State) (p : Nat) (r : Ramp) : (setRamp s p r).gh = s.gh := rfl
@[simp] theorem setRamp_sec (s : State) (p : Nat) (r : Ramp) : (setRamp s p r).sec = s.sec := rfl
@[simp] theorem setRamp_rst (s : State) (p : Nat) (r : Ramp) : (setRamp s p r).rst = s.rst := rfl
@[simp] theorem setRamp_lineSlow (s : State) (p : Nat) (r : Ramp) : (setRamp s p r).lineSlow = s.lineSlow := rfl
@[simp] theorem setRamp_out (s : State) (p : Nat) (r : Ramp) : (setRamp s p r).out = s.out := rfl
@[simp] theorem setRamp_grade (s : State) (p : Nat) (r : Ramp) : (setRamp s p r).grade = s.grade := rfl

/-! ## setSlot -/

@[simp] theorem setSlot_pending (s : State) (i : Nat) (t : Slot) : (setSlot s i t).pending = s.pending := rfl
@[simp] theorem setSlot_time (s : State) (i : Nat) (t : Slot) : (setSlot s i t).time = s.time := rfl
@[simp] theorem setSlot_pus (s : State) (i : Nat) (t : Slot) : (setSlot s i t).pus = s.pus := rfl
@[simp] theorem setSlot_gens (s : State) (i : Nat) (t : Slot) : (setSlot s i t).gens = s.gens := rfl
@[simp] theorem setSlot_cams (s : State) (i : Nat) (t : Slot) : (setSlot s i t).cams = s.cams := rfl
@[simp] theorem setSlot_ramps (s : State) (i : Nat) (t : Slot) : (setSlot s i t).ramps = s.ramps := rfl
@[simp] theorem setSlot_field (s : State) (i : Nat) (t : Slot) : (setSlot s i t).field = s.field := rfl
@[simp] theorem setSlot_die (s : State) (i : Nat) (t : Slot) : (setSlot s i t).die = s.die := rfl
@[simp] theorem setSlot_trigs (s : State) (i : Nat) (t : Slot) : (setSlot s i t).trigs = s.trigs := rfl
@[simp] theorem setSlot_pulses (s : State) (i : Nat) (t : Slot) : (setSlot s i t).pulses = s.pulses := rfl
@[simp] theorem setSlot_linePulses (s : State) (i : Nat) (t : Slot) : (setSlot s i t).linePulses = s.linePulses := rfl
@[simp] theorem setSlot_deck (s : State) (i : Nat) (t : Slot) : (setSlot s i t).deck = s.deck := rfl
@[simp] theorem setSlot_imgs (s : State) (i : Nat) (t : Slot) : (setSlot s i t).imgs = s.imgs := rfl
@[simp] theorem setSlot_seq (s : State) (i : Nat) (t : Slot) : (setSlot s i t).seq = s.seq := rfl
@[simp] theorem setSlot_bands (s : State) (i : Nat) (t : Slot) : (setSlot s i t).bands = s.bands := rfl
@[simp] theorem setSlot_jobs (s : State) (i : Nat) (t : Slot) : (setSlot s i t).jobs = s.jobs := rfl
@[simp] theorem setSlot_rec (s : State) (i : Nat) (t : Slot) : (setSlot s i t).rec_ = s.rec_ := rfl
@[simp] theorem setSlot_replay (s : State) (i : Nat) (t : Slot) : (setSlot s i t).replay = s.replay := rfl
@[simp] theorem setSlot_span (s : State) (i : Nat) (t : Slot) : (setSlot s i t).span = s.span := rfl
@[simp] theorem setSlot_pwr (s : State) (i : Nat) (t : Slot) : (setSlot s i t).pwr = s.pwr := rfl
@[simp] theorem setSlot_steward (s : State) (i : Nat) (t : Slot) : (setSlot s i t).steward = s.steward := rfl
@[simp] theorem setSlot_mem (s : State) (i : Nat) (t : Slot) : (setSlot s i t).mem = s.mem := rfl
@[simp] theorem setSlot_host (s : State) (i : Nat) (t : Slot) : (setSlot s i t).host = s.host := rfl
@[simp] theorem setSlot_q (s : State) (i : Nat) (t : Slot) : (setSlot s i t).q = s.q := rfl
@[simp] theorem setSlot_gh (s : State) (i : Nat) (t : Slot) : (setSlot s i t).gh = s.gh := rfl
@[simp] theorem setSlot_sec (s : State) (i : Nat) (t : Slot) : (setSlot s i t).sec = s.sec := rfl
@[simp] theorem setSlot_rst (s : State) (i : Nat) (t : Slot) : (setSlot s i t).rst = s.rst := rfl
@[simp] theorem setSlot_lineSlow (s : State) (i : Nat) (t : Slot) : (setSlot s i t).lineSlow = s.lineSlow := rfl
@[simp] theorem setSlot_out (s : State) (i : Nat) (t : Slot) : (setSlot s i t).out = s.out := rfl
@[simp] theorem setSlot_grade (s : State) (i : Nat) (t : Slot) : (setSlot s i t).grade = s.grade := rfl

/-! ## setImg -/

@[simp] theorem setImg_pending (s : State) (i : Nat) (x : ImgSlot) : (setImg s i x).pending = s.pending := rfl
@[simp] theorem setImg_time (s : State) (i : Nat) (x : ImgSlot) : (setImg s i x).time = s.time := rfl
@[simp] theorem setImg_pus (s : State) (i : Nat) (x : ImgSlot) : (setImg s i x).pus = s.pus := rfl
@[simp] theorem setImg_gens (s : State) (i : Nat) (x : ImgSlot) : (setImg s i x).gens = s.gens := rfl
@[simp] theorem setImg_slots (s : State) (i : Nat) (x : ImgSlot) : (setImg s i x).slots = s.slots := rfl
@[simp] theorem setImg_cams (s : State) (i : Nat) (x : ImgSlot) : (setImg s i x).cams = s.cams := rfl
@[simp] theorem setImg_ramps (s : State) (i : Nat) (x : ImgSlot) : (setImg s i x).ramps = s.ramps := rfl
@[simp] theorem setImg_field (s : State) (i : Nat) (x : ImgSlot) : (setImg s i x).field = s.field := rfl
@[simp] theorem setImg_die (s : State) (i : Nat) (x : ImgSlot) : (setImg s i x).die = s.die := rfl
@[simp] theorem setImg_trigs (s : State) (i : Nat) (x : ImgSlot) : (setImg s i x).trigs = s.trigs := rfl
@[simp] theorem setImg_pulses (s : State) (i : Nat) (x : ImgSlot) : (setImg s i x).pulses = s.pulses := rfl
@[simp] theorem setImg_linePulses (s : State) (i : Nat) (x : ImgSlot) : (setImg s i x).linePulses = s.linePulses := rfl
@[simp] theorem setImg_deck (s : State) (i : Nat) (x : ImgSlot) : (setImg s i x).deck = s.deck := rfl
@[simp] theorem setImg_seq (s : State) (i : Nat) (x : ImgSlot) : (setImg s i x).seq = s.seq := rfl
@[simp] theorem setImg_bands (s : State) (i : Nat) (x : ImgSlot) : (setImg s i x).bands = s.bands := rfl
@[simp] theorem setImg_jobs (s : State) (i : Nat) (x : ImgSlot) : (setImg s i x).jobs = s.jobs := rfl
@[simp] theorem setImg_rec (s : State) (i : Nat) (x : ImgSlot) : (setImg s i x).rec_ = s.rec_ := rfl
@[simp] theorem setImg_replay (s : State) (i : Nat) (x : ImgSlot) : (setImg s i x).replay = s.replay := rfl
@[simp] theorem setImg_span (s : State) (i : Nat) (x : ImgSlot) : (setImg s i x).span = s.span := rfl
@[simp] theorem setImg_pwr (s : State) (i : Nat) (x : ImgSlot) : (setImg s i x).pwr = s.pwr := rfl
@[simp] theorem setImg_steward (s : State) (i : Nat) (x : ImgSlot) : (setImg s i x).steward = s.steward := rfl
@[simp] theorem setImg_mem (s : State) (i : Nat) (x : ImgSlot) : (setImg s i x).mem = s.mem := rfl
@[simp] theorem setImg_host (s : State) (i : Nat) (x : ImgSlot) : (setImg s i x).host = s.host := rfl
@[simp] theorem setImg_q (s : State) (i : Nat) (x : ImgSlot) : (setImg s i x).q = s.q := rfl
@[simp] theorem setImg_gh (s : State) (i : Nat) (x : ImgSlot) : (setImg s i x).gh = s.gh := rfl
@[simp] theorem setImg_sec (s : State) (i : Nat) (x : ImgSlot) : (setImg s i x).sec = s.sec := rfl
@[simp] theorem setImg_rst (s : State) (i : Nat) (x : ImgSlot) : (setImg s i x).rst = s.rst := rfl
@[simp] theorem setImg_lineSlow (s : State) (i : Nat) (x : ImgSlot) : (setImg s i x).lineSlow = s.lineSlow := rfl
@[simp] theorem setImg_out (s : State) (i : Nat) (x : ImgSlot) : (setImg s i x).out = s.out := rfl
@[simp] theorem setImg_grade (s : State) (i : Nat) (x : ImgSlot) : (setImg s i x).grade = s.grade := rfl

/-! ## setSpan -/

@[simp] theorem setSpan_pending (s : State) (p : Nat) (x : SpanPort) : (setSpan s p x).pending = s.pending := rfl
@[simp] theorem setSpan_time (s : State) (p : Nat) (x : SpanPort) : (setSpan s p x).time = s.time := rfl
@[simp] theorem setSpan_pus (s : State) (p : Nat) (x : SpanPort) : (setSpan s p x).pus = s.pus := rfl
@[simp] theorem setSpan_gens (s : State) (p : Nat) (x : SpanPort) : (setSpan s p x).gens = s.gens := rfl
@[simp] theorem setSpan_slots (s : State) (p : Nat) (x : SpanPort) : (setSpan s p x).slots = s.slots := rfl
@[simp] theorem setSpan_cams (s : State) (p : Nat) (x : SpanPort) : (setSpan s p x).cams = s.cams := rfl
@[simp] theorem setSpan_ramps (s : State) (p : Nat) (x : SpanPort) : (setSpan s p x).ramps = s.ramps := rfl
@[simp] theorem setSpan_field (s : State) (p : Nat) (x : SpanPort) : (setSpan s p x).field = s.field := rfl
@[simp] theorem setSpan_die (s : State) (p : Nat) (x : SpanPort) : (setSpan s p x).die = s.die := rfl
@[simp] theorem setSpan_trigs (s : State) (p : Nat) (x : SpanPort) : (setSpan s p x).trigs = s.trigs := rfl
@[simp] theorem setSpan_pulses (s : State) (p : Nat) (x : SpanPort) : (setSpan s p x).pulses = s.pulses := rfl
@[simp] theorem setSpan_linePulses (s : State) (p : Nat) (x : SpanPort) : (setSpan s p x).linePulses = s.linePulses := rfl
@[simp] theorem setSpan_deck (s : State) (p : Nat) (x : SpanPort) : (setSpan s p x).deck = s.deck := rfl
@[simp] theorem setSpan_imgs (s : State) (p : Nat) (x : SpanPort) : (setSpan s p x).imgs = s.imgs := rfl
@[simp] theorem setSpan_seq (s : State) (p : Nat) (x : SpanPort) : (setSpan s p x).seq = s.seq := rfl
@[simp] theorem setSpan_bands (s : State) (p : Nat) (x : SpanPort) : (setSpan s p x).bands = s.bands := rfl
@[simp] theorem setSpan_jobs (s : State) (p : Nat) (x : SpanPort) : (setSpan s p x).jobs = s.jobs := rfl
@[simp] theorem setSpan_rec (s : State) (p : Nat) (x : SpanPort) : (setSpan s p x).rec_ = s.rec_ := rfl
@[simp] theorem setSpan_replay (s : State) (p : Nat) (x : SpanPort) : (setSpan s p x).replay = s.replay := rfl
@[simp] theorem setSpan_pwr (s : State) (p : Nat) (x : SpanPort) : (setSpan s p x).pwr = s.pwr := rfl
@[simp] theorem setSpan_steward (s : State) (p : Nat) (x : SpanPort) : (setSpan s p x).steward = s.steward := rfl
@[simp] theorem setSpan_mem (s : State) (p : Nat) (x : SpanPort) : (setSpan s p x).mem = s.mem := rfl
@[simp] theorem setSpan_host (s : State) (p : Nat) (x : SpanPort) : (setSpan s p x).host = s.host := rfl
@[simp] theorem setSpan_q (s : State) (p : Nat) (x : SpanPort) : (setSpan s p x).q = s.q := rfl
@[simp] theorem setSpan_gh (s : State) (p : Nat) (x : SpanPort) : (setSpan s p x).gh = s.gh := rfl
@[simp] theorem setSpan_sec (s : State) (p : Nat) (x : SpanPort) : (setSpan s p x).sec = s.sec := rfl
@[simp] theorem setSpan_rst (s : State) (p : Nat) (x : SpanPort) : (setSpan s p x).rst = s.rst := rfl
@[simp] theorem setSpan_lineSlow (s : State) (p : Nat) (x : SpanPort) : (setSpan s p x).lineSlow = s.lineSlow := rfl
@[simp] theorem setSpan_out (s : State) (p : Nat) (x : SpanPort) : (setSpan s p x).out = s.out := rfl
@[simp] theorem setSpan_grade (s : State) (p : Nat) (x : SpanPort) : (setSpan s p x).grade = s.grade := rfl

/-! ## setDom -/

@[simp] theorem setDom_pending (s : State) (d : Nat) (x : Domain) : (setDom s d x).pending = s.pending := rfl
@[simp] theorem setDom_time (s : State) (d : Nat) (x : Domain) : (setDom s d x).time = s.time := rfl
@[simp] theorem setDom_pus (s : State) (d : Nat) (x : Domain) : (setDom s d x).pus = s.pus := rfl
@[simp] theorem setDom_gens (s : State) (d : Nat) (x : Domain) : (setDom s d x).gens = s.gens := rfl
@[simp] theorem setDom_slots (s : State) (d : Nat) (x : Domain) : (setDom s d x).slots = s.slots := rfl
@[simp] theorem setDom_cams (s : State) (d : Nat) (x : Domain) : (setDom s d x).cams = s.cams := rfl
@[simp] theorem setDom_ramps (s : State) (d : Nat) (x : Domain) : (setDom s d x).ramps = s.ramps := rfl
@[simp] theorem setDom_field (s : State) (d : Nat) (x : Domain) : (setDom s d x).field = s.field := rfl
@[simp] theorem setDom_die (s : State) (d : Nat) (x : Domain) : (setDom s d x).die = s.die := rfl
@[simp] theorem setDom_trigs (s : State) (d : Nat) (x : Domain) : (setDom s d x).trigs = s.trigs := rfl
@[simp] theorem setDom_pulses (s : State) (d : Nat) (x : Domain) : (setDom s d x).pulses = s.pulses := rfl
@[simp] theorem setDom_linePulses (s : State) (d : Nat) (x : Domain) : (setDom s d x).linePulses = s.linePulses := rfl
@[simp] theorem setDom_deck (s : State) (d : Nat) (x : Domain) : (setDom s d x).deck = s.deck := rfl
@[simp] theorem setDom_imgs (s : State) (d : Nat) (x : Domain) : (setDom s d x).imgs = s.imgs := rfl
@[simp] theorem setDom_seq (s : State) (d : Nat) (x : Domain) : (setDom s d x).seq = s.seq := rfl
@[simp] theorem setDom_bands (s : State) (d : Nat) (x : Domain) : (setDom s d x).bands = s.bands := rfl
@[simp] theorem setDom_jobs (s : State) (d : Nat) (x : Domain) : (setDom s d x).jobs = s.jobs := rfl
@[simp] theorem setDom_rec (s : State) (d : Nat) (x : Domain) : (setDom s d x).rec_ = s.rec_ := rfl
@[simp] theorem setDom_replay (s : State) (d : Nat) (x : Domain) : (setDom s d x).replay = s.replay := rfl
@[simp] theorem setDom_span (s : State) (d : Nat) (x : Domain) : (setDom s d x).span = s.span := rfl
@[simp] theorem setDom_steward (s : State) (d : Nat) (x : Domain) : (setDom s d x).steward = s.steward := rfl
@[simp] theorem setDom_mem (s : State) (d : Nat) (x : Domain) : (setDom s d x).mem = s.mem := rfl
@[simp] theorem setDom_host (s : State) (d : Nat) (x : Domain) : (setDom s d x).host = s.host := rfl
@[simp] theorem setDom_q (s : State) (d : Nat) (x : Domain) : (setDom s d x).q = s.q := rfl
@[simp] theorem setDom_gh (s : State) (d : Nat) (x : Domain) : (setDom s d x).gh = s.gh := rfl
@[simp] theorem setDom_sec (s : State) (d : Nat) (x : Domain) : (setDom s d x).sec = s.sec := rfl
@[simp] theorem setDom_rst (s : State) (d : Nat) (x : Domain) : (setDom s d x).rst = s.rst := rfl
@[simp] theorem setDom_lineSlow (s : State) (d : Nat) (x : Domain) : (setDom s d x).lineSlow = s.lineSlow := rfl
@[simp] theorem setDom_out (s : State) (d : Nat) (x : Domain) : (setDom s d x).out = s.out := rfl
@[simp] theorem setDom_grade (s : State) (d : Nat) (x : Domain) : (setDom s d x).grade = s.grade := rfl

/-! ## setQ -/

@[simp] theorem setQ_pending (s : State) (n : Nat) (x : Queue) : (setQ s n x).pending = s.pending := rfl
@[simp] theorem setQ_time (s : State) (n : Nat) (x : Queue) : (setQ s n x).time = s.time := rfl
@[simp] theorem setQ_pus (s : State) (n : Nat) (x : Queue) : (setQ s n x).pus = s.pus := rfl
@[simp] theorem setQ_gens (s : State) (n : Nat) (x : Queue) : (setQ s n x).gens = s.gens := rfl
@[simp] theorem setQ_slots (s : State) (n : Nat) (x : Queue) : (setQ s n x).slots = s.slots := rfl
@[simp] theorem setQ_cams (s : State) (n : Nat) (x : Queue) : (setQ s n x).cams = s.cams := rfl
@[simp] theorem setQ_ramps (s : State) (n : Nat) (x : Queue) : (setQ s n x).ramps = s.ramps := rfl
@[simp] theorem setQ_field (s : State) (n : Nat) (x : Queue) : (setQ s n x).field = s.field := rfl
@[simp] theorem setQ_die (s : State) (n : Nat) (x : Queue) : (setQ s n x).die = s.die := rfl
@[simp] theorem setQ_trigs (s : State) (n : Nat) (x : Queue) : (setQ s n x).trigs = s.trigs := rfl
@[simp] theorem setQ_pulses (s : State) (n : Nat) (x : Queue) : (setQ s n x).pulses = s.pulses := rfl
@[simp] theorem setQ_linePulses (s : State) (n : Nat) (x : Queue) : (setQ s n x).linePulses = s.linePulses := rfl
@[simp] theorem setQ_deck (s : State) (n : Nat) (x : Queue) : (setQ s n x).deck = s.deck := rfl
@[simp] theorem setQ_imgs (s : State) (n : Nat) (x : Queue) : (setQ s n x).imgs = s.imgs := rfl
@[simp] theorem setQ_seq (s : State) (n : Nat) (x : Queue) : (setQ s n x).seq = s.seq := rfl
@[simp] theorem setQ_bands (s : State) (n : Nat) (x : Queue) : (setQ s n x).bands = s.bands := rfl
@[simp] theorem setQ_jobs (s : State) (n : Nat) (x : Queue) : (setQ s n x).jobs = s.jobs := rfl
@[simp] theorem setQ_rec (s : State) (n : Nat) (x : Queue) : (setQ s n x).rec_ = s.rec_ := rfl
@[simp] theorem setQ_replay (s : State) (n : Nat) (x : Queue) : (setQ s n x).replay = s.replay := rfl
@[simp] theorem setQ_span (s : State) (n : Nat) (x : Queue) : (setQ s n x).span = s.span := rfl
@[simp] theorem setQ_pwr (s : State) (n : Nat) (x : Queue) : (setQ s n x).pwr = s.pwr := rfl
@[simp] theorem setQ_steward (s : State) (n : Nat) (x : Queue) : (setQ s n x).steward = s.steward := rfl
@[simp] theorem setQ_mem (s : State) (n : Nat) (x : Queue) : (setQ s n x).mem = s.mem := rfl
@[simp] theorem setQ_host (s : State) (n : Nat) (x : Queue) : (setQ s n x).host = s.host := rfl
@[simp] theorem setQ_gh (s : State) (n : Nat) (x : Queue) : (setQ s n x).gh = s.gh := rfl
@[simp] theorem setQ_sec (s : State) (n : Nat) (x : Queue) : (setQ s n x).sec = s.sec := rfl
@[simp] theorem setQ_rst (s : State) (n : Nat) (x : Queue) : (setQ s n x).rst = s.rst := rfl
@[simp] theorem setQ_lineSlow (s : State) (n : Nat) (x : Queue) : (setQ s n x).lineSlow = s.lineSlow := rfl
@[simp] theorem setQ_out (s : State) (n : Nat) (x : Queue) : (setQ s n x).out = s.out := rfl
@[simp] theorem setQ_grade (s : State) (n : Nat) (x : Queue) : (setQ s n x).grade = s.grade := rfl

/-! ## setMbx -/

@[simp] theorem setMbx_pending (s : State) (m : Nat) (x : Mbx) : (setMbx s m x).pending = s.pending := rfl
@[simp] theorem setMbx_time (s : State) (m : Nat) (x : Mbx) : (setMbx s m x).time = s.time := rfl
@[simp] theorem setMbx_pus (s : State) (m : Nat) (x : Mbx) : (setMbx s m x).pus = s.pus := rfl
@[simp] theorem setMbx_gens (s : State) (m : Nat) (x : Mbx) : (setMbx s m x).gens = s.gens := rfl
@[simp] theorem setMbx_slots (s : State) (m : Nat) (x : Mbx) : (setMbx s m x).slots = s.slots := rfl
@[simp] theorem setMbx_cams (s : State) (m : Nat) (x : Mbx) : (setMbx s m x).cams = s.cams := rfl
@[simp] theorem setMbx_ramps (s : State) (m : Nat) (x : Mbx) : (setMbx s m x).ramps = s.ramps := rfl
@[simp] theorem setMbx_field (s : State) (m : Nat) (x : Mbx) : (setMbx s m x).field = s.field := rfl
@[simp] theorem setMbx_die (s : State) (m : Nat) (x : Mbx) : (setMbx s m x).die = s.die := rfl
@[simp] theorem setMbx_trigs (s : State) (m : Nat) (x : Mbx) : (setMbx s m x).trigs = s.trigs := rfl
@[simp] theorem setMbx_pulses (s : State) (m : Nat) (x : Mbx) : (setMbx s m x).pulses = s.pulses := rfl
@[simp] theorem setMbx_linePulses (s : State) (m : Nat) (x : Mbx) : (setMbx s m x).linePulses = s.linePulses := rfl
@[simp] theorem setMbx_deck (s : State) (m : Nat) (x : Mbx) : (setMbx s m x).deck = s.deck := rfl
@[simp] theorem setMbx_imgs (s : State) (m : Nat) (x : Mbx) : (setMbx s m x).imgs = s.imgs := rfl
@[simp] theorem setMbx_seq (s : State) (m : Nat) (x : Mbx) : (setMbx s m x).seq = s.seq := rfl
@[simp] theorem setMbx_bands (s : State) (m : Nat) (x : Mbx) : (setMbx s m x).bands = s.bands := rfl
@[simp] theorem setMbx_jobs (s : State) (m : Nat) (x : Mbx) : (setMbx s m x).jobs = s.jobs := rfl
@[simp] theorem setMbx_rec (s : State) (m : Nat) (x : Mbx) : (setMbx s m x).rec_ = s.rec_ := rfl
@[simp] theorem setMbx_replay (s : State) (m : Nat) (x : Mbx) : (setMbx s m x).replay = s.replay := rfl
@[simp] theorem setMbx_span (s : State) (m : Nat) (x : Mbx) : (setMbx s m x).span = s.span := rfl
@[simp] theorem setMbx_pwr (s : State) (m : Nat) (x : Mbx) : (setMbx s m x).pwr = s.pwr := rfl
@[simp] theorem setMbx_steward (s : State) (m : Nat) (x : Mbx) : (setMbx s m x).steward = s.steward := rfl
@[simp] theorem setMbx_mem (s : State) (m : Nat) (x : Mbx) : (setMbx s m x).mem = s.mem := rfl
@[simp] theorem setMbx_host (s : State) (m : Nat) (x : Mbx) : (setMbx s m x).host = s.host := rfl
@[simp] theorem setMbx_q (s : State) (m : Nat) (x : Mbx) : (setMbx s m x).q = s.q := rfl
@[simp] theorem setMbx_sec (s : State) (m : Nat) (x : Mbx) : (setMbx s m x).sec = s.sec := rfl
@[simp] theorem setMbx_rst (s : State) (m : Nat) (x : Mbx) : (setMbx s m x).rst = s.rst := rfl
@[simp] theorem setMbx_lineSlow (s : State) (m : Nat) (x : Mbx) : (setMbx s m x).lineSlow = s.lineSlow := rfl
@[simp] theorem setMbx_out (s : State) (m : Nat) (x : Mbx) : (setMbx s m x).out = s.out := rfl
@[simp] theorem setMbx_grade (s : State) (m : Nat) (x : Mbx) : (setMbx s m x).grade = s.grade := rfl

/-! ## setGirder -/

@[simp] theorem setGirder_pending (n : Nat) (g : Girder) (s : State) : (setGirder n g s).pending = s.pending := rfl
@[simp] theorem setGirder_time (n : Nat) (g : Girder) (s : State) : (setGirder n g s).time = s.time := rfl
@[simp] theorem setGirder_gens (n : Nat) (g : Girder) (s : State) : (setGirder n g s).gens = s.gens := rfl
@[simp] theorem setGirder_slots (n : Nat) (g : Girder) (s : State) : (setGirder n g s).slots = s.slots := rfl
@[simp] theorem setGirder_cams (n : Nat) (g : Girder) (s : State) : (setGirder n g s).cams = s.cams := rfl
@[simp] theorem setGirder_ramps (n : Nat) (g : Girder) (s : State) : (setGirder n g s).ramps = s.ramps := rfl
@[simp] theorem setGirder_field (n : Nat) (g : Girder) (s : State) : (setGirder n g s).field = s.field := rfl
@[simp] theorem setGirder_die (n : Nat) (g : Girder) (s : State) : (setGirder n g s).die = s.die := rfl
@[simp] theorem setGirder_trigs (n : Nat) (g : Girder) (s : State) : (setGirder n g s).trigs = s.trigs := rfl
@[simp] theorem setGirder_pulses (n : Nat) (g : Girder) (s : State) : (setGirder n g s).pulses = s.pulses := rfl
@[simp] theorem setGirder_linePulses (n : Nat) (g : Girder) (s : State) : (setGirder n g s).linePulses = s.linePulses := rfl
@[simp] theorem setGirder_imgs (n : Nat) (g : Girder) (s : State) : (setGirder n g s).imgs = s.imgs := rfl
@[simp] theorem setGirder_seq (n : Nat) (g : Girder) (s : State) : (setGirder n g s).seq = s.seq := rfl
@[simp] theorem setGirder_bands (n : Nat) (g : Girder) (s : State) : (setGirder n g s).bands = s.bands := rfl
@[simp] theorem setGirder_jobs (n : Nat) (g : Girder) (s : State) : (setGirder n g s).jobs = s.jobs := rfl
@[simp] theorem setGirder_rec (n : Nat) (g : Girder) (s : State) : (setGirder n g s).rec_ = s.rec_ := rfl
@[simp] theorem setGirder_replay (n : Nat) (g : Girder) (s : State) : (setGirder n g s).replay = s.replay := rfl
@[simp] theorem setGirder_span (n : Nat) (g : Girder) (s : State) : (setGirder n g s).span = s.span := rfl
@[simp] theorem setGirder_pwr (n : Nat) (g : Girder) (s : State) : (setGirder n g s).pwr = s.pwr := rfl
@[simp] theorem setGirder_steward (n : Nat) (g : Girder) (s : State) : (setGirder n g s).steward = s.steward := rfl
@[simp] theorem setGirder_mem (n : Nat) (g : Girder) (s : State) : (setGirder n g s).mem = s.mem := rfl
@[simp] theorem setGirder_host (n : Nat) (g : Girder) (s : State) : (setGirder n g s).host = s.host := rfl
@[simp] theorem setGirder_q (n : Nat) (g : Girder) (s : State) : (setGirder n g s).q = s.q := rfl
@[simp] theorem setGirder_gh (n : Nat) (g : Girder) (s : State) : (setGirder n g s).gh = s.gh := rfl
@[simp] theorem setGirder_sec (n : Nat) (g : Girder) (s : State) : (setGirder n g s).sec = s.sec := rfl
@[simp] theorem setGirder_rst (n : Nat) (g : Girder) (s : State) : (setGirder n g s).rst = s.rst := rfl
@[simp] theorem setGirder_lineSlow (n : Nat) (g : Girder) (s : State) : (setGirder n g s).lineSlow = s.lineSlow := rfl
@[simp] theorem setGirder_out (n : Nat) (g : Girder) (s : State) : (setGirder n g s).out = s.out := rfl
@[simp] theorem setGirder_grade (n : Nat) (g : Girder) (s : State) : (setGirder n g s).grade = s.grade := rfl
@[simp] theorem setGirder_pus (n : Nat) (g : Girder) (s : State) : (setGirder n g s).pus = s.pus := rfl

/-! ## emit -/

@[simp] theorem emit_pending (o : Out) (s : State) : (emit o s).pending = s.pending := rfl
@[simp] theorem emit_time (o : Out) (s : State) : (emit o s).time = s.time := rfl
@[simp] theorem emit_pus (o : Out) (s : State) : (emit o s).pus = s.pus := rfl
@[simp] theorem emit_gens (o : Out) (s : State) : (emit o s).gens = s.gens := rfl
@[simp] theorem emit_slots (o : Out) (s : State) : (emit o s).slots = s.slots := rfl
@[simp] theorem emit_cams (o : Out) (s : State) : (emit o s).cams = s.cams := rfl
@[simp] theorem emit_ramps (o : Out) (s : State) : (emit o s).ramps = s.ramps := rfl
@[simp] theorem emit_field (o : Out) (s : State) : (emit o s).field = s.field := rfl
@[simp] theorem emit_die (o : Out) (s : State) : (emit o s).die = s.die := rfl
@[simp] theorem emit_trigs (o : Out) (s : State) : (emit o s).trigs = s.trigs := rfl
@[simp] theorem emit_pulses (o : Out) (s : State) : (emit o s).pulses = s.pulses := rfl
@[simp] theorem emit_linePulses (o : Out) (s : State) : (emit o s).linePulses = s.linePulses := rfl
@[simp] theorem emit_deck (o : Out) (s : State) : (emit o s).deck = s.deck := rfl
@[simp] theorem emit_imgs (o : Out) (s : State) : (emit o s).imgs = s.imgs := rfl
@[simp] theorem emit_seq (o : Out) (s : State) : (emit o s).seq = s.seq := rfl
@[simp] theorem emit_bands (o : Out) (s : State) : (emit o s).bands = s.bands := rfl
@[simp] theorem emit_jobs (o : Out) (s : State) : (emit o s).jobs = s.jobs := rfl
@[simp] theorem emit_rec (o : Out) (s : State) : (emit o s).rec_ = s.rec_ := rfl
@[simp] theorem emit_replay (o : Out) (s : State) : (emit o s).replay = s.replay := rfl
@[simp] theorem emit_span (o : Out) (s : State) : (emit o s).span = s.span := rfl
@[simp] theorem emit_pwr (o : Out) (s : State) : (emit o s).pwr = s.pwr := rfl
@[simp] theorem emit_steward (o : Out) (s : State) : (emit o s).steward = s.steward := rfl
@[simp] theorem emit_mem (o : Out) (s : State) : (emit o s).mem = s.mem := rfl
@[simp] theorem emit_host (o : Out) (s : State) : (emit o s).host = s.host := rfl
@[simp] theorem emit_q (o : Out) (s : State) : (emit o s).q = s.q := rfl
@[simp] theorem emit_gh (o : Out) (s : State) : (emit o s).gh = s.gh := rfl
@[simp] theorem emit_sec (o : Out) (s : State) : (emit o s).sec = s.sec := rfl
@[simp] theorem emit_rst (o : Out) (s : State) : (emit o s).rst = s.rst := rfl
@[simp] theorem emit_lineSlow (o : Out) (s : State) : (emit o s).lineSlow = s.lineSlow := rfl
@[simp] theorem emit_grade (o : Out) (s : State) : (emit o s).grade = s.grade := rfl

/-! ## post -/

@[simp] theorem post_pending (code inst dom a0 a1 : Nat) (s : State) : (post code inst dom a0 a1 s).pending = s.pending := rfl
@[simp] theorem post_time (code inst dom a0 a1 : Nat) (s : State) : (post code inst dom a0 a1 s).time = s.time := rfl
@[simp] theorem post_pus (code inst dom a0 a1 : Nat) (s : State) : (post code inst dom a0 a1 s).pus = s.pus := rfl
@[simp] theorem post_gens (code inst dom a0 a1 : Nat) (s : State) : (post code inst dom a0 a1 s).gens = s.gens := rfl
@[simp] theorem post_slots (code inst dom a0 a1 : Nat) (s : State) : (post code inst dom a0 a1 s).slots = s.slots := rfl
@[simp] theorem post_cams (code inst dom a0 a1 : Nat) (s : State) : (post code inst dom a0 a1 s).cams = s.cams := rfl
@[simp] theorem post_ramps (code inst dom a0 a1 : Nat) (s : State) : (post code inst dom a0 a1 s).ramps = s.ramps := rfl
@[simp] theorem post_field (code inst dom a0 a1 : Nat) (s : State) : (post code inst dom a0 a1 s).field = s.field := rfl
@[simp] theorem post_die (code inst dom a0 a1 : Nat) (s : State) : (post code inst dom a0 a1 s).die = s.die := rfl
@[simp] theorem post_trigs (code inst dom a0 a1 : Nat) (s : State) : (post code inst dom a0 a1 s).trigs = s.trigs := rfl
@[simp] theorem post_pulses (code inst dom a0 a1 : Nat) (s : State) : (post code inst dom a0 a1 s).pulses = s.pulses := rfl
@[simp] theorem post_linePulses (code inst dom a0 a1 : Nat) (s : State) : (post code inst dom a0 a1 s).linePulses = s.linePulses := rfl
@[simp] theorem post_deck (code inst dom a0 a1 : Nat) (s : State) : (post code inst dom a0 a1 s).deck = s.deck := rfl
@[simp] theorem post_imgs (code inst dom a0 a1 : Nat) (s : State) : (post code inst dom a0 a1 s).imgs = s.imgs := rfl
@[simp] theorem post_seq (code inst dom a0 a1 : Nat) (s : State) : (post code inst dom a0 a1 s).seq = s.seq := rfl
@[simp] theorem post_bands (code inst dom a0 a1 : Nat) (s : State) : (post code inst dom a0 a1 s).bands = s.bands := rfl
@[simp] theorem post_jobs (code inst dom a0 a1 : Nat) (s : State) : (post code inst dom a0 a1 s).jobs = s.jobs := rfl
@[simp] theorem post_rec (code inst dom a0 a1 : Nat) (s : State) : (post code inst dom a0 a1 s).rec_ = s.rec_ := rfl
@[simp] theorem post_replay (code inst dom a0 a1 : Nat) (s : State) : (post code inst dom a0 a1 s).replay = s.replay := rfl
@[simp] theorem post_span (code inst dom a0 a1 : Nat) (s : State) : (post code inst dom a0 a1 s).span = s.span := rfl
@[simp] theorem post_pwr (code inst dom a0 a1 : Nat) (s : State) : (post code inst dom a0 a1 s).pwr = s.pwr := rfl
@[simp] theorem post_steward (code inst dom a0 a1 : Nat) (s : State) : (post code inst dom a0 a1 s).steward = s.steward := rfl
@[simp] theorem post_mem (code inst dom a0 a1 : Nat) (s : State) : (post code inst dom a0 a1 s).mem = s.mem := rfl
@[simp] theorem post_host (code inst dom a0 a1 : Nat) (s : State) : (post code inst dom a0 a1 s).host = s.host := rfl
@[simp] theorem post_gh (code inst dom a0 a1 : Nat) (s : State) : (post code inst dom a0 a1 s).gh = s.gh := rfl
@[simp] theorem post_sec (code inst dom a0 a1 : Nat) (s : State) : (post code inst dom a0 a1 s).sec = s.sec := rfl
@[simp] theorem post_rst (code inst dom a0 a1 : Nat) (s : State) : (post code inst dom a0 a1 s).rst = s.rst := rfl
@[simp] theorem post_lineSlow (code inst dom a0 a1 : Nat) (s : State) : (post code inst dom a0 a1 s).lineSlow = s.lineSlow := rfl
@[simp] theorem post_out (code inst dom a0 a1 : Nat) (s : State) : (post code inst dom a0 a1 s).out = s.out := rfl
@[simp] theorem post_grade (code inst dom a0 a1 : Nat) (s : State) : (post code inst dom a0 a1 s).grade = s.grade := rfl

/-! ## tollWrite -/

@[simp] theorem tollWrite_pending (a : Nat) (bs : List Byte) (s : State) : (tollWrite a bs s).pending = s.pending := rfl
@[simp] theorem tollWrite_time (a : Nat) (bs : List Byte) (s : State) : (tollWrite a bs s).time = s.time := rfl
@[simp] theorem tollWrite_pus (a : Nat) (bs : List Byte) (s : State) : (tollWrite a bs s).pus = s.pus := rfl
@[simp] theorem tollWrite_gens (a : Nat) (bs : List Byte) (s : State) : (tollWrite a bs s).gens = s.gens := rfl
@[simp] theorem tollWrite_slots (a : Nat) (bs : List Byte) (s : State) : (tollWrite a bs s).slots = s.slots := rfl
@[simp] theorem tollWrite_cams (a : Nat) (bs : List Byte) (s : State) : (tollWrite a bs s).cams = s.cams := rfl
@[simp] theorem tollWrite_ramps (a : Nat) (bs : List Byte) (s : State) : (tollWrite a bs s).ramps = s.ramps := rfl
@[simp] theorem tollWrite_field (a : Nat) (bs : List Byte) (s : State) : (tollWrite a bs s).field = s.field := rfl
@[simp] theorem tollWrite_die (a : Nat) (bs : List Byte) (s : State) : (tollWrite a bs s).die = s.die := rfl
@[simp] theorem tollWrite_trigs (a : Nat) (bs : List Byte) (s : State) : (tollWrite a bs s).trigs = s.trigs := rfl
@[simp] theorem tollWrite_pulses (a : Nat) (bs : List Byte) (s : State) : (tollWrite a bs s).pulses = s.pulses := rfl
@[simp] theorem tollWrite_linePulses (a : Nat) (bs : List Byte) (s : State) : (tollWrite a bs s).linePulses = s.linePulses := rfl
@[simp] theorem tollWrite_deck (a : Nat) (bs : List Byte) (s : State) : (tollWrite a bs s).deck = s.deck := rfl
@[simp] theorem tollWrite_imgs (a : Nat) (bs : List Byte) (s : State) : (tollWrite a bs s).imgs = s.imgs := rfl
@[simp] theorem tollWrite_seq (a : Nat) (bs : List Byte) (s : State) : (tollWrite a bs s).seq = s.seq := rfl
@[simp] theorem tollWrite_bands (a : Nat) (bs : List Byte) (s : State) : (tollWrite a bs s).bands = s.bands := rfl
@[simp] theorem tollWrite_jobs (a : Nat) (bs : List Byte) (s : State) : (tollWrite a bs s).jobs = s.jobs := rfl
@[simp] theorem tollWrite_rec (a : Nat) (bs : List Byte) (s : State) : (tollWrite a bs s).rec_ = s.rec_ := rfl
@[simp] theorem tollWrite_replay (a : Nat) (bs : List Byte) (s : State) : (tollWrite a bs s).replay = s.replay := rfl
@[simp] theorem tollWrite_span (a : Nat) (bs : List Byte) (s : State) : (tollWrite a bs s).span = s.span := rfl
@[simp] theorem tollWrite_pwr (a : Nat) (bs : List Byte) (s : State) : (tollWrite a bs s).pwr = s.pwr := rfl
@[simp] theorem tollWrite_steward (a : Nat) (bs : List Byte) (s : State) : (tollWrite a bs s).steward = s.steward := rfl
@[simp] theorem tollWrite_host (a : Nat) (bs : List Byte) (s : State) : (tollWrite a bs s).host = s.host := rfl
@[simp] theorem tollWrite_q (a : Nat) (bs : List Byte) (s : State) : (tollWrite a bs s).q = s.q := rfl
@[simp] theorem tollWrite_gh (a : Nat) (bs : List Byte) (s : State) : (tollWrite a bs s).gh = s.gh := rfl
@[simp] theorem tollWrite_sec (a : Nat) (bs : List Byte) (s : State) : (tollWrite a bs s).sec = s.sec := rfl
@[simp] theorem tollWrite_rst (a : Nat) (bs : List Byte) (s : State) : (tollWrite a bs s).rst = s.rst := rfl
@[simp] theorem tollWrite_lineSlow (a : Nat) (bs : List Byte) (s : State) : (tollWrite a bs s).lineSlow = s.lineSlow := rfl
@[simp] theorem tollWrite_out (a : Nat) (bs : List Byte) (s : State) : (tollWrite a bs s).out = s.out := rfl
@[simp] theorem tollWrite_grade (a : Nat) (bs : List Byte) (s : State) : (tollWrite a bs s).grade = s.grade := rfl

/-! ## takeReq -/

@[simp] theorem takeReq_pending (s : State) : (takeReq s).pending = s.pending := rfl
@[simp] theorem takeReq_time (s : State) : (takeReq s).time = s.time := rfl
@[simp] theorem takeReq_pus (s : State) : (takeReq s).pus = s.pus := rfl
@[simp] theorem takeReq_gens (s : State) : (takeReq s).gens = s.gens := rfl
@[simp] theorem takeReq_slots (s : State) : (takeReq s).slots = s.slots := rfl
@[simp] theorem takeReq_cams (s : State) : (takeReq s).cams = s.cams := rfl
@[simp] theorem takeReq_ramps (s : State) : (takeReq s).ramps = s.ramps := rfl
@[simp] theorem takeReq_field (s : State) : (takeReq s).field = s.field := rfl
@[simp] theorem takeReq_die (s : State) : (takeReq s).die = s.die := rfl
@[simp] theorem takeReq_trigs (s : State) : (takeReq s).trigs = s.trigs := rfl
@[simp] theorem takeReq_pulses (s : State) : (takeReq s).pulses = s.pulses := rfl
@[simp] theorem takeReq_linePulses (s : State) : (takeReq s).linePulses = s.linePulses := rfl
@[simp] theorem takeReq_deck (s : State) : (takeReq s).deck = s.deck := rfl
@[simp] theorem takeReq_imgs (s : State) : (takeReq s).imgs = s.imgs := rfl
@[simp] theorem takeReq_seq (s : State) : (takeReq s).seq = s.seq := rfl
@[simp] theorem takeReq_bands (s : State) : (takeReq s).bands = s.bands := rfl
@[simp] theorem takeReq_jobs (s : State) : (takeReq s).jobs = s.jobs := rfl
@[simp] theorem takeReq_rec (s : State) : (takeReq s).rec_ = s.rec_ := rfl
@[simp] theorem takeReq_replay (s : State) : (takeReq s).replay = s.replay := rfl
@[simp] theorem takeReq_span (s : State) : (takeReq s).span = s.span := rfl
@[simp] theorem takeReq_pwr (s : State) : (takeReq s).pwr = s.pwr := rfl
@[simp] theorem takeReq_steward (s : State) : (takeReq s).steward = s.steward := rfl
@[simp] theorem takeReq_mem (s : State) : (takeReq s).mem = s.mem := rfl
@[simp] theorem takeReq_host (s : State) : (takeReq s).host = s.host := rfl
@[simp] theorem takeReq_q (s : State) : (takeReq s).q = s.q := rfl
@[simp] theorem takeReq_sec (s : State) : (takeReq s).sec = s.sec := rfl
@[simp] theorem takeReq_rst (s : State) : (takeReq s).rst = s.rst := rfl
@[simp] theorem takeReq_lineSlow (s : State) : (takeReq s).lineSlow = s.lineSlow := rfl
@[simp] theorem takeReq_out (s : State) : (takeReq s).out = s.out := rfl
@[simp] theorem takeReq_grade (s : State) : (takeReq s).grade = s.grade := rfl

/-! ## A conditional update -/

@[simp] theorem when_pending (c : Bool) (g : State → State) (s : State) :
    (when_ c g s).pending = if c then (g s).pending else s.pending := by unfold when_; split <;> rfl
@[simp] theorem when_time (c : Bool) (g : State → State) (s : State) :
    (when_ c g s).time = if c then (g s).time else s.time := by unfold when_; split <;> rfl
@[simp] theorem when_pus (c : Bool) (g : State → State) (s : State) :
    (when_ c g s).pus = if c then (g s).pus else s.pus := by unfold when_; split <;> rfl
@[simp] theorem when_gens (c : Bool) (g : State → State) (s : State) :
    (when_ c g s).gens = if c then (g s).gens else s.gens := by unfold when_; split <;> rfl
@[simp] theorem when_slots (c : Bool) (g : State → State) (s : State) :
    (when_ c g s).slots = if c then (g s).slots else s.slots := by unfold when_; split <;> rfl
@[simp] theorem when_cams (c : Bool) (g : State → State) (s : State) :
    (when_ c g s).cams = if c then (g s).cams else s.cams := by unfold when_; split <;> rfl
@[simp] theorem when_ramps (c : Bool) (g : State → State) (s : State) :
    (when_ c g s).ramps = if c then (g s).ramps else s.ramps := by unfold when_; split <;> rfl
@[simp] theorem when_field (c : Bool) (g : State → State) (s : State) :
    (when_ c g s).field = if c then (g s).field else s.field := by unfold when_; split <;> rfl
@[simp] theorem when_die (c : Bool) (g : State → State) (s : State) :
    (when_ c g s).die = if c then (g s).die else s.die := by unfold when_; split <;> rfl
@[simp] theorem when_trigs (c : Bool) (g : State → State) (s : State) :
    (when_ c g s).trigs = if c then (g s).trigs else s.trigs := by unfold when_; split <;> rfl
@[simp] theorem when_pulses (c : Bool) (g : State → State) (s : State) :
    (when_ c g s).pulses = if c then (g s).pulses else s.pulses := by unfold when_; split <;> rfl
@[simp] theorem when_linePulses (c : Bool) (g : State → State) (s : State) :
    (when_ c g s).linePulses = if c then (g s).linePulses else s.linePulses := by unfold when_; split <;> rfl
@[simp] theorem when_deck (c : Bool) (g : State → State) (s : State) :
    (when_ c g s).deck = if c then (g s).deck else s.deck := by unfold when_; split <;> rfl
@[simp] theorem when_imgs (c : Bool) (g : State → State) (s : State) :
    (when_ c g s).imgs = if c then (g s).imgs else s.imgs := by unfold when_; split <;> rfl
@[simp] theorem when_seq (c : Bool) (g : State → State) (s : State) :
    (when_ c g s).seq = if c then (g s).seq else s.seq := by unfold when_; split <;> rfl
@[simp] theorem when_bands (c : Bool) (g : State → State) (s : State) :
    (when_ c g s).bands = if c then (g s).bands else s.bands := by unfold when_; split <;> rfl
@[simp] theorem when_jobs (c : Bool) (g : State → State) (s : State) :
    (when_ c g s).jobs = if c then (g s).jobs else s.jobs := by unfold when_; split <;> rfl
@[simp] theorem when_rec (c : Bool) (g : State → State) (s : State) :
    (when_ c g s).rec_ = if c then (g s).rec_ else s.rec_ := by unfold when_; split <;> rfl
@[simp] theorem when_replay (c : Bool) (g : State → State) (s : State) :
    (when_ c g s).replay = if c then (g s).replay else s.replay := by unfold when_; split <;> rfl
@[simp] theorem when_span (c : Bool) (g : State → State) (s : State) :
    (when_ c g s).span = if c then (g s).span else s.span := by unfold when_; split <;> rfl
@[simp] theorem when_pwr (c : Bool) (g : State → State) (s : State) :
    (when_ c g s).pwr = if c then (g s).pwr else s.pwr := by unfold when_; split <;> rfl
@[simp] theorem when_steward (c : Bool) (g : State → State) (s : State) :
    (when_ c g s).steward = if c then (g s).steward else s.steward := by unfold when_; split <;> rfl
@[simp] theorem when_mem (c : Bool) (g : State → State) (s : State) :
    (when_ c g s).mem = if c then (g s).mem else s.mem := by unfold when_; split <;> rfl
@[simp] theorem when_host (c : Bool) (g : State → State) (s : State) :
    (when_ c g s).host = if c then (g s).host else s.host := by unfold when_; split <;> rfl
@[simp] theorem when_q (c : Bool) (g : State → State) (s : State) :
    (when_ c g s).q = if c then (g s).q else s.q := by unfold when_; split <;> rfl
@[simp] theorem when_gh (c : Bool) (g : State → State) (s : State) :
    (when_ c g s).gh = if c then (g s).gh else s.gh := by unfold when_; split <;> rfl
@[simp] theorem when_sec (c : Bool) (g : State → State) (s : State) :
    (when_ c g s).sec = if c then (g s).sec else s.sec := by unfold when_; split <;> rfl
@[simp] theorem when_rst (c : Bool) (g : State → State) (s : State) :
    (when_ c g s).rst = if c then (g s).rst else s.rst := by unfold when_; split <;> rfl
@[simp] theorem when_lineSlow (c : Bool) (g : State → State) (s : State) :
    (when_ c g s).lineSlow = if c then (g s).lineSlow else s.lineSlow := by unfold when_; split <;> rfl
@[simp] theorem when_out (c : Bool) (g : State → State) (s : State) :
    (when_ c g s).out = if c then (g s).out else s.out := by unfold when_; split <;> rfl
@[simp] theorem when_grade (c : Bool) (g : State → State) (s : State) :
    (when_ c g s).grade = if c then (g s).grade else s.grade := by unfold when_; split <;> rfl

/-! ## Reading back -/

@[simp] theorem getPu_setPu (s : State) (p : Nat) (u : Pu) : getPu (setPu s p u) p = u := by simp [getPu, setPu]
@[simp] theorem getGen_setGen (s : State) (p : Nat) (g : LineGen) : getGen (setGen s p g) p = g := by simp [getGen, setGen]
@[simp] theorem getCam_setCam (s : State) (p : Nat) (c : Cam) : getCam (setCam s p c) p = c := by simp [getCam, setCam]
@[simp] theorem getRamp_setRamp (s : State) (p : Nat) (r : Ramp) : getRamp (setRamp s p r) p = r := by simp [getRamp, setRamp]
@[simp] theorem getSlot_setSlot (s : State) (i : Nat) (t : Slot) : getSlot (setSlot s i t) i = t := by simp [getSlot, setSlot]
@[simp] theorem getImg_setImg (s : State) (i : Nat) (x : ImgSlot) : getImg (setImg s i x) i = x := by simp [getImg, setImg]
@[simp] theorem getSpan_setSpan (s : State) (p : Nat) (x : SpanPort) : getSpan (setSpan s p x) p = x := by simp [getSpan, setSpan]
@[simp] theorem getDom_setDom (s : State) (d : Nat) (x : Domain) : getDom (setDom s d x) d = x := by simp [getDom, setDom]
@[simp] theorem getQ_setQ (s : State) (n : Nat) (x : Queue) : getQ (setQ s n x) n = x := by simp [getQ, setQ]
@[simp] theorem getGirder_setGirder (n : Nat) (g : Girder) (s : State) : getGirder (setGirder n g s) n = g := by
  simp [getGirder, setGirder]

end Sys2Proof.Machine
end

