-- ==== Sys2Proof/Laws/Frames.lean ====
section
/-! SUPPORT. Sys2Proof/Laws/Frames.lean: what completion, the recorder, restricted service and a wake leave alone.
-/

namespace Sys2Proof.Machine

set_option Elab.async false

/-! ## finish -/

@[simp] theorem finish_pending (m : Nat) (rep : Reply) (s : State) : (finish m rep s).pending = s.pending := by
  unfold finish; dsimp only; split <;> rfl
@[simp] theorem finish_time (m : Nat) (rep : Reply) (s : State) : (finish m rep s).time = s.time := by
  unfold finish; dsimp only; split <;> rfl
@[simp] theorem finish_pus (m : Nat) (rep : Reply) (s : State) : (finish m rep s).pus = s.pus := by
  unfold finish; dsimp only; split <;> rfl
@[simp] theorem finish_gens (m : Nat) (rep : Reply) (s : State) : (finish m rep s).gens = s.gens := by
  unfold finish; dsimp only; split <;> rfl
@[simp] theorem finish_slots (m : Nat) (rep : Reply) (s : State) : (finish m rep s).slots = s.slots := by
  unfold finish; dsimp only; split <;> rfl
@[simp] theorem finish_cams (m : Nat) (rep : Reply) (s : State) : (finish m rep s).cams = s.cams := by
  unfold finish; dsimp only; split <;> rfl
@[simp] theorem finish_ramps (m : Nat) (rep : Reply) (s : State) : (finish m rep s).ramps = s.ramps := by
  unfold finish; dsimp only; split <;> rfl
@[simp] theorem finish_field (m : Nat) (rep : Reply) (s : State) : (finish m rep s).field = s.field := by
  unfold finish; dsimp only; split <;> rfl
@[simp] theorem finish_die (m : Nat) (rep : Reply) (s : State) : (finish m rep s).die = s.die := by
  unfold finish; dsimp only; split <;> rfl
@[simp] theorem finish_trigs (m : Nat) (rep : Reply) (s : State) : (finish m rep s).trigs = s.trigs := by
  unfold finish; dsimp only; split <;> rfl
@[simp] theorem finish_pulses (m : Nat) (rep : Reply) (s : State) : (finish m rep s).pulses = s.pulses := by
  unfold finish; dsimp only; split <;> rfl
@[simp] theorem finish_linePulses (m : Nat) (rep : Reply) (s : State) : (finish m rep s).linePulses = s.linePulses := by
  unfold finish; dsimp only; split <;> rfl
@[simp] theorem finish_deck (m : Nat) (rep : Reply) (s : State) : (finish m rep s).deck = s.deck := by
  unfold finish; dsimp only; split <;> rfl
@[simp] theorem finish_imgs (m : Nat) (rep : Reply) (s : State) : (finish m rep s).imgs = s.imgs := by
  unfold finish; dsimp only; split <;> rfl
@[simp] theorem finish_seq (m : Nat) (rep : Reply) (s : State) : (finish m rep s).seq = s.seq := by
  unfold finish; dsimp only; split <;> rfl
@[simp] theorem finish_bands (m : Nat) (rep : Reply) (s : State) : (finish m rep s).bands = s.bands := by
  unfold finish; dsimp only; split <;> rfl
@[simp] theorem finish_jobs (m : Nat) (rep : Reply) (s : State) : (finish m rep s).jobs = s.jobs := by
  unfold finish; dsimp only; split <;> rfl
@[simp] theorem finish_rec (m : Nat) (rep : Reply) (s : State) : (finish m rep s).rec_ = s.rec_ := by
  unfold finish; dsimp only; split <;> rfl
@[simp] theorem finish_replay (m : Nat) (rep : Reply) (s : State) : (finish m rep s).replay = s.replay := by
  unfold finish; dsimp only; split <;> rfl
@[simp] theorem finish_span (m : Nat) (rep : Reply) (s : State) : (finish m rep s).span = s.span := by
  unfold finish; dsimp only; split <;> rfl
@[simp] theorem finish_pwr (m : Nat) (rep : Reply) (s : State) : (finish m rep s).pwr = s.pwr := by
  unfold finish; dsimp only; split <;> rfl
@[simp] theorem finish_steward (m : Nat) (rep : Reply) (s : State) : (finish m rep s).steward = s.steward := by
  unfold finish; dsimp only; split <;> rfl
@[simp] theorem finish_q (m : Nat) (rep : Reply) (s : State) : (finish m rep s).q = s.q := by
  unfold finish; dsimp only; split <;> rfl
@[simp] theorem finish_sec (m : Nat) (rep : Reply) (s : State) : (finish m rep s).sec = s.sec := by
  unfold finish; dsimp only; split <;> rfl
@[simp] theorem finish_rst (m : Nat) (rep : Reply) (s : State) : (finish m rep s).rst = s.rst := by
  unfold finish; dsimp only; split <;> rfl
@[simp] theorem finish_lineSlow (m : Nat) (rep : Reply) (s : State) : (finish m rep s).lineSlow = s.lineSlow := by
  unfold finish; dsimp only; split <;> rfl
@[simp] theorem finish_out (m : Nat) (rep : Reply) (s : State) : (finish m rep s).out = s.out := by
  unfold finish; dsimp only; split <;> rfl
@[simp] theorem finish_grade (m : Nat) (rep : Reply) (s : State) : (finish m rep s).grade = s.grade := by
  unfold finish; dsimp only; split <;> rfl

/-! ## recPut -/

@[simp] theorem recPut_pending (typ stamp : Nat) (pl : List Byte) (s : State) : (recPut typ stamp pl s).pending = s.pending := by
  unfold recPut; dsimp only; (repeat' split) <;> rfl
@[simp] theorem recPut_time (typ stamp : Nat) (pl : List Byte) (s : State) : (recPut typ stamp pl s).time = s.time := by
  unfold recPut; dsimp only; (repeat' split) <;> rfl
@[simp] theorem recPut_pus (typ stamp : Nat) (pl : List Byte) (s : State) : (recPut typ stamp pl s).pus = s.pus := by
  unfold recPut; dsimp only; (repeat' split) <;> rfl
@[simp] theorem recPut_gens (typ stamp : Nat) (pl : List Byte) (s : State) : (recPut typ stamp pl s).gens = s.gens := by
  unfold recPut; dsimp only; (repeat' split) <;> rfl
@[simp] theorem recPut_slots (typ stamp : Nat) (pl : List Byte) (s : State) : (recPut typ stamp pl s).slots = s.slots := by
  unfold recPut; dsimp only; (repeat' split) <;> rfl
@[simp] theorem recPut_cams (typ stamp : Nat) (pl : List Byte) (s : State) : (recPut typ stamp pl s).cams = s.cams := by
  unfold recPut; dsimp only; (repeat' split) <;> rfl
@[simp] theorem recPut_ramps (typ stamp : Nat) (pl : List Byte) (s : State) : (recPut typ stamp pl s).ramps = s.ramps := by
  unfold recPut; dsimp only; (repeat' split) <;> rfl
@[simp] theorem recPut_field (typ stamp : Nat) (pl : List Byte) (s : State) : (recPut typ stamp pl s).field = s.field := by
  unfold recPut; dsimp only; (repeat' split) <;> rfl
@[simp] theorem recPut_die (typ stamp : Nat) (pl : List Byte) (s : State) : (recPut typ stamp pl s).die = s.die := by
  unfold recPut; dsimp only; (repeat' split) <;> rfl
@[simp] theorem recPut_trigs (typ stamp : Nat) (pl : List Byte) (s : State) : (recPut typ stamp pl s).trigs = s.trigs := by
  unfold recPut; dsimp only; (repeat' split) <;> rfl
@[simp] theorem recPut_pulses (typ stamp : Nat) (pl : List Byte) (s : State) : (recPut typ stamp pl s).pulses = s.pulses := by
  unfold recPut; dsimp only; (repeat' split) <;> rfl
@[simp] theorem recPut_linePulses (typ stamp : Nat) (pl : List Byte) (s : State) : (recPut typ stamp pl s).linePulses = s.linePulses := by
  unfold recPut; dsimp only; (repeat' split) <;> rfl
@[simp] theorem recPut_deck (typ stamp : Nat) (pl : List Byte) (s : State) : (recPut typ stamp pl s).deck = s.deck := by
  unfold recPut; dsimp only; (repeat' split) <;> rfl
@[simp] theorem recPut_imgs (typ stamp : Nat) (pl : List Byte) (s : State) : (recPut typ stamp pl s).imgs = s.imgs := by
  unfold recPut; dsimp only; (repeat' split) <;> rfl
@[simp] theorem recPut_seq (typ stamp : Nat) (pl : List Byte) (s : State) : (recPut typ stamp pl s).seq = s.seq := by
  unfold recPut; dsimp only; (repeat' split) <;> rfl
@[simp] theorem recPut_bands (typ stamp : Nat) (pl : List Byte) (s : State) : (recPut typ stamp pl s).bands = s.bands := by
  unfold recPut; dsimp only; (repeat' split) <;> rfl
@[simp] theorem recPut_jobs (typ stamp : Nat) (pl : List Byte) (s : State) : (recPut typ stamp pl s).jobs = s.jobs := by
  unfold recPut; dsimp only; (repeat' split) <;> rfl
@[simp] theorem recPut_replay (typ stamp : Nat) (pl : List Byte) (s : State) : (recPut typ stamp pl s).replay = s.replay := by
  unfold recPut; dsimp only; (repeat' split) <;> rfl
@[simp] theorem recPut_span (typ stamp : Nat) (pl : List Byte) (s : State) : (recPut typ stamp pl s).span = s.span := by
  unfold recPut; dsimp only; (repeat' split) <;> rfl
@[simp] theorem recPut_pwr (typ stamp : Nat) (pl : List Byte) (s : State) : (recPut typ stamp pl s).pwr = s.pwr := by
  unfold recPut; dsimp only; (repeat' split) <;> rfl
@[simp] theorem recPut_steward (typ stamp : Nat) (pl : List Byte) (s : State) : (recPut typ stamp pl s).steward = s.steward := by
  unfold recPut; dsimp only; (repeat' split) <;> rfl
@[simp] theorem recPut_mem (typ stamp : Nat) (pl : List Byte) (s : State) : (recPut typ stamp pl s).mem = s.mem := by
  unfold recPut; dsimp only; (repeat' split) <;> rfl
@[simp] theorem recPut_host (typ stamp : Nat) (pl : List Byte) (s : State) : (recPut typ stamp pl s).host = s.host := by
  unfold recPut; dsimp only; (repeat' split) <;> rfl
@[simp] theorem recPut_q (typ stamp : Nat) (pl : List Byte) (s : State) : (recPut typ stamp pl s).q = s.q := by
  unfold recPut; dsimp only; (repeat' split) <;> rfl
@[simp] theorem recPut_gh (typ stamp : Nat) (pl : List Byte) (s : State) : (recPut typ stamp pl s).gh = s.gh := by
  unfold recPut; dsimp only; (repeat' split) <;> rfl
@[simp] theorem recPut_sec (typ stamp : Nat) (pl : List Byte) (s : State) : (recPut typ stamp pl s).sec = s.sec := by
  unfold recPut; dsimp only; (repeat' split) <;> rfl
@[simp] theorem recPut_rst (typ stamp : Nat) (pl : List Byte) (s : State) : (recPut typ stamp pl s).rst = s.rst := by
  unfold recPut; dsimp only; (repeat' split) <;> rfl
@[simp] theorem recPut_lineSlow (typ stamp : Nat) (pl : List Byte) (s : State) : (recPut typ stamp pl s).lineSlow = s.lineSlow := by
  unfold recPut; dsimp only; (repeat' split) <;> rfl
@[simp] theorem recPut_out (typ stamp : Nat) (pl : List Byte) (s : State) : (recPut typ stamp pl s).out = s.out := by
  unfold recPut; dsimp only; (repeat' split) <;> rfl
@[simp] theorem recPut_grade (typ stamp : Nat) (pl : List Byte) (s : State) : (recPut typ stamp pl s).grade = s.grade := by
  unfold recPut; dsimp only; (repeat' split) <;> rfl

/-! ## recFault -/

@[simp] theorem recFault_pending (code unit place : Nat) (s : State) : (recFault code unit place s).pending = s.pending := by
  unfold recFault; rw [recPut_pending]
@[simp] theorem recFault_time (code unit place : Nat) (s : State) : (recFault code unit place s).time = s.time := by
  unfold recFault; rw [recPut_time]
@[simp] theorem recFault_pus (code unit place : Nat) (s : State) : (recFault code unit place s).pus = s.pus := by
  unfold recFault; rw [recPut_pus]
@[simp] theorem recFault_gens (code unit place : Nat) (s : State) : (recFault code unit place s).gens = s.gens := by
  unfold recFault; rw [recPut_gens]
@[simp] theorem recFault_slots (code unit place : Nat) (s : State) : (recFault code unit place s).slots = s.slots := by
  unfold recFault; rw [recPut_slots]
@[simp] theorem recFault_cams (code unit place : Nat) (s : State) : (recFault code unit place s).cams = s.cams := by
  unfold recFault; rw [recPut_cams]
@[simp] theorem recFault_ramps (code unit place : Nat) (s : State) : (recFault code unit place s).ramps = s.ramps := by
  unfold recFault; rw [recPut_ramps]
@[simp] theorem recFault_field (code unit place : Nat) (s : State) : (recFault code unit place s).field = s.field := by
  unfold recFault; rw [recPut_field]
@[simp] theorem recFault_die (code unit place : Nat) (s : State) : (recFault code unit place s).die = s.die := by
  unfold recFault; rw [recPut_die]
@[simp] theorem recFault_trigs (code unit place : Nat) (s : State) : (recFault code unit place s).trigs = s.trigs := by
  unfold recFault; rw [recPut_trigs]
@[simp] theorem recFault_pulses (code unit place : Nat) (s : State) : (recFault code unit place s).pulses = s.pulses := by
  unfold recFault; rw [recPut_pulses]
@[simp] theorem recFault_linePulses (code unit place : Nat) (s : State) : (recFault code unit place s).linePulses = s.linePulses := by
  unfold recFault; rw [recPut_linePulses]
@[simp] theorem recFault_deck (code unit place : Nat) (s : State) : (recFault code unit place s).deck = s.deck := by
  unfold recFault; rw [recPut_deck]
@[simp] theorem recFault_imgs (code unit place : Nat) (s : State) : (recFault code unit place s).imgs = s.imgs := by
  unfold recFault; rw [recPut_imgs]
@[simp] theorem recFault_seq (code unit place : Nat) (s : State) : (recFault code unit place s).seq = s.seq := by
  unfold recFault; rw [recPut_seq]
@[simp] theorem recFault_bands (code unit place : Nat) (s : State) : (recFault code unit place s).bands = s.bands := by
  unfold recFault; rw [recPut_bands]
@[simp] theorem recFault_jobs (code unit place : Nat) (s : State) : (recFault code unit place s).jobs = s.jobs := by
  unfold recFault; rw [recPut_jobs]
@[simp] theorem recFault_replay (code unit place : Nat) (s : State) : (recFault code unit place s).replay = s.replay := by
  unfold recFault; rw [recPut_replay]
@[simp] theorem recFault_span (code unit place : Nat) (s : State) : (recFault code unit place s).span = s.span := by
  unfold recFault; rw [recPut_span]
@[simp] theorem recFault_pwr (code unit place : Nat) (s : State) : (recFault code unit place s).pwr = s.pwr := by
  unfold recFault; rw [recPut_pwr]
@[simp] theorem recFault_steward (code unit place : Nat) (s : State) : (recFault code unit place s).steward = s.steward := by
  unfold recFault; rw [recPut_steward]
@[simp] theorem recFault_mem (code unit place : Nat) (s : State) : (recFault code unit place s).mem = s.mem := by
  unfold recFault; rw [recPut_mem]
@[simp] theorem recFault_host (code unit place : Nat) (s : State) : (recFault code unit place s).host = s.host := by
  unfold recFault; rw [recPut_host]
@[simp] theorem recFault_q (code unit place : Nat) (s : State) : (recFault code unit place s).q = s.q := by
  unfold recFault; rw [recPut_q]
@[simp] theorem recFault_gh (code unit place : Nat) (s : State) : (recFault code unit place s).gh = s.gh := by
  unfold recFault; rw [recPut_gh]
@[simp] theorem recFault_sec (code unit place : Nat) (s : State) : (recFault code unit place s).sec = s.sec := by
  unfold recFault; rw [recPut_sec]
@[simp] theorem recFault_rst (code unit place : Nat) (s : State) : (recFault code unit place s).rst = s.rst := by
  unfold recFault; rw [recPut_rst]
@[simp] theorem recFault_lineSlow (code unit place : Nat) (s : State) : (recFault code unit place s).lineSlow = s.lineSlow := by
  unfold recFault; rw [recPut_lineSlow]
@[simp] theorem recFault_out (code unit place : Nat) (s : State) : (recFault code unit place s).out = s.out := by
  unfold recFault; rw [recPut_out]
@[simp] theorem recFault_grade (code unit place : Nat) (s : State) : (recFault code unit place s).grade = s.grade := by
  unfold recFault; rw [recPut_grade]

/-! ## recConfigAt -/

@[simp] theorem recConfigAt_pending (line port op : Nat) (pl : List Byte) (s : State) : (recConfigAt line port op pl s).pending = s.pending := by
  unfold recConfigAt; rw [recPut_pending]
@[simp] theorem recConfigAt_time (line port op : Nat) (pl : List Byte) (s : State) : (recConfigAt line port op pl s).time = s.time := by
  unfold recConfigAt; rw [recPut_time]
@[simp] theorem recConfigAt_pus (line port op : Nat) (pl : List Byte) (s : State) : (recConfigAt line port op pl s).pus = s.pus := by
  unfold recConfigAt; rw [recPut_pus]
@[simp] theorem recConfigAt_gens (line port op : Nat) (pl : List Byte) (s : State) : (recConfigAt line port op pl s).gens = s.gens := by
  unfold recConfigAt; rw [recPut_gens]
@[simp] theorem recConfigAt_slots (line port op : Nat) (pl : List Byte) (s : State) : (recConfigAt line port op pl s).slots = s.slots := by
  unfold recConfigAt; rw [recPut_slots]
@[simp] theorem recConfigAt_cams (line port op : Nat) (pl : List Byte) (s : State) : (recConfigAt line port op pl s).cams = s.cams := by
  unfold recConfigAt; rw [recPut_cams]
@[simp] theorem recConfigAt_ramps (line port op : Nat) (pl : List Byte) (s : State) : (recConfigAt line port op pl s).ramps = s.ramps := by
  unfold recConfigAt; rw [recPut_ramps]
@[simp] theorem recConfigAt_field (line port op : Nat) (pl : List Byte) (s : State) : (recConfigAt line port op pl s).field = s.field := by
  unfold recConfigAt; rw [recPut_field]
@[simp] theorem recConfigAt_die (line port op : Nat) (pl : List Byte) (s : State) : (recConfigAt line port op pl s).die = s.die := by
  unfold recConfigAt; rw [recPut_die]
@[simp] theorem recConfigAt_trigs (line port op : Nat) (pl : List Byte) (s : State) : (recConfigAt line port op pl s).trigs = s.trigs := by
  unfold recConfigAt; rw [recPut_trigs]
@[simp] theorem recConfigAt_pulses (line port op : Nat) (pl : List Byte) (s : State) : (recConfigAt line port op pl s).pulses = s.pulses := by
  unfold recConfigAt; rw [recPut_pulses]
@[simp] theorem recConfigAt_linePulses (line port op : Nat) (pl : List Byte) (s : State) : (recConfigAt line port op pl s).linePulses = s.linePulses := by
  unfold recConfigAt; rw [recPut_linePulses]
@[simp] theorem recConfigAt_deck (line port op : Nat) (pl : List Byte) (s : State) : (recConfigAt line port op pl s).deck = s.deck := by
  unfold recConfigAt; rw [recPut_deck]
@[simp] theorem recConfigAt_imgs (line port op : Nat) (pl : List Byte) (s : State) : (recConfigAt line port op pl s).imgs = s.imgs := by
  unfold recConfigAt; rw [recPut_imgs]
@[simp] theorem recConfigAt_seq (line port op : Nat) (pl : List Byte) (s : State) : (recConfigAt line port op pl s).seq = s.seq := by
  unfold recConfigAt; rw [recPut_seq]
@[simp] theorem recConfigAt_bands (line port op : Nat) (pl : List Byte) (s : State) : (recConfigAt line port op pl s).bands = s.bands := by
  unfold recConfigAt; rw [recPut_bands]
@[simp] theorem recConfigAt_jobs (line port op : Nat) (pl : List Byte) (s : State) : (recConfigAt line port op pl s).jobs = s.jobs := by
  unfold recConfigAt; rw [recPut_jobs]
@[simp] theorem recConfigAt_replay (line port op : Nat) (pl : List Byte) (s : State) : (recConfigAt line port op pl s).replay = s.replay := by
  unfold recConfigAt; rw [recPut_replay]
@[simp] theorem recConfigAt_span (line port op : Nat) (pl : List Byte) (s : State) : (recConfigAt line port op pl s).span = s.span := by
  unfold recConfigAt; rw [recPut_span]
@[simp] theorem recConfigAt_pwr (line port op : Nat) (pl : List Byte) (s : State) : (recConfigAt line port op pl s).pwr = s.pwr := by
  unfold recConfigAt; rw [recPut_pwr]
@[simp] theorem recConfigAt_steward (line port op : Nat) (pl : List Byte) (s : State) : (recConfigAt line port op pl s).steward = s.steward := by
  unfold recConfigAt; rw [recPut_steward]
@[simp] theorem recConfigAt_mem (line port op : Nat) (pl : List Byte) (s : State) : (recConfigAt line port op pl s).mem = s.mem := by
  unfold recConfigAt; rw [recPut_mem]
@[simp] theorem recConfigAt_host (line port op : Nat) (pl : List Byte) (s : State) : (recConfigAt line port op pl s).host = s.host := by
  unfold recConfigAt; rw [recPut_host]
@[simp] theorem recConfigAt_q (line port op : Nat) (pl : List Byte) (s : State) : (recConfigAt line port op pl s).q = s.q := by
  unfold recConfigAt; rw [recPut_q]
@[simp] theorem recConfigAt_gh (line port op : Nat) (pl : List Byte) (s : State) : (recConfigAt line port op pl s).gh = s.gh := by
  unfold recConfigAt; rw [recPut_gh]
@[simp] theorem recConfigAt_sec (line port op : Nat) (pl : List Byte) (s : State) : (recConfigAt line port op pl s).sec = s.sec := by
  unfold recConfigAt; rw [recPut_sec]
@[simp] theorem recConfigAt_rst (line port op : Nat) (pl : List Byte) (s : State) : (recConfigAt line port op pl s).rst = s.rst := by
  unfold recConfigAt; rw [recPut_rst]
@[simp] theorem recConfigAt_lineSlow (line port op : Nat) (pl : List Byte) (s : State) : (recConfigAt line port op pl s).lineSlow = s.lineSlow := by
  unfold recConfigAt; rw [recPut_lineSlow]
@[simp] theorem recConfigAt_out (line port op : Nat) (pl : List Byte) (s : State) : (recConfigAt line port op pl s).out = s.out := by
  unfold recConfigAt; rw [recPut_out]
@[simp] theorem recConfigAt_grade (line port op : Nat) (pl : List Byte) (s : State) : (recConfigAt line port op pl s).grade = s.grade := by
  unfold recConfigAt; rw [recPut_grade]

/-! ## recConfig -/

@[simp] theorem recConfig_pending (port op : Nat) (pl : List Byte) (s : State) : (recConfig port op pl s).pending = s.pending := by
  unfold recConfig; rw [recConfigAt_pending]
@[simp] theorem recConfig_time (port op : Nat) (pl : List Byte) (s : State) : (recConfig port op pl s).time = s.time := by
  unfold recConfig; rw [recConfigAt_time]
@[simp] theorem recConfig_pus (port op : Nat) (pl : List Byte) (s : State) : (recConfig port op pl s).pus = s.pus := by
  unfold recConfig; rw [recConfigAt_pus]
@[simp] theorem recConfig_gens (port op : Nat) (pl : List Byte) (s : State) : (recConfig port op pl s).gens = s.gens := by
  unfold recConfig; rw [recConfigAt_gens]
@[simp] theorem recConfig_slots (port op : Nat) (pl : List Byte) (s : State) : (recConfig port op pl s).slots = s.slots := by
  unfold recConfig; rw [recConfigAt_slots]
@[simp] theorem recConfig_cams (port op : Nat) (pl : List Byte) (s : State) : (recConfig port op pl s).cams = s.cams := by
  unfold recConfig; rw [recConfigAt_cams]
@[simp] theorem recConfig_ramps (port op : Nat) (pl : List Byte) (s : State) : (recConfig port op pl s).ramps = s.ramps := by
  unfold recConfig; rw [recConfigAt_ramps]
@[simp] theorem recConfig_field (port op : Nat) (pl : List Byte) (s : State) : (recConfig port op pl s).field = s.field := by
  unfold recConfig; rw [recConfigAt_field]
@[simp] theorem recConfig_die (port op : Nat) (pl : List Byte) (s : State) : (recConfig port op pl s).die = s.die := by
  unfold recConfig; rw [recConfigAt_die]
@[simp] theorem recConfig_trigs (port op : Nat) (pl : List Byte) (s : State) : (recConfig port op pl s).trigs = s.trigs := by
  unfold recConfig; rw [recConfigAt_trigs]
@[simp] theorem recConfig_pulses (port op : Nat) (pl : List Byte) (s : State) : (recConfig port op pl s).pulses = s.pulses := by
  unfold recConfig; rw [recConfigAt_pulses]
@[simp] theorem recConfig_linePulses (port op : Nat) (pl : List Byte) (s : State) : (recConfig port op pl s).linePulses = s.linePulses := by
  unfold recConfig; rw [recConfigAt_linePulses]
@[simp] theorem recConfig_deck (port op : Nat) (pl : List Byte) (s : State) : (recConfig port op pl s).deck = s.deck := by
  unfold recConfig; rw [recConfigAt_deck]
@[simp] theorem recConfig_imgs (port op : Nat) (pl : List Byte) (s : State) : (recConfig port op pl s).imgs = s.imgs := by
  unfold recConfig; rw [recConfigAt_imgs]
@[simp] theorem recConfig_seq (port op : Nat) (pl : List Byte) (s : State) : (recConfig port op pl s).seq = s.seq := by
  unfold recConfig; rw [recConfigAt_seq]
@[simp] theorem recConfig_bands (port op : Nat) (pl : List Byte) (s : State) : (recConfig port op pl s).bands = s.bands := by
  unfold recConfig; rw [recConfigAt_bands]
@[simp] theorem recConfig_jobs (port op : Nat) (pl : List Byte) (s : State) : (recConfig port op pl s).jobs = s.jobs := by
  unfold recConfig; rw [recConfigAt_jobs]
@[simp] theorem recConfig_replay (port op : Nat) (pl : List Byte) (s : State) : (recConfig port op pl s).replay = s.replay := by
  unfold recConfig; rw [recConfigAt_replay]
@[simp] theorem recConfig_span (port op : Nat) (pl : List Byte) (s : State) : (recConfig port op pl s).span = s.span := by
  unfold recConfig; rw [recConfigAt_span]
@[simp] theorem recConfig_pwr (port op : Nat) (pl : List Byte) (s : State) : (recConfig port op pl s).pwr = s.pwr := by
  unfold recConfig; rw [recConfigAt_pwr]
@[simp] theorem recConfig_steward (port op : Nat) (pl : List Byte) (s : State) : (recConfig port op pl s).steward = s.steward := by
  unfold recConfig; rw [recConfigAt_steward]
@[simp] theorem recConfig_mem (port op : Nat) (pl : List Byte) (s : State) : (recConfig port op pl s).mem = s.mem := by
  unfold recConfig; rw [recConfigAt_mem]
@[simp] theorem recConfig_host (port op : Nat) (pl : List Byte) (s : State) : (recConfig port op pl s).host = s.host := by
  unfold recConfig; rw [recConfigAt_host]
@[simp] theorem recConfig_q (port op : Nat) (pl : List Byte) (s : State) : (recConfig port op pl s).q = s.q := by
  unfold recConfig; rw [recConfigAt_q]
@[simp] theorem recConfig_gh (port op : Nat) (pl : List Byte) (s : State) : (recConfig port op pl s).gh = s.gh := by
  unfold recConfig; rw [recConfigAt_gh]
@[simp] theorem recConfig_sec (port op : Nat) (pl : List Byte) (s : State) : (recConfig port op pl s).sec = s.sec := by
  unfold recConfig; rw [recConfigAt_sec]
@[simp] theorem recConfig_rst (port op : Nat) (pl : List Byte) (s : State) : (recConfig port op pl s).rst = s.rst := by
  unfold recConfig; rw [recConfigAt_rst]
@[simp] theorem recConfig_lineSlow (port op : Nat) (pl : List Byte) (s : State) : (recConfig port op pl s).lineSlow = s.lineSlow := by
  unfold recConfig; rw [recConfigAt_lineSlow]
@[simp] theorem recConfig_out (port op : Nat) (pl : List Byte) (s : State) : (recConfig port op pl s).out = s.out := by
  unfold recConfig; rw [recConfigAt_out]
@[simp] theorem recConfig_grade (port op : Nat) (pl : List Byte) (s : State) : (recConfig port op pl s).grade = s.grade := by
  unfold recConfig; rw [recConfigAt_grade]

/-! ## rsSet -/

@[simp] theorem rsSet_pending (b : Nat) (s : State) : (rsSet b s).pending = s.pending := by
  unfold rsSet; split <;> rfl
@[simp] theorem rsSet_time (b : Nat) (s : State) : (rsSet b s).time = s.time := by
  unfold rsSet; split <;> rfl
@[simp] theorem rsSet_pus (b : Nat) (s : State) : (rsSet b s).pus = s.pus := by
  unfold rsSet; split <;> rfl
@[simp] theorem rsSet_gens (b : Nat) (s : State) : (rsSet b s).gens = s.gens := by
  unfold rsSet; split <;> rfl
@[simp] theorem rsSet_slots (b : Nat) (s : State) : (rsSet b s).slots = s.slots := by
  unfold rsSet; split <;> rfl
@[simp] theorem rsSet_cams (b : Nat) (s : State) : (rsSet b s).cams = s.cams := by
  unfold rsSet; split <;> rfl
@[simp] theorem rsSet_ramps (b : Nat) (s : State) : (rsSet b s).ramps = s.ramps := by
  unfold rsSet; split <;> rfl
@[simp] theorem rsSet_field (b : Nat) (s : State) : (rsSet b s).field = s.field := by
  unfold rsSet; split <;> rfl
@[simp] theorem rsSet_die (b : Nat) (s : State) : (rsSet b s).die = s.die := by
  unfold rsSet; split <;> rfl
@[simp] theorem rsSet_trigs (b : Nat) (s : State) : (rsSet b s).trigs = s.trigs := by
  unfold rsSet; split <;> rfl
@[simp] theorem rsSet_pulses (b : Nat) (s : State) : (rsSet b s).pulses = s.pulses := by
  unfold rsSet; split <;> rfl
@[simp] theorem rsSet_linePulses (b : Nat) (s : State) : (rsSet b s).linePulses = s.linePulses := by
  unfold rsSet; split <;> rfl
@[simp] theorem rsSet_deck (b : Nat) (s : State) : (rsSet b s).deck = s.deck := by
  unfold rsSet; split <;> rfl
@[simp] theorem rsSet_imgs (b : Nat) (s : State) : (rsSet b s).imgs = s.imgs := by
  unfold rsSet; split <;> rfl
@[simp] theorem rsSet_seq (b : Nat) (s : State) : (rsSet b s).seq = s.seq := by
  unfold rsSet; split <;> rfl
@[simp] theorem rsSet_bands (b : Nat) (s : State) : (rsSet b s).bands = s.bands := by
  unfold rsSet; split <;> rfl
@[simp] theorem rsSet_jobs (b : Nat) (s : State) : (rsSet b s).jobs = s.jobs := by
  unfold rsSet; split <;> rfl
@[simp] theorem rsSet_rec (b : Nat) (s : State) : (rsSet b s).rec_ = s.rec_ := by
  unfold rsSet; split <;> rfl
@[simp] theorem rsSet_replay (b : Nat) (s : State) : (rsSet b s).replay = s.replay := by
  unfold rsSet; split <;> rfl
@[simp] theorem rsSet_span (b : Nat) (s : State) : (rsSet b s).span = s.span := by
  unfold rsSet; split <;> rfl
@[simp] theorem rsSet_pwr (b : Nat) (s : State) : (rsSet b s).pwr = s.pwr := by
  unfold rsSet; split <;> rfl
@[simp] theorem rsSet_steward (b : Nat) (s : State) : (rsSet b s).steward = s.steward := by
  unfold rsSet; split <;> rfl
@[simp] theorem rsSet_mem (b : Nat) (s : State) : (rsSet b s).mem = s.mem := by
  unfold rsSet; split <;> rfl
@[simp] theorem rsSet_host (b : Nat) (s : State) : (rsSet b s).host = s.host := by
  unfold rsSet; split <;> rfl
@[simp] theorem rsSet_gh (b : Nat) (s : State) : (rsSet b s).gh = s.gh := by
  unfold rsSet; split <;> rfl
@[simp] theorem rsSet_sec (b : Nat) (s : State) : (rsSet b s).sec = s.sec := by
  unfold rsSet; split <;> rfl
@[simp] theorem rsSet_lineSlow (b : Nat) (s : State) : (rsSet b s).lineSlow = s.lineSlow := by
  unfold rsSet; split <;> rfl
@[simp] theorem rsSet_out (b : Nat) (s : State) : (rsSet b s).out = s.out := by
  unfold rsSet; split <;> rfl
@[simp] theorem rsSet_grade (b : Nat) (s : State) : (rsSet b s).grade = s.grade := by
  unfold rsSet; split <;> rfl

/-! ## rsClear -/

@[simp] theorem rsClear_pending (b : Nat) (s : State) : (rsClear b s).pending = s.pending := by
  unfold rsClear; split <;> rfl
@[simp] theorem rsClear_time (b : Nat) (s : State) : (rsClear b s).time = s.time := by
  unfold rsClear; split <;> rfl
@[simp] theorem rsClear_pus (b : Nat) (s : State) : (rsClear b s).pus = s.pus := by
  unfold rsClear; split <;> rfl
@[simp] theorem rsClear_gens (b : Nat) (s : State) : (rsClear b s).gens = s.gens := by
  unfold rsClear; split <;> rfl
@[simp] theorem rsClear_slots (b : Nat) (s : State) : (rsClear b s).slots = s.slots := by
  unfold rsClear; split <;> rfl
@[simp] theorem rsClear_cams (b : Nat) (s : State) : (rsClear b s).cams = s.cams := by
  unfold rsClear; split <;> rfl
@[simp] theorem rsClear_ramps (b : Nat) (s : State) : (rsClear b s).ramps = s.ramps := by
  unfold rsClear; split <;> rfl
@[simp] theorem rsClear_die (b : Nat) (s : State) : (rsClear b s).die = s.die := by
  unfold rsClear; split <;> rfl
@[simp] theorem rsClear_trigs (b : Nat) (s : State) : (rsClear b s).trigs = s.trigs := by
  unfold rsClear; split <;> rfl
@[simp] theorem rsClear_pulses (b : Nat) (s : State) : (rsClear b s).pulses = s.pulses := by
  unfold rsClear; split <;> rfl
@[simp] theorem rsClear_linePulses (b : Nat) (s : State) : (rsClear b s).linePulses = s.linePulses := by
  unfold rsClear; split <;> rfl
@[simp] theorem rsClear_deck (b : Nat) (s : State) : (rsClear b s).deck = s.deck := by
  unfold rsClear; split <;> rfl
@[simp] theorem rsClear_imgs (b : Nat) (s : State) : (rsClear b s).imgs = s.imgs := by
  unfold rsClear; split <;> rfl
@[simp] theorem rsClear_seq (b : Nat) (s : State) : (rsClear b s).seq = s.seq := by
  unfold rsClear; split <;> rfl
@[simp] theorem rsClear_bands (b : Nat) (s : State) : (rsClear b s).bands = s.bands := by
  unfold rsClear; split <;> rfl
@[simp] theorem rsClear_jobs (b : Nat) (s : State) : (rsClear b s).jobs = s.jobs := by
  unfold rsClear; split <;> rfl
@[simp] theorem rsClear_rec (b : Nat) (s : State) : (rsClear b s).rec_ = s.rec_ := by
  unfold rsClear; split <;> rfl
@[simp] theorem rsClear_replay (b : Nat) (s : State) : (rsClear b s).replay = s.replay := by
  unfold rsClear; split <;> rfl
@[simp] theorem rsClear_span (b : Nat) (s : State) : (rsClear b s).span = s.span := by
  unfold rsClear; split <;> rfl
@[simp] theorem rsClear_pwr (b : Nat) (s : State) : (rsClear b s).pwr = s.pwr := by
  unfold rsClear; split <;> rfl
@[simp] theorem rsClear_steward (b : Nat) (s : State) : (rsClear b s).steward = s.steward := by
  unfold rsClear; split <;> rfl
@[simp] theorem rsClear_mem (b : Nat) (s : State) : (rsClear b s).mem = s.mem := by
  unfold rsClear; split <;> rfl
@[simp] theorem rsClear_host (b : Nat) (s : State) : (rsClear b s).host = s.host := by
  unfold rsClear; split <;> rfl
@[simp] theorem rsClear_gh (b : Nat) (s : State) : (rsClear b s).gh = s.gh := by
  unfold rsClear; split <;> rfl
@[simp] theorem rsClear_sec (b : Nat) (s : State) : (rsClear b s).sec = s.sec := by
  unfold rsClear; split <;> rfl
@[simp] theorem rsClear_lineSlow (b : Nat) (s : State) : (rsClear b s).lineSlow = s.lineSlow := by
  unfold rsClear; split <;> rfl
@[simp] theorem rsClear_out (b : Nat) (s : State) : (rsClear b s).out = s.out := by
  unfold rsClear; split <;> rfl
@[simp] theorem rsClear_grade (b : Nat) (s : State) : (rsClear b s).grade = s.grade := by
  unfold rsClear; split <;> rfl

/-! ## wakeDom -/

@[simp] theorem wakeDom_pending (d src : Nat) (req : Option Nat) (s : State) : (wakeDom d src req s).pending = s.pending := by
  unfold wakeDom; dsimp only; split <;> rfl
@[simp] theorem wakeDom_time (d src : Nat) (req : Option Nat) (s : State) : (wakeDom d src req s).time = s.time := by
  unfold wakeDom; dsimp only; split <;> rfl
@[simp] theorem wakeDom_pus (d src : Nat) (req : Option Nat) (s : State) : (wakeDom d src req s).pus = s.pus := by
  unfold wakeDom; dsimp only; split <;> rfl
@[simp] theorem wakeDom_gens (d src : Nat) (req : Option Nat) (s : State) : (wakeDom d src req s).gens = s.gens := by
  unfold wakeDom; dsimp only; split <;> rfl
@[simp] theorem wakeDom_slots (d src : Nat) (req : Option Nat) (s : State) : (wakeDom d src req s).slots = s.slots := by
  unfold wakeDom; dsimp only; split <;> rfl
@[simp] theorem wakeDom_cams (d src : Nat) (req : Option Nat) (s : State) : (wakeDom d src req s).cams = s.cams := by
  unfold wakeDom; dsimp only; split <;> rfl
@[simp] theorem wakeDom_ramps (d src : Nat) (req : Option Nat) (s : State) : (wakeDom d src req s).ramps = s.ramps := by
  unfold wakeDom; dsimp only; split <;> rfl
@[simp] theorem wakeDom_field (d src : Nat) (req : Option Nat) (s : State) : (wakeDom d src req s).field = s.field := by
  unfold wakeDom; dsimp only; split <;> rfl
@[simp] theorem wakeDom_die (d src : Nat) (req : Option Nat) (s : State) : (wakeDom d src req s).die = s.die := by
  unfold wakeDom; dsimp only; split <;> rfl
@[simp] theorem wakeDom_trigs (d src : Nat) (req : Option Nat) (s : State) : (wakeDom d src req s).trigs = s.trigs := by
  unfold wakeDom; dsimp only; split <;> rfl
@[simp] theorem wakeDom_pulses (d src : Nat) (req : Option Nat) (s : State) : (wakeDom d src req s).pulses = s.pulses := by
  unfold wakeDom; dsimp only; split <;> rfl
@[simp] theorem wakeDom_linePulses (d src : Nat) (req : Option Nat) (s : State) : (wakeDom d src req s).linePulses = s.linePulses := by
  unfold wakeDom; dsimp only; split <;> rfl
@[simp] theorem wakeDom_deck (d src : Nat) (req : Option Nat) (s : State) : (wakeDom d src req s).deck = s.deck := by
  unfold wakeDom; dsimp only; split <;> rfl
@[simp] theorem wakeDom_imgs (d src : Nat) (req : Option Nat) (s : State) : (wakeDom d src req s).imgs = s.imgs := by
  unfold wakeDom; dsimp only; split <;> rfl
@[simp] theorem wakeDom_seq (d src : Nat) (req : Option Nat) (s : State) : (wakeDom d src req s).seq = s.seq := by
  unfold wakeDom; dsimp only; split <;> rfl
@[simp] theorem wakeDom_bands (d src : Nat) (req : Option Nat) (s : State) : (wakeDom d src req s).bands = s.bands := by
  unfold wakeDom; dsimp only; split <;> rfl
@[simp] theorem wakeDom_jobs (d src : Nat) (req : Option Nat) (s : State) : (wakeDom d src req s).jobs = s.jobs := by
  unfold wakeDom; dsimp only; split <;> rfl
@[simp] theorem wakeDom_rec (d src : Nat) (req : Option Nat) (s : State) : (wakeDom d src req s).rec_ = s.rec_ := by
  unfold wakeDom; dsimp only; split <;> rfl
@[simp] theorem wakeDom_replay (d src : Nat) (req : Option Nat) (s : State) : (wakeDom d src req s).replay = s.replay := by
  unfold wakeDom; dsimp only; split <;> rfl
@[simp] theorem wakeDom_span (d src : Nat) (req : Option Nat) (s : State) : (wakeDom d src req s).span = s.span := by
  unfold wakeDom; dsimp only; split <;> rfl
@[simp] theorem wakeDom_steward (d src : Nat) (req : Option Nat) (s : State) : (wakeDom d src req s).steward = s.steward := by
  unfold wakeDom; dsimp only; split <;> rfl
@[simp] theorem wakeDom_mem (d src : Nat) (req : Option Nat) (s : State) : (wakeDom d src req s).mem = s.mem := by
  unfold wakeDom; dsimp only; split <;> rfl
@[simp] theorem wakeDom_host (d src : Nat) (req : Option Nat) (s : State) : (wakeDom d src req s).host = s.host := by
  unfold wakeDom; dsimp only; split <;> rfl
@[simp] theorem wakeDom_q (d src : Nat) (req : Option Nat) (s : State) : (wakeDom d src req s).q = s.q := by
  unfold wakeDom; dsimp only; split <;> rfl
@[simp] theorem wakeDom_gh (d src : Nat) (req : Option Nat) (s : State) : (wakeDom d src req s).gh = s.gh := by
  unfold wakeDom; dsimp only; split <;> rfl
@[simp] theorem wakeDom_sec (d src : Nat) (req : Option Nat) (s : State) : (wakeDom d src req s).sec = s.sec := by
  unfold wakeDom; dsimp only; split <;> rfl
@[simp] theorem wakeDom_rst (d src : Nat) (req : Option Nat) (s : State) : (wakeDom d src req s).rst = s.rst := by
  unfold wakeDom; dsimp only; split <;> rfl
@[simp] theorem wakeDom_lineSlow (d src : Nat) (req : Option Nat) (s : State) : (wakeDom d src req s).lineSlow = s.lineSlow := by
  unfold wakeDom; dsimp only; split <;> rfl
@[simp] theorem wakeDom_out (d src : Nat) (req : Option Nat) (s : State) : (wakeDom d src req s).out = s.out := by
  unfold wakeDom; dsimp only; split <;> rfl
@[simp] theorem wakeDom_grade (d src : Nat) (req : Option Nat) (s : State) : (wakeDom d src req s).grade = s.grade := by
  unfold wakeDom; dsimp only; split <;> rfl

/-! ## wakeCfg -/

@[simp] theorem wakeCfg_pending (d : Nat) (s : State) : (wakeCfg d s).pending = s.pending := by
  unfold wakeCfg; split
  · rw [wakeDom_pending]
  · rfl
@[simp] theorem wakeCfg_time (d : Nat) (s : State) : (wakeCfg d s).time = s.time := by
  unfold wakeCfg; split
  · rw [wakeDom_time]
  · rfl
@[simp] theorem wakeCfg_pus (d : Nat) (s : State) : (wakeCfg d s).pus = s.pus := by
  unfold wakeCfg; split
  · rw [wakeDom_pus]
  · rfl
@[simp] theorem wakeCfg_gens (d : Nat) (s : State) : (wakeCfg d s).gens = s.gens := by
  unfold wakeCfg; split
  · rw [wakeDom_gens]
  · rfl
@[simp] theorem wakeCfg_slots (d : Nat) (s : State) : (wakeCfg d s).slots = s.slots := by
  unfold wakeCfg; split
  · rw [wakeDom_slots]
  · rfl
@[simp] theorem wakeCfg_cams (d : Nat) (s : State) : (wakeCfg d s).cams = s.cams := by
  unfold wakeCfg; split
  · rw [wakeDom_cams]
  · rfl
@[simp] theorem wakeCfg_ramps (d : Nat) (s : State) : (wakeCfg d s).ramps = s.ramps := by
  unfold wakeCfg; split
  · rw [wakeDom_ramps]
  · rfl
@[simp] theorem wakeCfg_field (d : Nat) (s : State) : (wakeCfg d s).field = s.field := by
  unfold wakeCfg; split
  · rw [wakeDom_field]
  · rfl
@[simp] theorem wakeCfg_die (d : Nat) (s : State) : (wakeCfg d s).die = s.die := by
  unfold wakeCfg; split
  · rw [wakeDom_die]
  · rfl
@[simp] theorem wakeCfg_trigs (d : Nat) (s : State) : (wakeCfg d s).trigs = s.trigs := by
  unfold wakeCfg; split
  · rw [wakeDom_trigs]
  · rfl
@[simp] theorem wakeCfg_pulses (d : Nat) (s : State) : (wakeCfg d s).pulses = s.pulses := by
  unfold wakeCfg; split
  · rw [wakeDom_pulses]
  · rfl
@[simp] theorem wakeCfg_linePulses (d : Nat) (s : State) : (wakeCfg d s).linePulses = s.linePulses := by
  unfold wakeCfg; split
  · rw [wakeDom_linePulses]
  · rfl
@[simp] theorem wakeCfg_deck (d : Nat) (s : State) : (wakeCfg d s).deck = s.deck := by
  unfold wakeCfg; split
  · rw [wakeDom_deck]
  · rfl
@[simp] theorem wakeCfg_imgs (d : Nat) (s : State) : (wakeCfg d s).imgs = s.imgs := by
  unfold wakeCfg; split
  · rw [wakeDom_imgs]
  · rfl
@[simp] theorem wakeCfg_seq (d : Nat) (s : State) : (wakeCfg d s).seq = s.seq := by
  unfold wakeCfg; split
  · rw [wakeDom_seq]
  · rfl
@[simp] theorem wakeCfg_bands (d : Nat) (s : State) : (wakeCfg d s).bands = s.bands := by
  unfold wakeCfg; split
  · rw [wakeDom_bands]
  · rfl
@[simp] theorem wakeCfg_jobs (d : Nat) (s : State) : (wakeCfg d s).jobs = s.jobs := by
  unfold wakeCfg; split
  · rw [wakeDom_jobs]
  · rfl
@[simp] theorem wakeCfg_rec (d : Nat) (s : State) : (wakeCfg d s).rec_ = s.rec_ := by
  unfold wakeCfg; split
  · rw [wakeDom_rec]
  · rfl
@[simp] theorem wakeCfg_replay (d : Nat) (s : State) : (wakeCfg d s).replay = s.replay := by
  unfold wakeCfg; split
  · rw [wakeDom_replay]
  · rfl
@[simp] theorem wakeCfg_span (d : Nat) (s : State) : (wakeCfg d s).span = s.span := by
  unfold wakeCfg; split
  · rw [wakeDom_span]
  · rfl
@[simp] theorem wakeCfg_steward (d : Nat) (s : State) : (wakeCfg d s).steward = s.steward := by
  unfold wakeCfg; split
  · rw [wakeDom_steward]
  · rfl
@[simp] theorem wakeCfg_mem (d : Nat) (s : State) : (wakeCfg d s).mem = s.mem := by
  unfold wakeCfg; split
  · rw [wakeDom_mem]
  · rfl
@[simp] theorem wakeCfg_host (d : Nat) (s : State) : (wakeCfg d s).host = s.host := by
  unfold wakeCfg; split
  · rw [wakeDom_host]
  · rfl
@[simp] theorem wakeCfg_q (d : Nat) (s : State) : (wakeCfg d s).q = s.q := by
  unfold wakeCfg; split
  · rw [wakeDom_q]
  · rfl
@[simp] theorem wakeCfg_gh (d : Nat) (s : State) : (wakeCfg d s).gh = s.gh := by
  unfold wakeCfg; split
  · rw [wakeDom_gh]
  · rfl
@[simp] theorem wakeCfg_sec (d : Nat) (s : State) : (wakeCfg d s).sec = s.sec := by
  unfold wakeCfg; split
  · rw [wakeDom_sec]
  · rfl
@[simp] theorem wakeCfg_rst (d : Nat) (s : State) : (wakeCfg d s).rst = s.rst := by
  unfold wakeCfg; split
  · rw [wakeDom_rst]
  · rfl
@[simp] theorem wakeCfg_lineSlow (d : Nat) (s : State) : (wakeCfg d s).lineSlow = s.lineSlow := by
  unfold wakeCfg; split
  · rw [wakeDom_lineSlow]
  · rfl
@[simp] theorem wakeCfg_out (d : Nat) (s : State) : (wakeCfg d s).out = s.out := by
  unfold wakeCfg; split
  · rw [wakeDom_out]
  · rfl
@[simp] theorem wakeCfg_grade (d : Nat) (s : State) : (wakeCfg d s).grade = s.grade := by
  unfold wakeCfg; split
  · rw [wakeDom_grade]
  · rfl

/-! ## accessDom, tollUse and deckUse -/

@[simp] theorem accessDom_pending (r d : Nat) (s : State) : (accessDom r d s).pending = s.pending := by
  unfold accessDom; dsimp only; split <;> simp
@[simp] theorem accessDom_time (r d : Nat) (s : State) : (accessDom r d s).time = s.time := by
  unfold accessDom; dsimp only; split <;> simp
@[simp] theorem accessDom_pus (r d : Nat) (s : State) : (accessDom r d s).pus = s.pus := by
  unfold accessDom; dsimp only; split <;> simp
@[simp] theorem accessDom_gens (r d : Nat) (s : State) : (accessDom r d s).gens = s.gens := by
  unfold accessDom; dsimp only; split <;> simp
@[simp] theorem accessDom_slots (r d : Nat) (s : State) : (accessDom r d s).slots = s.slots := by
  unfold accessDom; dsimp only; split <;> simp
@[simp] theorem accessDom_cams (r d : Nat) (s : State) : (accessDom r d s).cams = s.cams := by
  unfold accessDom; dsimp only; split <;> simp
@[simp] theorem accessDom_ramps (r d : Nat) (s : State) : (accessDom r d s).ramps = s.ramps := by
  unfold accessDom; dsimp only; split <;> simp
@[simp] theorem accessDom_field (r d : Nat) (s : State) : (accessDom r d s).field = s.field := by
  unfold accessDom; dsimp only; split <;> simp
@[simp] theorem accessDom_die (r d : Nat) (s : State) : (accessDom r d s).die = s.die := by
  unfold accessDom; dsimp only; split <;> simp
@[simp] theorem accessDom_trigs (r d : Nat) (s : State) : (accessDom r d s).trigs = s.trigs := by
  unfold accessDom; dsimp only; split <;> simp
@[simp] theorem accessDom_pulses (r d : Nat) (s : State) : (accessDom r d s).pulses = s.pulses := by
  unfold accessDom; dsimp only; split <;> simp
@[simp] theorem accessDom_linePulses (r d : Nat) (s : State) : (accessDom r d s).linePulses = s.linePulses := by
  unfold accessDom; dsimp only; split <;> simp
@[simp] theorem accessDom_deck (r d : Nat) (s : State) : (accessDom r d s).deck = s.deck := by
  unfold accessDom; dsimp only; split <;> simp
@[simp] theorem accessDom_imgs (r d : Nat) (s : State) : (accessDom r d s).imgs = s.imgs := by
  unfold accessDom; dsimp only; split <;> simp
@[simp] theorem accessDom_seq (r d : Nat) (s : State) : (accessDom r d s).seq = s.seq := by
  unfold accessDom; dsimp only; split <;> simp
@[simp] theorem accessDom_bands (r d : Nat) (s : State) : (accessDom r d s).bands = s.bands := by
  unfold accessDom; dsimp only; split <;> simp
@[simp] theorem accessDom_jobs (r d : Nat) (s : State) : (accessDom r d s).jobs = s.jobs := by
  unfold accessDom; dsimp only; split <;> simp
@[simp] theorem accessDom_rec (r d : Nat) (s : State) : (accessDom r d s).rec_ = s.rec_ := by
  unfold accessDom; dsimp only; split <;> simp
@[simp] theorem accessDom_replay (r d : Nat) (s : State) : (accessDom r d s).replay = s.replay := by
  unfold accessDom; dsimp only; split <;> simp
@[simp] theorem accessDom_span (r d : Nat) (s : State) : (accessDom r d s).span = s.span := by
  unfold accessDom; dsimp only; split <;> simp
@[simp] theorem accessDom_steward (r d : Nat) (s : State) : (accessDom r d s).steward = s.steward := by
  unfold accessDom; dsimp only; split <;> simp
@[simp] theorem accessDom_mem (r d : Nat) (s : State) : (accessDom r d s).mem = s.mem := by
  unfold accessDom; dsimp only; split <;> simp
@[simp] theorem accessDom_host (r d : Nat) (s : State) : (accessDom r d s).host = s.host := by
  unfold accessDom; dsimp only; split <;> simp
@[simp] theorem accessDom_q (r d : Nat) (s : State) : (accessDom r d s).q = s.q := by
  unfold accessDom; dsimp only; split <;> simp
@[simp] theorem accessDom_gh (r d : Nat) (s : State) : (accessDom r d s).gh = s.gh := by
  unfold accessDom; dsimp only; split <;> simp
@[simp] theorem accessDom_sec (r d : Nat) (s : State) : (accessDom r d s).sec = s.sec := by
  unfold accessDom; dsimp only; split <;> simp
@[simp] theorem accessDom_rst (r d : Nat) (s : State) : (accessDom r d s).rst = s.rst := by
  unfold accessDom; dsimp only; split <;> simp
@[simp] theorem accessDom_lineSlow (r d : Nat) (s : State) : (accessDom r d s).lineSlow = s.lineSlow := by
  unfold accessDom; dsimp only; split <;> simp
@[simp] theorem accessDom_out (r d : Nat) (s : State) : (accessDom r d s).out = s.out := by
  unfold accessDom; dsimp only; split <;> simp
@[simp] theorem accessDom_grade (r d : Nat) (s : State) : (accessDom r d s).grade = s.grade := by
  unfold accessDom; dsimp only; split <;> simp
@[simp] theorem tollUse_pending (r : Nat) (s : State) : (tollUse r s).pending = s.pending := by simp [tollUse]
@[simp] theorem tollUse_time (r : Nat) (s : State) : (tollUse r s).time = s.time := by simp [tollUse]
@[simp] theorem tollUse_pus (r : Nat) (s : State) : (tollUse r s).pus = s.pus := by simp [tollUse]
@[simp] theorem tollUse_gens (r : Nat) (s : State) : (tollUse r s).gens = s.gens := by simp [tollUse]
@[simp] theorem tollUse_slots (r : Nat) (s : State) : (tollUse r s).slots = s.slots := by simp [tollUse]
@[simp] theorem tollUse_cams (r : Nat) (s : State) : (tollUse r s).cams = s.cams := by simp [tollUse]
@[simp] theorem tollUse_ramps (r : Nat) (s : State) : (tollUse r s).ramps = s.ramps := by simp [tollUse]
@[simp] theorem tollUse_field (r : Nat) (s : State) : (tollUse r s).field = s.field := by simp [tollUse]
@[simp] theorem tollUse_die (r : Nat) (s : State) : (tollUse r s).die = s.die := by simp [tollUse]
@[simp] theorem tollUse_trigs (r : Nat) (s : State) : (tollUse r s).trigs = s.trigs := by simp [tollUse]
@[simp] theorem tollUse_pulses (r : Nat) (s : State) : (tollUse r s).pulses = s.pulses := by simp [tollUse]
@[simp] theorem tollUse_linePulses (r : Nat) (s : State) : (tollUse r s).linePulses = s.linePulses := by simp [tollUse]
@[simp] theorem tollUse_deck (r : Nat) (s : State) : (tollUse r s).deck = s.deck := by simp [tollUse]
@[simp] theorem tollUse_imgs (r : Nat) (s : State) : (tollUse r s).imgs = s.imgs := by simp [tollUse]
@[simp] theorem tollUse_seq (r : Nat) (s : State) : (tollUse r s).seq = s.seq := by simp [tollUse]
@[simp] theorem tollUse_bands (r : Nat) (s : State) : (tollUse r s).bands = s.bands := by simp [tollUse]
@[simp] theorem tollUse_jobs (r : Nat) (s : State) : (tollUse r s).jobs = s.jobs := by simp [tollUse]
@[simp] theorem tollUse_rec (r : Nat) (s : State) : (tollUse r s).rec_ = s.rec_ := by simp [tollUse]
@[simp] theorem tollUse_replay (r : Nat) (s : State) : (tollUse r s).replay = s.replay := by simp [tollUse]
@[simp] theorem tollUse_span (r : Nat) (s : State) : (tollUse r s).span = s.span := by simp [tollUse]
@[simp] theorem tollUse_steward (r : Nat) (s : State) : (tollUse r s).steward = s.steward := by simp [tollUse]
@[simp] theorem tollUse_host (r : Nat) (s : State) : (tollUse r s).host = s.host := by simp [tollUse]
@[simp] theorem tollUse_q (r : Nat) (s : State) : (tollUse r s).q = s.q := by simp [tollUse]
@[simp] theorem tollUse_gh (r : Nat) (s : State) : (tollUse r s).gh = s.gh := by simp [tollUse]
@[simp] theorem tollUse_sec (r : Nat) (s : State) : (tollUse r s).sec = s.sec := by simp [tollUse]
@[simp] theorem tollUse_rst (r : Nat) (s : State) : (tollUse r s).rst = s.rst := by simp [tollUse]
@[simp] theorem tollUse_lineSlow (r : Nat) (s : State) : (tollUse r s).lineSlow = s.lineSlow := by simp [tollUse]
@[simp] theorem tollUse_out (r : Nat) (s : State) : (tollUse r s).out = s.out := by simp [tollUse]
@[simp] theorem tollUse_grade (r : Nat) (s : State) : (tollUse r s).grade = s.grade := by simp [tollUse]

/-- A fold whose every step keeps a part of the state keeps it. -/
theorem foldl_keeps {α β : Type} (g : State → β) (f : State → α → State) (h : ∀ s x, g (f s x) = g s) (l : List α) (s : State) :
    g (l.foldl f s) = g s := by
  induction l generalizing s with
  | nil => rfl
  | cons x t ih => simp [ih, h]

@[simp] theorem deckUse_pending (r : Nat) (s : State) : (deckUse r s).pending = s.pending :=
  foldl_keeps (fun s => s.pending) _ (fun _ _ => accessDom_pending ..) _ _
@[simp] theorem deckUse_time (r : Nat) (s : State) : (deckUse r s).time = s.time :=
  foldl_keeps (fun s => s.time) _ (fun _ _ => accessDom_time ..) _ _
@[simp] theorem deckUse_pus (r : Nat) (s : State) : (deckUse r s).pus = s.pus :=
  foldl_keeps (fun s => s.pus) _ (fun _ _ => accessDom_pus ..) _ _
@[simp] theorem deckUse_gens (r : Nat) (s : State) : (deckUse r s).gens = s.gens :=
  foldl_keeps (fun s => s.gens) _ (fun _ _ => accessDom_gens ..) _ _
@[simp] theorem deckUse_slots (r : Nat) (s : State) : (deckUse r s).slots = s.slots :=
  foldl_keeps (fun s => s.slots) _ (fun _ _ => accessDom_slots ..) _ _
@[simp] theorem deckUse_cams (r : Nat) (s : State) : (deckUse r s).cams = s.cams :=
  foldl_keeps (fun s => s.cams) _ (fun _ _ => accessDom_cams ..) _ _
@[simp] theorem deckUse_ramps (r : Nat) (s : State) : (deckUse r s).ramps = s.ramps :=
  foldl_keeps (fun s => s.ramps) _ (fun _ _ => accessDom_ramps ..) _ _
@[simp] theorem deckUse_field (r : Nat) (s : State) : (deckUse r s).field = s.field :=
  foldl_keeps (fun s => s.field) _ (fun _ _ => accessDom_field ..) _ _
@[simp] theorem deckUse_die (r : Nat) (s : State) : (deckUse r s).die = s.die :=
  foldl_keeps (fun s => s.die) _ (fun _ _ => accessDom_die ..) _ _
@[simp] theorem deckUse_trigs (r : Nat) (s : State) : (deckUse r s).trigs = s.trigs :=
  foldl_keeps (fun s => s.trigs) _ (fun _ _ => accessDom_trigs ..) _ _
@[simp] theorem deckUse_pulses (r : Nat) (s : State) : (deckUse r s).pulses = s.pulses :=
  foldl_keeps (fun s => s.pulses) _ (fun _ _ => accessDom_pulses ..) _ _
@[simp] theorem deckUse_linePulses (r : Nat) (s : State) : (deckUse r s).linePulses = s.linePulses :=
  foldl_keeps (fun s => s.linePulses) _ (fun _ _ => accessDom_linePulses ..) _ _
@[simp] theorem deckUse_deck (r : Nat) (s : State) : (deckUse r s).deck = s.deck :=
  foldl_keeps (fun s => s.deck) _ (fun _ _ => accessDom_deck ..) _ _
@[simp] theorem deckUse_imgs (r : Nat) (s : State) : (deckUse r s).imgs = s.imgs :=
  foldl_keeps (fun s => s.imgs) _ (fun _ _ => accessDom_imgs ..) _ _
@[simp] theorem deckUse_seq (r : Nat) (s : State) : (deckUse r s).seq = s.seq :=
  foldl_keeps (fun s => s.seq) _ (fun _ _ => accessDom_seq ..) _ _
@[simp] theorem deckUse_bands (r : Nat) (s : State) : (deckUse r s).bands = s.bands :=
  foldl_keeps (fun s => s.bands) _ (fun _ _ => accessDom_bands ..) _ _
@[simp] theorem deckUse_jobs (r : Nat) (s : State) : (deckUse r s).jobs = s.jobs :=
  foldl_keeps (fun s => s.jobs) _ (fun _ _ => accessDom_jobs ..) _ _
@[simp] theorem deckUse_rec (r : Nat) (s : State) : (deckUse r s).rec_ = s.rec_ :=
  foldl_keeps (fun s => s.rec_) _ (fun _ _ => accessDom_rec ..) _ _
@[simp] theorem deckUse_replay (r : Nat) (s : State) : (deckUse r s).replay = s.replay :=
  foldl_keeps (fun s => s.replay) _ (fun _ _ => accessDom_replay ..) _ _
@[simp] theorem deckUse_span (r : Nat) (s : State) : (deckUse r s).span = s.span :=
  foldl_keeps (fun s => s.span) _ (fun _ _ => accessDom_span ..) _ _
@[simp] theorem deckUse_steward (r : Nat) (s : State) : (deckUse r s).steward = s.steward :=
  foldl_keeps (fun s => s.steward) _ (fun _ _ => accessDom_steward ..) _ _
@[simp] theorem deckUse_mem (r : Nat) (s : State) : (deckUse r s).mem = s.mem :=
  foldl_keeps (fun s => s.mem) _ (fun _ _ => accessDom_mem ..) _ _
@[simp] theorem deckUse_host (r : Nat) (s : State) : (deckUse r s).host = s.host :=
  foldl_keeps (fun s => s.host) _ (fun _ _ => accessDom_host ..) _ _
@[simp] theorem deckUse_q (r : Nat) (s : State) : (deckUse r s).q = s.q :=
  foldl_keeps (fun s => s.q) _ (fun _ _ => accessDom_q ..) _ _
@[simp] theorem deckUse_gh (r : Nat) (s : State) : (deckUse r s).gh = s.gh :=
  foldl_keeps (fun s => s.gh) _ (fun _ _ => accessDom_gh ..) _ _
@[simp] theorem deckUse_sec (r : Nat) (s : State) : (deckUse r s).sec = s.sec :=
  foldl_keeps (fun s => s.sec) _ (fun _ _ => accessDom_sec ..) _ _
@[simp] theorem deckUse_rst (r : Nat) (s : State) : (deckUse r s).rst = s.rst :=
  foldl_keeps (fun s => s.rst) _ (fun _ _ => accessDom_rst ..) _ _
@[simp] theorem deckUse_lineSlow (r : Nat) (s : State) : (deckUse r s).lineSlow = s.lineSlow :=
  foldl_keeps (fun s => s.lineSlow) _ (fun _ _ => accessDom_lineSlow ..) _ _
@[simp] theorem deckUse_out (r : Nat) (s : State) : (deckUse r s).out = s.out :=
  foldl_keeps (fun s => s.out) _ (fun _ _ => accessDom_out ..) _ _
@[simp] theorem deckUse_grade (r : Nat) (s : State) : (deckUse r s).grade = s.grade :=
  foldl_keeps (fun s => s.grade) _ (fun _ _ => accessDom_grade ..) _ _

end Sys2Proof.Machine
end

