-- ==== Sys2Proof/Laws/Command.lean ====
section
/-! SUPPORT. Sys2Proof/Laws/Command.lean: what a mailbox command does once it is accepted, what completion writes, and what settling
leaves alone.
-/

namespace Sys2Proof.Machine

set_option Elab.async false

/-! ## Acceptance -/

/-- An accepted command runs its body, and is answered where the body answers. -/
theorem command_accepts {s : State} {m : Nat} {c : Spec} {r : Req} {p : List Byte} (h : Accepts s m c r p)
    (body : State → List Byte → State × Option Reply) :
    command m c body s =
      match (body (takeReq s) p).2 with
      | some rep => finish m rep (body (takeReq s) p).1
      | none => (body (takeReq s) p).1 := by
  obtain ⟨h1, h2, h3⟩ := h
  have h4 : reqPayload (takeReq s) r = p := h2
  unfold command
  simp only [h1, h4, h3]
  all_goals rfl

/-- A command that fails a check is answered with that refusal. -/
theorem command_refused {s : State} {m : Nat} {c : Spec} {r : Req} {rep : Reply} (h : headReq s m c.op = some r)
    (hr : firstRefusal (takeReq s) r c (reqPayload s r) = some rep) (body : State → List Byte → State × Option Reply) :
    command m c body s = finish m rep (takeReq s) := by
  have h4 : reqPayload (takeReq s) r = reqPayload s r := rfl
  unfold command
  simp only [h, h4, hr]

/-- A command that is not next in acceptance order does nothing yet. -/
theorem command_waits {s : State} {m : Nat} {c : Spec} (h : headReq s m c.op = none)
    (body : State → List Byte → State × Option Reply) : command m c body s = s := by
  unfold command
  simp only [h]

/-- An accepted command whose body answers OK. -/
theorem done_yes {s S : State} {m : Nat} {c : Spec} {r : Req} {p resp : List Byte}
    {body : State → List Byte → State × Option Reply} (h : Accepts s m c r p) (hb : body (takeReq s) p = yes S resp) :
    done (command m c body) s = .next (answered m resp s S) := by
  unfold done; rw [command_accepts h, hb]; rfl

/-- An accepted command whose body refuses. -/
theorem done_no {s S : State} {m : Nat} {c : Spec} {r : Req} {p : List Byte} {st det : Nat}
    {body : State → List Byte → State × Option Reply} (h : Accepts s m c r p) (hb : body (takeReq s) p = no S ⟨st, det, []⟩) :
    done (command m c body) s = .next (refused m st det s S) := by
  unfold done; rw [command_accepts h, hb]; rfl

/-- An accepted command whose body stays under way. -/
theorem done_hold {s S : State} {m op : Nat} {c : Spec} {r : Req} {p q : List Byte} {objs : List Objt} {b : Bool}
    {ans : Option Reply} {body : State → List Byte → State × Option Reply} (h : Accepts s m c r p)
    (hb : body (takeReq s) p = hold m op q objs b ans S) :
    done (command m c body) s = .next (settle s (hold m op q objs b ans S).1) := by
  unfold done; rw [command_accepts h, hb]; rfl

/-! ## Settling touches the host interface and what leaves the part, nothing else -/

theorem sendVector_frame (v : Nat) (s : State) : ∃ h o, sendVector v s = { s with host := h, out := o } := by
  unfold sendVector emit; split
  · exact ⟨_, s.out, rfl⟩
  · exact ⟨s.host, _, rfl⟩

theorem settle_frame (old s : State) : ∃ h o, settle old s = { s with host := h, out := o } := by
  unfold settle; dsimp only
  split
  · split
    · exact sendVector_frame 0 s
    · exact ⟨s.host, s.out, rfl⟩
  · split
    · exact sendVector_frame 0 { s with host := { s.host with statusChg := true } }
    · exact ⟨_, s.out, rfl⟩

@[simp] theorem settle_pending (old s : State) : (settle old s).pending = s.pending := by obtain ⟨h, o, e⟩ := settle_frame old s; rw [e]
@[simp] theorem settle_time (old s : State) : (settle old s).time = s.time := by obtain ⟨h, o, e⟩ := settle_frame old s; rw [e]
@[simp] theorem settle_pus (old s : State) : (settle old s).pus = s.pus := by obtain ⟨h, o, e⟩ := settle_frame old s; rw [e]
@[simp] theorem settle_gens (old s : State) : (settle old s).gens = s.gens := by obtain ⟨h, o, e⟩ := settle_frame old s; rw [e]
@[simp] theorem settle_slots (old s : State) : (settle old s).slots = s.slots := by obtain ⟨h, o, e⟩ := settle_frame old s; rw [e]
@[simp] theorem settle_cams (old s : State) : (settle old s).cams = s.cams := by obtain ⟨h, o, e⟩ := settle_frame old s; rw [e]
@[simp] theorem settle_ramps (old s : State) : (settle old s).ramps = s.ramps := by obtain ⟨h, o, e⟩ := settle_frame old s; rw [e]
@[simp] theorem settle_field (old s : State) : (settle old s).field = s.field := by obtain ⟨h, o, e⟩ := settle_frame old s; rw [e]
@[simp] theorem settle_die (old s : State) : (settle old s).die = s.die := by obtain ⟨h, o, e⟩ := settle_frame old s; rw [e]
@[simp] theorem settle_trigs (old s : State) : (settle old s).trigs = s.trigs := by obtain ⟨h, o, e⟩ := settle_frame old s; rw [e]
@[simp] theorem settle_pulses (old s : State) : (settle old s).pulses = s.pulses := by obtain ⟨h, o, e⟩ := settle_frame old s; rw [e]
@[simp] theorem settle_linePulses (old s : State) : (settle old s).linePulses = s.linePulses := by
  obtain ⟨h, o, e⟩ := settle_frame old s; rw [e]
@[simp] theorem settle_deck (old s : State) : (settle old s).deck = s.deck := by obtain ⟨h, o, e⟩ := settle_frame old s; rw [e]
@[simp] theorem settle_imgs (old s : State) : (settle old s).imgs = s.imgs := by obtain ⟨h, o, e⟩ := settle_frame old s; rw [e]
@[simp] theorem settle_seq (old s : State) : (settle old s).seq = s.seq := by obtain ⟨h, o, e⟩ := settle_frame old s; rw [e]
@[simp] theorem settle_bands (old s : State) : (settle old s).bands = s.bands := by obtain ⟨h, o, e⟩ := settle_frame old s; rw [e]
@[simp] theorem settle_jobs (old s : State) : (settle old s).jobs = s.jobs := by obtain ⟨h, o, e⟩ := settle_frame old s; rw [e]
@[simp] theorem settle_rec (old s : State) : (settle old s).rec_ = s.rec_ := by obtain ⟨h, o, e⟩ := settle_frame old s; rw [e]
@[simp] theorem settle_replay (old s : State) : (settle old s).replay = s.replay := by obtain ⟨h, o, e⟩ := settle_frame old s; rw [e]
@[simp] theorem settle_span (old s : State) : (settle old s).span = s.span := by obtain ⟨h, o, e⟩ := settle_frame old s; rw [e]
@[simp] theorem settle_pwr (old s : State) : (settle old s).pwr = s.pwr := by obtain ⟨h, o, e⟩ := settle_frame old s; rw [e]
@[simp] theorem settle_steward (old s : State) : (settle old s).steward = s.steward := by obtain ⟨h, o, e⟩ := settle_frame old s; rw [e]
@[simp] theorem settle_mem (old s : State) : (settle old s).mem = s.mem := by obtain ⟨h, o, e⟩ := settle_frame old s; rw [e]
@[simp] theorem settle_q (old s : State) : (settle old s).q = s.q := by obtain ⟨h, o, e⟩ := settle_frame old s; rw [e]
@[simp] theorem settle_gh (old s : State) : (settle old s).gh = s.gh := by obtain ⟨h, o, e⟩ := settle_frame old s; rw [e]
@[simp] theorem settle_sec (old s : State) : (settle old s).sec = s.sec := by obtain ⟨h, o, e⟩ := settle_frame old s; rw [e]
@[simp] theorem settle_rst (old s : State) : (settle old s).rst = s.rst := by obtain ⟨h, o, e⟩ := settle_frame old s; rw [e]
@[simp] theorem settle_lineSlow (old s : State) : (settle old s).lineSlow = s.lineSlow := by
  obtain ⟨h, o, e⟩ := settle_frame old s; rw [e]

/-- Settling changes STATUS_CHG and the pending bits only. -/
theorem settle_host (old s : State) :
    ∃ c p, (settle old s).host = { s.host with statusChg := c, pba := p } := by
  unfold settle sendVector emit; dsimp only
  split <;> split <;> (try split) <;> exact ⟨_, _, rfl⟩

@[simp] theorem settle_mbxDone (old s : State) : (settle old s).host.mbxDone = s.host.mbxDone := by
  obtain ⟨c, p, e⟩ := settle_host old s; rw [e]

@[simp] theorem devStatus_settle (old s : State) : devStatus (settle old s) = devStatus s := by
  unfold devStatus fwReady
  rw [settle_sec, settle_time, settle_seq, settle_rst, settle_lineSlow, settle_replay]

/-! ## Taking a request changes no table that a command reads -/

@[simp] theorem takeReq_getPu (s : State) (i : Nat) : getPu (takeReq s) i = getPu s i := rfl
@[simp] theorem takeReq_getGen (s : State) (i : Nat) : getGen (takeReq s) i = getGen s i := rfl
@[simp] theorem takeReq_getCam (s : State) (i : Nat) : getCam (takeReq s) i = getCam s i := rfl
@[simp] theorem takeReq_getRamp (s : State) (i : Nat) : getRamp (takeReq s) i = getRamp s i := rfl
@[simp] theorem takeReq_getSlot (s : State) (i : Nat) : getSlot (takeReq s) i = getSlot s i := rfl
@[simp] theorem takeReq_getPolicy (s : State) (i : Nat) : getPolicy (takeReq s) i = getPolicy s i := rfl
@[simp] theorem takeReq_getTrig (s : State) (i : Nat) : getTrig (takeReq s) i = getTrig s i := rfl
@[simp] theorem takeReq_getImg (s : State) (i : Nat) : getImg (takeReq s) i = getImg s i := rfl
@[simp] theorem takeReq_getSpan (s : State) (i : Nat) : getSpan (takeReq s) i = getSpan s i := rfl
@[simp] theorem takeReq_getDom (s : State) (i : Nat) : getDom (takeReq s) i = getDom s i := rfl
@[simp] theorem takeReq_getQ (s : State) (i : Nat) : getQ (takeReq s) i = getQ s i := rfl
@[simp] theorem takeReq_getMbx (s : State) (i : Nat) : getMbx (takeReq s) i = getMbx s i := rfl
@[simp] theorem takeReq_now (s : State) : now (takeReq s) = now s := rfl
@[simp] theorem takeReq_runImage (s : State) : runImage (takeReq s) = runImage s := rfl
@[simp] theorem takeReq_runRating (s : State) : runRating (takeReq s) = runRating s := rfl
@[simp] theorem takeReq_lifecycle (s : State) : lifecycle (takeReq s) = lifecycle s := rfl
@[simp] theorem takeReq_arCounter (s : State) : arCounter (takeReq s) = arCounter s := rfl
@[simp] theorem takeReq_tollRead (s : State) (a n : Nat) : tollRead (takeReq s) a n = tollRead s a n := rfl
@[simp] theorem takeReq_portRuns (s : State) (p : Nat) : portRuns (takeReq s) p = portRuns s p := rfl
@[simp] theorem takeReq_inAlloc (s : State) (a n : Nat) : inAlloc (takeReq s) a n = inAlloc s a n := rfl
@[simp] theorem takeReq_ratingOf (s : State) (n r : Nat) : ratingOf (getImg (takeReq s) n).img r = ratingOf (getImg s n).img r := rfl

/-! ## Completion -/

@[simp] theorem getMbx_setMbx (s : State) (m : Nat) (x : Mbx) : getMbx (setMbx s m x) m = x := by simp [getMbx, setMbx]

theorem getMbx_setMbx_ne (s : State) (m n : Nat) (x : Mbx) (h : n ≠ m) : getMbx (setMbx s m x) n = getMbx s n := by
  simp [getMbx, setMbx, Tab.get_set_ne _ _ _ _ _ h]

/-- Reading back what was just written. -/
theorem memRead_memWrite (m : Mem) (a : Nat) (bs : List Byte) : memRead (memWrite m a bs) a bs.length = bs := by
  apply List.ext_getElem
  · simp [memRead]
  · intro i h1 h2
    have hl : i < bs.length := h2
    have := memReadD_getD 0 (memWriteD 0 m a bs) a bs.length i 0 hl
    rw [memWriteD_get, if_pos ⟨by omega, by omega⟩] at this
    rw [show a + i - a = i by omega] at this
    have h3 : i < (memReadD 0 (memWriteD 0 m a bs) a bs.length).length := h1
    rw [List.getD_eq_getElem?_getD, List.getD_eq_getElem?_getD, List.getElem?_eq_getElem h3, List.getElem?_eq_getElem hl] at this
    exact this

end Sys2Proof.Machine
end

