-- ==== Sys2Proof/Laws/Settles.lean ====
section
/-! SUPPORT. Sys2Proof/Laws/Settles.lean: whatever command goes on, its last act is to settle DEV_STATUS and the interrupt.
-/

namespace Sys2Proof.Machine

set_option Elab.async false

theorem settles_done (f : State → State) (s u_ : State) (h : done f s = .next u_) : ∃ u, u_ = settle s u :=
  ⟨f s, (Host.Outcome.next.inj h).symm⟩

theorem settles_execDeckLoad (th : Thread) (s u_ : State) (h : execDeckLoad th s = .next u_) : ∃ u, u_ = settle s u := by
  unfold execDeckLoad at h
  (repeat' split at h) <;> first | exact settles_done _ _ _ h | (injection h)

theorem settles_execDeckStore (th : Thread) (s u_ : State) (h : execDeckStore th s = .next u_) : ∃ u, u_ = settle s u := by
  unfold execDeckStore at h
  (repeat' split at h) <;> first | exact settles_done _ _ _ h | (injection h)

theorem settles_execSendCmd (th : Thread) (s u_ : State) (h : execSendCmd th s = .next u_) : ∃ u, u_ = settle s u := by
  unfold execSendCmd at h
  (repeat' split at h) <;> first | exact settles_done _ _ _ h | (injection h)

theorem settles_execSwingLoad (th : Thread) (s u_ : State) (h : execSwingLoad th s = .next u_) : ∃ u, u_ = settle s u := by
  unfold execSwingLoad at h; dsimp only at h
  (repeat' split at h) <;> first | exact settles_done _ _ _ h | (injection h)

/-- What a command leaves is the settled state of its effect, but for those that may end in a cold reset. -/
theorem exec_settles (c : Instr) (s u_ : State) (hc : coldRow c = false) (h : exec c s = .next u_) : ∃ u, u_ = settle s u := by
  cases c with
  | registerWrite r v => exact settles_done _ s u_ (show execRegisterWrite r v s = _ from h)
  | hello m => exact settles_done _ s u_ (show execHello m s = _ from h)
  | goodbye m => exact settles_done _ s u_ (show execGoodbye m s = _ from h)
  | getCaps m => exact settles_done _ s u_ (show execGetCaps m s = _ from h)
  | timebaseSwitch m hz => exact settles_done _ s u_ (show execTimebaseSwitch m hz s = _ from h)
  | timeRead m => exact settles_done _ s u_ (show execTimeRead m s = _ from h)
  | wcIncSet m => exact settles_done _ s u_ (show execWcIncSet m s = _ from h)
  | wcStep m => exact settles_done _ s u_ (show execWcStep m s = _ from h)
  | wcSet m => exact settles_done _ s u_ (show execWcSet m s = _ from h)
  | ksConfig m => exact settles_done _ s u_ (show execKsConfig m s = _ from h)
  | keystoneLaunch m => exact settles_done _ s u_ (show execKeystoneLaunch m s = _ from h)
  | ksRead m => exact settles_done _ s u_ (show execKsRead m s = _ from h)
  | camConfig m => exact settles_done _ s u_ (show execCamConfig m s = _ from h)
  | camDiscover m offer => exact settles_done _ s u_ (show execCamDiscover m offer s = _ from h)
  | camCtrl m ack data => exact settles_done _ s u_ (show execCamCtrl m ack data s = _ from h)
  | camCtrlTimeout m => exact settles_done _ s u_ (show execCamCtrlTimeout m s = _ from h)
  | camPower m => exact settles_done _ s u_ (show execCamPower m s = _ from h)
  | camRead m => exact settles_done _ s u_ (show execCamRead m s = _ from h)
  | apConfig m => exact settles_done _ s u_ (show execApConfig m s = _ from h)
  | apTable m => exact settles_done _ s u_ (show execApTable m s = _ from h)
  | rmpConfig m => exact settles_done _ s u_ (show execRmpConfig m s = _ from h)
  | rmpRead m => exact settles_done _ s u_ (show execRmpRead m s = _ from h)
  | puConfig m => exact settles_done _ s u_ (show execPuConfig m s = _ from h)
  | puRefArm m => exact settles_done _ s u_ (show execPuRefArm m s = _ from h)
  | puLatch m => exact settles_done _ s u_ (show execPuLatch m s = _ from h)
  | puRead m => exact settles_done _ s u_ (show execPuRead m s = _ from h)
  | ltConfig m => exact settles_done _ s u_ (show execLtConfig m s = _ from h)
  | ltArm m => exact settles_done _ s u_ (show execLtArm m s = _ from h)
  | puClear m => exact settles_done _ s u_ (show execPuClear m s = _ from h)
  | fioConfig m => exact settles_done _ s u_ (show execFioConfig m s = _ from h)
  | fioSet m => exact settles_done _ s u_ (show execFioSet m s = _ from h)
  | fioRelease m => exact settles_done _ s u_ (show execFioRelease m s = _ from h)
  | fioRead m => exact settles_done _ s u_ (show execFioRead m s = _ from h)
  | fioClear m => exact settles_done _ s u_ (show execFioClear m s = _ from h)
  | trigConfig m => exact settles_done _ s u_ (show execTrigConfig m s = _ from h)
  | trigSet m => exact settles_done _ s u_ (show execTrigSet m s = _ from h)
  | vpSet m => exact settles_done _ s u_ (show execVpSet m s = _ from h)
  | vpRead m => exact settles_done _ s u_ (show execVpRead m s = _ from h)
  | seqSet m => exact settles_done _ s u_ (show execSeqSet m s = _ from h)
  | modelStage m => exact settles_done _ s u_ (show execModelStage m s = _ from h)
  | modelCommit m => exact settles_done _ s u_ (show execModelCommit m s = _ from h)
  | modelSwitch m => exact settles_done _ s u_ (show execModelSwitch m s = _ from h)
  | modelRetire m => exact settles_done _ s u_ (show execModelRetire m s = _ from h)
  | modelList m => exact settles_done _ s u_ (show execModelList m s = _ from h)
  | swingRead m => exact settles_done _ s u_ (show execSwingRead m s = _ from h)
  | crossingStart m => exact settles_done _ s u_ (show execCrossingStart m s = _ from h)
  | crossingStop m => exact settles_done _ s u_ (show execCrossingStop m s = _ from h)
  | crossingStatus m => exact settles_done _ s u_ (show execCrossingStatus m s = _ from h)
  | memAlloc m => exact settles_done _ s u_ (show execMemAlloc m s = _ from h)
  | memFree m => exact settles_done _ s u_ (show execMemFree m s = _ from h)
  | queueCreate m => exact settles_done _ s u_ (show execQueueCreate m s = _ from h)
  | queueDestroy m => exact settles_done _ s u_ (show execQueueDestroy m s = _ from h)
  | queueRead m => exact settles_done _ s u_ (show execQueueRead m s = _ from h)
  | queueAttach m => exact settles_done _ s u_ (show execQueueAttach m s = _ from h)
  | tollConfig m => exact settles_done _ s u_ (show execTollConfig m s = _ from h)
  | tollRead m => exact settles_done _ s u_ (show execTollRead m s = _ from h)
  | recStart m => exact settles_done _ s u_ (show execRecStart m s = _ from h)
  | recStop m => exact settles_done _ s u_ (show execRecStop m s = _ from h)
  | recRelease m => exact settles_done _ s u_ (show execRecRelease m s = _ from h)
  | recRead m => exact settles_done _ s u_ (show execRecRead m s = _ from h)
  | lotOpen m => exact settles_done _ s u_ (show execLotOpen m s = _ from h)
  | checkpoint m => exact settles_done _ s u_ (show execCheckpoint m s = _ from h)
  | replayOpen m => exact settles_done _ s u_ (show execReplayOpen m s = _ from h)
  | replayRun m => exact settles_done _ s u_ (show execReplayRun m s = _ from h)
  | replayStop m => exact settles_done _ s u_ (show execReplayStop m s = _ from h)
  | spanConfig m => exact settles_done _ s u_ (show execSpanConfig m s = _ from h)
  | spanRoute m => exact settles_done _ s u_ (show execSpanRoute m s = _ from h)
  | spanRetrain m => exact settles_done _ s u_ (show execSpanRetrain m s = _ from h)
  | laneTest m => exact settles_done _ s u_ (show execLaneTest m s = _ from h)
  | spanRead m => exact settles_done _ s u_ (show execSpanRead m s = _ from h)
  | spanWindow m => exact settles_done _ s u_ (show execSpanWindow m s = _ from h)
  | spanCopy m => exact settles_done _ s u_ (show execSpanCopy m s = _ from h)
  | stewardConfig m vidMode => exact settles_done _ s u_ (show execStewardConfig m vidMode s = _ from h)
  | stewardFix m => exact settles_done _ s u_ (show execStewardFix m s = _ from h)
  | pwrSet m => exact settles_done _ s u_ (show execPwrSet m s = _ from h)
  | pwrRead m => exact settles_done _ s u_ (show execPwrRead m s = _ from h)
  | pwrPadRelease m => exact settles_done _ s u_ (show execPwrPadRelease m s = _ from h)
  | fwUpdate m flashError => exact settles_done _ s u_ (show execFwUpdate m flashError s = _ from h)
  | fwInfo m => exact settles_done _ s u_ (show execFwInfo m s = _ from h)
  | attest m signature => exact settles_done _ s u_ (show execAttest m signature s = _ from h)
  | unitTest m report => exact settles_done _ s u_ (show execUnitTest m report s = _ from h)
  | unitMap m => exact settles_done _ s u_ (show execUnitMap m s = _ from h)
  | slotRead m => exact settles_done _ s u_ (show execSlotRead m s = _ from h)
  | kvStatus m => exact settles_done _ s u_ (show execKvStatus m s = _ from h)
  | kvDump m => exact settles_done _ s u_ (show execKvDump m s = _ from h)
  | kvTrackReset m => exact settles_done _ s u_ (show execKvTrackReset m s = _ from h)
  | dramRead m => exact settles_done _ s u_ (show execDramRead m s = _ from h)
  | resetCmd m => exact settles_done _ s u_ (show execResetCmd m s = _ from h)
  | commandComplete m => exact settles_done _ s u_ (show execCommandComplete m s = _ from h)
  | queueDoorbellPtr q p => exact settles_done _ s u_ (show execQueueDoorbellPtr q p s = _ from h)
  | queueDoorbellArm q => exact settles_done _ s u_ (show execQueueDoorbellArm q s = _ from h)
  | queueDoorbellClearQerr q => exact settles_done _ s u_ (show execQueueDoorbellClearQerr q s = _ from h)
  | bar2Access off acc => exact settles_done _ s u_ (show execBar2Access off acc s = _ from h)
  | poisonedTlp nonPosted => exact settles_done _ s u_ (show execPoisonedTlp nonPosted s = _ from h)
  | perstN => exact settles_done _ s u_ (show execPerstN s = _ from h)
  | hotReset => exact settles_done _ s u_ (show execHotReset s = _ from h)
  | pcieLinkLoss => exact settles_done _ s u_ (show execPcieLinkLoss s = _ from h)
  | queueAccessFail q => exact settles_done _ s u_ (show execQueueAccessFail q s = _ from h)
  | queueProduce => exact settles_done _ s u_ (show execQueueProduce s = _ from h)
  | queueHoldoffExpiry q => exact settles_done _ s u_ (show execQueueHoldoffExpiry q s = _ from h)
  | jobEntryTake uncorrectable => exact settles_done _ s u_ (show execJobEntryTake uncorrectable s = _ from h)
  | jobDone j => exact settles_done _ s u_ (show execJobDone j s = _ from h)
  | tollArbitration c req lines => exact settles_done _ s u_ (show execTollArbitration c req lines s = _ from h)
  | encoderTransition p change => exact settles_done _ s u_ (show execEncoderTransition p change s = _ from h)
  | zEdge p => exact settles_done _ s u_ (show execZEdge p s = _ from h)
  | pulseEndUs => exact settles_done _ s u_ (show execPulseEndUs s = _ from h)
  | observerTick p => exact settles_done _ s u_ (show execObserverTick p s = _ from h)
  | motionStop p => exact settles_done _ s u_ (show execMotionStop p s = _ from h)
  | encWireFault p input good => exact settles_done _ s u_ (show execEncWireFault p input good s = _ from h)
  | lineComplete p line => exact settles_done _ s u_ (show execLineComplete p line s = _ from h)
  | triggerEntryExpiry p => exact settles_done _ s u_ (show execTriggerEntryExpiry p s = _ from h)
  | foreignStreamPacket p => exact settles_done _ s u_ (show execForeignStreamPacket p s = _ from h)
  | heartbeatPacket p => exact settles_done _ s u_ (show execHeartbeatPacket p s = _ from h)
  | camEvent p packet => exact settles_done _ s u_ (show execCamEvent p packet s = _ from h)
  | cxpLinkDown p conn => exact settles_done _ s u_ (show execCxpLinkDown p conn s = _ from h)
  | cxpLinkUp p conn => exact settles_done _ s u_ (show execCxpLinkUp p conn s = _ from h)
  | pocxpFault conn => exact settles_done _ s u_ (show execPocxpFault conn s = _ from h)
  | owedLostLineWrite p => exact settles_done _ s u_ (show execOwedLostLineWrite p s = _ from h)
  | passStart p => exact settles_done _ s u_ (show execPassStart p s = _ from h)
  | sampleWrite p => exact settles_done _ s u_ (show execSampleWrite p s = _ from h)
  | bandComplete p band => exact settles_done _ s u_ (show execBandComplete p band s = _ from h)
  | secondLookViewGenerate j => exact settles_done _ s u_ (show execSecondLookViewGenerate j s = _ from h)
  | slotCommit => exact settles_done _ s u_ (show execSlotCommit s = _ from h)
  | recordPost => exact settles_done _ s u_ (show execRecordPost s = _ from h)
  | lateRecordPost => exact settles_done _ s u_ (show execLateRecordPost s = _ from h)
  | periodTick => exact settles_done _ s u_ (show execPeriodTick s = _ from h)
  | launchCountReached => exact settles_done _ s u_ (show execLaunchCountReached s = _ from h)
  | crossingBoundary => exact settles_done _ s u_ (show execCrossingBoundary s = _ from h)
  | bayStart b => exact settles_done _ s u_ (show execBayStart b s = _ from h)
  | bayEnd b steps => exact settles_done _ s u_ (show execBayEnd b steps s = _ from h)
  | openBayDeadline b => exact settles_done _ s u_ (show execOpenBayDeadline b s = _ from h)
  | tileBoundary b => exact settles_done _ s u_ (show execTileBoundary b s = _ from h)
  | deckOp t => exact settles_done _ s u_ (show execDeckOp t s = _ from h)
  | deckLoad t => exact settles_execDeckLoad t s u_ h
  | deckStore t => exact settles_execDeckStore t s u_ h
  | swingLoad t => exact settles_execSwingLoad t s u_ h
  | sendCmd t => exact settles_execSendCmd t s u_ h
  | signalCmd t => exact settles_done _ s u_ (show execSignalCmd t s = _ from h)
  | collective t => exact settles_done _ s u_ (show execCollective t s = _ from h)
  | waitCmd t => exact settles_done _ s u_ (show execWaitCmd t s = _ from h)
  | refreshCmd t => exact settles_done _ s u_ (show execRefreshCmd t s = _ from h)
  | sramCorrected unit bank => exact settles_done _ s u_ (show execSramCorrected unit bank s = _ from h)
  | sramUe unit bank row => exact settles_done _ s u_ (show execSramUe unit bank row s = _ from h)
  | dramCorrected ch => exact settles_done _ s u_ (show execDramCorrected ch s = _ from h)
  | dramUe ch off => exact settles_done _ s u_ (show execDramUe ch off s = _ from h)
  | tollDramUe c off => exact settles_done _ s u_ (show execTollDramUe c off s = _ from h)
  | dramScrub ch => exact settles_done _ s u_ (show execDramScrub ch s = _ from h)
  | refreshForced ch => exact settles_done _ s u_ (show execRefreshForced ch s = _ from h)
  | abutOwnFault region requester => exact settles_done _ s u_ (show execAbutOwnFault region requester s = _ from h)
  | ceRateInterval => exact settles_done _ s u_ (show execCeRateInterval s = _ from h)
  | recSegmentWritten => exact settles_done _ s u_ (show execRecSegmentWritten s = _ from h)
  | spanWidthChosen p good partner => exact settles_done _ s u_ (show execSpanWidthChosen p good partner s = _ from h)
  | spanCaps p caps => exact settles_done _ s u_ (show execSpanCaps p caps s = _ from h)
  | spanTrainTimeout p => exact settles_done _ s u_ (show execSpanTrainTimeout p s = _ from h)
  | spanLockLoss p lanes => exact settles_done _ s u_ (show execSpanLockLoss p lanes s = _ from h)
  | spanFrameReceive p frame => exact settles_done _ s u_ (show execSpanFrameReceive p frame s = _ from h)
  | spanReplayTimeout p => exact settles_done _ s u_ (show execSpanReplayTimeout p s = _ from h)
  | spanAckTimer p => exact settles_done _ s u_ (show execSpanAckTimer p s = _ from h)
  | writeMessage p => exact settles_done _ s u_ (show execWriteMessage p s = _ from h)
  | signalMessage p => exact settles_done _ s u_ (show execSignalMessage p s = _ from h)
  | tollWrite p => exact settles_done _ s u_ (show execTollWrite p s = _ from h)
  | messageForward p => exact settles_done _ s u_ (show execMessageForward p s = _ from h)
  | syncFu p => exact settles_done _ s u_ (show execSyncFu p s = _ from h)
  | neighborMsg p => exact settles_done _ s u_ (show execNeighborMsg p s = _ from h)
  | syncExchange => exact settles_done _ s u_ (show execSyncExchange s = _ from h)
  | neighborSend => exact settles_done _ s u_ (show execNeighborSend s = _ from h)
  | ksHoldoverTimeout => exact settles_done _ s u_ (show execKsHoldoverTimeout s = _ from h)
  | ksParentTimeout => exact settles_done _ s u_ (show execKsParentTimeout s = _ from h)
  | fieldFrameTick => exact settles_done _ s u_ (show execFieldFrameTick s = _ from h)
  | fieldDownFrameApply good levels lplusLow => exact settles_done _ s u_ (show execFieldDownFrameApply good levels lplusLow s = _ from h)
  | fieldUpFrame good => exact settles_done _ s u_ (show execFieldUpFrame good s = _ from h)
  | fieldLinkTimeout => exact settles_done _ s u_ (show execFieldLinkTimeout s = _ from h)
  | fieldDieSafeTimeout => exact settles_done _ s u_ (show execFieldDieSafeTimeout s = _ from h)
  | fieldUvlo low => exact settles_done _ s u_ (show execFieldUvlo low s = _ from h)
  | fioThermalTrip ch => exact settles_done _ s u_ (show execFioThermalTrip ch s = _ from h)
  | prepareAnswer d busyUs => exact settles_done _ s u_ (show execPrepareAnswer d busyUs s = _ from h)
  | prepareTimeout d => exact settles_done _ s u_ (show execPrepareTimeout d s = _ from h)
  | prepareDelayExpiry d => exact settles_done _ s u_ (show execPrepareDelayExpiry d s = _ from h)
  | onDemandWake d requester => exact settles_done _ s u_ (show execOnDemandWake d requester s = _ from h)
  | domainWakeComplete d => exact settles_done _ s u_ (show execDomainWakeComplete d s = _ from h)
  | pwrAccessOff d requester address => exact settles_done _ s u_ (show execPwrAccessOff d requester address s = _ from h)
  | mc3IdleRetention => exact settles_done _ s u_ (show execMc3IdleRetention s = _ from h)
  | vddSettled sense => exact settles_done _ s u_ (show execVddSettled sense s = _ from h)
  | vddTimeout sense => exact settles_done _ s u_ (show execVddTimeout sense s = _ from h)
  | vrmFault word => exact settles_done _ s u_ (show execVrmFault word s = _ from h)
  | sensorUpdate temps drawn => exact settles_done _ s u_ (show execSensorUpdate temps drawn s = _ from h)
  | thermTrip => exact settles_done _ s u_ (show execThermTrip s = _ from h)
  | refclkLost => exact settles_done _ s u_ (show execRefclkLost s = _ from h)
  | powerOn => exact absurd hc (by decide)
  | resetNAssert => exact absurd hc (by decide)
  | resetNRelease => exact settles_done _ s u_ (show execResetNRelease s = _ from h)
  | firmwareStart report dramFail => exact settles_done _ s u_ (show execFirmwareStart report dramFail s = _ from h)
  | fwReady => exact settles_done _ s u_ (show execFwReady s = _ from h)
  | warmReset => exact settles_done _ s u_ (show execWarmReset s = _ from h)
  | watchdogBite => exact settles_done _ s u_ (show execWatchdogBite s = _ from h)
  | warmResetEscalation => exact absurd hc (by decide)
  | pfailNFall => exact settles_done _ s u_ (show execPfailNFall s = _ from h)
  | pfailNReturn => exact absurd hc (by decide)
  | helpCmd => exact settles_done _ s u_ (show execHelpCmd s = _ from h)
  | infoCmd => exact settles_done _ s u_ (show execInfoCmd s = _ from h)
  | baud rate => exact settles_done _ s u_ (show execBaud rate s = _ from h)
  | chal random => exact settles_done _ s u_ (show execChal random s = _ from h)
  | unlock level answer => exact settles_done _ s u_ (show execUnlock level answer s = _ from h)
  | catwalkLockoutExpiry => exact settles_done _ s u_ (show execCatwalkLockoutExpiry s = _ from h)
  | statusCmd => exact settles_done _ s u_ (show execStatusCmd s = _ from h)
  | logCmd => exact settles_done _ s u_ (show execLogCmd s = _ from h)
  | mrCmd addr count => exact settles_done _ s u_ (show execMrCmd addr count s = _ from h)
  | mwCmd addr v => exact settles_done _ s u_ (show execMwCmd addr v s = _ from h)
  | provision slot hash confirm => exact settles_done _ s u_ (show execProvision slot hash confirm s = _ from h)
  | revoke slot confirm => exact settles_done _ s u_ (show execRevoke slot confirm s = _ from h)
  | lifecycleProduction confirm => exact settles_done _ s u_ (show execLifecycleProduction confirm s = _ from h)
  | lifecycleReturn confirm => exact settles_done _ s u_ (show execLifecycleReturn confirm s = _ from h)
  | lockCmd => exact settles_done _ s u_ (show execLockCmd s = _ from h)
  | catwalkResetWarm => exact settles_done _ s u_ (show execCatwalkResetWarm s = _ from h)
  | romRecoveryLoad blocks => exact settles_done _ s u_ (show execRomRecoveryLoad blocks s = _ from h)
  | perstNRelease => exact settles_done _ s u_ (show execPerstNRelease s = _ from h)
  | replayRecord => exact settles_done _ s u_ (show execReplayRecord s = _ from h)
  | lineTrigPulseEnd n => exact settles_done _ s u_ (show execLineTrigPulseEnd n s = _ from h)
  | syncBlock p => exact settles_done _ s u_ (show execSyncBlock p s = _ from h)

end Sys2Proof.Machine
end

