-- ==== Sys2Proof/WellFormed.lean ====
section
/-! DEFINITION. Sys2Proof/WellFormed.lean: which operands a command or event can carry, beyond what their types say. A meaning
does not ask for it: it says what happens to every operand.
-/

namespace Sys2Proof

/-- A register write is aligned to its size (R466). -/
def wfReg (r : RegName) : Bool :=
  match r with
  | .bar0 off eight => decide (off.toNat % (if eight then 8 else 4) = 0)
  | .recStatus => true
  | .spStatus _ => true
  | .ueLog => true
  | .energy _ => true
  | .tollBytes _ _ => true

/-- A self-test report (R133 to R138): each unit once; failing rows, each once, for a girder, failing cores for a cluster, and a
test code that the unit's status word has. -/
def wfReport (report : List UnitTest) : Bool :=
  decide (report.map (fun t => t.unit)).Nodup && report.all (fun t =>
    if t.unit.val < 32 then decide (t.rows.Nodup ∧ t.failCores = 0 ∧ t.code.toNat ≤ 5)
    else decide (t.rows = [] ∧ t.code.toNat ≤ 3))

/-- A BAR2 access lies in the window (R465), with the transfer sizes of R464. -/
def wfBar2 (off : BitVec 30) (a : Bar2Acc) : Bool :=
  match a with
  | .read n => decide (1 ≤ n.toNat ∧ n.toNat ≤ 4096 ∧ off.toNat + n.toNat ≤ 2 ^ 30)
  | .write d => decide (1 ≤ d.length ∧ d.length ≤ 512 ∧ off.toNat + d.length ≤ 2 ^ 30)

/-- A bank and row of an on-chip memory: 10 banks of 4,096 rows and 16 spare rows in a pier (R114), 12 abutment banks. -/
def wfSram (u : SramUnit) (bank : Fin 16) (row : BitVec 16) : Bool :=
  match u with
  | .pier _ => decide (bank.val < 10 ∧ row.toNat < 4112)
  | .abut => decide (bank.val < 12)
  | .cluster _ => true

/-- The operands of a command or event are as the manual gives them. -/
def wellFormed (i : Instr) : Bool :=
  match i with
  | .registerWrite r _ => wfReg r
  | .hello _ => true
  | .goodbye _ => true
  | .getCaps _ => true
  | .timebaseSwitch _ _ => true
  | .timeRead _ => true
  | .wcIncSet _ => true
  | .wcStep _ => true
  | .wcSet _ => true
  | .ksConfig _ => true
  | .keystoneLaunch _ => true
  | .ksRead _ => true
  | .camConfig _ => true
  | .camDiscover _ _ => true
  | .camCtrl _ _ data => decide (data.length ≤ 200 ∧ data.length % 4 = 0)
  | .camCtrlTimeout _ => true
  | .camPower _ => true
  | .camRead _ => true
  | .apConfig _ => true
  | .apTable _ => true
  | .rmpConfig _ => true
  | .rmpRead _ => true
  | .puConfig _ => true
  | .puRefArm _ => true
  | .puLatch _ => true
  | .puRead _ => true
  | .ltConfig _ => true
  | .ltArm _ => true
  | .puClear _ => true
  | .fioConfig _ => true
  | .fioSet _ => true
  | .fioRelease _ => true
  | .fioRead _ => true
  | .fioClear _ => true
  | .trigConfig _ => true
  | .trigSet _ => true
  | .vpSet _ => true
  | .vpRead _ => true
  | .seqSet _ => true
  | .modelStage _ => true
  | .modelCommit _ => true
  | .modelSwitch _ => true
  | .modelRetire _ => true
  | .modelList _ => true
  | .swingRead _ => true
  | .crossingStart _ => true
  | .crossingStop _ => true
  | .crossingStatus _ => true
  | .memAlloc _ => true
  | .memFree _ => true
  | .queueCreate _ => true
  | .queueDestroy _ => true
  | .queueRead _ => true
  | .queueAttach _ => true
  | .tollConfig _ => true
  | .tollRead _ => true
  | .recStart _ => true
  | .recStop _ => true
  | .recRelease _ => true
  | .recRead _ => true
  | .lotOpen _ => true
  | .checkpoint _ => true
  | .replayOpen _ => true
  | .replayRun _ => true
  | .replayStop _ => true
  | .spanConfig _ => true
  | .spanRoute _ => true
  | .spanRetrain _ => true
  | .laneTest _ => true
  | .spanRead _ => true
  | .spanWindow _ => true
  | .spanCopy _ => true
  | .stewardConfig _ _ => true
  | .stewardFix _ => true
  | .pwrSet _ => true
  | .pwrRead _ => true
  | .pwrPadRelease _ => true
  | .fwUpdate _ e => (e.map (fun a => decide (a.toNat < 0x500000))).getD true
  | .fwInfo _ => true
  | .attest _ sig => decide (sig.length = 384)
  | .unitTest _ report => wfReport report
  | .unitMap _ => true
  | .slotRead _ => true
  | .kvStatus _ => true
  | .kvDump _ => true
  | .kvTrackReset _ => true
  | .dramRead _ => true
  | .resetCmd _ => true
  | .commandComplete _ => true
  | .queueDoorbellPtr _ _ => true
  | .queueDoorbellArm _ => true
  | .queueDoorbellClearQerr _ => true
  | .bar2Access off acc => wfBar2 off acc
  | .poisonedTlp _ => true
  | .perstN => true
  | .hotReset => true
  | .pcieLinkLoss => true
  | .queueAccessFail _ => true
  | .queueProduce => true
  | .queueHoldoffExpiry _ => true
  | .jobEntryTake _ => true
  | .jobDone _ => true
  | .tollArbitration _ _ lines => decide (lines.toNat ≤ 32)
  | .encoderTransition _ _ => true
  | .zEdge _ => true
  | .pulseEndUs => true
  | .observerTick _ => true
  | .motionStop _ => true
  | .encWireFault _ _ _ => true
  | .lineComplete _ line => decide (line.planes.length = 1 ∨ line.planes.length = 3)
  | .triggerEntryExpiry _ => true
  | .foreignStreamPacket _ => true
  | .heartbeatPacket _ => true
  | .camEvent _ packet => decide (packet.length % 4 = 0 ∧ packet.length < 65536)
  | .cxpLinkDown _ _ => true
  | .cxpLinkUp _ _ => true
  | .pocxpFault _ => true
  | .owedLostLineWrite _ => true
  | .passStart _ => true
  | .sampleWrite _ => true
  | .bandComplete _ _ => true
  | .secondLookViewGenerate _ => true
  | .slotCommit => true
  | .recordPost => true
  | .lateRecordPost => true
  | .periodTick => true
  | .launchCountReached => true
  | .crossingBoundary => true
  | .bayStart _ => true
  | .bayEnd _ _ => true
  | .openBayDeadline _ => true
  | .tileBoundary _ => true
  | .deckOp _ => true
  | .deckLoad _ => true
  | .deckStore _ => true
  | .swingLoad _ => true
  | .sendCmd _ => true
  | .signalCmd _ => true
  | .collective _ => true
  | .waitCmd _ => true
  | .refreshCmd _ => true
  | .sramCorrected _ _ => true
  | .sramUe unit bank row => wfSram unit bank row
  | .dramCorrected _ => true
  | .dramUe _ off => decide (off.toNat < 0xE0000000)
  | .tollDramUe _ off => decide (off.toNat < 0xE0000000)
  | .dramScrub _ => true
  | .refreshForced _ => true
  | .abutOwnFault _ _ => true
  | .ceRateInterval => true
  | .recSegmentWritten => true
  | .spanWidthChosen _ _ _ => true
  | .spanCaps _ _ => true
  | .spanTrainTimeout _ => true
  | .spanLockLoss _ _ => true
  | .spanFrameReceive _ frame => decide (frame.length = 256)
  | .spanReplayTimeout _ => true
  | .spanAckTimer _ => true
  | .writeMessage _ => true
  | .signalMessage _ => true
  | .tollWrite _ => true
  | .messageForward _ => true
  | .syncFu _ => true
  | .neighborMsg _ => true
  | .syncExchange => true
  | .neighborSend => true
  | .ksHoldoverTimeout => true
  | .ksParentTimeout => true
  | .fieldFrameTick => true
  | .fieldDownFrameApply _ _ _ => true
  | .fieldUpFrame _ => true
  | .fieldLinkTimeout => true
  | .fieldDieSafeTimeout => true
  | .fieldUvlo _ => true
  | .fioThermalTrip _ => true
  | .prepareAnswer _ _ => true
  | .prepareTimeout _ => true
  | .prepareDelayExpiry _ => true
  | .onDemandWake _ _ => true
  | .domainWakeComplete _ => true
  | .pwrAccessOff _ _ _ => true
  | .mc3IdleRetention => true
  | .vddSettled _ => true
  | .vddTimeout _ => true
  | .vrmFault _ => true
  | .sensorUpdate temps drawn => decide (temps.length = 16 ∧ drawn.length = 64)
  | .thermTrip => true
  | .refclkLost => true
  | .powerOn => true
  | .resetNAssert => true
  | .resetNRelease => true
  | .firmwareStart report _ => wfReport report
  | .fwReady => true
  | .warmReset => true
  | .watchdogBite => true
  | .warmResetEscalation => true
  | .pfailNFall => true
  | .pfailNReturn => true
  | .helpCmd => true
  | .infoCmd => true
  | .baud _ => true
  | .chal random => decide (random.length = 32)
  | .unlock level _ => decide (level = 1 ∨ level = 2)
  | .catwalkLockoutExpiry => true
  | .statusCmd => true
  | .logCmd => true
  | .mrCmd _ count => decide (count.toNat ≤ 4096)
  | .mwCmd _ _ => true
  | .provision _ hash confirm => decide (hash.length = 32 ∧ confirm.length = 16)
  | .revoke _ confirm => decide (confirm.length = 16)
  | .lifecycleProduction confirm => decide (confirm.length = 16)
  | .lifecycleReturn confirm => decide (confirm.length = 16)
  | .lockCmd => true
  | .catwalkResetWarm => true
  | .romRecoveryLoad blocks => blocks.all (fun b => decide (b.1.length ≤ 1024))
  | .perstNRelease => true
  | .replayRecord => true
  | .lineTrigPulseEnd _ => true
  | .syncBlock _ => true

end Sys2Proof
end

