-- ==== Sys2Proof/Tests/Slice0.lean ====
section
/-! SUPPORT. Sys2Proof/Tests/Slice0.lean: smoke tests of WellFormed and of single commands, and a witness for the hypotheses of
every statement.
-/

namespace Sys2Proof.Tests

set_option Elab.async false

open Sys2Proof Sys2Proof.Machine

/-! ## WellFormed refuses an ill-formed term for each of its checks -/

theorem test_wf_register_misaligned : wellFormed (.registerWrite (.bar0 0x0012 false) 0) = false := by decide +kernel
theorem test_wf_register_misaligned_eight : wellFormed (.registerWrite (.bar0 0x0014 true) 0) = false := by decide +kernel
theorem test_wf_camCtrl_data : wellFormed (.camCtrl 0 0 [1, 2, 3]) = false := by decide +kernel
theorem test_wf_camCtrl_too_long : wellFormed (.camCtrl 0 0 (List.replicate 204 0)) = false := by decide +kernel
theorem test_wf_fwUpdate_address : wellFormed (.fwUpdate 0 (some 0x500000)) = false := by decide +kernel
theorem test_wf_attest_signature : wellFormed (.attest 0 (List.replicate 383 0)) = false := by decide +kernel
theorem test_wf_unitTest_twice : wellFormed (.unitTest 0 [⟨3, [], 0, 1⟩, ⟨3, [], 0, 1⟩]) = false := by decide +kernel
theorem test_wf_unitTest_rows : wellFormed (.unitTest 0 [⟨3, [(0, 7), (0, 7)], 0, 0⟩]) = false := by decide +kernel
theorem test_wf_unitTest_cores_of_girder : wellFormed (.unitTest 0 [⟨3, [], 1, 0⟩]) = false := by decide +kernel
theorem test_wf_unitTest_code : wellFormed (.unitTest 0 [⟨3, [], 0, 6⟩]) = false := by decide +kernel
theorem test_wf_firmwareStart_cluster_rows : wellFormed (.firmwareStart [⟨32, [(0, 0)], 0, 0⟩] false) = false := by decide +kernel
theorem test_wf_firmwareStart_cluster_code : wellFormed (.firmwareStart [⟨32, [], 0, 4⟩] false) = false := by decide +kernel
theorem test_wf_bar2_empty_read : wellFormed (.bar2Access 0 (.read 0)) = false := by decide +kernel
theorem test_wf_bar2_long_read : wellFormed (.bar2Access 0 (.read 4097)) = false := by decide +kernel
theorem test_wf_bar2_past_window : wellFormed (.bar2Access 0x3FFFFFFF (.read 2)) = false := by decide +kernel
theorem test_wf_bar2_long_write : wellFormed (.bar2Access 0 (.write (List.replicate 513 0))) = false := by decide +kernel
theorem test_wf_tollArbitration_lines : wellFormed (.tollArbitration 0 1 33) = false := by decide +kernel
theorem test_wf_lineComplete_planes : wellFormed (.lineComplete 0 ⟨0, 0, false, [[], []]⟩) = false := by decide +kernel
theorem test_wf_camEvent_length : wellFormed (.camEvent 0 [1, 2]) = false := by decide +kernel
theorem test_wf_sramUe_bank : wellFormed (.sramUe (.pier 0) 10 0) = false := by decide +kernel
theorem test_wf_sramUe_row : wellFormed (.sramUe (.pier 0) 0 4112) = false := by decide +kernel
theorem test_wf_sramUe_abutment_bank : wellFormed (.sramUe .abut 12 0) = false := by decide +kernel
theorem test_wf_dramUe_offset : wellFormed (.dramUe 0 0xE0000000) = false := by decide +kernel
theorem test_wf_tollDramUe_offset : wellFormed (.tollDramUe 0 0xE0000000) = false := by decide +kernel
theorem test_wf_spanFrame_length : wellFormed (.spanFrameReceive 0 (List.replicate 255 0)) = false := by decide +kernel
theorem test_wf_sensorUpdate_lists : wellFormed (.sensorUpdate [] []) = false := by decide +kernel
theorem test_wf_chal_random : wellFormed (.chal []) = false := by decide +kernel
theorem test_wf_unlock_level : wellFormed (.unlock 3 []) = false := by decide +kernel
theorem test_wf_mr_count : wellFormed (.mrCmd 0 4097) = false := by decide +kernel
theorem test_wf_provision_hash : wellFormed (.provision 0 [] (List.replicate 16 0)) = false := by decide +kernel
theorem test_wf_revoke_confirm : wellFormed (.revoke 0 []) = false := by decide +kernel
theorem test_wf_production_confirm : wellFormed (.lifecycleProduction []) = false := by decide +kernel
theorem test_wf_return_confirm : wellFormed (.lifecycleReturn []) = false := by decide +kernel
theorem test_wf_romRecovery_block : wellFormed (.romRecoveryLoad [(List.replicate 1025 0, 0)]) = false := by decide +kernel

theorem test_wf_accepts : wellFormed (.registerWrite (.bar0 0x0018 true) 0) = true ∧ wellFormed (.sramUe (.pier 0) 9 4111) = true ∧
    wellFormed (.unitTest 0 [⟨3, [(0, 7), (1, 7)], 0, 0⟩, ⟨32, [], 1, 0⟩]) = true := by decide

/-! ## Worked examples of the spec -/

/-- The check value of R362: CRC-8 over "123456789" is 0x20. -/
theorem test_crc8_check : crc8 [0x31, 0x32, 0x33, 0x34, 0x35, 0x36, 0x37, 0x38, 0x39] = 0x20 := by decide +kernel

/-- "A slot across counter wrap": at 1,099,511,627,000 the freeze position 9,400 is 10,176 counts ahead. -/
theorem test_slot_wrap : posD 1099511627000 9400 = -10176 ∧ reached 1099511627000 9400 = false ∧ reached 9400 9400 = true := by decide +kernel

/-- "Encoding a BX8 block": the first six bytes, the shared exponent and the zero bytes after it. -/
theorem test_bx8_block :
    let b := encBx8 .nearestEven (List.replicate 32 0)
      ([.fin (21 / 4), .fin (-3 / 8), .fin 3, .fin (3 / 100), .fin (55 / 32)] ++ List.replicate 27 (.fin 0))
    b.1.take 6 = [0x54, 0xFA, 0x30, 0x00, 0x1C, 0x00] ∧ b.1.drop 32 = [0x81, 0, 0, 0] ∧ b.2 = false := by decide +kernel

/-- "FP32 to FP8-E4M3": 300, 470 and 464. -/
theorem test_e4m3 : convFloat .e4m3 .nearestEven 0 (.fin 300) = ⟨0x79, false, false⟩ ∧
    convFloat .e4m3 .nearestEven 0 (.fin 470) = ⟨0x7E, true, false⟩ ∧
    (convFloat .e4m3 .nearestEven 0 (.fin 464)).code = 0x7E := by decide +kernel

/-- "Why the combination order is fixed": 2^24 + 1 + 1 from the left is 2^24. -/
theorem test_chunk_order : fadd (fadd 0x4B800000 0x3F800000) 0x3F800000 = 0x4B800000 ∧
    fadd 0x4B800000 (fadd 0x3F800000 0x3F800000) = 0x4B800001 := by decide +kernel

/-- "Merging two exposures": 56,000 and 7,010 merge to 7,005. -/
theorem test_merge : mergeSample ([0, 2, 0, 3, 0x80, 0xBB, 0x00, 0xFA, 0x00, 0x01, 0x00, 0x08] ++ List.replicate 20 0) [56000, 7010]
    = 7005 := by decide +kernel

/-- "Five border cases on one axis", cases 1 and 2: reflect and replicate indices, and the sizes of cases 1 to 5. -/
theorem test_borders : (([-3, -2, -1, 5, 6, 7] : List Int).map (fun i => padIdx 3 i 5)) = [3, 2, 1, 3, 2, 1] ∧
    padIdx 2 (-3) 5 = 0 ∧
    [outSize 5 7 1 1 3 3, outSize 5 7 1 1 0 0, outSize 5 7 1 1 1 1, outSize 10 2 1 4 0 0, outSize 5 3 3 1 1 1] = [5, 0, 1, 3, 1] := by
  decide +kernel

/-- "One image, two coolers, two speeds": rate(710) = 1.364 and est of rating B at 710 mV. -/
theorem test_steward_rate : rateV 710 = 1364 / 10 ∧
    pairEst { Rating0 with vfloor := 650, periodNs := 4400000, slackNs := 400000 } 710 = 3372435 := by decide +kernel

/-- "An index across wrap": PTR 0 is accepted and leaves 256 entries, PTR 0x200 is refused with QERR. -/
theorem test_queue_wrap :
    let s := setQ State.reset 0x10 { Queue0 with st := .active, log2 := 10, head := 0xFFFFFE00, tail := 0x100 }
    occupancy (getQ s 0x10) = 768 ∧ occupancy (getQ (doorbellPtr 0x10 0 s) 0x10) = 256 ∧
    (getQ (doorbellPtr 0x10 0x200 s) 0x10).qerr = true ∧ (getQ (doorbellPtr 0x10 0x200 s) 0x10).head = 0xFFFFFE00 := by decide +kernel

/-- CRC-32 of R259 over "123456789": 0xCBF43926, the published check value of that polynomial. -/
theorem test_crc32 : crc32 [0x31, 0x32, 0x33, 0x34, 0x35, 0x36, 0x37, 0x38, 0x39] = 0xCBF43926 := by decide +kernel
/-! ## States for the witnesses -/

/-- A request of a direct command with payload `p`, under session 1. -/
def reqOf (op : Nat) (p : List Byte) : Req := ⟨op, p.length, 1, false, false, 0, 0, 0, p, true⟩

/-- The request with room for an indirect response. -/
def reqFar (op : Nat) (p : List Byte) : Req := { reqOf op p with rspInd := true, rspAddr := 0x10000000, rspMax := 0x10000 }

/-- The state `s` with the request `r` accepted on mailbox 0 by a device whose firmware runs, under session 1 and version 2.3,
with the first MiB of toll memory allocated. -/
def posed (s : State) (r : Req) : State :=
  { s with
    gh := { s.gh with
      session := some 1, version := 0x0203, order := [0], mbx := [(0, { Mbx0 with st := .busy, cmd := some r })],
      allocs := [⟨256, 1⟩] },
    sec := { s.sec with boot := .ready, dramReady := true } }

/-- The same from reset, for a direct command. -/
def ready (op : Nat) (p : List Byte) : State := posed State.reset (reqOf op p)

/-- Holds for what the checks of R491 let through. -/
theorem accepts_of {s : State} {m : Nat} {c : Spec} {r : Req} {p : List Byte} (h1 : headReq s m c.op = some r)
    (h2 : reqPayload s r = p) (h3 : firstRefusal (takeReq s) r c p = none) : Accepts s m c r p := ⟨h1, h2, h3⟩

/-! ### StepRunsTheFront -/

theorem witness_stepRunsTheFront : ({ State.reset with pending := [.zEdge 0] } : State).pending = Instr.zEdge 0 :: [] := rfl

/-! ### EmptyQueueTicks -/

theorem witness_emptyQueueTicks : State.reset.pending = [] ∧ State.reset.time.wcPending = [] := ⟨rfl, rfl⟩
theorem witness_emptyQueueTicks_carry :
    let t := { Timekeeping0 with wcNs := 999999999, wcFrac := 0xFFFFFF }
    t.wcNs.toNat < 1000000000 ∧ 1000000000 * 2 ^ 24 ≤ t.wcNs.toNat * 2 ^ 24 + t.wcFrac.toNat + t.wcInc.toNat := by decide

/-! ### NoCommandTouchesTheQueue -/

theorem witness_noCommandTouchesTheQueue : ∃ t, exec (.zEdge 0) State.reset = .next t := ⟨_, rfl⟩

/-! ### OtpBitsOnlyRise -/

theorem witness_otpBitsOnlyRise :
    otpBit { State.reset with sec := { Security0 with otp := [(0x101, 1)] } } 0x101 0 = true := by decide

/-! ### LifecycleOnlyAdvances -/

theorem witness_lifecycleOnlyAdvances :
    Tab.wf 0 State.reset.sec.otp = true ∧ Tab.wf 0xFF State.reset.sec.flash = true ∧ lifecycleCode State.reset = 0 := by decide

/-! ### FlashChangesOnlyInItsAreas -/

theorem witness_flashChangesOnlyInItsAreas : Inv State.reset ∧ ¬ flashArea 0 ∧ ¬ flashArea 0x500000 :=
  ⟨⟨by decide, by decide, .inl (by decide)⟩, by unfold flashArea; decide, by unfold flashArea; decide⟩

/-! ### StatusChangesAreSeen -/

/-- FW_READY changes DEV_STATUS. -/
theorem witness_statusChangesAreSeen :
    let s := { State.reset with sec := { Security0 with boot := .firmware } }
    coldRow .fwReady = false ∧ devStatus s ≠ devStatus { s with sec := { s.sec with boot := .ready } } := by decide

/-! ### MailboxChecksComeFirst -/

theorem witness_mailboxChecksComeFirst_waits : specOf (.hello 0) = some (0, specHello) ∧ headReq State.reset 0 specHello.op = none :=
  ⟨rfl, rfl⟩
theorem witness_mailboxChecksComeFirst_refused :
    let s := ready 0x0105 (leBytes 6 1 ++ zeros 2 ++ leBytes 4 1000000000 ++ zeros 4)
    firstRefusal (takeReq s) (reqOf 0x0105 (leBytes 6 1 ++ zeros 2 ++ leBytes 4 1000000000 ++ zeros 4)) specWcSet
      (leBytes 6 1 ++ zeros 2 ++ leBytes 4 1000000000 ++ zeros 4) = some (badParam 8) := by decide

/-! ### CompletionWritesTheMailbox -/

theorem witness_completionWritesTheMailbox : (getMbx (ready 0x0102 []) (0 : Fin 16).val).cmd = some (reqOf 0x0102 []) := by decide

/-! ### GoIsAcceptedOrRejected -/

theorem witness_goIsAcceptedOrRejected_taken :
    let s := { State.reset with sec := { Security0 with boot := .ready } }
    fwReady s = true ∧ (getMbx s 15).st ≠ .busy := by decide
theorem witness_goIsAcceptedOrRejected_rejected : fwReady State.reset = false ∧ (getMbx (ready 1 []) 0).st = .busy := by decide

/-! ### SessionCommandsComplete -/

theorem witness_hello :
    Accepts { ready 1 (leBytes 2 0x0100 ++ leBytes 2 0x0202 ++ [1, 0, 0, 0] ++ leBytes 8 7) with rst := ResetCtl0 } 0 specHello
      (reqOf 1 (leBytes 2 0x0100 ++ leBytes 2 0x0202 ++ [1, 0, 0, 0] ++ leBytes 8 7))
      (leBytes 2 0x0100 ++ leBytes 2 0x0202 ++ [1, 0, 0, 0] ++ leBytes 8 7) :=
  accepts_of (by decide) (by decide) (by decide)
theorem witness_hello_version : 0x0202 ∈ versions ∧ ∀ w ∈ versions, 0x0100 ≤ w → w ≤ 0x0202 → w ≤ 0x0202 := by decide
theorem witness_hello_none : ∀ w ∈ versions, ¬(0x0204 ≤ w ∧ w ≤ 0x0300) := by decide
theorem witness_goodbye : Accepts (ready 2 []) 0 specGoodbye (reqOf 2 []) [] := accepts_of (by decide) (by decide) (by decide)
theorem witness_getCaps : Accepts (ready 3 []) 0 specGetCaps (reqOf 3 []) [] := accepts_of (by decide) (by decide) (by decide)

/-! ### TimeCommandsComplete -/

theorem witness_timebaseSwitch : Accepts (ready 0x0101 []) 0 specTimebase (reqOf 0x0101 []) [] ∧
    (ready 0x0101 []).time.internal = true := ⟨accepts_of (by decide) (by decide) (by decide), rfl⟩
theorem witness_timeRead : Accepts (ready 0x0102 []) 0 specTimeRead (reqOf 0x0102 []) [] :=
  accepts_of (by decide) (by decide) (by decide)
theorem witness_wcIncSet : Accepts (ready 0x0103 (leBytes 8 0x0B000000)) 0 specWcInc (reqOf 0x0103 (leBytes 8 0x0B000000))
    (leBytes 8 0x0B000000) := accepts_of (by decide) (by decide) (by decide)
theorem witness_wcStep : Accepts (ready 0x0104 (leBytes 8 (2 ^ 40))) 0 specWcStep (reqOf 0x0104 (leBytes 8 (2 ^ 40)))
    (leBytes 8 (2 ^ 40)) := accepts_of (by decide) (by decide) (by decide)
theorem witness_wcSet : Accepts (ready 0x0105 (leBytes 8 5 ++ leBytes 8 999999999)) 0 specWcSet
    (reqOf 0x0105 (leBytes 8 5 ++ leBytes 8 999999999)) (leBytes 8 5 ++ leBytes 8 999999999) :=
  accepts_of (by decide) (by decide) (by decide)

/-! ### KeystoneCommandsComplete -/

theorem witness_ksConfig : Accepts (ready 0x0106 (leBytes 8 1)) 0 specKsConfig (reqOf 0x0106 (leBytes 8 1)) (leBytes 8 1) ∧
    fld1 (leBytes 8 1) 0 ≠ 2 := ⟨accepts_of (by decide) (by decide) (by decide), by decide⟩
theorem witness_ksConfig_follower :
    Accepts (ready 0x0106 (leBytes 8 0x8702)) 0 specKsConfig (reqOf 0x0106 (leBytes 8 0x8702)) (leBytes 8 0x8702) ∧
    fld1 (leBytes 8 0x8702) 0 = 2 ∧ (ready 0x0106 (leBytes 8 0x8702)).time.role ≠ .follower :=
  ⟨accepts_of (by decide) (by decide) (by decide), by decide, by decide⟩
/-- A grandmaster on REFCLK with an ACTIVE model committed at index 0, given a launch at `l`. -/
def launchable (l : Nat) : State :=
  { posed State.reset (reqOf 0x0107 (leBytes 8 l)) with
    time := { Timekeeping0 with internal := false, role := .grandmaster }, imgs := [(0, { ImgSlot0 with st := .committed })] }
theorem witness_keystoneLaunch :
    Accepts (launchable 1000000) 0 specLaunch (reqOf 0x0107 (leBytes 8 1000000)) (leBytes 8 1000000) ∧
    launchImage (launchable 1000000) = some 0 ∧ now (launchable 1000000) + 1000000 ≤ fld (leBytes 8 1000000) 0 8 :=
  ⟨accepts_of (by decide) (by decide) (by decide), by decide, by decide⟩
theorem witness_keystoneLaunch_refused :
    (Accepts (ready 0x0107 (leBytes 8 1)) 0 specLaunch (reqOf 0x0107 (leBytes 8 1)) (leBytes 8 1) ∧
      (ready 0x0107 (leBytes 8 1)).time.internal = true) ∧
    Accepts (launchable 999999) 0 specLaunch (reqOf 0x0107 (leBytes 8 999999)) (leBytes 8 999999) ∧
    fld (leBytes 8 999999) 0 8 < now (launchable 999999) + 1000000 :=
  ⟨⟨accepts_of (by decide) (by decide) (by decide), by decide⟩, accepts_of (by decide) (by decide) (by decide), by decide⟩
theorem witness_ksRead : Accepts (ready 0x0108 []) 0 specKsRead (reqOf 0x0108 []) [] := accepts_of (by decide) (by decide) (by decide)
theorem witness_ksTimeouts : let s := { State.reset with time := { Timekeeping0 with
      role := .follower, st := .acquire, noParentAt := some 0, ks := BitVec.ofNat 88 (10000000 * 2 ^ 24) } }
    s.time.role = .follower ∧ s.time.st = .acquire ∧ s.time.lastFu + 1000000 ≤ now s ∧ s.time.noParentAt = some 0 ∧
      0 + 10000000 ≤ now s := by decide

/-! ### CameraCommandsComplete -/

/-- A CAM_CONFIG payload for port 0: one connection of code 12, Mono8, 1,024 columns, 1,000 lines per second. -/
def camPayload : List Byte :=
  leBytes 8 0 ++ [1, 12, 0, 0] ++ leBytes 2 1024 ++ leBytes 2 0 ++ leBytes 2 1024 ++ leBytes 2 0 ++ leBytes 4 1000 ++ leBytes 4 0 ++
    leBytes 4 1000 ++ zeros 8
theorem witness_camConfig : Accepts (ready 0x0201 camPayload) 0 specCamConfig (reqOf 0x0201 camPayload) camPayload ∧
    portRuns (ready 0x0201 camPayload) 0 = false := ⟨accepts_of (by decide) (by decide) (by decide), by decide⟩
theorem witness_camPower : Accepts (ready 0x0204 (zeros 8)) 0 specCamPower (reqOf 0x0204 (zeros 8)) (zeros 8) :=
  accepts_of (by decide) (by decide) (by decide)
theorem witness_camPower_refused :
    let p := leBytes 2 1 ++ leBytes 2 1 ++ zeros 4
    Accepts (posed { State.reset with cams := [(0, { Cam0 with pocxpFault := 1 })] } (reqOf 0x0204 p)) 0 specCamPower (reqOf 0x0204 p) p ∧
      BitVec.ofNat 4 (fld p 0 2 / 16 ^ 0) &&& BitVec.ofNat 4 (fld p 2 2 / 16 ^ 0) &&& (1 : BitVec 4) &&&
        ~~~(BitVec.ofNat 4 (fld p 4 2 / 16 ^ 0)) ≠ 0 := ⟨accepts_of (by decide) (by decide) (by decide), by decide⟩
theorem witness_camRead : Accepts (ready 0x0205 (leBytes 8 3)) 0 (specSel 0x0205 4 40 (fun i => [.port i]))
    (reqOf 0x0205 (leBytes 8 3)) (leBytes 8 3) := accepts_of (by decide) (by decide) (by decide)

/-! ### CameraLongCommandsStart -/

/-- Camera port 0 configured as `camPayload` says. -/
def withCam (s : State) : State := { s with cams := [(0, { Cam0 with configured := true, cfg := camPayload.drop 8 })] }
theorem witness_camDiscover : Accepts (withCam (ready 0x0202 (zeros 8))) 0 (specSel 0x0202 4 4 (fun i => [.port i]))
      (reqOf 0x0202 (zeros 8)) (zeros 8) ∧ (getCam (withCam (ready 0x0202 (zeros 8))) 0).configured = true ∧
    (1 : BitVec 4) &&& BitVec.ofNat 4 (2 ^ camConns (camPayload.drop 8) - 1) = BitVec.ofNat 4 (2 ^ camConns (camPayload.drop 8) - 1) ∧
    camRate (camPayload.drop 8) ≤ 12 := ⟨accepts_of (by decide) (by decide) (by decide), by decide, by decide, by decide⟩
theorem witness_camCtrl :
    let p := zeros 8 ++ [0, 0, 0, 0] ++ leBytes 4 0x10 ++ leBytes 2 4 ++ zeros 6
    Accepts (ready 0x0203 p) 0 specCamCtrl (reqOf 0x0203 p) p ∧ fld1 p 8 = 0 :=
  ⟨accepts_of (by decide) (by decide) (by decide), by decide⟩
theorem witness_camDiscover_lacks : (0 : BitVec 4) &&& BitVec.ofNat 4 (2 ^ camConns (camPayload.drop 8) - 1) ≠
    BitVec.ofNat 4 (2 ^ camConns (camPayload.drop 8) - 1) ∧ (0 : Nat) < camRate (camPayload.drop 8) := by decide
theorem witness_camCtrl_write :
    let p := zeros 8 ++ [1, 0, 0, 0] ++ leBytes 4 0x10 ++ leBytes 2 4 ++ zeros 6 ++ zeros 4
    Accepts (ready 0x0203 p) 0 specCamCtrl (reqOf 0x0203 p) p ∧ fld1 p 8 ≠ 0 :=
  ⟨accepts_of (by decide) (by decide) (by decide), by decide⟩
theorem witness_camCtrlTimeout :
    ([⟨0, 0x0203, [], [], false, 0, none⟩] : List Running).any (fun r => r.mbx == (0 : Fin 16).val && r.op == 0x0203) = true := by decide
theorem witness_apTable :
    let p := zeros 8 ++ [1, 0] ++ zeros 6 ++ leBytes 8 0x10000000
    Accepts (withCam (ready 0x0302 p)) 0 specApTable (reqOf 0x0302 p) p ∧ fld1 p 8 ≠ 0 :=
  ⟨accepts_of (by decide) (by decide) (by decide), by decide⟩
theorem witness_apTable_lut :
    let p := zeros 8 ++ [0, 0] ++ zeros 6 ++ leBytes 8 0x10000000
    Accepts (withCam (ready 0x0302 p)) 0 specApTable (reqOf 0x0302 p) p ∧ fld1 p 8 = 0 :=
  ⟨accepts_of (by decide) (by decide) (by decide), by decide⟩
theorem witness_apTable_unconfigured :
    let p := zeros 8 ++ [0, 0] ++ zeros 6 ++ leBytes 8 0x10000000
    Accepts (ready 0x0302 p) 0 specApTable (reqOf 0x0302 p) p ∧ (getCam (ready 0x0302 p) 0).configured = false :=
  ⟨accepts_of (by decide) (by decide) (by decide), by decide⟩
theorem witness_apConfig :
    let p := zeros 8 ++ [0, 1, 0, 0] ++ leBytes 2 0 ++ leBytes 2 255 ++ leBytes 2 0x100 ++ leBytes 2 0x100 ++ leBytes 2 0x100 ++
      leBytes 2 64 ++ leBytes 2 64 ++ zeros 6 ++ leBytes 4 128 ++ zeros 4
    Accepts (withCam (ready 0x0301 p)) 0 specApConfig (reqOf 0x0301 p) p ∧ portRuns (withCam (ready 0x0301 p)) 0 = false :=
  ⟨accepts_of (by decide) (by decide) (by decide), by decide⟩

/-! ### CameraEventsComplete -/

/-- Port 0 configured, at keystone count 500 ns, with a trigger entry of stamp 0 and the port discovered and powered. -/
def lined : State :=
  { State.reset with
    time := { Timekeeping0 with ks := BitVec.ofNat 88 (500 * 2 ^ 24) },
    cams := [(0, { Cam0 with
      configured := true, cfg := camPayload.drop 8, discovered := true, pocxpOn := 1, fifo := [⟨0, 0, 0⟩],
      owed := [⟨false, false, true, [], 0, 0, 0, none⟩], apSet := true,
      ap := [0, 1, 0, 0] ++ zeros 10 ++ leBytes 2 0 ++ zeros 8 ++ leBytes 4 128 ++ zeros 4,
      apIn := [0, 1, 0, 0] ++ zeros 10 ++ leBytes 2 0 ++ zeros 8 ++ leBytes 4 128 ++ zeros 4 })] }
theorem witness_lineComplete : (getCam lined 0).configured = true ∧ (getCam lined 0).fifo = [⟨0, 0, 0⟩] ∧
    (0 : BitVec 8).toNat = camStream (getCam lined 0).cfg ∧ (65536 : BitVec 32).toNat ≤ 65536 ∧
    0 + camLatMin (getCam lined 0).cfg ≤ now lined ∧ now lined ≤ 0 + camLatMax (getCam lined 0).cfg := by decide
theorem witness_lineComplete_young :
    let s := { lined with cams := [(0, { getCam lined 0 with fifo := [⟨0, 0, 501⟩] })] }
    (getCam s 0).fifo = [⟨0, 0, 501⟩] ∧ now s < 501 + camLatMin (getCam s 0).cfg ∧ now s ≤ 501 + camLatMax (getCam s 0).cfg := by decide
theorem witness_lineComplete_unpaired : (getCam { lined with cams := [(0, { getCam lined 0 with fifo := [] })] } 0).fifo = [] ∧
    (getCam lined 0).configured = true := by decide
theorem witness_lineComplete_discarded : (1 : BitVec 8).toNat ≠ camStream (getCam lined 0).cfg ∧
    65536 < (65537 : BitVec 32).toNat := by decide
theorem witness_triggerEntryExpiry :
    let s := { lined with time := { Timekeeping0 with ks := BitVec.ofNat 88 (1001 * 2 ^ 24) } }
    (getCam s 0).fifo = [⟨0, 0, 0⟩] ∧ 0 + camLatMax (getCam s 0).cfg < now s := by decide
theorem witness_cameraPackets : lined.replay.mode = false ∧ (zeros 48).length ≤ 48 := by decide
theorem witness_cxpLinkUp : (getCam lined 0).discovered = true ∧ 0 < camConns (getCam lined 0).cfg ∧
    (getCam lined 0).connUp.getLsbD 0 = false := by decide
theorem witness_cxpLinkDown : ({ getCam lined 0 with connUp := 1 } : Cam).connUp.getLsbD 0 = true := by decide
theorem witness_pocxpFault : (getCam lined 0).pocxpOn.getLsbD 0 = true := by decide
theorem witness_owedLostLineWrite : (getCam lined 0).owed = [⟨false, false, true, [], 0, 0, 0, none⟩] ∧
    (getCam lined 0).ring.length < apRing (getCam lined 0).apIn := by decide
theorem witness_passStart :
    let l : RawLine := ⟨false, false, true, [], 0, 0, 0, none⟩
    let a : List Byte := [0, 1, 0, 0] ++ zeros 10 ++ leBytes 2 1 ++ zeros 8 ++ leBytes 4 128 ++ zeros 4
    let s := { lined with cams := [(0, { getCam lined 0 with ring := [l, l], ap := a })] }
    passWaits s 0 = true := by decide

/-! ### PositionCommandsComplete -/

/-- A PU_CONFIG payload for unit 0: QUADX4, FILT 4, one revolution's reference value 0, STOP_US 1,000. -/
def puPayload : List Byte := zeros 8 ++ [2, 4, 1, 0x20, 1, 0, 0, 0] ++ zeros 8 ++ leBytes 4 1000 ++ zeros 28
theorem witness_puConfig : Accepts (ready 0x0501 puPayload) 0 specPuConfig (reqOf 0x0501 puPayload) puPayload ∧
    unitSlots (ready 0x0501 puPayload) 0 = [] ∧ puArmed (ready 0x0501 puPayload) 0 = false ∧
    puKeyChange (getPu (ready 0x0501 puPayload) 0).cfg (puPayload.drop 8) = true :=
  ⟨accepts_of (by decide) (by decide) (by decide), by decide, by decide, by decide⟩
/-- Generator 0 armed on unit 0. -/
def withGen (s : State) : State := { s with gens := [(0, { LineGen0 0 with armed := true })] }
/-- Slot 0 open on unit 0. -/
def withSlot (s : State) : State := { s with slots := { s.slots with tab := [(0, { Slot0 with st := .open_ })] } }
theorem witness_puConfig_busy : Accepts (withGen (ready 0x0501 puPayload)) 0 specPuConfig (reqOf 0x0501 puPayload) puPayload ∧
    puArmed (withGen (ready 0x0501 puPayload)) 0 = true ∧ unitSlots (withGen (ready 0x0501 puPayload)) 0 = [] ∧
    Accepts (withSlot (ready 0x0501 puPayload)) 0 specPuConfig (reqOf 0x0501 puPayload) puPayload ∧
    unitSlots (withSlot (ready 0x0501 puPayload)) 0 ≠ [] :=
  ⟨accepts_of (by decide) (by decide) (by decide), by decide, by decide, accepts_of (by decide) (by decide) (by decide), by decide⟩
theorem witness_puRefArm : Accepts (ready 0x0502 (leBytes 8 3)) 0 (specSel 0x0502 4 0 (fun u => [.pu u])) (reqOf 0x0502 (leBytes 8 3))
    (leBytes 8 3) := accepts_of (by decide) (by decide) (by decide)
theorem witness_puLatch : Accepts (ready 0x0503 (leBytes 8 3)) 0 (specSel 0x0503 4 32 (fun u => [.pu u])) (reqOf 0x0503 (leBytes 8 3))
    (leBytes 8 3) := accepts_of (by decide) (by decide) (by decide)
/-- A unit of which a counter update at count 0 has kept the values before it. -/
def withHeld (s : State) : State := { s with pus := [(3, { Pu0 with held := zeros 32, heldAt := 0 })] }
theorem witness_puLatch_held : let s := withHeld (ready 0x0503 (leBytes 8 3))
    Accepts s 0 (specSel 0x0503 4 32 (fun u => [.pu u])) (reqOf 0x0503 (leBytes 8 3)) (leBytes 8 3) ∧
    (getPu s 3).held.length = 32 ∧ now s ≤ (getPu s 3).heldAt := ⟨accepts_of (by decide) (by decide) (by decide), by decide, by decide⟩
theorem witness_puRead : Accepts (ready 0x0504 (leBytes 8 3)) 0 (specSel 0x0504 4 184 (fun u => [.pu u])) (reqOf 0x0504 (leBytes 8 3))
    (leBytes 8 3) := accepts_of (by decide) (by decide) (by decide)
theorem witness_puClear : let p := zeros 8 ++ leBytes 4 0x79C00000 ++ zeros 4
    Accepts (ready 0x0507 p) 0 specPuClear (reqOf 0x0507 p) p := accepts_of (by decide) (by decide) (by decide)
theorem witness_ltConfig : let p : List Byte := [0, 1] ++ leBytes 2 65535 ++ [1] ++ zeros 11
    Accepts (ready 0x0505 p) 0 specLtConfig (reqOf 0x0505 p) p ∧ (getGen (ready 0x0505 p) 0).armed = false ∧
    Accepts (withGen (ready 0x0505 p)) 0 specLtConfig (reqOf 0x0505 p) p ∧ (getGen (withGen (ready 0x0505 p)) 0).armed = true :=
  ⟨accepts_of (by decide) (by decide) (by decide), by decide, accepts_of (by decide) (by decide) (by decide), by decide⟩
theorem witness_ltArm : let p : List Byte := [0, 1] ++ zeros 6
    Accepts (withCam (ready 0x0506 p)) 0 specLtArm (reqOf 0x0506 p) p ∧ (getCam (withCam (ready 0x0506 p)) 0).configured = true ∧
    camTrig (getCam (withCam (ready 0x0506 p)) 0).cfg ≠ 1 ∧
    Accepts (ready 0x0506 p) 0 specLtArm (reqOf 0x0506 p) p ∧ (getCam (ready 0x0506 p) 0).configured = false :=
  ⟨accepts_of (by decide) (by decide) (by decide), by decide, by decide, accepts_of (by decide) (by decide) (by decide), by decide⟩

/-! ### EncoderEventsComplete -/

/-- Unit 0 with reference source Z. -/
def withZ (s : State) : State := { s with pus := [(0, { Pu0 with cfg := [4, 4, 0, 0x20, 1, 0, 0, 0] ++ zeros 8 ++ leBytes 4 1 ++ zeros 28, motion := .forward })] }
theorem witness_encoder : let e : EncChange := ⟨true, false, 9, 15, 0, false, true⟩
    let s := withZ State.reset
    s.replay.mode = false ∧ puFilt (getPu s 0).cfg ≤ e.held.toNat ∧ (getPu s 0).wireBad = 0 ∧ e.a ≠ (getPu s 0).a ∧ e.b = (getPu s 0).b ∧
    decodeDir (getPu s 0).cfg false false e.a e.b = 1 ∧ decodeDir (getPu s 0).cfg false false false true = 0 := by decide
theorem witness_encoder_replay : ({ State.reset with replay := { Replay0 with mode := true } } : State).replay.mode = true := rfl
theorem witness_encoder_short : (3 : BitVec 4).toNat < puFilt (getPu (withZ State.reset) 0).cfg := by decide
theorem witness_encoder_both : let s := withZ State.reset
    true ≠ (getPu s 0).a ∧ true ≠ (getPu s 0).b ∧ (4 : BitVec 8).toNat ≤ puFilt (getPu s 0).cfg ∧
    puFilt (getPu s 0).cfg < (5 : BitVec 8).toNat := by decide
theorem witness_zEdge : (getPu (withZ State.reset) 0).wireBad.getLsbD 0 = false ∧ puRefSrc (getPu (withZ State.reset) 0).cfg = 1 := by decide
theorem witness_motionStop : let s := { withZ State.reset with time := { Timekeeping0 with ks := BitVec.ofNat 88 (1000 * 2 ^ 24) } }
    (getPu s 0).motion ≠ .stopped ∧ (getPu s 0).lastEdge + 1000 * puStopUs (getPu s 0).cfg ≤ now s := by decide
theorem witness_encWireFault : (getPu State.reset 0).wireBad &&& wireBit .z = 0 := by decide
theorem witness_pulseEndUs : let s := { State.reset with pulses := [⟨0, 0, .time 0, none⟩] }
    (⟨0, 0, .time 0, none⟩ : Pulse) ∈ s.pulses ∧ dueUs (now s) ⟨0, 0, .time 0, none⟩ = true := by decide
theorem witness_linePulse : Tab.get 0 State.reset.linePulses (0 : Fin 16).val ≤ now State.reset := by decide

/-! ### RampCommandsComplete -/

/-- An RMP_CONFIG payload for port 0 in CUT mode: one lane of 64 columns and 64 lines, samples of 64 by 64. -/
def rmpPayload : List Byte := zeros 9 ++ [1] ++ zeros 18 ++ leBytes 2 64 ++ zeros 2 ++ leBytes 2 64 ++ [1, 0] ++ zeros 2 ++
  leBytes 2 64 ++ leBytes 2 64 ++ zeros 38
/-- Port 0 with a camera and a verdict policy. -/
def withPolicy (s : State) : State :=
  { withCam s with slots := { s.slots with policies := [(0, { Policy0 0 with unset := false })] } }
theorem witness_rmpConfig : Accepts (withPolicy (ready 0x0401 rmpPayload)) 0 specRmpConfig (reqOf 0x0401 rmpPayload) rmpPayload ∧
    (getCam (withPolicy (ready 0x0401 rmpPayload)) 0).configured = true ∧ (getPolicy (withPolicy (ready 0x0401 rmpPayload)) 0).unset = false ∧
    portRuns (withPolicy (ready 0x0401 rmpPayload)) 0 = false ∧
    Accepts (ready 0x0401 rmpPayload) 0 specRmpConfig (reqOf 0x0401 rmpPayload) rmpPayload ∧
    (getCam (ready 0x0401 rmpPayload) 0).configured = false :=
  ⟨accepts_of (by decide) (by decide) (by decide), by decide, by decide, by decide, accepts_of (by decide) (by decide) (by decide),
    by decide⟩
theorem witness_rmpRead : Accepts (ready 0x0402 (zeros 8)) 0 (specSel 0x0402 4 20 (fun i => [.ramp i])) (reqOf 0x0402 (zeros 8))
    (zeros 8) := accepts_of (by decide) (by decide) (by decide)
/-- A band of port 0 with one sample due. -/
def band0 : Band := ⟨0, 0, some 0, true, false, 0, [], 0, 0, false, 0, [[(0, [1])]], false, false, false, 0, 0, 65536, rampSnap Ramp0⟩
theorem witness_sampleWrite : let s := { State.reset with bands := [band0] }
    s.bands.find? (fun b => b.cport == (0 : Fin 4).val && !b.writes.isEmpty) = some band0 ∧ band0.writes = [(0, [1])] :: [] ∧
    approachAsleep s 0 1 ≠ [] ∧
    approachAsleep (setDom s 64 { getDom s 64 with st := .on }) 0 1 = [] := by decide
theorem witness_bandComplete : let b := { band0 with writes := [] }
    getBand { State.reset with bands := [b] } (0 : Fin 4) 0 = some b ∧ b.lined = true ∧ b.complete = false ∧ b.buffer ≠ none := by decide

/-! ### FieldCommandsComplete -/

/-- An entry of FIO_CONFIG: channel 0 as a HOST output. -/
def fioPayload : List Byte := [0, 0x80, 1, 0] ++ leBytes 2 10 ++ zeros 2
theorem witness_fioConfig : Accepts (ready 0x0601 fioPayload) 0 specFioConfig (reqOf 0x0601 fioPayload) fioPayload ∧
    policySelectsFio (ready 0x0601 fioPayload) 0 = false := ⟨accepts_of (by decide) (by decide) (by decide), by decide⟩
/-- Channel 0's field as a HOST output. -/
def withFio (s : State) : State := { s with field := { s.field with regs := [(0, 0x80)], linkUp := true } }
/-- Channel 0 selected by a verdict policy. -/
def withFioPolicy (s : State) : State :=
  { s with slots := { s.slots with policies := [(0, ⟨false, zeros 26 ++ [1] ++ zeros 189⟩)] } }
theorem witness_fioConfig_busy : Accepts (withFioPolicy (ready 0x0601 fioPayload)) 0 specFioConfig (reqOf 0x0601 fioPayload) fioPayload ∧
    policySelectsFio (withFioPolicy (ready 0x0601 fioPayload)) 0 = true ∧
    chFunc (regsAfter (ready 0x0601 fioPayload).field.regs (ready 0x0601 fioPayload).field.wq) 0 ≠ 0x80 % 64 :=
  ⟨accepts_of (by decide) (by decide) (by decide), by decide, by decide⟩
theorem witness_fioSet : Accepts (withFio (ready 0x0602 (leBytes 8 1))) 0 specFioSet (reqOf 0x0602 (leBytes 8 1)) (leBytes 8 1) :=
  accepts_of (by decide) (by decide) (by decide)
theorem witness_fioRelease : Accepts (withFio (ready 0x0603 [])) 0 specFioRelease (reqOf 0x0603 []) [] ∧
    (withFio (ready 0x0603 [])).field.linkUp = true ∧ Accepts (ready 0x0603 []) 0 specFioRelease (reqOf 0x0603 []) [] ∧
    (ready 0x0603 []).field.linkUp = false :=
  ⟨accepts_of (by decide) (by decide) (by decide), by decide, accepts_of (by decide) (by decide) (by decide), by decide⟩
theorem witness_fioRead : Accepts (ready 0x0604 []) 0 specFioRead (reqOf 0x0604 []) [] := accepts_of (by decide) (by decide) (by decide)
theorem witness_fioClear : Accepts (ready 0x0605 (zeros 7 ++ [0xFF])) 0 specFioClear (reqOf 0x0605 (zeros 7 ++ [0xFF]))
    (zeros 7 ++ [0xFF]) := accepts_of (by decide) (by decide) (by decide)
/-- An entry of TRIG_CONFIG: pin 15 a LINE_TRIG pin of port 0, 20 ns wide. -/
def trigPayload : List Byte := [15, 3, 0, 0] ++ leBytes 2 20 ++ zeros 2
theorem witness_trigConfig : Accepts (withCam (ready 0x0606 trigPayload)) 0 specTrigConfig (reqOf 0x0606 trigPayload) trigPayload ∧
    (getCam (withCam (ready 0x0606 trigPayload)) 0).configured = true ∧ policySelectsTrig (withCam (ready 0x0606 trigPayload)) 15 = false ∧
    Accepts (ready 0x0606 trigPayload) 0 specTrigConfig (reqOf 0x0606 trigPayload) trigPayload ∧
    (getCam (ready 0x0606 trigPayload) 0).configured = false :=
  ⟨accepts_of (by decide) (by decide) (by decide), by decide, by decide, accepts_of (by decide) (by decide) (by decide), by decide⟩
theorem witness_trigConfig_busy :
    let s := { withCam (ready 0x0606 trigPayload) with slots := { (ready 0x0606 trigPayload).slots with
      policies := [(0, ⟨false, zeros 25 ++ [0x80] ++ zeros 190⟩)] } }
    Accepts s 0 specTrigConfig (reqOf 0x0606 trigPayload) trigPayload ∧ policySelectsTrig s 15 = true ∧
    (getTrig s 15).func ≠ (Tab.get TrigPin0 (trigsAfter s [trigPayload]) 15).func :=
  ⟨accepts_of (by decide) (by decide) (by decide), by decide, by decide⟩
theorem witness_trigSet : let s := { ready 0x0607 (leBytes 8 0x00010001) with trigs := [(0, { TrigPin0 with func := 1 })] }
    Accepts s 0 specTrigSet (reqOf 0x0607 (leBytes 8 0x00010001)) (leBytes 8 0x00010001) :=
  accepts_of (by decide) (by decide) (by decide)

/-! ### FieldFramesComplete -/

/-- A field link with a down and an up frame under way and the die out of reset. -/
def fieldBusy : State :=
  { State.reset with
    field := { FieldCtl0 with linkUp := true, down := [(0, zeros 8)], up := [(0, zeros 16)] },
    die := { FieldDie0 with held := false },
    time := { Timekeeping0 with ks := BitVec.ofNat 88 (8000 * 2 ^ 24) } }
/-- The state at another keystone count. -/
def withTime (s : State) (ns : Nat) : State := { s with time := { s.time with ks := BitVec.ofNat 88 (ns * 2 ^ 24) } }
theorem witness_fieldFrameTick : now (takeLatches fieldBusy) % 1000 = 0 ∧ (takeLatches fieldBusy).field.lastTick ≠ some (now (takeLatches fieldBusy)) ∧
    now (takeLatches (withTime fieldBusy 8001)) % 1000 ≠ 0 := by decide
theorem witness_fieldEarly : now (withTime fieldBusy 999) < 1000 * 0 + 1000 := by decide
theorem witness_field : 1000 * 0 + 1000 ≤ now fieldBusy ∧ fieldBusy.field.down = (0, zeros 8) :: [] ∧ fieldBusy.die.held = false ∧
    fieldBusy.field.up = (0, zeros 16) :: [] ∧ fieldBusy.field.linkUp = true ∧ fieldBusy.field.lastUpAt + 8000 ≤ now fieldBusy ∧
    fieldBusy.field.lastDownAt + 8000 ≤ now fieldBusy ∧ State.reset.die.held = true := by decide
theorem witness_fioThermalTrip : chOutput [(0, 0x80)] (0 : Fin 32) = true := by decide

/-! ### VerdictCommandsComplete -/

/-- A VP_SET payload for port 0: DEFAULT 1, map 1, ejection 100 counts, lead 0, queue 0x10. -/
def vpPayload : List Byte := zeros 8 ++ [1, 1, 0, 3] ++ leBytes 4 100 ++ zeros 10 ++ leBytes 2 0x10 ++ zeros 196
/-- Queue 0x10 as an ACTIVE RECORD queue of 16 entries. -/
def withQueue (s : State) : State := { s with q := { s.q with queues := [(0x10, { Queue0 with st := .active, log2 := 4 })] } }
set_option maxRecDepth 2000 in
theorem witness_vpSet : Accepts (withQueue (ready 0x0701 vpPayload)) 0 specVpSet (reqOf 0x0701 vpPayload) vpPayload ∧
    (getQ (withQueue (ready 0x0701 vpPayload)) (vpQueue (vpPayload.drop 8))).st = .active ∧
    (getQ (withQueue (ready 0x0701 vpPayload)) (vpQueue (vpPayload.drop 8))).content = 0 ∧
    portSlots (withQueue (ready 0x0701 vpPayload)) 0 = [] ∧
    Accepts (ready 0x0701 vpPayload) 0 specVpSet (reqOf 0x0701 vpPayload) vpPayload ∧
    (getQ (ready 0x0701 vpPayload) (vpQueue (vpPayload.drop 8))).st ≠ .active :=
  ⟨accepts_of (by decide) (by decide) (by decide), by decide, by decide, by decide,
    accepts_of (by decide) (by decide) (by decide), by decide⟩
set_option maxRecDepth 2000 in
theorem witness_vpSet_slots : let s := withSlot (withQueue (ready 0x0701 vpPayload))
    Accepts s 0 specVpSet (reqOf 0x0701 vpPayload) vpPayload ∧ portSlots s 0 ≠ [] ∧
    vpEject (vpPayload.drop 8) ≠ vpEject (getPolicy s 0).raw := ⟨accepts_of (by decide) (by decide) (by decide), by decide, by decide⟩
theorem witness_vpRead : Accepts (ready 0x0702 (zeros 8)) 0 (specSel 0x0702 4 216 (fun i => [.port i])) (reqOf 0x0702 (zeros 8)) (zeros 8) :=
  accepts_of (by decide) (by decide) (by decide)
theorem witness_seqSet : Accepts (ready 0x0703 (leBytes 8 3 ++ leBytes 8 7)) 0 specSeqSet (reqOf 0x0703 (leBytes 8 3 ++ leBytes 8 7))
    (leBytes 8 3 ++ leBytes 8 7) ∧ portRuns (ready 0x0703 (leBytes 8 3 ++ leBytes 8 7)) 3 = false :=
  ⟨accepts_of (by decide) (by decide) (by decide), by decide⟩
theorem witness_slotRead : Accepts (ready 0x1003 (leBytes 8 16383)) 0 specSlotRead (reqOf 0x1003 (leBytes 8 16383)) (leBytes 8 16383) :=
  accepts_of (by decide) (by decide) (by decide)

/-! ### SlotEventsComplete -/

/-- A final primary commit to slot 0, and a state whose slot 0 is OPEN with its primary job pending. -/
def commit0 : FlightCommit := ⟨0, 0, 3, 0x3C00, true, true, 0, 0, []⟩
def deciding : State :=
  { State.reset with slots := { SlotStore0 with
      tab := [(0, { Slot0 with st := .open_, pending := 1, primaryOpen := true })], commits := [commit0] } }
theorem witness_slotCommit : deciding.slots.commits = commit0 :: [] ∧ (getSlot deciding commit0.slot).st = .open_ ∧
    (getSlot deciding commit0.slot).gen = commit0.gen ∧ isCorrupt (getSlot deciding commit0.slot) = false ∧
    (getSlot State.reset commit0.slot).st = .free ∧
    deciding.slots.commits.find? (fun c => !commitHeld deciding c) = some commit0 := by decide
theorem witness_slotCommit_others :
    let s (st : SlotSt) (f : BitVec 16) : State := { deciding with
      slots := { deciding.slots with tab := [(0, { Slot0 with st := st, flags := f, pending := 1, primaryOpen := true })] } }
    (getSlot (s .frozen 0) 0).st = .frozen ∧ isCorrupt (getSlot (s .frozen 0) 0) = false ∧ (getSlot (s .closed 0) 0).st = .closed ∧
    (getSlot (s .decided 0) 0).st = .decided ∧ isCorrupt (getSlot (s .open_ 4) 0) = true ∧
    ({ commit0 with final := false } : FlightCommit).final = false := by decide
theorem witness_recordPost : let s := { deciding with slots := { deciding.slots with records := [(0, 0)], lateRecords := [(0, 0)] } }
    nextRecord s s.slots.records = some (0, 0) ∨ mayDrop s (getSlot s 0) = false := by decide
theorem witness_records : let s := withQueue { deciding with
      slots := { deciding.slots with tab := [(0, { Slot0 with st := .fired, pol := vpPayload.drop 8 })], records := [(0, 0)], lateRecords := [(0, 0)] } }
    nextRecord s s.slots.records = some (0, 0) ∧ nextRecord s s.slots.lateRecords = some (0, 0) := by decide
/-- A second-look job of slot 0 whose crop is stored. -/
def lookJob : Job := ⟨0, .secondLook, .waiting, 0, 0, 0, 0, 0, 0, [], some 0, (0, 0), [], [], [], [], OpStat0, true, none⟩
def looking : State :=
  { State.reset with
    jobs := [lookJob],
    ramps := [(0, { Ramp0 with cfg := some (rmpPayload.drop 8), crops := [⟨0, 0, [], 0, ⟨0, 0, 0, 0, 0, 0, 0, 0, 0, 0, 0, 0, 0⟩⟩] })] }
theorem witness_viewGenerate : looking.jobs[0]? = some lookJob ∧ lookJob.kind = .secondLook ∧ lookJob.st = .waiting ∧ lookJob.views = [] ∧
    (cropOf looking (getSlot looking 0) 0).isSome ∧ (getRamp looking (getSlot looking 0).cport).cfg = some (rmpPayload.drop 8) := by decide
theorem witness_jobEntryTake : let s := { State.reset with
      sec := { Security0 with boot := .ready },
      q := { QueueMgr0 with queues := [(0x20, { Queue0 with st := .active, content := 2, log2 := 4 })], jobBells := [(0x20, 1)] } }
    halted s = false ∧ fwReady s = true ∧ nextBell s = some (0x20, 1) := by decide
theorem witness_jobDone : let x : Job := { lookJob with kind := .standby, st := .running }
    let s := { State.reset with jobs := [x] }
    s.jobs[0]? = some x ∧ standbyFinished s x = true := by decide

/-! ### ModelCommandsComplete -/

/-- A device in PROVISIONED: lifecycle code 1 in the fuses. -/
def withLife (s : State) : State := { s with sec := { s.sec with otp := [(0x101, 1)] } }
theorem witness_modelStage : let p := leBytes 8 0x10000000 ++ leBytes 8 64
    Accepts (withLife (ready 0x0801 p)) 0 specModelStage (reqOf 0x0801 p) p ∧ lifecycle (withLife (ready 0x0801 p)) = 1 ∧
    emptyIndex (withLife (ready 0x0801 p)) = some 0 ∧ (imageChecks (zeros 64) (deckChans State.reset)).isSome :=
  ⟨accepts_of (by decide) (by decide) (by decide), by decide, by decide, by decide⟩
theorem witness_modelStage_refused : let p := leBytes 8 0x10000000 ++ leBytes 8 64
    Accepts (ready 0x0801 p) 0 specModelStage (reqOf 0x0801 p) p ∧ lifecycle (ready 0x0801 p) ≠ 1 ∧ lifecycle (ready 0x0801 p) ≠ 2 ∧
    emptyIndex { withLife (ready 0x0801 p) with imgs := (List.range 16).map (fun i => (i, { ImgSlot0 with st := .staged })) } = none :=
  ⟨accepts_of (by decide) (by decide) (by decide), by decide, by decide, by decide⟩
theorem witness_modelIndex_refused : Accepts (ready 0x0802 (zeros 8)) 0 (specImage 0x0802 0) (reqOf 0x0802 (zeros 8)) (zeros 8) ∧
    (getImg (ready 0x0802 (zeros 8)) 0).st = .empty ∧ imageRuns { State.reset with seq := { State.reset.seq with started := true } } 0 = true :=
  ⟨accepts_of (by decide) (by decide) (by decide), by decide, by decide⟩
/-- Image 1 staged, without sections, its measurement that of the empty byte string. -/
def staged (s : State) : State :=
  { s with imgs := [(1, { ImgSlot0 with st := .staged, img := { Image0 with role := 1 }, meas := sha256 [] })] }
/-- Image 0 committed. -/
def committed (s : State) : State := { s with imgs := [(0, { ImgSlot0 with st := .committed })] }
theorem witness_modelCommit : Accepts (staged (ready 0x0802 (leBytes 8 1))) 0 (specImage 0x0802 0) (reqOf 0x0802 (leBytes 8 1)) (leBytes 8 1) ∧
    (getImg (staged (ready 0x0802 (leBytes 8 1))) 1).st = .staged ∧ (staged (ready 0x0802 (leBytes 8 1))).seq.started = false :=
  ⟨accepts_of (by decide) (by decide) (by decide), by decide, by decide⟩
theorem witness_commitRefusal : commitRefusal (staged (ready 0x0802 (leBytes 8 1))) 1 = none := by
  have h1 : signedPart (tollRead (staged (ready 0x0802 (leBytes 8 1))) 0 0) = [] := by decide
  have h2 : (getImg (staged (ready 0x0802 (leBytes 8 1))) 1).meas = sha256 [] := rfl
  have h3 : (getImg (staged (ready 0x0802 (leBytes 8 1))) 1).toll = 0 := rfl
  have h4 : (getImg (staged (ready 0x0802 (leBytes 8 1))) 1).img.size = 0 := rfl
  unfold commitRefusal
  simp only [h2, h3, h4, h1, ne_eq, not_true_eq_false, if_false]
  decide
/-- Image 0 committed with a rating that runs port 0, of which no ramp is configured. -/
def runnable0 (s : State) : State :=
  { s with imgs := [(0, { ImgSlot0 with st := .committed, img := { Image0 with ratings := [{ Rating0 with cportMask := 1 }] } })] }
theorem witness_modelSwitch : let s := committed (ready 0x0803 (zeros 8))
    Accepts s 0 { specImage 0x0803 0 with objs := fun p => [.image (fld1 p 0), .sequencer] } (reqOf 0x0803 (zeros 8)) (zeros 8) ∧
    (getImg s 0).st = .committed ∧ (getImg s 0).img.role = 0 ∧ s.seq.started = false ∧ streamCheck s (getImg s 0).img = none :=
  ⟨accepts_of (by decide) (by decide) (by decide), by decide, by decide, by decide, by decide⟩
theorem witness_modelSwitch_refused : let s := runnable0 (ready 0x0803 (zeros 8))
    (getImg s 0).st = .committed ∧ (getImg s 0).img.role = 0 ∧ s.seq.started = false ∧ streamCheck s (getImg s 0).img = some 0 ∧
    (getImg (staged (ready 0x0803 (leBytes 8 1))) 1).st = .staged ∧
    ({ s with seq := { s.seq with started := true } } : State).seq.started = true := by decide
theorem witness_modelRetire : let s := committed (ready 0x0804 (zeros 8))
    Accepts s 0 (specImage 0x0804 0) (reqOf 0x0804 (zeros 8)) (zeros 8) ∧ (getImg s 0).st ≠ .empty ∧ imageRuns s 0 = false :=
  ⟨accepts_of (by decide) (by decide) (by decide), by decide, by decide⟩
theorem witness_modelList : Accepts (ready 0x0805 []) 0 (plain 0x0805 0x0100 0 256) (reqOf 0x0805 []) [] ∧
    Accepts (ready 0x0806 []) 0 (plain 0x0806 0x0100 0 32) (reqOf 0x0806 []) [] :=
  ⟨accepts_of (by decide) (by decide) (by decide), accepts_of (by decide) (by decide) (by decide)⟩

/-! ### KvCommandsComplete -/

/-- Image 0 committed with a pool of one page and a set of one track. -/
def pooled (s : State) : State :=
  { s with imgs := [(0, { ImgSlot0 with st := .committed, kv := { Kv0 with pages := 1, sets := [⟨0, .int8, .int8, 1, 1, true, 0, 0, 1, 0, 1, 0, 0, 0, 1, 1⟩] } })] }
theorem witness_kvStatus : Accepts (pooled (ready 0x1004 (zeros 8))) 0 { specImage 0x1004 20 with ver := 0x0101 } (reqOf 0x1004 (zeros 8))
    (zeros 8) ∧ (getImg (pooled (ready 0x1004 (zeros 8))) 0).st = .committed ∧ (getImg (pooled (ready 0x1004 (zeros 8))) 0).kv.pages ≠ 0 :=
  ⟨accepts_of (by decide) (by decide) (by decide), by decide, by decide⟩
theorem witness_kvDump : let s := pooled (posed State.reset (reqFar 0x1005 (zeros 8)))
    Accepts s 0 specKvDump (reqFar 0x1005 (zeros 8)) (zeros 8) ∧ trackImage s 0 = some 0 ∧ s.seq.started = false ∧ trackImage s 1 = none :=
  ⟨accepts_of (by decide) (by decide) (by decide), by decide, by decide, by decide⟩
theorem witness_kvTrackReset : let p := leBytes 2 0 ++ leBytes 2 1 ++ [1, 0, 0, 0]
    Accepts (pooled (ready 0x1006 p)) 0 specKvReset (reqOf 0x1006 p) p ∧ (∀ k < 1, trackImage (pooled (ready 0x1006 p)) (0 + k) ≠ none) :=
  ⟨accepts_of (by decide) (by decide) (by decide), by decide⟩

/-! ### CrossingCommandsComplete -/

/-- An image with one rating, committed at index 0, in EARLIEST or PERIOD mode. -/
def runnable (mode : Nat) (s : State) : State :=
  { s with imgs := [(0, { ImgSlot0 with st := .committed, img := { Image0 with ratings := [{ Rating0 with startMode := mode, periodNs := 1000 }] } })] }
theorem witness_crossingStart : let s := runnable 0 (ready 0x0901 (zeros 8))
    Accepts s 0 specCrossingStart (reqOf 0x0901 (zeros 8)) (zeros 8) ∧ (getImg s 0).st = .committed ∧ (getImg s 0).img.role = 0 ∧
    s.seq.started = false ∧ s.seq.launchArmed = none ∧ eligibleBits s (getImg s 0).img ≠ 0 ∧ streamCheck s (getImg s 0).img = none ∧
    startRefusal s 0 = none ∧ startRefusal (ready 0x0901 (zeros 8)) 0 = some ⟨0x0018, 0, []⟩ := ⟨accepts_of (by decide) (by decide) (by decide), by decide, by decide, by decide, by decide, by decide,
      by decide, by decide, by decide⟩
theorem witness_crossingStop : let s := ready 0x0902 (leBytes 8 1)
    let t := { s with seq := { s.seq with started := true } }
    Accepts s 0 specCrossingStop (reqOf 0x0902 (leBytes 8 1)) (leBytes 8 1) ∧ s.seq.started = false ∧
    Accepts t 0 specCrossingStop (reqOf 0x0902 (leBytes 8 1)) (leBytes 8 1) ∧ t.seq.started = true :=
  ⟨accepts_of (by decide) (by decide) (by decide), by decide, accepts_of (by decide) (by decide) (by decide), by decide⟩
theorem witness_crossingStatus : Accepts (ready 0x0903 []) 0 specCrossingStatus (reqOf 0x0903 []) [] :=
  accepts_of (by decide) (by decide) (by decide)
theorem witness_periodTick : let s0 := runnable 1 State.reset
    let s := { s0 with seq := { s0.seq with started := true }, time := { Timekeeping0 with ks := BitVec.ofNat 88 (1000 * 2 ^ 24) } }
    s.seq.started = true ∧ (stewardTable s).startMode = 1 ∧ s.seq.launch + (s.seq.periodNo + 1) * (stewardTable s).periodNs ≤ now s := by
  decide
theorem witness_launchReached : let s := { State.reset with seq := { State.reset.seq with launchArmed := some (0, 3) } }
    s.seq.launchArmed = some (0, 3) ∧ 0 ≤ now s ∧ halted s = false := by decide

/-! ### BoundariesAndBaysComplete -/

/-- A bay of kind `k` without units, predecessors or commands. -/
def bayOf (k : BayKind) : Bay := ⟨k, false, false, [], [], [], 0, 0, 0, [], 0, 0, 0, 0⟩
/-- A crossing in progress whose one bay is of kind `k`, in state `st`. -/
def inBay (k : BayKind) (st : BaySt) : State :=
  let s := { State.reset with imgs := [(0, { ImgSlot0 with st := .committed, img := { Image0 with
    ratings := [{ Rating0 with bays := [bayOf k] }] } })] }
  { s with
    seq := { s.seq with started := true, active := true, bays := [{ BayRun0 with st := st }] },
    steward := { s.steward with settled := true } }
theorem witness_boundary : let s0 := runnable 0 State.reset
    let s := { s0 with seq := { s0.seq with started := true, due := true } }
    boundaryDue s = true := by decide
theorem witness_bayStart : let s := inBay .load .waiting
    getBay s (0 : Fin 256) = some (bayOf .load) ∧ bayReady s (0 : Fin 256) (bayOf .load) = true ∧
    sharers s 0 (bayOf .load) .running = [] ∧ sharers s 0 (bayOf .load) .suspended = [] := by decide
theorem witness_bayStart_waits : let s := inBay .load .running
    bayReady s (0 : Fin 256) (bayOf .load) = false ∧ ((3 : BitVec 32).toNat ≠ (bayOf .load).maxSteps) := by decide
theorem witness_tileBoundary : let s0 := inBay .load .running
    let s := { s0 with seq := { s0.seq with bays := [{ BayRun0 with st := .running, yieldTo := some 1 }] } }
    let c := { s0 with seq := { s0.seq with bays := [{ BayRun0 with st := .running, closing := true }] } }
    (bayRun s 0).yieldTo ≠ none ∧ (bayRun c 0).yieldTo = none ∧ (bayRun c 0).closing = true ∧ (bayRun s0 0).closing = false := by decide
theorem witness_bayRuns : let s := inBay .openBay .running
    getBay s (0 : Fin 256) = some (bayOf .openBay) ∧ s.seq.active = true ∧ (bayRun s 0).st = .running ∧
    bayFinished s 0 (bayOf .openBay) = true ∧ inCollective s 0 (bayOf .openBay) = false ∧ (bayRun s 0).effDeadline ≤ now s := by decide

/-! ### DeckCommandsComplete -/

/-- The thread of bay 0, and its context under `atCmd`. -/
def bay0 : Thread := .bay 0
/-- A copy operator without tensors, and one that reads tensor 5. -/
def desc0 : Desc := ⟨0x17, false, 0, 0xFFFF, 0xFFFF, 0xFFFF, 0xFFFF, 0xFFFF, 0, 0, []⟩
def desc5 : Desc := { desc0 with in0 := 5 }
/-- The table of `atCmd`: tensor 5 is a landing buffer at the start of abutment memory. -/
def tableOf (x : Cmd) : Rating := { Rating0 with bays := [{ bayOf .load with cmds := [x] }], places := [⟨5, false, 4, 0, 0, 0x20000⟩] }
/-- A crossing in progress, every domain ON, whose one bay stands at command `x`. -/
def atCmd (x : Cmd) : State :=
  let s := inBay .load .running
  { s with
    imgs := [(0, { ImgSlot0 with st := .committed, deckSize := 0x10000, img := { Image0 with descs := [desc0, desc5], ratings := [tableOf x] } })],
    pwr := { s.pwr with domains := (List.range 70).map (fun i => (i, { Domain0 with st := .on })) } }
/-- The same with every domain as after reset. -/
def asleep (x : Cmd) : State := { atCmd x with pwr := State.reset.pwr }
/-- What the thread of `atCmd` runs in. -/
def ctxOf (x : Cmd) : Ctx := ⟨0, tableOf x, [], none, none⟩
theorem witness_deckOp : let x := Cmd.op 0 0 0 0
    let s := atCmd x
    threadCmd s bay0 = some (ctxOf x, x) ∧ (getImg s 0).img.descs[0]? = some desc0 ∧
    ownedAway s (opReads s (ctxOf x) desc0) = false ∧ appendTurn s bay0 desc0 = true ∧
    sleepingBanks s (opPieces s (ctxOf x) desc0) = [] := by decide
theorem witness_deckOp_waits : let x := Cmd.op 1 0 0 0
    let s := atCmd x
    threadCmd s bay0 = some (ctxOf x, x) ∧ (getImg s 0).img.descs[1]? = some desc5 ∧
    ownedAway s (opReads s (ctxOf x) desc5) = true := by decide
theorem witness_deckOp_wakes : let x := Cmd.op 1 0 0 0
    let t := asleep x
    let s := { t with deck := { t.deck with regions := [(0, ⟨true, true⟩), (1, ⟨true, true⟩)] } }
    threadCmd s bay0 = some (ctxOf x, x) ∧ ownedAway s (opReads s (ctxOf x) desc5) = false ∧ appendTurn s bay0 desc5 = true ∧
    sleepingBanks s (opPieces s (ctxOf x) desc5) ≠ [] := by decide
theorem witness_deckLoad : let x := Cmd.load 0 1 0 0xFF00 0x100
    let p : Piece := (.dram, 0, 0x100)
    let q : Piece := (.abut, 0xFF00, 0x100)
    threadCmd (atCmd x) bay0 = some (ctxOf x, x) ∧ spacePiece (atCmd x) (ctxOf x) 2 0 0 0x100 = some p ∧
    spacePiece (atCmd x) (ctxOf x) 1 0 0xFF00 0x100 = some q ∧ sleepingBanks (atCmd x) [p, q] = [] ∧
    threadCmd (asleep x) bay0 = some (ctxOf x, x) ∧ spacePiece (asleep x) (ctxOf x) 2 0 0 0x100 = some p ∧
    spacePiece (asleep x) (ctxOf x) 1 0 0xFF00 0x100 = some q ∧ sleepingBanks (asleep x) [p, q] ≠ [] := by decide
theorem witness_deckLoad_beyond : let x := Cmd.load 0xFFFF 1 0 0 2
    threadCmd (atCmd x) bay0 = some (ctxOf x, x) ∧ spacePiece (atCmd x) (ctxOf x) 2 0 0xFFFF 2 = none := by decide
theorem witness_deckStore : let x := Cmd.store 0xFF00 1 0 0x30000 0x100
    let p : Piece := (.abut, 0x30000, 0x100)
    let q : Piece := (.dram, 0xFF00, 0x100)
    threadCmd (atCmd x) bay0 = some (ctxOf x, x) ∧ spacePiece (atCmd x) (ctxOf x) 1 0 0x30000 0x100 = some p ∧
    spacePiece (atCmd x) (ctxOf x) 2 0 0xFF00 0x100 = some q ∧ ownedAway (atCmd x) [p] = false ∧ sleepingBanks (atCmd x) [p, q] = [] ∧
    threadCmd (asleep x) bay0 = some (ctxOf x, x) ∧ spacePiece (asleep x) (ctxOf x) 1 0 0x30000 0x100 = some p ∧
    spacePiece (asleep x) (ctxOf x) 2 0 0xFF00 0x100 = some q ∧ ownedAway (asleep x) [p] = false ∧
    sleepingBanks (asleep x) [p, q] ≠ [] := by decide
theorem witness_deckStore_owned : let x := Cmd.store 0xFF00 1 0 0x1FF00 0x100
    threadCmd (atCmd x) bay0 = some (ctxOf x, x) ∧ spacePiece (atCmd x) (ctxOf x) 1 0 0x1FF00 0x100 = some (.abut, 0x1FF00, 0x100) ∧
    spacePiece (atCmd x) (ctxOf x) 2 0 0xFF00 0x100 = some (.dram, 0xFF00, 0x100) ∧ ownedAway (atCmd x) [(.abut, 0x1FF00, 0x100)] = true := by decide
theorem witness_deckStore_beyond : let x := Cmd.store 0xFFFF 1 0 0 2
    threadCmd (atCmd x) bay0 = some (ctxOf x, x) ∧ spacePiece (atCmd x) (ctxOf x) 2 0 0xFFFF 2 = none := by decide
theorem witness_swingLoad : let x := Cmd.swing 0xFF00 0x100
    threadCmd (atCmd x) bay0 = some (ctxOf x, x) ∧ (ctxOf x).job = none ∧
    0xFF00 + 0x100 * (List.range (tableOf x).girders).length ≤ (getImg (atCmd x) 0).deckSize ∧ 0x100 ≤ bankBytes := by decide
theorem witness_swingLoad_beyond : let x := Cmd.swing 0x10001 0x100
    threadCmd (atCmd x) bay0 = some (ctxOf x, x) ∧
    (getImg (atCmd x) 0).deckSize < 0x10001 + 0x100 * (List.range (tableOf x).girders).length := by decide
theorem witness_sendCmd : let x := Cmd.send 1 2 1 0x30000 64
    let p : Piece := (.abut, 0x30000, 64)
    threadCmd (atCmd x) bay0 = some (ctxOf x, x) ∧ spacePiece (atCmd x) (noPier (ctxOf x)) 1 0 0x30000 64 = some p ∧
    ownedAway (atCmd x) [p] = false ∧ sleepingBanks (atCmd x) [p] = [] ∧
    threadCmd (asleep x) bay0 = some (ctxOf x, x) ∧ spacePiece (asleep x) (noPier (ctxOf x)) 1 0 0x30000 64 = some p ∧
    ownedAway (asleep x) [p] = false ∧ sleepingBanks (asleep x) [p] ≠ [] := by decide
theorem witness_sendCmd_owned : let x := Cmd.send 1 2 4 0 64
    threadCmd (atCmd x) bay0 = some (ctxOf x, x) ∧ spacePiece (atCmd x) (noPier (ctxOf x)) 4 0 0 64 = some (.abut, 0, 64) ∧
    ownedAway (atCmd x) [(.abut, 0, 64)] = true := by decide
theorem witness_sendCmd_beyond : let x := Cmd.send 1 2 5 0 64
    threadCmd (atCmd x) bay0 = some (ctxOf x, x) ∧ spacePiece (atCmd x) (noPier (ctxOf x)) 5 0 0 64 = none := by decide
theorem witness_oneCmd : threadCmd (atCmd (.signal 1 2)) bay0 = some (ctxOf (.signal 1 2), .signal 1 2) ∧
    threadCmd (atCmd (.wait 2)) bay0 = some (ctxOf (.wait 2), .wait 2) ∧ flagSet (atCmd (.wait 2)) 2 = false ∧
    threadCmd (atCmd (.refresh 1 2)) bay0 = some (ctxOf (.refresh 1 2), .refresh 1 2) ∧ threadCmd State.reset bay0 = none := by decide
/-- `atCmd` with landing flags set. -/
def flagged (x : Cmd) (fs : List Nat) : State :=
  let s := atCmd x
  { s with seq := { s.seq with flags := fs.map (fun f => (f, landHalf s)) } }
theorem witness_wait : let x := Cmd.wait 2
    threadCmd (flagged x [2]) bay0 = some (ctxOf x, x) ∧ flagSet (flagged x [2]) 2 = true := by decide
/-- A collective of two ranks rooted at rank 0, of type `k`, over `n` bytes at offset `a` of abutment memory. -/
def coRec (k a n root : Nat) : List Byte := [BitVec.ofNat 8 k] ++ zeros 3 ++ leBytes 2 2 ++ leBytes 2 root ++ zeros 4 ++ [1] ++ zeros 3 ++ leBytes 4 a ++ leBytes 4 n
/-- The member of rank 0 at a collective. -/
def coMe (s : State) (r : List Byte) : Nat := s.span.node.toNat - coFirst r
theorem witness_collective : let r := coRec 1 0x30000 64 0
    let x := Cmd.collective r
    let s := atCmd x
    threadCmd s bay0 = some (ctxOf x, x) ∧ s.seq.flags.contains (65536 + coFlag0 r, landHalf s) = false ∧
    ownedAway s (coReads s (ctxOf x) r (coMe s r)) = false ∧ sleepingBanks s (coReads s (ctxOf x) r (coMe s r)) = [] ∧
    (coSends (ctxOf x) r (coMe s r) (touchBanks (coReads s (ctxOf x) r (coMe s r)) s)).isSome = true := by decide
theorem witness_collective_wakes : let r := coRec 1 0x30000 64 0
    let x := Cmd.collective r
    let s := asleep x
    threadCmd s bay0 = some (ctxOf x, x) ∧ s.seq.flags.contains (65536 + coFlag0 r, landHalf s) = false ∧
    ownedAway s (coReads s (ctxOf x) r (coMe s r)) = false ∧ sleepingBanks s (coReads s (ctxOf x) r (coMe s r)) ≠ [] := by decide
theorem witness_collective_owned : let r := coRec 1 0x1FFC0 64 0
    let x := Cmd.collective r
    let s := atCmd x
    threadCmd s bay0 = some (ctxOf x, x) ∧ s.seq.flags.contains (65536 + coFlag0 r, landHalf s) = false ∧
    ownedAway s (coReads s (ctxOf x) r (coMe s r)) = true := by decide
theorem witness_collective_waits : let r := coRec 0 0 0 0
    let x := Cmd.collective r
    let s := atCmd x
    threadCmd s bay0 = some (ctxOf x, x) ∧ s.seq.flags.contains (65536 + coFlag0 r, landHalf s) = false ∧
    ownedAway s (coReads s (ctxOf x) r (coMe s r)) = false ∧ sleepingBanks s (coReads s (ctxOf x) r (coMe s r)) = [] ∧
    (coSends (ctxOf x) r (coMe s r) (touchBanks (coReads s (ctxOf x) r (coMe s r)) s)).isNone = true := by decide
theorem witness_collective_sent : let r := coRec 1 0 64 1
    let x := Cmd.collective r
    let s := flagged x [65536]
    threadCmd s bay0 = some (ctxOf x, x) ∧ s.seq.flags.contains (65536 + coFlag0 r, landHalf s) = true ∧
    coEnds r (coMe s r) s = false ∧ coEnds r (coMe s r) (flagged x [65536, 0]) = true := by decide

/-! ### QueueCommandsComplete -/

theorem witness_memAlloc : Accepts (ready 0x0A01 (leBytes 8 1)) 0 specMemAlloc (reqOf 0x0A01 (leBytes 8 1)) (leBytes 8 1) ∧
    findMib (ready 0x0A01 (leBytes 8 1)) 1 = some 257 ∧
    Accepts (ready 0x0A01 (leBytes 8 0xFFFFFFFF)) 0 specMemAlloc (reqOf 0x0A01 (leBytes 8 0xFFFFFFFF)) (leBytes 8 0xFFFFFFFF) ∧
    findMib (ready 0x0A01 (leBytes 8 0xFFFFFFFF)) 0xFFFFFFFF = none :=
  ⟨accepts_of (by decide) (by decide) (by decide), by decide, accepts_of (by decide) (by decide) (by decide), by decide⟩
theorem witness_memFree : Accepts (ready 0x0A02 (leBytes 8 0x10000000)) 0 (plain 0x0A02 0x0100 8 0) (reqOf 0x0A02 (leBytes 8 0x10000000))
    (leBytes 8 0x10000000) ∧ (ready 0x0A02 (leBytes 8 0x10000000)).gh.allocs.find? (fun b => decide (b.mib * 2 ^ 20 = 0x10000000)) = some ⟨256, 1⟩ ∧
    blockHeld (ready 0x0A02 (leBytes 8 0x10000000)) ⟨256, 1⟩ = false :=
  ⟨accepts_of (by decide) (by decide) (by decide), by decide, by decide⟩
theorem witness_memFree_refused : let p := leBytes 8 0x10000000
    let s := ready 0x0A02 p
    let t := { s with span := { s.span with winBase := 0x10000000, winMib := 1 } }
    let n := { s with gh := { s.gh with allocs := [⟨257, 1⟩] } }
    Accepts t 0 (plain 0x0A02 0x0100 8 0) (reqOf 0x0A02 p) p ∧
    t.gh.allocs.find? (fun b => decide (b.mib * 2 ^ 20 = 0x10000000)) = some ⟨256, 1⟩ ∧ blockHeld t ⟨256, 1⟩ = true ∧
    Accepts n 0 (plain 0x0A02 0x0100 8 0) (reqOf 0x0A02 p) p ∧
    n.gh.allocs.find? (fun b => decide (b.mib * 2 ^ 20 = 0x10000000)) = none :=
  ⟨accepts_of (by decide) (by decide) (by decide), by decide, by decide, accepts_of (by decide) (by decide) (by decide), by decide⟩
/-- A QUEUE_CREATE payload for queue `q`: a RECORD queue of 16 entries in host memory. -/
def queuePayload (q : Nat) : List Byte := leBytes 2 q ++ [if q = 1 then 1 else 0, 4, 1, 0xFF, 0, 0] ++ leBytes 8 0x1000 ++ leBytes 4 1 ++ zeros 4
theorem witness_queueCreate : Accepts (ready 0x0A03 (queuePayload 0x10)) 0 specQueueCreate (reqOf 0x0A03 (queuePayload 0x10)) (queuePayload 0x10) ∧
    (getQ (ready 0x0A03 (queuePayload 0x10)) 0x10).st = .free ∧
    Accepts (withQueue (ready 0x0A03 (queuePayload 0x10))) 0 specQueueCreate (reqOf 0x0A03 (queuePayload 0x10)) (queuePayload 0x10) ∧
    (getQ (withQueue (ready 0x0A03 (queuePayload 0x10))) 0x10).st ≠ .free :=
  ⟨accepts_of (by decide) (by decide) (by decide), by decide, accepts_of (by decide) (by decide) (by decide), by decide⟩
theorem witness_queueDestroy : let s := withQueue (ready 0x0A04 (leBytes 8 0x10))
    Accepts s 0 (specQueue 0x0A04 8 0) (reqOf 0x0A04 (leBytes 8 0x10)) (leBytes 8 0x10) ∧ hostQueue 0x10 = true ∧ (getQ s 0x10).st ≠ .free ∧
    queueNamed s 0x10 = false := ⟨accepts_of (by decide) (by decide) (by decide), by decide, by decide, by decide⟩
theorem witness_queueDestroy_refused : let p := leBytes 8 0x10
    let s := ready 0x0A04 p
    let t := withQueue s
    let u := { t with replay := { t.replay with mode := true, queue := 0x10 } }
    Accepts s 0 (specQueue 0x0A04 8 0) (reqOf 0x0A04 p) p ∧ (getQ s 0x10).st = .free ∧
    Accepts u 0 (specQueue 0x0A04 8 0) (reqOf 0x0A04 p) p ∧ (getQ u 0x10).st ≠ .free ∧ queueNamed u 0x10 = true ∧
    Accepts (ready 0x0A04 (leBytes 8 2)) 0 (specQueue 0x0A04 8 0) (reqOf 0x0A04 (leBytes 8 2)) (leBytes 8 2) ∧ hostQueue 2 = false :=
  ⟨accepts_of (by decide) (by decide) (by decide), by decide, accepts_of (by decide) (by decide) (by decide), by decide, by decide,
    accepts_of (by decide) (by decide) (by decide), by decide⟩
theorem witness_queueRead : let s := withQueue (ready 0x0A05 (leBytes 8 0x10))
    Accepts s 0 (specQueue 0x0A05 8 32) (reqOf 0x0A05 (leBytes 8 0x10)) (leBytes 8 0x10) ∧ (getQ s 0x10).st ≠ .free ∧
    Accepts (ready 0x0A05 (leBytes 8 0x10)) 0 (specQueue 0x0A05 8 32) (reqOf 0x0A05 (leBytes 8 0x10)) (leBytes 8 0x10) ∧
    (getQ (ready 0x0A05 (leBytes 8 0x10)) 0x10).st = .free :=
  ⟨accepts_of (by decide) (by decide) (by decide), by decide, accepts_of (by decide) (by decide) (by decide), by decide⟩
/-- Queue 0x10 DETACHED in host memory. -/
def withDetached (s : State) : State := { s with q := { s.q with queues := [(0x10, { Queue0 with st := .detached, host := true, log2 := 4, tail := 5 })] } }
theorem witness_queueAttach : let p := leBytes 8 0x10 ++ leBytes 8 0x2000
    Accepts (withDetached (ready 0x0A06 p)) 0 specQueueAttach (reqOf 0x0A06 p) p ∧ (getQ (withDetached (ready 0x0A06 p)) 0x10).st = .detached ∧
    (getQ (withDetached (ready 0x0A06 p)) 0x10).host = true ∧ Accepts (ready 0x0A06 p) 0 specQueueAttach (reqOf 0x0A06 p) p ∧
    (getQ (ready 0x0A06 p) 0x10).st ≠ .detached :=
  ⟨accepts_of (by decide) (by decide) (by decide), by decide, by decide, accepts_of (by decide) (by decide) (by decide), by decide⟩
theorem witness_tollConfig : let p : List Byte := List.replicate 12 255 ++ zeros 4
    Accepts (ready 0x0A07 p) 0 specTollConfig (reqOf 0x0A07 p) p ∧
    Accepts (posed State.reset (reqFar 0x0A08 [])) 0 (plain 0x0A08 0x0100 0 400) (reqFar 0x0A08 []) [] :=
  ⟨accepts_of (by decide) (by decide) (by decide), accepts_of (by decide) (by decide) (by decide)⟩

/-! ### DoorbellsAndProductionComplete -/

theorem witness_doorbell_free : (getQ State.reset (0x10 : BitVec 16).toNat).st = .free := by decide
/-- Queue 0x10 ACTIVE with the spec's example across the wrap: HEAD 0xFFFFFE00, TAIL 0x100, 1,024 entries. -/
def wrapped : Queue := { Queue0 with st := .active, log2 := 10, head := 0xFFFFFE00, tail := 0x100, vector := 1, watermark := 768 }
def withWrapped (x : Queue) : State := { State.reset with q := { QueueMgr0 with queues := [(0x10, x)], waiting := [⟨0x10, []⟩] } }
theorem witness_doorbellPtr : (getQ (withWrapped wrapped) 0x10).st ≠ .free ∧ (getQ (withWrapped wrapped) 0x10).fw = false ∧
    wrapped.content ≠ 3 ∧ ((0 : BitVec 32) - wrapped.head).toNat ≤ (wrapped.tail - wrapped.head).toNat ∧
    (wrapped.tail - wrapped.head).toNat < ((0x200 : BitVec 32) - wrapped.head).toNat ∧ queueDue wrapped = true ∧ wrapped.vector ≠ 0xFF := by
  decide
theorem witness_doorbellPtr_job : let x := { wrapped with content := 3 }
    (getQ (withWrapped x) 0x10).content = 3 ∧ ((0x200 : BitVec 32) - x.tail).toNat ≤ 2 ^ x.log2 - (x.tail - x.head).toNat ∧
    (0x200 : BitVec 32) ≠ x.tail ∧ 2 ^ x.log2 - (x.tail - x.head).toNat < ((0x201 : BitVec 32) - x.tail).toNat := by decide
theorem witness_queueProduce : nextProd (withWrapped wrapped) = some 0 ∧ (withWrapped wrapped).q.waiting[0]? = some ⟨0x10, []⟩ ∧
    queueOpen (getQ (withWrapped wrapped) 0x10) = true := by decide
theorem witness_queueProduce_drop : let s := withWrapped { wrapped with log2 := 8, content := 1 }
    nextProd s = some 0 ∧ s.q.waiting[0]? = some ⟨0x10, []⟩ ∧ queueOpen (getQ s 0x10) = false ∧ nextProd State.reset = none := by decide
theorem witness_clearQerr : let s := withWrapped { wrapped with content := 3, qerr := true }
    (getQ s (0x10 : BitVec 16).toNat).st ≠ .free ∧ (getQ s (0x10 : BitVec 16).toNat).fw = false ∧
    (getQ s (0x10 : BitVec 16).toNat).qerr = true ∧ (getQ (withWrapped wrapped) 0x10).qerr = false := by decide
theorem witness_holdoff_early : (getQ (withWrapped { wrapped with timer := some 1 }) (0x10 : BitVec 16).toNat).timer = some 1 ∧
    now (withWrapped { wrapped with timer := some 1 }) < 1 := by decide
theorem witness_accessFail_job : let s := withWrapped { wrapped with host := true, content := 3 }
    (getQ s (0x10 : BitVec 16).toNat).host = true ∧ (getQ s (0x10 : BitVec 16).toNat).st = .active ∧
    (getQ s (0x10 : BitVec 16).toNat).content = 3 ∧ (getQ s (0x10 : BitVec 16).toNat).head ≠ (getQ s (0x10 : BitVec 16).toNat).tail ∧
    (getQ (withWrapped wrapped) 0x10).host = false := by decide
theorem witness_holdoff : (getQ (withWrapped { wrapped with timer := some 0, armed := true }) (0x10 : BitVec 16).toNat).timer = some 0 ∧
    0 ≤ now (withWrapped wrapped) := by decide
theorem witness_accessFail : let s := withWrapped { wrapped with host := true }
    (getQ s (0x10 : BitVec 16).toNat).host = true ∧ (getQ s (0x10 : BitVec 16).toNat).st = .active ∧
    (getQ s (0x10 : BitVec 16).toNat).content ≠ 3 := by decide
theorem witness_tollArbitration : tollWinner TollCh0 State.reset.mem.limits 0x802 = some 1 ∧
    tollWinner TollCh0 State.reset.mem.limits 0 = none := by decide

/-! ### HostEventsComplete -/

theorem witness_bar2 : tollOk State.reset (State.reset.host.winBase.toNat * 2 ^ 20 + (0 : BitVec 30).toNat) (max 1 [(1 : Byte)].length) = true ∧
    tollOk State.reset (({ State.reset with host := { State.reset.host with winBase := 0 } } : State).host.winBase.toNat * 2 ^ 20 + (0 : BitVec 30).toNat)
      (max 1 [(1 : Byte)].length) = false := by decide

/-! ### RecorderCommandsComplete -/

/-- The recorder running with a segment that waits. -/
def recording (s : State) : State :=
  { s with rec_ := { s.rec_ with running := true, overwrite := true, ringBase := 0x10000000, ringSegs := 2, full := [[]] } }
theorem witness_recStart : let p := zeros 8 ++ leBytes 8 0x10000000 ++ leBytes 8 2 ++ zeros 16
    Accepts (ready 0x0B01 p) 0 specRecStart (reqOf 0x0B01 p) p ∧ (ready 0x0B01 p).rec_.running = false ∧
    Accepts (recording (ready 0x0B01 p)) 0 specRecStart (reqOf 0x0B01 p) p ∧ (recording (ready 0x0B01 p)).rec_.running = true :=
  ⟨accepts_of (by decide) (by decide) (by decide), by decide, accepts_of (by decide) (by decide) (by decide), by decide⟩
theorem witness_recStop : Accepts (recording (ready 0x0B02 [])) 0 (plain 0x0B02 0x0102 0 0) (reqOf 0x0B02 []) [] ∧
    (recording (ready 0x0B02 [])).rec_.running = true ∧ Accepts (ready 0x0B02 []) 0 (plain 0x0B02 0x0102 0 0) (reqOf 0x0B02 []) [] :=
  ⟨accepts_of (by decide) (by decide) (by decide), by decide, accepts_of (by decide) (by decide) (by decide)⟩
theorem witness_recRelease : Accepts (ready 0x0B03 (leBytes 8 5)) 0 (plain 0x0B03 0x0102 8 0) (reqOf 0x0B03 (leBytes 8 5)) (leBytes 8 5) ∧
    Accepts (ready 0x0B04 []) 0 (plain 0x0B04 0x0102 0 16) (reqOf 0x0B04 []) [] :=
  ⟨accepts_of (by decide) (by decide) (by decide), accepts_of (by decide) (by decide) (by decide)⟩
theorem witness_lotOpen : let p := leBytes 8 7 ++ leBytes 8 1
    let s := ready 0x0B05 p
    let t := { s with seq := { s.seq with started := true } }
    Accepts s 0 specLotOpen (reqOf 0x0B05 p) p ∧ s.seq.started = false ∧ Accepts t 0 specLotOpen (reqOf 0x0B05 p) p ∧ t.seq.started = true :=
  ⟨accepts_of (by decide) (by decide) (by decide), by decide, accepts_of (by decide) (by decide) (by decide), by decide⟩
theorem witness_checkpoint : let s := ready 0x0B06 []
    let t := { s with seq := { s.seq with started := true } }
    Accepts s 0 { plain 0x0B06 0x0102 0 8 with objs := fun _ => [.sequencer] } (reqOf 0x0B06 []) [] ∧ s.seq.started = false ∧
    Accepts t 0 { plain 0x0B06 0x0102 0 8 with objs := fun _ => [.sequencer] } (reqOf 0x0B06 []) [] ∧ t.seq.started = true :=
  ⟨accepts_of (by decide) (by decide) (by decide), by decide, accepts_of (by decide) (by decide) (by decide), by decide⟩
theorem witness_segmentWritten : (recording State.reset).rec_.running = true ∧ (recording State.reset).rec_.full = [] :: [] ∧
    canWrite (recording State.reset).rec_ = true ∧ (recording State.reset).rec_.gapCount = 0 ∧
    (recording State.reset).rec_.hostMode = false ∧ State.reset.rec_.running = false := by decide
theorem witness_segmentWritten_host : let r := (recording State.reset).rec_
    let s := { State.reset with rec_ := { r with hostMode := true, overwrite := false } }
    s.rec_.full = [] :: [] ∧ canWrite s.rec_ = false ∧ s.rec_.hostMode = true := by decide
theorem witness_gap : let s := { State.reset with rec_ := { State.reset.rec_ with gapCount := 1 } }
    s.rec_.gapCount ≠ 0 ∧ s.rec_.full = [] ∧ State.reset.rec_.gapCount = 0 := by decide
theorem witness_checkpointDue : let s := { State.reset with rec_ := { State.reset.rec_ with ckptDue := true } }
    s.rec_.ckptDue = true ∧ State.reset.rec_.ckptDue = false := by decide

/-! ### ReplayCommandsComplete -/

theorem leVal_leBytes (n v : Nat) : leVal (leBytes n v) = v % 256 ^ n := by
  induction n generalizing v with
  | zero => simp [leBytes, leVal, Nat.mod_one]
  | succ n ih =>
    rw [leBytes, leVal, ih, BitVec.toNat_ofNat, show 256 ^ (n + 1) = 256 * 256 ^ n from Nat.pow_succ', Nat.mod_mul]
/-- One segment of a stream, SEG_SEQ 0. -/
def oneSeg (recs : List Byte) : List Byte := segmentBytes 0 0 0 recs
theorem oneSeg_parts (recs : List Byte) : ∃ a b c : List Byte, ∃ k < 2 ^ 32, oneSeg recs = a ++ leBytes 4 recs.length ++ leBytes 4 k ++ c ∧
    a.length = 24 ∧ c = recs ++ zeros (segBytesLen - 32 - recs.length) ∧ a = b ∧
    b = leBytes 4 0x44524C59 ++ leBytes 2 1 ++ leBytes 2 0 ++ leBytes 8 0 ++ leBytes 8 0 ∧
    k = crc32 (a ++ leBytes 4 recs.length ++ leBytes 4 0 ++ c) := ⟨_, _, _, _, BitVec.isLt _, rfl, rfl, rfl, rfl, rfl, rfl⟩
theorem oneSeg_length (recs : List Byte) (h : recs.length ≤ 1000) : (oneSeg recs).length = 262144 := by
  obtain ⟨a, b, c, k, -, e, ha, hc, -⟩ := oneSeg_parts recs
  rw [e, hc]; simp only [List.length_append, leBytes_length, zeros, List.length_replicate, segBytesLen]; omega
theorem oneSeg_valid (recs : List Byte) : segValid (oneSeg recs) = true := by
  obtain ⟨a, b, c, k, hk, e, ha, -, hb, hc, h⟩ := oneSeg_parts recs
  have hl : (leBytes 4 recs.length).length = 4 := leBytes_length _ _
  have hn : (leBytes 4 k).length = 4 := leBytes_length _ _
  generalize hy : leBytes 4 recs.length = y at *
  have h1 : (oneSeg recs).take 28 ++ zeros 4 ++ (oneSeg recs).drop 32 = a ++ y ++ leBytes 4 0 ++ c := by
    rw [e]
    have e1 : (a ++ y ++ leBytes 4 k ++ c).take 28 = a ++ y := by
      rw [List.append_assoc, List.take_append_of_le_length (by simp [ha, hl]), List.take_of_length_le (by simp [ha, hl])]
    have e2 : (a ++ y ++ leBytes 4 k ++ c).drop 32 = c := by
      rw [List.drop_append_of_le_length (by simp [ha, hl]), List.drop_of_length_le (by simp [ha, hl]), List.nil_append]
    rw [e1, e2]; rfl
  have h2 : fld (oneSeg recs) 28 4 = k := by
    unfold fld; rw [e]
    have e1 : ((a ++ y ++ leBytes 4 k ++ c).drop 28).take 4 = leBytes 4 k := by
      rw [List.append_assoc, List.drop_append_of_le_length (by simp [ha, hl]), List.drop_of_length_le (by simp [ha, hl]), List.nil_append,
        List.take_append_of_le_length (by simp), List.take_of_length_le (by simp)]
    rw [e1, leVal_leBytes, Nat.mod_eq_of_lt (by simpa using hk)]
  have h3 : ∀ o n, o + n ≤ 24 → fld (oneSeg recs) o n = fld a o n := by
    intro o n ho
    unfold fld; rw [e, List.append_assoc, List.append_assoc, List.drop_append_of_le_length (by omega), List.take_append_of_le_length (by simp; omega)]
  unfold segValid
  rw [h1, h2, ← h, h3 0 4 (by omega), h3 4 2 (by omega), hb, hc]
  simp only [decide_eq_true_eq]
  exact ⟨by decide, by decide, trivial⟩
theorem oneSeg_recs (recs : List Byte) (h : recs.length ≤ 1000) : segRecs (oneSeg recs) = recsIn 16384 recs := by
  obtain ⟨a, b, c, k, hk, e, ha, hc, -, -, -⟩ := oneSeg_parts recs
  have hl : ∀ n, (leBytes 4 n).length = 4 := leBytes_length _
  have h5 : fld (oneSeg recs) 24 4 = leVal (leBytes 4 recs.length) := by
    unfold fld
    rw [e, List.append_assoc, List.append_assoc, List.drop_append_of_le_length (by omega), List.drop_of_length_le (by omega), List.nil_append,
        List.take_append_of_le_length (by simp), List.take_of_length_le (by simp)]
  have h6 : (oneSeg recs).drop 32 = recs ++ zeros (segBytesLen - 32 - recs.length) := by
    rw [e, List.drop_append_of_le_length (by simp [ha]), List.drop_of_length_le (by simp [ha]), List.nil_append, hc]
  unfold segRecs slice
  rw [h5, h6, leVal_leBytes, Nat.mod_eq_of_lt (by omega)]; simp
theorem oneSeg_seq (recs : List Byte) : fld (oneSeg recs) 8 8 = 0 := by
  obtain ⟨a, b, c, k, hk, e, ha, -, hb, hc, -⟩ := oneSeg_parts recs
  unfold fld
  rw [e, List.append_assoc, List.append_assoc, List.drop_append_of_le_length (by omega), List.take_append_of_le_length (by simp; omega), hb, hc]
  decide
/-- The state with that segment in toll memory. -/
def withSeg (recs : List Byte) (s : State) : State := { s with mem := { s.mem with toll := memWrite s.mem.toll 0x10000000 (oneSeg recs) } }
/-- Its stream. -/
def strm : Machine.Stream := ⟨false, 0x10000000, 1⟩
theorem withSeg_raw (recs : List Byte) (s : State) (h : recs.length ≤ 1000) : segRaw (withSeg recs s) strm 0 = oneSeg recs := by
  have h1 := memRead_memWrite s.mem.toll 0x10000000 (oneSeg recs)
  rw [oneSeg_length recs h] at h1
  unfold segRaw strm tollRead withSeg segBytesLen
  simp only [Bool.false_eq_true, if_false, Nat.mul_zero, Nat.add_zero]
  exact h1
theorem withSeg_any (recs : List Byte) (s : State) (h : recs.length ≤ 1000) (f : Rec → Bool) :
    anyRec (withSeg recs s) strm f = (recsIn 16384 recs).any f := by
  unfold anyRec
  show (List.range 1).any _ = _
  simp only [List.range_one, List.any_cons, List.any_nil, Bool.or_false, withSeg_raw recs s h, oneSeg_valid, oneSeg_recs recs h, Bool.true_and]
theorem withSeg_none (recs : List Byte) (s : State) (h : recs.length ≤ 1000) : segFind (withSeg recs s) strm 1 = none := by
  unfold segFind
  show (List.range 1).find? _ = _
  simp only [List.range_one, List.find?_cons, withSeg_raw recs s h, oneSeg_valid, oneSeg_seq]; rfl
theorem withSeg_find (recs : List Byte) (s : State) (h : recs.length ≤ 1000) : segFind (withSeg recs s) strm 0 = some 0 := by
  unfold segFind
  show (List.range 1).find? _ = _
  simp only [List.range_one, List.find?_cons, withSeg_raw recs s h, oneSeg_valid, oneSeg_seq]; rfl
/-- A REPLAY_OPEN payload: a stream of one segment in toll memory, results to queue 0x10, the origin in SEG_SEQ `n`. -/
def replayPayload (n : Nat) : List Byte := zeros 8 ++ leBytes 8 0x10000000 ++ leBytes 4 1 ++ leBytes 2 0x10 ++ zeros 2 ++ leBytes 8 n ++ zeros 8
/-- A device before REPLAY_OPEN, with a stream of records. -/
def opening (n : Nat) (recs : List Byte) : State := withSeg recs (withQueue (ready 0x0B07 (replayPayload n)))
theorem opening_accepts (n : Nat) (recs : List Byte) (hn : n < 2) : let p := replayPayload n
    let s := opening n recs
    Accepts s 0 specReplayOpen (reqOf 0x0B07 p) p ∧ s.seq.started = false ∧ s.rec_.running = false ∧
    s.replay.mode = false ∧ (getQ s (fld p 20 2)).st = .active ∧ (getQ s (fld p 20 2)).content = 0 ∧
    (⟨bitOf (fld1 p 0) 0, fld p 8 8, fld p 16 4⟩ : Machine.Stream) = strm ∧ fld p 24 8 = n := by
  obtain rfl | rfl : n = 0 ∨ n = 1 := by omega
  all_goals exact ⟨⟨rfl, rfl, rfl⟩, rfl, rfl, rfl, rfl, rfl, rfl, by decide⟩
theorem witness_replayOpen_refused : let p := replayPayload 0
    let s := ready 0x0B07 p
    Accepts (recording s) 0 specReplayOpen (reqOf 0x0B07 p) p ∧ (recording s).rec_.running = true ∧
    Accepts s 0 specReplayOpen (reqOf 0x0B07 p) p ∧ s.seq.started = false ∧ s.rec_.running = false ∧ s.replay.mode = false ∧
    (getQ s (fld p 20 2)).st ≠ .active :=
  ⟨accepts_of (by decide) (by decide) (by decide), by decide, accepts_of (by decide) (by decide) (by decide), by decide, by decide,
    by decide, by decide⟩
theorem witness_replayOpen_reserved : anyReserved (opening 0 (recBytes 0x11 0 [])) strm = true := by
  unfold anyReserved opening; rw [withSeg_any _ _ (by decide)]; decide
set_option maxRecDepth 8000 in
theorem witness_replayOpen_foreign : anyReserved (opening 0 (recBytes 1 0 (zeros 16))) strm = false ∧
    anyForeign (opening 0 (recBytes 1 0 (zeros 16))) strm = true := by
  constructor
  · unfold anyReserved opening; rw [withSeg_any _ _ (by decide)]; decide
  · unfold anyForeign opening; rw [withSeg_any _ _ (by decide), List.any_eq_true]
    refine ⟨⟨1, 0, 32, zeros 16⟩, by decide, ?_⟩
    rw [Bool.and_eq_true]; exact ⟨by decide, by rw [Bool.or_eq_true]; exact .inl (by decide)⟩
theorem recsIn_cons (n : Nat) (b : List Byte) (r : Rec) (h : recHead b = some r) : recsIn (n + 1) b = r :: recsIn n (b.drop r.len) := by
  rw [recsIn, h]
theorem recsIn_nil (n : Nat) : recsIn (n + 1) [] = [] := by rw [recsIn]; rfl
/-- An END record. -/
def endRec : List Byte := recBytes 0xF 0 (zeros 8)
set_option maxRecDepth 8000 in
theorem endRec_recs : recsIn 16384 endRec = [⟨0xF, 0, 24, zeros 8⟩] := by
  rw [show (16384 : Nat) = 16382 + 1 + 1 from rfl, recsIn_cons _ _ ⟨0xF, 0, 24, zeros 8⟩ (by decide), show endRec.drop 24 = [] by decide,
    recsIn_nil]
theorem opening_plain (n : Nat) (recs : List Byte) (h : recs.length ≤ 1000)
    (h1 : (recsIn 16384 recs).any (fun r => decide (0x10 < r.typ)) = false) (h2 : (recsIn 16384 recs).any (fun r => r.typ == 1) = false) :
    anyReserved (opening n recs) strm = false ∧ anyForeign (opening n recs) strm = false := by
  constructor
  · unfold anyReserved opening; rw [withSeg_any _ _ h]; exact h1
  · unfold anyForeign opening; rw [withSeg_any _ _ h, List.any_eq_false]
    rw [List.any_eq_false] at h2
    intro x hx; have := h2 x hx; simp at this; simp [this]
theorem endRec_plain (n : Nat) : anyReserved (opening n endRec) strm = false ∧ anyForeign (opening n endRec) strm = false :=
  opening_plain n endRec (by decide) (by rw [endRec_recs]; rfl) (by rw [endRec_recs]; rfl)
theorem witness_replayOpen_noSegment : let s := opening 1 endRec
    anyReserved s strm = false ∧ anyForeign s strm = false ∧ segFind s strm 1 = none :=
  ⟨(endRec_plain 1).1, (endRec_plain 1).2, withSeg_none _ _ (by decide)⟩
theorem witness_replayOpen_noOrigin : let s := opening 0 endRec
    anyReserved s strm = false ∧ anyForeign s strm = false ∧ segFind s strm 0 = some 0 ∧ originOff (segRecs (segRaw s strm 0)) = none := by
  refine ⟨(endRec_plain 0).1, (endRec_plain 0).2, withSeg_find _ _ (by decide), ?_⟩
  unfold opening; rw [withSeg_raw _ _ (by decide), oneSeg_recs _ (by decide), endRec_recs]; rfl
/-- A checkpoint without items. -/
def bareCkpt : List Byte := recBytes 0xD 0 (zeros 48) ++ (leBytes 2 0xD ++ leBytes 2 0 ++ leBytes 4 64 ++ leBytes 8 0 ++ ([2] ++ zeros 15 ++ sha256 []))
/-- Its two records. -/
def ckBegin : Rec := ⟨0xD, 0, 64, zeros 48⟩
def ckEnd : Rec := ⟨0xD, 0, 64, [2] ++ zeros 15 ++ sha256 []⟩
set_option maxRecDepth 8000 in
theorem bareCkpt_length : bareCkpt.length = 128 := by
  simp only [bareCkpt, List.length_append, sha256_length]; decide
set_option maxRecDepth 8000 in
theorem bareCkpt_recs : recsIn 16384 bareCkpt = [ckBegin, ckEnd] := by
  have hl := sha256_length []
  have hd : bareCkpt.drop 64 = leBytes 2 0xD ++ leBytes 2 0 ++ leBytes 4 64 ++ leBytes 8 0 ++ ([2] ++ zeros 15 ++ sha256 []) := by
    unfold bareCkpt; rw [List.drop_append_of_le_length (by decide), List.drop_of_length_le (by decide), List.nil_append]
  have h1 : recHead bareCkpt = some ckBegin := by
    have e : bareCkpt.take 64 = recBytes 0xD 0 (zeros 48) := by
      unfold bareCkpt; rw [List.take_append_of_le_length (by decide), List.take_of_length_le (by decide)]
    have f : ∀ o n, o + n ≤ 64 → (bareCkpt.drop o).take n = ((recBytes 0xD 0 (zeros 48)).drop o).take n := by
      intro o n h; rw [← e, List.drop_take, List.take_take, Nat.min_eq_left (by omega)]
    unfold recHead fld slice
    rw [f 4 4 (by omega), f 0 2 (by omega), f 8 8 (by omega)]
    have g : leVal (((recBytes 0xD 0 (zeros 48)).drop 4).take 4) = 64 := by decide
    rw [g]; dsimp only
    rw [f 16 (64 - 16) (by omega), if_neg (by rw [bareCkpt_length]; omega)]; decide
  have h2 : recHead (leBytes 2 0xD ++ leBytes 2 0 ++ leBytes 4 64 ++ leBytes 8 0 ++ ([2] ++ zeros 15 ++ sha256 [])) = some ckEnd := by
    have g : (leBytes 2 0xD ++ leBytes 2 0 ++ leBytes 4 64 ++ leBytes 8 0 ++ ([2] ++ zeros 15 ++ sha256 [])).length = 64 := by
      simp only [List.length_append, hl]; decide
    unfold recHead ckEnd
    have k : (leBytes 2 0xD ++ leBytes 2 0 ++ leBytes 4 64 ++ leBytes 8 0).length = 16 := by decide
    have f : ∀ o n d, o + n ≤ 16 → fld (leBytes 2 0xD ++ leBytes 2 0 ++ leBytes 4 64 ++ leBytes 8 0 ++ d) o n =
        fld (leBytes 2 0xD ++ leBytes 2 0 ++ leBytes 4 64 ++ leBytes 8 0) o n := by
      intro o n d h; unfold fld; rw [List.drop_append_of_le_length (by omega), List.take_append_of_le_length (by simp [k]; omega)]
    rw [f 4 4 _ (by omega), f 0 2 _ (by omega), f 8 8 _ (by omega), g]
    have q : fld (leBytes 2 0xD ++ leBytes 2 0 ++ leBytes 4 64 ++ leBytes 8 0) 4 4 = 64 := by decide
    rw [q]; dsimp only
    rw [if_neg (by omega)]
    unfold slice
    rw [List.drop_append_of_le_length (by omega), List.drop_of_length_le (by omega), List.nil_append, List.take_of_length_le (by simp only [List.length_append, hl]; decide)]
    rfl
  rw [show (16384 : Nat) = 16381 + 1 + 1 + 1 from rfl, recsIn_cons _ _ _ h1, show ckBegin.len = 64 from rfl, hd, recsIn_cons _ _ _ h2,
    show ckEnd.len = 64 from rfl, List.drop_of_length_le (by simp only [List.length_append, hl]; decide), recsIn_nil]
theorem witness_replayOpen : let s := opening 0 bareCkpt
    anyReserved s strm = false ∧ anyForeign s strm = false ∧ segFind s strm 0 = some 0 ∧
    originOff (segRecs (segRaw s strm 0)) = some 0 ∧ (checkpointItems (streamFrom s strm strm.segs 0)).isSome = true := by
  have hb : bareCkpt.length ≤ 1000 := by rw [bareCkpt_length]; decide
  have hp := opening_plain 0 bareCkpt hb (by rw [bareCkpt_recs]; rfl) (by rw [bareCkpt_recs]; rfl)
  refine ⟨hp.1, hp.2, withSeg_find _ _ hb, ?_, ?_⟩
  · unfold opening; rw [withSeg_raw _ _ hb, oneSeg_recs _ hb, bareCkpt_recs]; rfl
  · have e : streamFrom (opening 0 bareCkpt) strm strm.segs 0 = [ckBegin, ckEnd] := by
      show streamFrom _ strm 1 0 = _
      rw [streamFrom]
      have : segFind (opening 0 bareCkpt) strm 0 = some 0 := withSeg_find _ _ hb
      simp only [this, streamFrom, List.append_nil]
      unfold opening; rw [withSeg_raw _ _ hb, oneSeg_recs _ hb, bareCkpt_recs]
    have e2 : slice ckEnd.data 16 32 = sha256 [] := by
      unfold slice ckEnd
      rw [List.drop_append_of_le_length (by decide), List.drop_of_length_le (by decide), List.nil_append,
        List.take_of_length_le (by rw [sha256_length])]
    rw [e]
    unfold checkpointItems
    have d1 : [ckBegin, ckEnd].dropWhile (fun r => !(r.typ == 0xD && fld1 r.data 0 == 0)) = [ckBegin, ckEnd] := rfl
    have d2 : [ckEnd].takeWhile (fun r => r.typ == 0xD && fld1 r.data 0 == 1) = [] := rfl
    rw [d1]; dsimp only; rw [d2]; dsimp only [List.length_nil, List.drop_zero, List.flatMap_nil]
    show (if ckEnd.typ = 0xD ∧ fld1 ckEnd.data 0 = 2 ∧ slice ckEnd.data 16 32 = sha256 [] then some _ else none : Option (List (List Byte))).isSome = true
    rw [if_pos ⟨rfl, rfl, e2⟩]; rfl
/-- A replay opened, its place at the start of its stream. -/
def replaying (run : Bool) (s : State) : State := { s with replay := { Replay0 with mode := true, running := run } }
theorem witness_replayRun : let s := replaying false (ready 0x0B08 [])
    Accepts s 0 { plain 0x0B08 0x0102 0 0 with objs := fun _ => [.sequencer] } (reqOf 0x0B08 []) [] ∧ s.replay.mode = true ∧
    s.replay.running = false := ⟨accepts_of (by decide) (by decide) (by decide), by decide, by decide⟩
theorem witness_replayStop : let s := replaying true (ready 0x0B09 [])
    Accepts s 0 { plain 0x0B09 0x0102 0 0 with objs := fun _ => [.sequencer] } (reqOf 0x0B09 []) [] ∧ s.replay.mode = true ∧
    Accepts (ready 0x0B09 []) 0 { plain 0x0B09 0x0102 0 0 with objs := fun _ => [.sequencer] } (reqOf 0x0B09 []) [] ∧
    (ready 0x0B09 []).replay.mode = false :=
  ⟨accepts_of (by decide) (by decide) (by decide), by decide, accepts_of (by decide) (by decide) (by decide), by decide⟩
theorem witness_replayRecord : (replaying true State.reset).replay.running = true ∧ halted (replaying true State.reset) = false := by decide

/-! ### SpanCommandsComplete -/

/-- A request of `n` zero bytes with `bs` written at offset `a`. -/
def payloadAt (n a : Nat) (bs : List Byte) : List Byte := padTo n (zeros a ++ bs)
/-- Port 0 in state `st`, every domain ON. -/
def spanned (st : SpSt) (s : State) : State :=
  { setSpan s 0 { SpanPort0 with st := st, enabled := true } with
    pwr := { s.pwr with domains := (List.range 70).map (fun i => (i, { Domain0 with st := .on })) } }
/-- A SPAN_CONFIG that makes this node 5 and leaves every port as at reset. -/
def spanPayload : List Byte := leBytes 2 5 ++ zeros 6 ++ (List.range 8).flatMap (fun _ => [0, 0, 1, 3])
theorem witness_spanConfig : let s := ready 0x0C01 spanPayload
    let t := { s with seq := { s.seq with started := true } }
    Accepts s 0 specSpanConfig (reqOf 0x0C01 spanPayload) spanPayload ∧ s.seq.started = false ∧
    Accepts t 0 specSpanConfig (reqOf 0x0C01 spanPayload) spanPayload ∧ t.seq.started = true ∧ (5 : BitVec 11) ≠ t.span.node :=
  ⟨accepts_of (by decide) (by decide) (by decide), by decide, accepts_of (by decide) (by decide) (by decide), by decide, by decide⟩
theorem witness_spanApply : let s := spanned .disabled State.reset
    spanSame (getSpan State.reset 0) [1, 2, 1, 3] = false ∧ isOn s 51 = true ∧ spanSame (getSpan s 0) [0, 0, 1, 3] = false ∧
    spanSame (getSpan s 0) [1, 0, 1, 3] = true ∧ isOn State.reset 51 = false := by decide
theorem witness_spanRoute : let p := leBytes 2 7 ++ [1] ++ zeros 5 ++ leBytes 2 0xC001
    let t := setSpan (ready 0x0C02 p) 1 { SpanPort0 with version := 1 }
    Accepts (ready 0x0C02 p) 0 specSpanRoute (reqOf 0x0C02 p) p ∧ (getSpan (ready 0x0C02 p) 1).version ≠ 1 ∧
    Accepts t 0 specSpanRoute (reqOf 0x0C02 p) p ∧ bitOf 0xC001 14 = true ∧ (getSpan t (0xC001 % 8)).version = 1 :=
  ⟨accepts_of (by decide) (by decide) (by decide), by decide, accepts_of (by decide) (by decide) (by decide), by decide, by decide⟩
theorem witness_spanRetrain : let s := spanned .up (ready 0x0C03 (zeros 8))
    Accepts s 0 (specPort 0x0C03 0) (reqOf 0x0C03 (zeros 8)) (zeros 8) ∧ (getSpan s 0).st ≠ .disabled ∧
    Accepts (ready 0x0C03 (zeros 8)) 0 (specPort 0x0C03 0) (reqOf 0x0C03 (zeros 8)) (zeros 8) ∧
    (getSpan (ready 0x0C03 (zeros 8)) 0).st = .disabled :=
  ⟨accepts_of (by decide) (by decide) (by decide), by decide, accepts_of (by decide) (by decide) (by decide), by decide⟩
theorem witness_laneTest : let p := [0, 1, 2, 0x10] ++ zeros 12
    let q := payloadAt 16 6 [1]
    Accepts (spanned .up (ready 0x0C04 p)) 0 specLaneTest (reqOf 0x0C04 p) p ∧ bitsOf (fld1 p 3) 5 4 = 1 ∧
    Accepts (spanned .train (ready 0x0C04 p)) 0 specLaneTest (reqOf 0x0C04 p) p ∧
    Accepts (spanned .test (ready 0x0C04 q)) 0 specLaneTest (reqOf 0x0C04 q) q ∧ fld1 q 6 = 1 ∧
    (spanned .up (ready 0x0C04 p)).gh.version = 0x0203 ∧
    Accepts (ready 0x0C04 p) 0 specLaneTest (reqOf 0x0C04 p) p ∧ (getSpan (ready 0x0C04 p) 0).st = .disabled ∧
    Accepts (spanned .train (ready 0x0C04 q)) 0 specLaneTest (reqOf 0x0C04 q) q :=
  ⟨accepts_of (by decide) (by decide) (by decide), by decide, accepts_of (by decide) (by decide) (by decide),
    accepts_of (by decide) (by decide) (by decide), by decide, by decide, accepts_of (by decide) (by decide) (by decide), by decide,
    accepts_of (by decide) (by decide) (by decide)⟩
theorem witness_laneTest_old : let p := [0, 1, 2, 0x10] ++ zeros 12
    let s := spanned .up (ready 0x0C04 p)
    let t := { s with gh := { s.gh with version := 0x0202 } }
    Accepts t 0 specLaneTest (reqOf 0x0C04 p) p ∧ (getSpan t 0).st = .up ∧ t.gh.version < 0x0203 :=
  ⟨accepts_of (by decide) (by decide) (by decide), by decide, by decide⟩
theorem witness_spanRead : Accepts (ready 0x0C05 (zeros 8)) 0 (specPort 0x0C05 56) (reqOf 0x0C05 (zeros 8)) (zeros 8) :=
  accepts_of (by decide) (by decide) (by decide)
theorem witness_spanWindow : let p := leBytes 8 0x10000000 ++ leBytes 4 1 ++ zeros 4
    Accepts (ready 0x0C06 p) 0 specSpanWindow (reqOf 0x0C06 p) p := accepts_of (by decide) (by decide) (by decide)
theorem witness_spanCopy : let p := leBytes 2 3 ++ zeros 2 ++ leBytes 4 9 ++ leBytes 8 0x10000000 ++ zeros 8 ++ leBytes 4 64 ++ zeros 4
    Accepts (ready 0x0C07 p) 0 specSpanCopy (reqOf 0x0C07 p) p := accepts_of (by decide) (by decide) (by decide)

/-! ### SpanBringUpCompletes -/

theorem witness_spanBringUp : (getSpan (spanned .train State.reset) (0 : Fin 8)).st = .train ∧
    (getSpan (spanned .caps State.reset) (0 : Fin 8)).st = .caps ∧ laneCount (getSpan (spanned .caps State.reset) (0 : Fin 8)).lanes = 0 ∧
    max (getSpan (spanned .caps State.reset) (0 : Fin 8)).vmin 1 ≤ min (getSpan (spanned .caps State.reset) (0 : Fin 8)).vmax 3 ∧
    min (getSpan (spanned .caps State.reset) (0 : Fin 8)).vmax 0 < max (getSpan (spanned .caps State.reset) (0 : Fin 8)).vmin 0 ∧
    (getSpan (spanned .up State.reset) (0 : Fin 8)).st = .up ∧
    now (spanned .train State.reset) < (getSpan (spanned .train State.reset) (0 : Fin 8)).trainAt + 2000000 := by decide
theorem witness_trainTimeout : let s := { spanned .train State.reset with time := { Timekeeping0 with ks := 2000000#88 <<< 24 } }
    (getSpan s (0 : Fin 8)).trainAt + 2000000 ≤ now s := by decide
theorem witness_lockLoss : let s := setSpan State.reset 0 { SpanPort0 with st := .up, lanes := 3 }
    (getSpan s (0 : Fin 8)).st = .up ∧ (1 : BitVec 4) &&& (getSpan s (0 : Fin 8)).lanes ≠ 0 ∧
    (4 : BitVec 4) &&& (getSpan s (0 : Fin 8)).lanes = 0 := by decide

/-! ### SpanFramesComplete -/

/-- A NULL frame acknowledging sequence 4095, with the credits of reset. -/
def nullFrame : List Byte := spFrame SpanPort0 2 false []
/-- A DATA frame of sequence 0 holding one SIGNAL message. -/
def dataFrame : List Byte := spFrame SpanPort0 5 false (msgHead 2 true false 0 1 3 0 0 0)
/-- A frame of no type. -/
def oddFrame : List Byte := spFrame SpanPort0 3 false []
set_option maxRecDepth 4000 in
theorem witness_nullFrame : nullFrame.length = 256 ∧ crc32 (nullFrame.take 252) = fld nullFrame 252 4 ∧ fld nullFrame 12 2 ≤ 236 ∧
    fld1 nullFrame 0 % 4 = 2 := by decide +kernel
set_option maxRecDepth 4000 in
theorem witness_oddFrame : oddFrame.length = 256 ∧ crc32 (oddFrame.take 252) = fld oddFrame 252 4 ∧ fld oddFrame 12 2 ≤ 236 ∧
    fld1 oddFrame 0 % 4 = 3 := by decide +kernel
set_option maxRecDepth 4000 in
theorem witness_dataFrame : let s := spanned .up State.reset
    dataFrame.length = 256 ∧ crc32 (dataFrame.take 252) = fld dataFrame 252 4 ∧ fld dataFrame 12 2 ≤ 236 ∧
    fld1 dataFrame 0 % 4 = 1 ∧ bitsOf (fld1 dataFrame 0) 3 2 = 1 ∧ s.replay.mode = false ∧ (getSpan s 0).st = .up ∧
    BitVec.ofNat 12 (fld dataFrame 2 2) = (getSpan s 0).rxSeq := by decide +kernel
theorem witness_outOfSequence : let s := setSpan State.reset 0 { SpanPort0 with st := .up, rxSeq := 1 }
    (getSpan s 0).st = .up ∧ (getSpan s 0).rxSeq ≠ 0 ∧ (getSpan State.reset 0).st ≠ .up := by decide
theorem witness_replayTimeout : let s0 := setSpan State.reset 0 { SpanPort0 with st := .up, replay := [⟨0, [], 0, 0⟩], rxOwed := 1 }
    let s := { s0 with time := { Timekeeping0 with ks := 10000#88 <<< 24 } }
    (getSpan s (0 : Fin 8)).replay = [⟨0, [], 0, 0⟩] ∧ 0 + 10000 ≤ now s ∧ (getSpan s (0 : Fin 8)).st = .up ∧ now s0 < 0 + 10000 ∧
    0 < (getSpan s (0 : Fin 8)).rxOwed ∧ (getSpan State.reset (0 : Fin 8)).rxOwed = 0 ∧
    (getSpan State.reset (0 : Fin 8)).creditOwed = false ∧ (getSpan State.reset (0 : Fin 8)).replay = [] := by decide

/-! ### SpanMessagesComplete -/

/-- A port that is UP with the message `m` waiting. -/
def messaged (m : List Byte) : State := setSpan State.reset 0 { SpanPort0 with st := .up, rxq := [⟨1, 1, m⟩] }
theorem witness_messages : (takeMsg 0 (fun m => msgType m == 1 && (false || msgDst m == 0)) (messaged (msgHead 1 true false 0 1 3 0 0 0))).isSome = true ∧
    (takeMsg 0 (fun m => msgType m == 2 && (false || msgDst m == 0)) (messaged (msgHead 2 true false 0 1 3 0 0 0))).isSome = true ∧
    (takeMsg 0 (fun m => msgType m == 5 && (false || msgDst m == 0)) (messaged (msgHead 5 true false 0 1 3 0 0 0))).isSome = true ∧
    (takeMsg 0 (fun m => [1, 2, 5].contains (msgType m) && msgDst m != 0) (messaged (msgHead 1 true false 9 1 3 0 0 0))).isSome = true ∧
    (takeMsg 0 (fun m => msgType m == 1 && (false || msgDst m == 0)) State.reset).isNone = true := by
  decide
/-- A crossing of number 5 under a table whose landing flag 3 has a buffer of two regions; flags set as listed. -/
def landing (fs : List (Nat × Nat)) : State :=
  let s := inBay .load .running
  { s with
    imgs := [(0, { ImgSlot0 with st := .committed, img := { Image0 with ratings := [{ Rating0 with places := [⟨3, false, 4, 0, 0, 0x20000⟩] }] } })],
    seq := { s.seq with crossing := 5, flags := fs } }
theorem witness_landings : let w (x : Nat) (fin : Bool) (off : Nat) := msgHead 1 fin false 0 1 3 x off 0
    landingPlace (landing []) 3 = some ⟨3, false, 4, 0, 0, 0x20000⟩ ∧ landingPlace (landing []) 4 = none ∧
    (landMsg 0 (w 7 true 0) (landing [])).isNone = true ∧ (landMsg 0 (w 4 true 0) (landing [])).isSome = true ∧
    (landMsg 0 (w 6 false 0x10000) (landing [])).isSome = true ∧ (landMsg 0 (w 6 false 0x10001) (landing [])).isSome = true ∧
    (landing [(3, 0)]).seq.flags.contains (3, 0) = true ∧ (landing []).seq.flags.contains (3, 0) = false ∧
    msgFin (w 6 true 0) = true := by decide
theorem witness_landAsleep : let m := msgHead 1 true false 0 1 3 6 0 1 ++ [7]
    landAsleep (landing []) m = true ∧ landAsleep (landing []) (msgHead 1 true false 0 1 3 6 0 0) = false := by decide
theorem witness_window : let s := { State.reset with span := { State.reset.span with winMib := 1 } }
    s.span.winMib ≠ 0 ∧ 0xFFFFF + 1 ≤ s.span.winMib * 2 ^ 20 ∧ s.span.winMib * 2 ^ 20 < 0x100000 + 1 ∧ State.reset.span.winMib = 0 := by decide

/-! ### KeystoneExchangeCompletes -/

/-- A follower whose parent is port 0, with `m` waiting there. -/
def following (m : List Byte) : State :=
  { messaged m with time := { Timekeeping0 with role := .follower, parent := some 0, st := .acquire } }
theorem witness_neighborMsg : (takeMsg 0 (fun m => msgType m == 4) (messaged (neighborMsg State.reset 0))).isSome = true ∧
    (takeMsg 0 (fun m => msgType m == 3) (following (syncFu 1 1 64))).isSome = true ∧
    (following (syncFu 1 1 64)).time.parent = some 0 := by decide
theorem witness_neighborSend : now State.reset < 1000000 ∧ (getSpan (messaged []) 0).st = .up := by decide
theorem witness_syncDue : State.reset.time.lastExch = none ∧ now { State.reset with time := { Timekeeping0 with lastExch := some 0 } } < 100000 ∧
    (getSpan (following []) (0 : Fin 8)).st = .up ∧ (following []).time.role = .follower ∧
    (getSpan (setSpan (following []) 1 { SpanPort0 with st := .up }) (1 : Fin 8)).st = .up ∧ State.reset.time.role = .off := by decide
theorem witness_syncFu : (takeMsg 0 (fun m => msgType m == 3) (messaged (syncFu 1 1 64))).isSome = true ∧
    (messaged (syncFu 1 1 64)).time.role ≠ .follower ∧ (following (syncFu 1 1 64)).time.t1 = none ∧
    (takeMsg 0 (fun m => msgType m == 3) State.reset).isNone = true := by decide
theorem witness_fixedParent : let s := setSpan State.reset 2 { SpanPort0 with st := .up, neigh := some ⟨1, 0, 0⟩ }
    chooseParent { s with time := { Timekeeping0 with fixedParent := some 2 } } = some (2, ⟨1, 0, 0⟩) ∧ chooseParent State.reset = none := by decide
theorem witness_chooseParent : chooseParent (setSpan State.reset 2 { SpanPort0 with st := .up, neigh := some ⟨1, 0, 0⟩ }) = some (2, ⟨1, 0, 0⟩) := by
  decide
theorem witness_syncExchange : let s := { messaged [] with time := { Timekeeping0 with role := .grandmaster } }
    s.time.role = .grandmaster ∧ (∀ p, 1 ≤ p → p < 8 → (getSpan s p).st ≠ .up) ∧ (getSpan s 0).st = .up := by
  refine ⟨by decide, ?_, by decide⟩
  intro p h1 h2
  interval_cases p <;> decide
theorem witness_exchangeDone : State.reset.time.st = .unsync ∧ State.reset.seq.started = false ∧ State.reset.seq.launchArmed = none ∧
    128000 < (128001 : Int).natAbs ∧ (following []).time.st = .acquire := by decide

/-! ### PowerHandshakeCompletes -/

/-- Domain `d` with the contents `x`, and the keystone count at `ns`. -/
def domained (d : Nat) (x : Domain) (ns : Nat) : State :=
  { setDom State.reset d x with time := { Timekeeping0 with ks := BitVec.ofNat 88 (ns * 2 ^ 24) } }
/-- A domain that is ON and asked to enter RETENTION. -/
def asked (again : Option Nat) (delay : Nat) : Domain := { Domain0 with st := .on, prep := some ⟨.retention, 0, delay, again, false⟩ }
theorem witness_prepareAnswer : (getDom (domained 5 (asked none 0) 0) (5 : Fin 76)).prep = some ⟨.retention, 0, 0, none, false⟩ ∧
    mustRefuse (domained 5 (asked none 0) 0) (5 : Fin 76) .retention = false ∧ isMc 5 = false ∧
    mustRefuse (domained 62 (asked none 0) 0) (62 : Fin 76) .retention = false ∧ isMc 62 = true ∧
    mustRefuse (domained 60 (asked none 0) 0) (60 : Fin 76) .retention = false ∧
    mustRefuse (domained 63 (asked none 0) 0) (63 : Fin 76) .retention = !State.reset.host.perst := by decide
theorem witness_prepareRefuse : mustRefuse { domained 60 (asked none 0) 0 with seq := { State.reset.seq with started := true } } 60 .retention = true := by
  decide
theorem witness_prepareTimeout : 0 + 10000 ≤ now (domained 5 (asked none 0) 10000) ∧
    (getDom (domained 5 (asked (some 7000) 100001) 7000) (5 : Fin 76)).prep = some ⟨.retention, 0, 100001, some 7000, false⟩ ∧
    7000 ≤ now (domained 5 (asked (some 7000) 100001) 7000) := by decide
theorem witness_onDemandWake : isMc (59 : Fin 76) = true ∧ (getDom State.reset 59).fused = false ∧
    (getDom (domained 59 Domain0 0) 59).st = .off ∧ isBank (64 : Fin 76) = true ∧
    State.reset.steward.trip = false ∧ State.reset.rst.pfail = false := by decide
theorem witness_wakeComplete : (getDom (domained 5 { Domain0 with st := .transition } 0) (5 : Fin 76)).st = .transition ∧
    (getDom (domained 51 { Domain0 with st := .transition } 0) (51 : Fin 76)).st = .transition ∧
    (getDom (domained 59 { Domain0 with st := .transition } 0) (59 : Fin 76)).st = .transition ∧ isMc (59 : Fin 76) = true ∧
    isMc (5 : Fin 76) = false ∧ wakesOnDemand 5 = false ∧ (getDom (domained 5 Domain0 0) 5).st ≠ .on := by decide
theorem witness_mc3Idle : let s := domained 62 { Domain0 with st := .on } 100000
    tollGroup s = 62 ∧ (getDom s 62).policy = 0 ∧ (getDom s 62).st = .on ∧ (getDom s 62).prep = none ∧ (getDom s 62).fused = false ∧
    s.grade ≠ .c ∧ tollGroup { s with grade := .c } = 60 ∧
    s.mem.tollAt + 100000 ≤ now s := by decide

/-! ### PowerCommandsComplete -/

theorem witness_pwrSet : let p := [5, 1, 0, 0, 0, 0, 0, 0]
    Accepts (ready 0x0D03 p) 0 specPwrSet (reqOf 0x0D03 p) p ∧
    ¬ (∃ e d, e < p.length / 8 ∧ 2 ≤ pwPol p e ∧ d ∈ pwTargets p e ∧ ratingNeeds (ready 0x0D03 p) d = true) ∧
    ¬ (∃ e, e < p.length / 8 ∧ pwPol p e = 3 ∧ isMc (pwDom p e) = true ∧ mcHolds (ready 0x0D03 p) (pwDom p e) = true) := by
  refine ⟨accepts_of (by decide) (by decide) (by decide), ?_, ?_⟩
  · rintro ⟨e, d, h1, h2, -⟩
    have : e = 0 := by simp at h1; omega
    subst this; revert h2; decide
  · rintro ⟨e, h1, h2, -⟩
    have : e = 0 := by simp at h1; omega
    subst this; revert h2; decide
theorem witness_pwrSet_running : let p := [1, 3, 0, 0, 0, 0, 0, 0]
    let s := setGirder 0 { getGirder (ready 0x0D03 p) 0 with bound := true, logical := 0 } { ready 0x0D03 p with
      imgs := [(0, { ImgSlot0 with st := .committed, img := { Image0 with ratings := [{ Rating0 with girders := 1 }] } })],
      seq := { State.reset.seq with started := true, rated := true } }
    Accepts s 0 specPwrSet (reqOf 0x0D03 p) p ∧ 2 ≤ pwPol p 0 ∧ 1 ∈ pwTargets p 0 ∧ ratingNeeds s 1 = true :=
  ⟨accepts_of (by decide) (by decide) (by decide), by decide, by decide, by decide⟩
theorem witness_pwrSet_held : let p := [62, 3, 0, 0, 0, 0, 0, 0]
    let s := { ready 0x0D03 p with gh := { (ready 0x0D03 p).gh with allocs := [⟨256, 1⟩] } }
    Accepts s 0 specPwrSet (reqOf 0x0D03 p) p ∧ rates s = false ∧
    pwPol p 0 = 3 ∧ isMc (pwDom p 0) = true ∧ mcHolds s (pwDom p 0) = true :=
  ⟨accepts_of (by decide) (by decide) (by decide), by decide, by decide, by decide, by decide⟩
theorem witness_pwrApply : (getDom State.reset 5).fused = false ∧ (getDom (domained 5 Domain0 0) 5).st = .off ∧
    (domained 5 Domain0 0).steward.trip = false ∧ (domained 5 Domain0 0).rst.pfail = false ∧
    (getDom (domained 5 { Domain0 with st := .on } 0) 5).st = .on ∧ (getDom (domained 5 { Domain0 with st := .on } 0) 5).prep = none ∧
    (getDom (domained 5 { Domain0 with st := .retention } 0) 5).st = .retention := by decide
theorem witness_pwrRead : let r := reqFar 0x0D04 []
    Accepts (posed State.reset r) 0 (plain 0x0D04 0x0100 0 864) r [] := accepts_of (by decide) (by decide) (by decide)
theorem witness_pwrPadRelease : let p := [5] ++ zeros 7
    Accepts (ready 0x0D05 p) 0 { plain 0x0D05 0x0202 8 0 with
      rsv := fun _ => [rsvAll 1 7], ranges := fun _ p => rangesOf [(decide (fld1 p 0 < 64), 0)] } (reqOf 0x0D05 p) p :=
  accepts_of (by decide) (by decide) (by decide)
/-- The fields of STEWARD_CONFIG: 100 W, throttling at 85 C, an alert at 95 C. -/
def stewardPayload : List Byte := leBytes 2 100 ++ [0, 1] ++ leBytes 2 1360 ++ leBytes 2 1520 ++ [10, 10] ++ leBytes 2 64 ++ zeros 2 ++
  leBytes 2 100 ++ leBytes 2 850 ++ [20] ++ zeros 13
theorem witness_stewardConfig : Accepts (ready 0x0D01 stewardPayload) 0 specStewardConfig (reqOf 0x0D01 stewardPayload) stewardPayload :=
  accepts_of (by decide) (by decide) (by decide)
theorem witness_stewardFix : let p := [1, 0] ++ leBytes 2 700 ++ zeros 4
    let s := ready 0x0D02 p
    Accepts s 0 specStewardFix (reqOf 0x0D02 p) p ∧ s.seq.started = false ∧
    Accepts { s with seq := { s.seq with started := true } } 0 specStewardFix (reqOf 0x0D02 p) p :=
  ⟨accepts_of (by decide) (by decide) (by decide), by decide, accepts_of (by decide) (by decide) (by decide)⟩
theorem witness_applyFix : let s := { State.reset with
      imgs := [(0, { ImgSlot0 with st := .committed, img := { Image0 with ratings := [{ Rating0 with idx := 2, vfloor := 700 }] } })],
      seq := { State.reset.seq with started := true } }
    let p (v : Nat) := [2, 0] ++ leBytes 2 v ++ zeros 4
    s.seq.started = true ∧ ((eligibleRatings s).find? (fun r => r.idx == fld1 (p 700) 0)).map (fun r => r.vfloor) = some 700 ∧
    700 ≤ fld (p 700) 2 2 ∧ fld (p 690) 2 2 < 700 ∧
    (eligibleRatings s).find? (fun r => r.idx == fld1 [3, 0] 0) = none := by decide

/-! ### StewardEventsComplete -/

theorem witness_vddSettled : let s := { State.reset with steward := { State.reset.steward with settled := false, vdd := 750 } }
    s.steward.settled = false ∧ s.steward.vdd ≤ (750#16).toNat ∧ s.steward.settleAt + 1000 * swSettle s.steward.cfg ≤
      now { s with time := { Timekeeping0 with ks := 20000000#88 <<< 24 } } ∧ unstarted s = false := by decide
/-- A crossing of a rating of 4 bays that has begun, its voltage raised 20 ms before and not reached; the rating is not the one
that the steward chooses. -/
theorem witness_vddTimeout : let s := { State.reset with
      steward := { State.reset.steward with settled := false, vdd := 800 },
      seq := { State.reset.seq with active := true, started := true, rated := true, rating := 3 },
      imgs := [(0, { ImgSlot0 with st := .committed, img := { Image0 with ratings := [{ Rating0 with idx := 2, periodNs := 1000 }] } })],
      time := { Timekeeping0 with ks := 20000000#88 <<< 24 } }
    s.steward.settled = false ∧ s.steward.settleAt + 1000 * swSettle s.steward.cfg ≤ now s ∧ unstarted s = true ∧
    (fixedPair s).isNone = true ∧ (eligibleRatings s).map (fun r => r.idx) = [2] := by decide
theorem witness_sensorUpdate : ([(400#16)] : List (BitVec 16))[0]? = some 400#16 ∧ ([(7#48)] : List (BitVec 48))[0]? = some 7#48 ∧
    1 ∈ allDomains ∧ (getDom State.reset 1).fused = false := by decide

/-! ### MemoryErrorsComplete -/

theorem witness_memoryErrors : ceInterval State.reset = State.reset.mem.intervalNo ∧
    ceInterval { State.reset with mem := { State.reset.mem with intervalNo := 1 } } ≠ 1 ∧
    deckAddr State.reset 0 0 / 64 * 64 < deckEnd State.reset ∧ inPool State.reset 0 = false ∧
    deckEnd State.reset ≤ deckAddr State.reset 11 (2 ^ 35 - 1) / 64 * 64 ∧ deckChans State.reset = 12 ∧ tollChans State.reset = 4 ∧
    deckChans { State.reset with grade := .c } = 6 ∧ tollChans { State.reset with grade := .c } = 2 ∧
    inPool { State.reset with imgs := [(0, { ImgSlot0 with st := .committed, kv := { (ImgSlot0).kv with base := 0, pages := 1 } })] } 0 = true ∧
    (Tab.get Region0 (regionsToDeck [0] State.reset).deck.regions 0).deck = true := by decide

/-! ### DiagnosticsCommandsComplete -/

theorem witness_unitTest : let s := ready 0x1001 []
    let c := { plain 0x1001 0x0100 0 0 with objs := fun _ => [.units, .sequencer] }
    Accepts s 0 c (reqOf 0x1001 []) [] ∧ s.seq.started = false ∧
    Accepts { s with seq := { s.seq with started := true } } 0 c (reqOf 0x1001 []) [] :=
  ⟨accepts_of (by decide) (by decide) (by decide), by decide, accepts_of (by decide) (by decide) (by decide)⟩
theorem witness_testGirder : girderPresent State.reset 31 = true ∧ girderPresent { State.reset with grade := .b } 31 = false ∧
    clusterPresent State.reset 7 = true ∧ clusterPresent { State.reset with grade := .c } 7 = false ∧
    (repairRows (List.replicate 16 (3, 0)) [(3, 5)]).2 = true ∧ (repairRows (List.replicate 15 (3, 0)) [(3, 5)]).2 = false ∧
    sparesOf (List.replicate 16 (3, 0)) 3 = 16 := by decide
theorem witness_unitMap : let r := reqFar 0x1002 []
    Accepts (posed State.reset r) 0 (plain 0x1002 0x0100 0 328) r [] ∧
    Accepts (ready 0x1007 []) 0 (plain 0x1007 0x0100 0 136) (reqOf 0x1007 []) [] :=
  ⟨accepts_of (by decide) (by decide) (by decide), accepts_of (by decide) (by decide) (by decide)⟩

/-! ### BootCommandsComplete -/

theorem witness_fwUpdate : let p := leBytes 8 0x10000000 ++ leBytes 4 64 ++ zeros 4
    let s := ready 0x0E01 p
    Accepts s 0 specFwUpdate (reqOf 0x0E01 p) p ∧ s.sec.fw.seq ≠ 0xFFFFFFFE ∧
    Accepts { s with sec := { s.sec with fw := { Firmware0 with seq := 0xFFFFFFFE } } } 0 specFwUpdate (reqOf 0x0E01 p) p :=
  ⟨accepts_of (by decide) (by decide) (by decide), by decide, accepts_of (by decide) (by decide) (by decide)⟩
theorem witness_fwInfo : Accepts (ready 0x0E02 []) 0 (plain 0x0E02 0x0100 0 112) (reqOf 0x0E02 []) [] :=
  accepts_of (by decide) (by decide) (by decide)
/-- A command of mailbox 0 under way, finished with OK. -/
def finished (op : Nat) : Running := ⟨0, op, [], [], false, 0, some (0, 0, leBytes 1 1 ++ zeros 3 ++ leBytes 4 1)⟩
theorem witness_attest : let r := reqFar 0x0F01 (zeros 32)
    let c := { plain 0x0F01 0x0201 32 0 with resp := fun s _ => attestLen s }
    let s := posed State.reset r
    Accepts s 0 c r (zeros 32) ∧ s.gh.running = [] ∧
    Accepts { s with gh := { s.gh with running := [finished 0x0E01] } } 0 c r (zeros 32) :=
  ⟨accepts_of (by decide) (by decide) (by decide), by decide, accepts_of (by decide) (by decide) (by decide)⟩
theorem witness_resetCmd : let p := [1] ++ zeros 7
    let s := ready 0x1101 p
    let t := { s with gh := { s.gh with mbx := s.gh.mbx ++ [(1, { Mbx0 with st := .busy })] } }
    Accepts s 0 specReset (reqOf 0x1101 p) p ∧ (∀ e ∈ s.gh.mbx, e.1 ≠ (0 : Fin 16).val → e.2.st ≠ .busy) ∧
    Accepts t 0 specReset (reqOf 0x1101 p) p ∧ bitOf (fld1 p 1) 0 = false ∧ (1, { Mbx0 with st := MbxSt.busy }) ∈ t.gh.mbx :=
  ⟨accepts_of (by decide) (by decide) (by decide), by decide, accepts_of (by decide) (by decide) (by decide), by decide, by decide⟩
theorem witness_commandComplete : let s := { State.reset with gh := { State.reset.gh with running := [finished 0x1001] } }
    s.gh.running.find? (fun r => r.mbx = (0 : Fin 16).val) = some (finished 0x1001) ∧
    (∀ y ∈ s.gh.running, y.mbx = (0 : Fin 16).val → y.op ≠ 0x0E01) ∧ State.reset.gh.running = [] ∧ State.reset.gh.order.head? ≠ some (0 : Fin 16).val ∧
    [finished 0x0E01].find? (fun r => r.mbx == (0 : Fin 16).val && r.op == 0x0E01) = some (finished 0x0E01) := by decide
theorem witness_undefinedOpcode : let s := ready 0x7777 []
    s.gh.running = [] ∧ s.gh.order.head? = some (0 : Fin 16).val ∧ ((getMbx s 0).cmd.map (fun r => r.op)) = some 0x7777 ∧
    0x7777 ∉ opcodes := by decide
theorem witness_fwRefusal : fwRefusal State.reset (zeros 64) = some 0x0022 ∧ crc32 [] = (0 : BitVec 32).toNat ∧
    State.reset.rst.warm = none ∧ State.reset.gh.warmAt = none := by decide
theorem witness_romRecoveryLoad : State.reset.sec.boot ≠ .recovery ∧
    { State.reset with sec := { State.reset.sec with boot := BootSt.recovery } }.sec.boot = .recovery := by decide

/-! ### ResetsComplete -/

theorem witness_resets : State.reset.sec.boot = .held ∧
    { State.reset with time := { Timekeeping0 with internal := false } }.time.internal = false ∧
    fwRuns { State.reset with sec := { State.reset.sec with boot := .firmware } } = true ∧ State.reset.rst.warm = none ∧
    State.reset.steward.trip = false ∧ State.reset.rst.pfail = false ∧ girderPresent { State.reset with grade := .b } 31 = false ∧
    clusterPresent { State.reset with grade := .c } 7 = false := by decide
theorem witness_coldReset : (∀ n, n < 32 → girderPresent State.reset n = true) ∧ (∀ k, k < 8 → clusterPresent State.reset k = true) ∧
    State.reset.grade ≠ .c := by decide
theorem witness_warmReset : let s := { State.reset with gh := { State.reset.gh with warmAt := some (0, 1) } }
    s.gh.warmAt = some (0, 1) ∧ 0 ≤ now s ∧ s.rst.warm = none ∧ s.steward.trip = false ∧ s.rst.pfail = false ∧
    now { s with gh := { s.gh with warmAt := some (5, 1) } } < 5 ∧
    overdue { s with rst := { s.rst with warm := some (1, 0) }, time := { Timekeeping0 with ks := 2000000000#88 <<< 24 } } = true ∧
    threeBites { s with rst := { s.rst with warm := some (1, 0), bites := [0, 0, 0] } } = true ∧
    (threeBites { s with rst := { s.rst with warm := some (1, 0) } } = false ∧
      overdue { s with rst := { s.rst with warm := some (1, 0) } } = false) := by
  decide
theorem witness_powerFail : { State.reset with rst := { State.reset.rst with pfail := true } }.rst.pfail = true ∧
    1 ∈ allDomains ∧ (getDom State.reset 1).fused = false ∧ fwRuns State.reset = false := by decide
theorem witness_firmware : let s := { State.reset with sec := { State.reset.sec with boot := .loaded } }
    s.sec.boot = .loaded ∧ s.rst.pfail = false ∧ s.rst.warm = none ∧
    { s with rst := { s.rst with warm := some (1, 0), lw := some [] } }.rst.warm ≠ none ∧
    { s with rst := { s.rst with warm := some (1, 0), lw := some [] } }.rst.lw = some [] ∧
    { s with sec := { s.sec with boot := BootSt.firmware } }.sec.boot = .firmware ∧ s.sec.fw.secVersion ≤ 64 := by decide

/-! ### MonitorCommandsComplete -/

/-- A device whose firmware runs, in the lifecycle of code `code`, with owner slot `i` programmed for each `i` of `ks`. -/
def monitored (code : Byte) (ks : List Nat) : State :=
  let keys := ks.foldl (fun t i => Tab.set 0 t (0x80 + 32 * i) 1) []
  { State.reset with sec := { State.reset.sec with boot := .ready, otp := Tab.set 0 keys 0x101 code } }
theorem witness_monitor : fwRuns (monitored 0 []) = true ∧ catLevel (monitored 0 []) = 2 ∧ lockedOut (monitored 0 []) = false ∧
    catRange (monitored 0 []) 0x10000000 8 = true ∧ catRange (monitored 1 []) 0 8 = false ∧
    otpProgrammed (monitored 0 []).sec.otp 1 0 = false ∧
    otpProgrammed (monitored 1 [0, 1]).sec.otp 1 0 = true ∧ liveSlots (monitored 1 [0, 1]) 1 ≠ [0] ∧ lifecycle (monitored 1 [0, 1]) = 1 ∧
    liveSlots (monitored 1 [0]) 1 = [0] ∧ catLevel (monitored 1 [0]) = 2 ∧ catLevel (monitored 3 [0]) = 0 ∧
    lifecycle (monitored 0 []) ≠ 1 ∧ lifecycle (monitored 0 []) ≠ 2 ∧ fwRuns State.reset = false ∧
    { State.reset with sec := { State.reset.sec with boot := BootSt.recovery } }.sec.boot = .recovery := by decide
theorem witness_unlock : let s := { monitored 3 [0] with sec := { (monitored 3 [0]).sec with challenge := some [] } }
    s.sec.challenge = some [] ∧ (monitored 3 [0]).sec.challenge = none ∧
    lockedOut { s with sec := { s.sec with lockout := some 5 } } = true := by decide

/-! ### RegisterWritesComplete -/

theorem witness_registerWrites : (0x103#16).toNat % 4 ≠ 0 ∧ (0x108#16).toNat ≠ 0x100 ∧ (0x108#16).toNat < 0x1000 ∧
    (1#64).getLsbD 29 = false ∧ (2#64).getLsbD 0 = false ∧ 63 < 64 ∧ 255 < 256 ∧ (3 : Nat) < 4 := by decide

/-! ### CounterStepsByOne -/

theorem witness_counterSteps : let s := setPu State.reset 0 { Pu0 with cfg := [2] ++ zeros 31, count := 0xFFFFFFFFFF }
    s.replay.mode = false ∧ (getPu s (0 : Fin 4)).wireBad = 0 ∧ (getPu s (0 : Fin 4)).refPending = false ∧
    puRefSrc (getPu s (0 : Fin 4)).cfg ≠ 3 ∧ puFilt (getPu s (0 : Fin 4)).cfg ≤ (15#4).toNat ∧
    decodeDir (getPu s (0 : Fin 4)).cfg (getPu s (0 : Fin 4)).a (getPu s (0 : Fin 4)).b true false = 1 ∧
    decodeDir (getPu s (0 : Fin 4)).cfg (getPu s (0 : Fin 4)).a (getPu s (0 : Fin 4)).b false true = -1 := by decide

/-! ### QueuesThroughResets -/

theorem witness_queuesThroughResets : let s := { State.reset with gh := { State.reset.gh with warmAt := some (0, 1) } }
    s.gh.warmAt = some (0, 1) ∧ 0 ≤ now s ∧ s.steward.trip = false ∧ s.rst.pfail = false ∧
    { s with rst := { s.rst with pfail := true } }.rst.pfail = true ∧
    { s with rst := { s.rst with warm := some (1, 0) } }.rst.warm ≠ none ∧
    overdue { s with rst := { s.rst with warm := some (1, 0) }, time := { Timekeeping0 with ks := 2000000000#88 <<< 24 } } = true := by
  decide

/-! ### IntegerContractionIsExact -/

theorem witness_perm : [(1 : Int), 2].Perm [2, 1] := by decide

/-! ### CountersSaturate -/

theorem witness_countersSaturate : Ctr0.n ≤ 2 ^ 31 - 1 ∧ (⟨true, 5⟩ : Ctr).n ≤ 2 ^ 31 - 1 := by decide

/-! ### MaximumAndMinimum -/

theorem witness_maximum : f32 0x7F800001 = .nan ∧ (Ext.fin 0) ≠ .nan ∧ Ext.negZero ≠ .nan := by decide

end Sys2Proof.Tests
end

section
/-! SUPPORT. Host writes to BAR0 and to the write-one-to-clear words: what a 4-byte write does at each offset, and which
bits of the 64-bit operand each field takes.
-/

namespace Sys2Proof

/-- A table read after a write to another key, whatever default each of the two uses. -/
theorem Tab.get_set_ne_default {α : Type} [DecidableEq α] (d e : α) (t : Tab α) (i : Nat) (v : α) (j : Nat) (h : j ≠ i) :
    Tab.get e (Tab.set d t i v) j = Tab.get e t j := by
  induction t with
  | nil => by_cases hv : v = d <;> simp [Tab.set, Tab.get, hv, h]
  | cons c r ih =>
    obtain ⟨k, w⟩ := c
    rcases lt_trichotomy i k with hik | rfl | hik
    · by_cases hv : v = d
      · simp [Tab.set, hik, hik.ne, hv]
      · rcases h.lt_or_gt with hj | hj
        · simp [Tab.set, Tab.get, hik, hik.ne, hv, h, hj, hj.trans hik, (hj.trans hik).ne]
        · simp [Tab.set, Tab.get, hik, hik.ne, hv, h, hj.not_gt]
    · by_cases hv : v = d
      · rcases h.lt_or_gt with hj | hj
        · simp [Tab.set, Tab.get, Tab.get_filter, hv, h, hj, hj.le]
        · simp [Tab.set, Tab.get, Tab.get_filter, hv, h, hj.not_gt, hj.not_ge]
      · simp [Tab.set, hv, Tab.get, h]
    · simp only [Tab.set, hik.ne', hik.not_gt, if_false, Tab.get, ih]

end Sys2Proof

namespace Sys2Proof.Machine

/-! ## Fields of the word written -/

/-- The word a 4-byte write carries: the low half of the operand. -/
def lowWord (v : BitVec 64) : Nat := v.toNat % 2 ^ 32

theorem lowWord_lt (v : BitVec 64) : lowWord v < 2 ^ 32 := Nat.mod_lt _ (by decide)

theorem bitOf_toNat {n : Nat} (v : BitVec n) (i : Nat) : bitOf v.toNat i = v.getLsbD i := rfl

theorem bitOf_lowWord (v : BitVec 64) (i : Nat) (h : i < 32) : bitOf (lowWord v) i = v.getLsbD i := by
  simp only [bitOf, lowWord, Nat.testBit_mod_two_pow, h, decide_true, Bool.true_and]; rfl

theorem ofNat_div_two_pow {n : Nat} (v : BitVec n) (k len : Nat) :
    BitVec.ofNat len (v.toNat / 2 ^ k) = v.extractLsb' k len := by
  rw [← Nat.shiftRight_eq_div_pow]; rfl

theorem ofNat_lowWord_div (v : BitVec 64) (k len : Nat) (h : k + len ≤ 32) :
    BitVec.ofNat len (lowWord v / 2 ^ k) = v.extractLsb' k len := by
  rw [lowWord, ← BitVec.toNat_setWidth, ofNat_div_two_pow, BitVec.extractLsb'_setWidth_of_le h]

theorem ofNat_lowWord (v : BitVec 64) (len : Nat) (h : len ≤ 32) : BitVec.ofNat len (lowWord v) = v.extractLsb' 0 len := by
  have := ofNat_lowWord_div v 0 len (by omega)
  rwa [pow_zero, Nat.div_one] at this

/-- The concatenation of two words as one number. -/
theorem toNat_append_eq_add {m n : Nat} (a : BitVec m) (b : BitVec n) : (a ++ b).toNat = a.toNat * 2 ^ n + b.toNat := by
  rw [BitVec.toNat_append, ← Nat.shiftLeft_add_eq_or_of_lt b.isLt, Nat.shiftLeft_eq]

theorem half64_low (x v : BitVec 64) :
    half64 false x (lowWord v) = x.extractLsb' 32 32 ++ v.extractLsb' 0 32 := by
  apply BitVec.eq_of_toNat_eq
  rw [toNat_append_eq_add, ← ofNat_div_two_pow, ← ofNat_lowWord v 32 le_rfl]
  have hx := x.isLt
  have hv := lowWord_lt v
  simp only [half64, Bool.false_eq_true, if_false, BitVec.toNat_ofNat]
  omega

theorem half64_high (x v : BitVec 64) :
    half64 true x (lowWord v) = v.extractLsb' 0 32 ++ x.extractLsb' 0 32 := by
  apply BitVec.eq_of_toNat_eq
  rw [toNat_append_eq_add, ← ofNat_lowWord v 32 le_rfl, BitVec.extractLsb'_toNat]
  have hv := lowWord_lt v
  simp only [half64, if_true, BitVec.toNat_ofNat, Nat.shiftRight_zero]
  omega

/-- The low half of WIN_BASE (R466). -/
theorem winBase_low (b : BitVec 14) (v : BitVec 64) :
    BitVec.ofNat 14 (setBits b.toNat 11 0 (lowWord v / 2 ^ 20)) = b.extractLsb' 12 2 ++ v.extractLsb' 20 12 := by
  apply BitVec.eq_of_toNat_eq
  rw [toNat_append_eq_add, ← ofNat_div_two_pow b, ← ofNat_lowWord_div v 20 12 (by decide)]
  have hb := b.isLt
  simp only [setBits, bitsOf, BitVec.toNat_ofNat, Nat.shiftRight_zero, Nat.shiftLeft_zero]
  omega

/-- The high half of WIN_BASE (R466). -/
theorem winBase_high (b : BitVec 14) (v : BitVec 64) :
    BitVec.ofNat 14 (setBits b.toNat 13 12 (lowWord v)) = v.extractLsb' 0 2 ++ b.extractLsb' 0 12 := by
  apply BitVec.eq_of_toNat_eq
  rw [toNat_append_eq_add, ← ofNat_lowWord v 2 (by decide), BitVec.extractLsb'_toNat]
  have hb := b.isLt
  simp only [setBits, bitsOf, BitVec.toNat_ofNat, Nat.shiftLeft_eq, Nat.shiftRight_eq_div_pow]
  omega

/-- A write-one-to-clear field clears the bits written as one. -/
theorem w1c_of_ofNat {n : Nat} (f x : BitVec n) (v : Nat) (h : BitVec.ofNat n v = x) : w1c f v = f &&& ~~~x := by
  rw [w1c, h]

theorem leBytes_getD (n v i : Nat) (h : i < n) : (leBytes n v).getD i 0 = BitVec.ofNat 8 (v / 2 ^ (8 * i)) := by
  induction n generalizing v i with
  | zero => omega
  | succ n ih =>
    cases i with
    | zero => simp [leBytes]
    | succ i =>
      rw [leBytes, List.getD_cons_succ, ih _ _ (by omega), Nat.div_div_eq_div_mul, show 256 = 2 ^ 8 from rfl, ← pow_add,
        show 8 + 8 * i = 8 * (i + 1) by omega]

/-! ## Writes into the MSI-X table -/

/-- The MSI-X table with the bytes `bs` written from address `a + k` (R466). -/
def msixStore (t : Mem) (a k : Nat) (bs : List Byte) : Mem :=
  (bs.zipIdx k).foldl (fun t e => Tab.set (msixReset (a + e.2)) t (a + e.2) e.1) t

theorem msixWrite_eq (a v : Nat) (s : State) :
    msixWrite a v s = unmask (a / 16) { s with host := { s.host with msix := msixStore s.host.msix a 0 (leBytes 4 v) } } := rfl

/-- The table read after a write: the written bytes, and elsewhere what stood there. -/
theorem msixStore_get (t : Mem) (a k : Nat) (bs : List Byte) (j : Nat) :
    Tab.get (msixReset j) (msixStore t a k bs) j =
      if a + k ≤ j ∧ j < a + k + bs.length then bs.getD (j - (a + k)) 0 else Tab.get (msixReset j) t j := by
  induction bs generalizing t k with
  | nil => simp [msixStore]
  | cons b r ih =>
    have hstep : msixStore t a k (b :: r) = msixStore (Tab.set (msixReset (a + k)) t (a + k) b) a (k + 1) r := rfl
    rw [hstep, ih, List.length_cons]
    rcases lt_trichotomy j (a + k) with hj | rfl | hj
    · rw [if_neg (by omega), if_neg (by omega), Tab.get_set_ne_default _ _ _ _ _ _ hj.ne]
    · rw [if_neg (by omega), if_pos (by omega), Tab.get_set_same, Nat.sub_self, List.getD_cons_zero]
    · rw [Tab.get_set_ne_default _ _ _ _ _ _ hj.ne', show j - (a + k) = (j - (a + (k + 1))) + 1 by omega, List.getD_cons_succ]
      exact if_congr (by omega) rfl rfl

/-! ## One equation per region of BAR0 -/

/-- A 4-byte write at an aligned offset. -/
theorem exec_bar0Word (s : State) (off : Nat) (v : BitVec 64) (hlt : off < 2 ^ 16) (h4 : off % 4 = 0) :
    exec (.registerWrite (.bar0 (BitVec.ofNat 16 off) false) v) s = .next (settle s (bar0Word off (lowWord v) s)) := by
  have hoff : (BitVec.ofNat 16 off).toNat = off := by rw [BitVec.toNat_ofNat, Nat.mod_eq_of_lt hlt]
  have hw : bar0Write off false v.toNat s = bar0Word off (lowWord v) s := by simp [bar0Write, h4, lowWord]
  calc exec (.registerWrite (.bar0 (BitVec.ofNat 16 off) false) v) s
      = .next (settle s (bar0Write (BitVec.ofNat 16 off).toNat false v.toNat s)) := rfl
    _ = _ := by rw [hoff, hw]

theorem bar0Word_mbx (m o v : Nat) (s : State) (hm : m < 16) (ho : o < 0x40) :
    bar0Word (0x1000 + 0x40 * m + o) v s = mbxWrite m o v s := by
  have hblock : (0x1000 + 0x40 * m + o - 0x1000) / 0x40 = m := by omega
  have hword : (0x1000 + 0x40 * m + o) % 0x40 = o := by omega
  rw [bar0Word, if_neg (by omega), if_neg (by omega), if_neg (by omega), if_neg (by omega), if_pos (by omega), hblock, hword]

theorem bar0Word_req (m o v : Nat) (s : State) (hm : m < 16) (ho : o < 0x100) :
    bar0Word (0x2000 + 0x100 * m + o) v s =
      setMbx s m { getMbx s m with req := memWrite (getMbx s m).req o (leBytes 4 v) } := by
  have harea : (0x2000 + 0x100 * m + o - 0x2000) / 0x100 = m := by omega
  have hbyte : (0x2000 + 0x100 * m + o) % 0x100 = o := by omega
  rw [bar0Word, if_neg (by omega), if_neg (by omega), if_neg (by omega), if_neg (by omega), if_neg (by omega),
    if_pos (by omega)]
  simp only [harea, hbyte]

theorem bar0Word_msix (a v : Nat) (s : State) (ha : a < 0x400) : bar0Word (0x4000 + a) v s = msixWrite a v s := by
  rw [bar0Word, if_neg (by omega), if_neg (by omega), if_neg (by omega), if_neg (by omega), if_neg (by omega),
    if_neg (by omega), if_pos (by omega), Nat.add_sub_cancel_left]

theorem mbxWrite_beyond (m o v : Nat) (s : State) (h : 0x20 < o) : mbxWrite m o v s = s := by
  unfold mbxWrite
  split
  case h_10 => rfl
  all_goals omega

/-- The offsets that no writable word of BAR0 has (R466). -/
def unmapped (off : Nat) : Prop :=
  off ≠ 0x100 ∧ off ≠ 0x104 ∧ off ≠ 0x200 ∧ off ≠ 0x204 ∧
    (off < 0x1000 ∨ 0x1400 ≤ off ∨ 0x20 < off % 0x40) ∧ (off < 0x2000 ∨ 0x3000 ≤ off) ∧ (off < 0x4000 ∨ 0x4400 ≤ off)

theorem bar0Word_unmapped (off v : Nat) (s : State) (h : unmapped off) : bar0Word off v s = s := by
  obtain ⟨hcause, hen, hlow, hhigh, hmbx, hreq, hmsix⟩ := h
  rw [bar0Word, if_neg hcause, if_neg hen, if_neg hlow, if_neg hhigh]
  by_cases hblock : 0x1000 ≤ off ∧ off < 0x1400
  · rw [if_pos hblock, mbxWrite_beyond _ _ _ _ (by omega)]
  · rw [if_neg hblock, if_neg (by omega), if_neg (by omega)]

/-! ## The clauses of RegisterWritesComplete -/

theorem registerWrite_hostWords (s : State) (v : BitVec 64) :
    exec (.registerWrite (.bar0 0x100 false) v) s = .next (settle s { s with host := { s.host with
      mbxDone := s.host.mbxDone &&& ~~~(v.setWidth 16), statusChg := s.host.statusChg && !v.getLsbD 16 } }) ∧
    exec (.registerWrite (.bar0 0x104 false) v) s = .next (settle s { s with host := { s.host with intEn := v.setWidth 17 } }) ∧
    exec (.registerWrite (.bar0 0x200 false) v) s = .next (settle s { s with host := { s.host with
      winBase := s.host.winBase.extractLsb' 12 2 ++ v.extractLsb' 20 12 } }) ∧
    exec (.registerWrite (.bar0 0x204 false) v) s = .next (settle s { s with host := { s.host with
      winBase := v.extractLsb' 0 2 ++ s.host.winBase.extractLsb' 0 12 } }) := by
  have hdone : w1c s.host.mbxDone (lowWord v) = s.host.mbxDone &&& ~~~(v.setWidth 16) :=
    w1c_of_ofNat _ _ _ (by rw [ofNat_lowWord v 16 (by decide), BitVec.setWidth_eq_extractLsb' (by decide)])
  have hen : BitVec.ofNat 17 (lowWord v) = v.setWidth 17 := by
    rw [ofNat_lowWord v 17 (by decide), BitVec.setWidth_eq_extractLsb' (by decide)]
  refine ⟨?_, ?_, ?_, ?_⟩
  · rw [← hdone, ← bitOf_lowWord v 16 (by decide)]; exact exec_bar0Word s 0x100 v (by decide) rfl
  · rw [← hen]; exact exec_bar0Word s 0x104 v (by decide) rfl
  · rw [← winBase_low]; exact exec_bar0Word s 0x200 v (by decide) rfl
  · rw [← winBase_high]; exact exec_bar0Word s 0x204 v (by decide) rfl

/-- A 4-byte write to a word of a mailbox's block leaves what `mbxWrite` answers. -/
theorem registerWrite_mbxWord (s t : State) (m : Fin 16) (o : Nat) (v : BitVec 64) (ho : o < 0x40) (h4 : o % 4 = 0)
    (ht : mbxWrite m o (lowWord v) s = t) :
    exec (.registerWrite (.bar0 (BitVec.ofNat 16 (0x1000 + 0x40 * m.val + o)) false) v) s = .next (settle s t) := by
  rw [exec_bar0Word s _ v (by omega) (by omega), bar0Word_mbx m o _ s m.isLt ho, ht]

theorem mbxWrite_address (s : State) (m : Nat) (v : BitVec 64) :
    let x := getMbx s m
    mbxWrite m 0x08 (lowWord v) s = setMbx s m { x with reqAddr := x.reqAddr.extractLsb' 32 32 ++ v.extractLsb' 0 32 } ∧
    mbxWrite m 0x0C (lowWord v) s = setMbx s m { x with reqAddr := v.extractLsb' 0 32 ++ x.reqAddr.extractLsb' 0 32 } ∧
    mbxWrite m 0x10 (lowWord v) s = setMbx s m { x with rspAddr := x.rspAddr.extractLsb' 32 32 ++ v.extractLsb' 0 32 } ∧
    mbxWrite m 0x14 (lowWord v) s = setMbx s m { x with rspAddr := v.extractLsb' 0 32 ++ x.rspAddr.extractLsb' 0 32 } := by
  simp only [← half64_low, ← half64_high]
  exact ⟨rfl, rfl, rfl, rfl⟩

theorem mbxWrite_fields (s : State) (m : Nat) (v : BitVec 64) :
    let x := getMbx s m
    mbxWrite m 0x00 (lowWord v) s = setMbx s m { x with opcode := v.extractLsb' 16 16, reqLen := v.extractLsb' 0 16 } ∧
    mbxWrite m 0x04 (lowWord v) s =
      setMbx s m { x with session := v.extractLsb' 16 16, rspInd := v.getLsbD 1, reqInd := v.getLsbD 0 } ∧
    mbxWrite m 0x18 (lowWord v) s = setMbx s m { x with rspMax := v.extractLsb' 0 32 } ∧
    mbxWrite m 0x20 (lowWord v) s = setMbx s m { x with dbReject := x.dbReject && !v.getLsbD 29 } := by
  simp only [← bitOf_lowWord v 0 (by decide), ← bitOf_lowWord v 1 (by decide), ← bitOf_lowWord v 29 (by decide),
    ← ofNat_lowWord v 16 (by decide), ← ofNat_lowWord v 32 le_rfl, ← ofNat_lowWord_div v 16 16 le_rfl]
  exact ⟨rfl, rfl, rfl, rfl⟩

/-- A GO word whose GO bit is clear does nothing (R488). -/
theorem mbxWrite_noGo (s : State) (m : Nat) (v : BitVec 64) (h : v.getLsbD 0 = false) : mbxWrite m 0x1C (lowWord v) s = s := by
  have hgo : bitOf (lowWord v) 0 = false := (bitOf_lowWord v 0 (by decide)).trans h
  simp only [mbxWrite, hgo, Bool.false_eq_true, if_false]

theorem registerWrite_msix (s : State) (o : Nat) (v : BitVec 64) (ho : o < 256) :
    ∃ t, let s1 := { s with host := { s.host with msix := t } }
      exec (.registerWrite (.bar0 (BitVec.ofNat 16 (0x4000 + 4 * o)) false) v) s = .next (settle s
        (if s.host.pba.getLsbD (o / 4) && !vecMasked s1 (o / 4) then
          emit (.msix (o / 4)) { s1 with host := { s1.host with pba := s.host.pba &&& ~~~(1#64 <<< (o / 4)) } }
        else s1)) ∧
      (∀ i, i < 4 → Tab.get (msixReset (4 * o + i)) t (4 * o + i) = v.extractLsb' (8 * i) 8) := by
  refine ⟨msixStore s.host.msix (4 * o) 0 (leBytes 4 (lowWord v)), ?_, fun i hi => ?_⟩
  · have hvec : 4 * o / 16 = o / 4 := by omega
    rw [exec_bar0Word s _ v (by omega) (by omega), bar0Word_msix _ _ s (by omega), msixWrite_eq, hvec]
    rfl
  · rw [msixStore_get, leBytes_length, if_pos (by omega), Nat.add_zero, Nat.add_sub_cancel_left, leBytes_getD _ _ _ hi,
      ofNat_lowWord_div v _ _ (by omega)]

theorem registerWrite_ignored (s : State) (off : BitVec 16) (v : BitVec 64) (h : off.toNat % 4 ≠ 0 ∨ unmapped off.toNat) :
    exec (.registerWrite (.bar0 off false) v) s = .next (settle s s) := by
  by_cases h4 : off.toNat % 4 = 0
  · have hoff := exec_bar0Word s off.toNat v off.isLt h4
    rwa [BitVec.ofNat_toNat, BitVec.setWidth_eq, bar0Word_unmapped _ _ s (h.resolve_left (not_not_intro h4))] at hoff
  · have hw : bar0Write off.toNat false v.toNat s = s := by simp [bar0Write, h4]
    exact congrArg (fun t => Host.Outcome.next (settle s t)) hw

theorem registerWrite_eight (s : State) (off : BitVec 16) (v : BitVec 64) :
    exec (.registerWrite (.bar0 off true) v) s = .next (settle s (if off.toNat % 8 = 0 then
      bar0Word (off.toNat + 4) (v.toNat / 2 ^ 32) (bar0Word off.toNat (v.toNat % 2 ^ 32) s) else s)) := by
  have hw : bar0Write off.toNat true v.toNat s = if off.toNat % 8 = 0 then
      bar0Word (off.toNat + 4) (v.toNat / 2 ^ 32) (bar0Word off.toNat (v.toNat % 2 ^ 32) s) else s := ite_not ..
  exact congrArg (fun t => Host.Outcome.next (settle s t)) hw

theorem registerWrite_spStatus (s : State) (p : Fin 8) (v : BitVec 64) :
    exec (.registerWrite (.spStatus p) v) s = .next (settle s (setSpan s p { getSpan s p with
      badLanes := (getSpan s p).badLanes &&& ~~~(v.extractLsb' 18 4),
      peerChanged := (getSpan s p).peerChanged && !v.getLsbD 12 })) := by
  rw [← w1c_of_ofNat _ _ _ (ofNat_div_two_pow v 18 4)]
  rfl

/-- Writing bit 59 alone of UE_LOG as a one (R457). -/
theorem w1c_bit59 (f v : BitVec 64) (i : Nat) (hi : i < 64) :
    (w1c f (v.toNat / 2 ^ 59 % 2 * 2 ^ 59)).getLsbD i = (f.getLsbD i && !(decide (i = 59) && v.getLsbD 59)) := by
  have hmask : (v.toNat / 2 ^ 59 % 2 * 2 ^ 59).testBit i = (decide (i = 59) && v.getLsbD 59) := by
    have hbit : v.toNat / 2 ^ 59 % 2 = (v.getLsbD 59).toNat := (Nat.toNat_testBit ..).symm
    rw [hbit]
    cases v.getLsbD 59 with
    | false => simp
    | true => rw [Bool.toNat_true, Nat.one_mul, Nat.testBit_two_pow, Bool.and_true]; exact decide_eq_decide.mpr eq_comm
  simp only [w1c, BitVec.getLsbD_and, BitVec.getLsbD_not, BitVec.getLsbD_ofNat, hi, hmask, decide_true, Bool.true_and]

theorem registerWrite_tollBytes (s : State) (r : Fin 12) (c : Fin 4) (v : BitVec 64) :
    ∃ t, exec (.registerWrite (.tollBytes r c) v) s = .next (settle s { s with mem := { s.mem with bytes := t } }) ∧
    ∀ j, Tab.get ⟨0, false⟩ t j = (let x := Tab.get ⟨0, false⟩ s.mem.bytes j
      if j = 4 * r.val + c.val then { x with ovf := x.ovf && !v.getLsbD 63 } else x) := by
  refine ⟨_, rfl, fun j => ?_⟩
  rw [Tab.upd, Tab.get_set]
  by_cases hj : j = 4 * r.val + c.val
  · subst hj; rw [if_pos rfl, if_pos rfl, bitOf_toNat]
  · rw [if_neg hj, if_neg hj]

/-- Settles O49: the exact effect of a write, region by region of BAR0 and word by word of the others. -/
theorem registerWritesComplete : Obligations.RegisterWritesComplete := by
  refine ⟨registerWrite_hostWords, fun s m v => ?mailbox, fun s m o v ho => ?request, registerWrite_msix,
    fun s off v => ⟨registerWrite_ignored s off v, registerWrite_eight s off v⟩, fun _ _ => rfl, registerWrite_spStatus,
    fun s v => ⟨_, rfl, w1c_bit59 s.mem.ueLog v⟩, fun _ _ _ => rfl, registerWrite_tollBytes⟩
  case mailbox =>
    obtain ⟨hop, hsess, hmax, hrej⟩ := mbxWrite_fields s m v
    obtain ⟨hreqLow, hreqHigh, hrspLow, hrspHigh⟩ := mbxWrite_address s m v
    have word (o : Nat) (ho : o < 0x40 ∧ o % 4 = 0) {t : State} := registerWrite_mbxWord s t m o v ho.1 ho.2
    exact ⟨word 0x00 (by decide) hop, word 0x04 (by decide) hsess, word 0x08 (by decide) hreqLow,
      word 0x0C (by decide) hreqHigh, word 0x10 (by decide) hrspLow, word 0x14 (by decide) hrspHigh,
      word 0x18 (by decide) hmax, word 0x20 (by decide) hrej, fun h => word 0x1C (by decide) (mbxWrite_noGo s m v h)⟩
  case request =>
    rw [exec_bar0Word s _ v (by omega) (by omega), bar0Word_req m _ _ s m.isLt (by omega)]
    rfl

end Sys2Proof.Machine
end

section
/-! SUPPORT. The self-test, the binding, and the counters that diagnostics commands read (R31, R32, R133 to R138, R141):
what each leaves of a unit. The test and the binding each rewrite one unit at a time; removing a unit's domain, the swing
marks and the reasons of restricted service keep everything that the test found.
-/

namespace Sys2Proof

/-- A write that keeps a view of the entry keeps that view of every entry. -/
theorem Tab.view_get_set {α β : Type} [DecidableEq α] {d : α} {t : Tab α} {i : Nat} {x : α} (v : α → β)
    (h : v x = v (Tab.get d t i)) (j : Nat) : v (Tab.get d (Tab.set d t i x) j) = v (Tab.get d t j) := by
  rw [Tab.get_set]
  split
  next hj => rw [h, hj]
  next => rfl

end Sys2Proof

namespace Sys2Proof.Machine

/-! ## Reading the units -/

theorem getGirder_setGirder_eq_ite (n : Nat) (g : Girder) (s : State) (j : Nat) :
    getGirder (setGirder n g s) j = if j = n then g else getGirder s j := Tab.get_set ..

theorem getCluster_setCluster_eq_ite (k : Nat) (c : Cluster) (s : State) (j : Nat) :
    getCluster (setCluster k c s) j = if j = k then c else getCluster s j := Tab.get_set ..

@[simp] theorem getGirder_setCluster (k : Nat) (c : Cluster) (s : State) (n : Nat) :
    getGirder (setCluster k c s) n = getGirder s n := rfl
@[simp] theorem getCluster_setGirder (n : Nat) (g : Girder) (s : State) (k : Nat) :
    getCluster (setGirder n g s) k = getCluster s k := rfl

/-- Folding a rewrite of one unit over a range rewrites each unit of the range once. -/
theorem get_foldl_range {β : Type} (get : State → Nat → β) (f : Nat → β → β) (step : State → Nat → State)
    (h : ∀ a i j, get (step a i) j = if j = i then f i (get a i) else get a j) (n : Nat) (s : State) (j : Nat) :
    get ((List.range n).foldl step s) j = if j < n then f j (get s j) else get s j := by
  induction n with
  | zero => rfl
  | succ n ih =>
    rw [List.range_succ, List.foldl_append, List.foldl_cons, List.foldl_nil, h]
    by_cases hj : j = n
    · subst hj; rw [if_pos rfl, ih, if_neg (lt_irrefl j), if_pos (Nat.lt_succ_self j)]
    · rw [if_neg hj, ih]; exact if_congr (by omega) rfl rfl

/-- A rewrite of unit `i` under a condition, as a rewrite of unit `i`. -/
theorem get_ite_rewrite {β : Type} (get : State → Nat → β) (f : β → β) (c : Prop) [Decidable c] {a b : State} {i j : Nat}
    (h : get b j = if j = i then f (get a i) else get a j) :
    get (if c then b else a) j = if j = i then (if c then f (get a i) else get a i) else get a j := by
  by_cases hc : c
  · rw [if_pos hc, if_pos hc, h]
  · rw [if_neg hc, if_neg hc]
    split
    next hj => rw [hj]
    next => rfl

theorem getGirder_foldl_setGirder (f : Nat → Girder → Girder) (s : State) {n j : Nat} (hj : j < n) :
    getGirder ((List.range n).foldl (fun a i => setGirder i (f i (getGirder a i)) a) s) j = f j (getGirder s j) := by
  rw [get_foldl_range getGirder f _ (fun _ _ _ => getGirder_setGirder_eq_ite ..), if_pos hj]

theorem getCluster_foldl_setCluster (f : Nat → Cluster → Cluster) (s : State) {n j : Nat} (hj : j < n) :
    getCluster ((List.range n).foldl (fun a i => setCluster i (f i (getCluster a i)) a) s) j = f j (getCluster s j) := by
  rw [get_foldl_range getCluster f _ (fun _ _ _ => getCluster_setCluster_eq_ite ..), if_pos hj]

theorem getGirder_foldl_setCluster (f : Nat → Cluster → Cluster) (l : List Nat) (s : State) (n : Nat) :
    getGirder (l.foldl (fun a k => setCluster k (f k (getCluster a k)) a) s) n = getGirder s n :=
  foldl_keeps (fun a => getGirder a n) _ (fun _ _ => getGirder_setCluster ..) l s

theorem getCluster_foldl_setGirder (f : Nat → Girder → Girder) (l : List Nat) (s : State) (k : Nat) :
    getCluster (l.foldl (fun a n => setGirder n (f n (getGirder a n)) a) s) k = getCluster s k :=
  foldl_keeps (fun a => getCluster a k) _ (fun _ _ => getCluster_setGirder ..) l s

/-! ## Which units the part has -/

/-- What decides which units the part has (R5): the grade and the fuses. -/
def fittings (s : State) : Grade × (Nat → Bool) × (Nat → Bool) :=
  (s.grade, fun n => (getGirder s n).fused, fun k => (getCluster s k).fused)

theorem fittings_setGirder {s : State} {n : Nat} {g : Girder} (h : g.fused = (getGirder s n).fused) :
    fittings (setGirder n g s) = fittings s :=
  congrArg (fun f => (s.grade, f, fun k => (getCluster s k).fused)) (funext (Tab.view_get_set Girder.fused h))

theorem fittings_setCluster {s : State} {k : Nat} {c : Cluster} (h : c.fused = (getCluster s k).fused) :
    fittings (setCluster k c s) = fittings s :=
  congrArg (fun f => (s.grade, fun n => (getGirder s n).fused, f)) (funext (Tab.view_get_set Cluster.fused h))

theorem girderPresent_congr {s t : State} (h : fittings t = fittings s) (n : Nat) : girderPresent t n = girderPresent s n := by
  simp only [fittings, Prod.ext_iff, funext_iff] at h
  obtain ⟨hgrade, hgirder, -⟩ := h
  have hcount : gradeGirders t = gradeGirders s := by unfold gradeGirders; rw [hgrade]
  simp only [girderPresent, hcount, hgirder]

theorem clusterPresent_congr {s t : State} (h : fittings t = fittings s) (k : Nat) :
    clusterPresent t k = clusterPresent s k := by
  simp only [fittings, Prod.ext_iff, funext_iff] at h
  obtain ⟨hgrade, -, hcluster⟩ := h
  have hcount : gradeClusters t = gradeClusters s := by unfold gradeClusters; rw [hgrade]
  simp only [clusterPresent, hcount, hcluster]

/-! ## The test of every unit -/

def testGirders (report : List UnitTest) (s : State) : State :=
  (List.range 32).foldl (fun a n =>
    if girderPresent s n then setGirder n (testGirder (findingOf report n) (getGirder a n)) a else a) s

/-- The tests of the clusters that `s` has, carried out on `t`. -/
def testClusters (report : List UnitTest) (s t : State) : State :=
  (List.range 8).foldl (fun a k =>
    if clusterPresent s k then setCluster k (testCluster (findingOf report (32 + k)) (getCluster a k)) a else a) t

/-- The self-test before the binding. -/
def testUnits (report : List UnitTest) (s : State) : State := testClusters report s (testGirders report s)

theorem selfTest_eq (report : List UnitTest) (s : State) :
    selfTest report s = testReasons (removedOff (bindUnits (testUnits report s))) := rfl

theorem fittings_testUnits (report : List UnitTest) (s : State) : fittings (testUnits report s) = fittings s := by
  calc fittings (testUnits report s)
      = fittings (testGirders report s) := foldl_keeps fittings _ (fun a k => by
          split
          · exact fittings_setCluster rfl
          · rfl) _ _
    _ = fittings s := foldl_keeps fittings _ (fun a n => by
          split
          · exact fittings_setGirder rfl
          · rfl) _ _

theorem getGirder_testUnits (report : List UnitTest) (s : State) {n : Nat} (hn : n < 32) :
    getGirder (testUnits report s) n =
      if girderPresent s n then testGirder (findingOf report n) (getGirder s n) else getGirder s n := by
  calc getGirder (testUnits report s) n
      = getGirder (testGirders report s) n := foldl_keeps (fun a => getGirder a n) _ (fun a k => by split <;> rfl) _ _
    _ = _ := (get_foldl_range getGirder (fun i g => if girderPresent s i then testGirder (findingOf report i) g else g) _
          (fun _ _ _ => get_ite_rewrite getGirder _ _ (getGirder_setGirder_eq_ite ..)) 32 s n).trans (if_pos hn)

theorem getCluster_testUnits (report : List UnitTest) (s : State) {k : Nat} (hk : k < 8) :
    getCluster (testUnits report s) k =
      if clusterPresent s k then testCluster (findingOf report (32 + k)) (getCluster s k) else getCluster s k := by
  have hgirders : getCluster (testGirders report s) k = getCluster s k :=
    foldl_keeps (fun a => getCluster a k) _ (fun a n => by split <;> rfl) _ _
  rw [← hgirders]
  exact (get_foldl_range getCluster (fun i c => if clusterPresent s i then testCluster (findingOf report (32 + i)) c else c) _
    (fun _ _ _ => get_ite_rewrite getCluster _ _ (getCluster_setCluster_eq_ite ..)) 8 _ k).trans (if_pos hk)

/-! ## What the test finds of a unit, and what keeps it -/

/-- What the test and the binding leave of a girder (R137, without LOGICAL and SWING). -/
def girderFound (g : Girder) : Bool × List (Nat × Nat) × BitVec 8 × BitVec 10 × Bool :=
  (g.removed, g.repairs, g.stCode, g.spareExh, g.bound)

/-- What the test and the binding leave of a cluster (R138, without LOGICAL). -/
def clusterFound (c : Cluster) : Bool × BitVec 8 × BitVec 8 × Bool := (c.removed, c.failCore, c.stCode, c.bound)

def unitsFound (s : State) :
    (Nat → Bool × List (Nat × Nat) × BitVec 8 × BitVec 10 × Bool) × (Nat → Bool × BitVec 8 × BitVec 8 × Bool) :=
  (fun n => girderFound (getGirder s n), fun k => clusterFound (getCluster s k))

theorem unitsFound_of_deck {s t : State} (h : t.deck = s.deck) : unitsFound t = unitsFound s := by
  simp only [unitsFound, getGirder, getCluster, h]

theorem unitsFound_setGirder {s : State} {n : Nat} {g : Girder} (h : girderFound g = girderFound (getGirder s n)) :
    unitsFound (setGirder n g s) = unitsFound s :=
  congrArg (fun f => (f, fun k => clusterFound (getCluster s k))) (funext (Tab.view_get_set girderFound h))

theorem unitsFound_setDeckMem (m : DeckMem) (x : Mem) (s : State) : unitsFound (setDeckMem m x s) = unitsFound s := by
  cases m <;> rfl

theorem leaveLocked_deck (s : State) : (leaveLocked s).deck = s.deck := by
  unfold leaveLocked; split <;> simp

theorem reparent_deck (s : State) : (reparent s).deck = s.deck := by
  have hmove (st : KsSt) : (ksMove st s).deck = s.deck := by simp [ksMove, leaveLocked_deck]
  unfold reparent
  split
  · rfl
  · simp [hmove]

/-- A domain that leaves ON loses memories, registers, connections; never what the test found. -/
theorem unitsFound_loseDom (d : Nat) (target : PdSt) (s : State) : unitsFound (loseDom d target s) = unitsFound s := by
  unfold loseDom
  dsimp only
  split
  next girder =>
    rw [unitsFound_setGirder (by split <;> rfl)]
    refine foldl_keeps unitsFound _ (fun a b => ?_) _ _
    split
    · rfl
    · exact unitsFound_setDeckMem ..
  next =>
  split
  next cluster => exact unitsFound_setDeckMem ..
  next =>
  split
  next bank =>
    split
    · rfl
    · exact unitsFound_setDeckMem ..
  next =>
  split
  next channels =>
    split
    · rw [unitsFound_setDeckMem]; split <;> rfl
    · split <;> rfl
  next =>
  split
  next camera => rfl
  next =>
  split
  next port => exact unitsFound_of_deck (reparent_deck _)
  next => rfl

theorem unitsFound_domainOff (d : Nat) (s : State) : unitsFound (domainOff d s) = unitsFound s := by
  unfold domainOff
  by_cases hoff : (getDom s d).st = .off
  · rw [if_pos hoff]; rfl
  · rw [if_neg hoff]; exact unitsFound_loseDom d .off s

theorem unitsFound_removedOff (s : State) : unitsFound (removedOff s) = unitsFound s := by
  have hstep (p : Prop) [Decidable p] (d : Nat) (a : State) :
      unitsFound (if p then domainOff d a else a) = unitsFound a := by
    split
    · exact unitsFound_domainOff d a
    · rfl
  unfold removedOff
  rw [foldl_keeps unitsFound _ (fun a k => hstep _ _ a), foldl_keeps unitsFound _ (fun a n => hstep _ _ a)]

theorem unitsFound_testReasons (s : State) : unitsFound (testReasons s) = unitsFound s :=
  unitsFound_of_deck (by simp [testReasons])

theorem unitsFound_refreshSwing (s : State) : unitsFound (refreshSwing s) = unitsFound s := by
  unfold refreshSwing
  refine foldl_keeps unitsFound _ (fun a n => ?_) _ _
  exact unitsFound_setGirder rfl

/-! ## The binding -/

/-- The units that are bound: those the part has and that are not removed (R31, R32, R135). -/
def usableGirders (s : State) : List Nat := (List.range 32).filter (fun n => girderPresent s n && !(getGirder s n).removed)
def usableClusters (s : State) : List Nat := (List.range 8).filter (fun k => clusterPresent s k && !(getCluster s k).removed)

def bindGirder (gs : List Nat) (n : Nat) (g : Girder) : Girder :=
  { g with bound := gs.contains n, logical := if gs.contains n then gs.idxOf n else 0 }
def bindCluster (cs : List Nat) (k : Nat) (c : Cluster) : Cluster :=
  { c with bound := cs.contains k, logical := if cs.contains k then cs.idxOf k else 0 }

/-- The binding before the swing marks. -/
def boundUnits (s : State) : State :=
  (List.range 8).foldl (fun a k => setCluster k (bindCluster (usableClusters s) k (getCluster a k)) a)
    ((List.range 32).foldl (fun a n => setGirder n (bindGirder (usableGirders s) n (getGirder a n)) a) s)

theorem bindUnits_eq (s : State) : bindUnits s = refreshSwing (boundUnits s) := rfl

theorem getGirder_boundUnits (s : State) {n : Nat} (hn : n < 32) :
    getGirder (boundUnits s) n = bindGirder (usableGirders s) n (getGirder s n) := by
  rw [boundUnits, getGirder_foldl_setCluster, getGirder_foldl_setGirder _ _ hn]

theorem getCluster_boundUnits (s : State) {k : Nat} (hk : k < 8) :
    getCluster (boundUnits s) k = bindCluster (usableClusters s) k (getCluster s k) := by
  rw [boundUnits, getCluster_foldl_setCluster _ _ hk, getCluster_foldl_setGirder]

theorem usableGirders_contains (s : State) {n : Nat} (hn : n < 32) :
    (usableGirders s).contains n = (girderPresent s n && !(getGirder s n).removed) := by
  rw [Bool.eq_iff_iff]; simp [usableGirders, hn]

theorem usableClusters_contains (s : State) {k : Nat} (hk : k < 8) :
    (usableClusters s).contains k = (clusterPresent s k && !(getCluster s k).removed) := by
  rw [Bool.eq_iff_iff]; simp [usableClusters, hk]

/-! ## The self-test -/

/-- What follows the test of the units changes only their binding. -/
theorem unitsFound_selfTest (report : List UnitTest) (s : State) :
    unitsFound (selfTest report s) = unitsFound (boundUnits (testUnits report s)) := by
  rw [selfTest_eq, unitsFound_testReasons, unitsFound_removedOff, bindUnits_eq, unitsFound_refreshSwing]

theorem girderFound_selfTest (report : List UnitTest) (s : State) {n : Nat} (hn : n < 32) :
    let t := if girderPresent s n then testGirder (findingOf report n) (getGirder s n) else getGirder s n
    girderFound (getGirder (selfTest report s) n) =
      (t.removed, t.repairs, t.stCode, t.spareExh, girderPresent s n && !t.removed) := by
  intro t
  have h : girderFound (getGirder (selfTest report s) n) = girderFound (getGirder (boundUnits (testUnits report s)) n) :=
    congrFun (congrArg (fun u => u.1) (unitsFound_selfTest report s)) n
  have hb := usableGirders_contains (testUnits report s) hn
  rw [girderPresent_congr (fittings_testUnits report s), getGirder_testUnits report s hn] at hb
  rw [← hb]
  exact h.trans (by rw [getGirder_boundUnits _ hn, getGirder_testUnits report s hn]; rfl)

theorem clusterFound_selfTest (report : List UnitTest) (s : State) {k : Nat} (hk : k < 8) :
    let t := if clusterPresent s k then testCluster (findingOf report (32 + k)) (getCluster s k) else getCluster s k
    clusterFound (getCluster (selfTest report s) k) =
      (t.removed, t.failCore, t.stCode, clusterPresent s k && !t.removed) := by
  intro t
  have h : clusterFound (getCluster (selfTest report s) k) = clusterFound (getCluster (boundUnits (testUnits report s)) k) :=
    congrFun (congrArg (fun u => u.2) (unitsFound_selfTest report s)) k
  have hb := usableClusters_contains (testUnits report s) hk
  rw [clusterPresent_congr (fittings_testUnits report s), getCluster_testUnits report s hk] at hb
  rw [← hb]
  exact h.trans (by rw [getCluster_boundUnits _ hk, getCluster_testUnits report s hk]; rfl)

/-! ## Spare rows (R134) -/

/-- One failing row: it takes a spare row of its bank where one is left, and otherwise the bank is beyond repair. -/
def takeSpare (a : List (Nat × Nat) × Bool) (r : Fin 10 × Fin 4096) : List (Nat × Nat) × Bool :=
  if sparesOf a.1 r.1.val < spareRows then (a.1 ++ [(r.1.val, r.2.val)], a.2) else (a.1, true)

theorem repairRows_eq (m : List (Nat × Nat)) (fail : List (Fin 10 × Fin 4096)) :
    repairRows m fail = fail.eraseDups.foldl takeSpare (m, false) := rfl

theorem sparesOf_append_one (m : List (Nat × Nat)) (c x b : Nat) :
    sparesOf (m ++ [(c, x)]) b = sparesOf m b + if c = b then 1 else 0 := by
  by_cases h : c = b <;> simp [sparesOf, h]

theorem sparesOf_takeSpare_le (a : List (Nat × Nat) × Bool) (r : Fin 10 × Fin 4096) (b : Nat) (h : sparesOf a.1 b ≤ 16) :
    sparesOf (takeSpare a r).1 b ≤ 16 := by
  unfold takeSpare spareRows
  split
  next hlt =>
    rw [sparesOf_append_one]
    split
    next hb => rw [← hb]; exact hlt
    next => exact h
  next => exact h

theorem sparesOf_foldl_takeSpare_le (rows : List (Fin 10 × Fin 4096)) (a : List (Nat × Nat) × Bool) (b : Nat)
    (h : sparesOf a.1 b ≤ 16) : sparesOf (rows.foldl takeSpare a).1 b ≤ 16 := by
  induction rows generalizing a with
  | nil => exact h
  | cons r rows ih => exact ih _ (sparesOf_takeSpare_le a r b h)

theorem sparesOf_repairRows_le (m : List (Nat × Nat)) (fail : List (Fin 10 × Fin 4096)) (b : Nat) (h : sparesOf m b ≤ 16) :
    sparesOf (repairRows m fail).1 b ≤ 16 := sparesOf_foldl_takeSpare_le fail.eraseDups (m, false) b h

/-! ## The result of a test -/

theorem testGirder_stCode_eq_zero (t : UnitTest) (g : Girder) :
    (testGirder t g).stCode = 0 ↔ t.code = 0 ∧ (repairRows g.repairs t.rows).2 = false := by
  by_cases hc : t.code = 0#8 <;> cases hm : (repairRows g.repairs t.rows).2 <;> simp [testGirder, hc, hm]

theorem testGirder_removed (t : UnitTest) (g : Girder) :
    (testGirder t g).removed = (g.removed || (testGirder t g).stCode != 0) := rfl

theorem testCluster_stCode_eq_zero (t : UnitTest) (c : Cluster) :
    (testCluster t c).stCode = 0 ↔ t.code = 0 ∧ t.failCores = 0 := by
  by_cases hc : t.code = 0#8 <;> by_cases hf : t.failCores = 0#8 <;> simp [testCluster, hc, hf]

theorem testCluster_removed (t : UnitTest) (c : Cluster) :
    (testCluster t c).removed = (c.removed || (testCluster t c).stCode != 0) := by
  by_cases hc : t.code = 0#8
  · by_cases hf : t.failCores = 0#8 <;> simp [testCluster, bne, hc, hf]
  · simp [testCluster, hc, bne_iff_ne.mpr hc]

/-- A unit is removed where its result is not 0, and stays as it was where it is 0. -/
theorem removed_of_result {removed old : Bool} {code : BitVec 8} (h : removed = (old || code != 0)) :
    (code ≠ 0 → removed = true ∧ code ≠ 0) ∧ (code = 0 → removed = old ∧ code = 0) := by
  refine ⟨fun hcode => ⟨?_, hcode⟩, fun hcode => ⟨?_, hcode⟩⟩
  · rw [h, bne_iff_ne.mpr hcode, Bool.or_true]
  · rw [h, hcode, bne_self_eq_false, Bool.or_false]

/-! ## The counters of on-chip errors (R141) -/

/-- The units as the read leaves them. -/
def clearUnitCtrs (s : State) : State :=
  (List.range 8).foldl (fun a k => setCluster k { getCluster a k with ce := Ctr0 } a)
    ((List.range 32).foldl (fun a n => setGirder n { getGirder a n with ce := Ctr0 } a) s)

/-- The two counters beside those of the units. -/
def clearDeckCtrs (s : State) : State := { s with deck := { s.deck with ceAbut := Ctr0, cUe := Ctr0 } }

theorem clearSramCtrs_eq (s : State) : clearSramCtrs s = clearDeckCtrs (clearUnitCtrs s) := rfl

@[simp] theorem getGirder_clearDeckCtrs (s : State) (n : Nat) : getGirder (clearDeckCtrs s) n = getGirder s n := rfl
@[simp] theorem getCluster_clearDeckCtrs (s : State) (k : Nat) : getCluster (clearDeckCtrs s) k = getCluster s k := rfl

theorem getGirder_clearSramCtrs (s : State) {n : Nat} (hn : n < 32) :
    getGirder (clearSramCtrs s) n = { getGirder s n with ce := Ctr0 } := by
  rw [clearSramCtrs_eq, getGirder_clearDeckCtrs, clearUnitCtrs,
    getGirder_foldl_setCluster (fun _ c => { c with ce := Ctr0 }),
    getGirder_foldl_setGirder (fun _ g => { g with ce := Ctr0 }) _ hn]

theorem getCluster_clearSramCtrs (s : State) {k : Nat} (hk : k < 8) :
    getCluster (clearSramCtrs s) k = { getCluster s k with ce := Ctr0 } := by
  rw [clearSramCtrs_eq, getCluster_clearDeckCtrs, clearUnitCtrs,
    getCluster_foldl_setCluster (fun _ c => { c with ce := Ctr0 }) _ hk,
    getCluster_foldl_setGirder (fun _ g => { g with ce := Ctr0 })]

theorem sramCtrs_clearSramCtrs (s : State) : sramCtrs (clearSramCtrs s) = List.replicate 42 Ctr0 := by
  have hgirders : (List.range 32).map (fun n => (getGirder (clearSramCtrs s) n).ce) = List.replicate 32 Ctr0 :=
    List.map_eq_replicate_iff.mpr fun n hn => by rw [getGirder_clearSramCtrs s (List.mem_range.mp hn)]
  have hclusters : (List.range 8).map (fun k => (getCluster (clearSramCtrs s) k).ce) = List.replicate 8 Ctr0 :=
    List.map_eq_replicate_iff.mpr fun k hk => by rw [getCluster_clearSramCtrs s (List.mem_range.mp hk)]
  rw [sramCtrs, hgirders, hclusters]
  rfl

/-! ## The three commands -/

theorem exec_unitTest (s : State) (m : Fin 16) (report : List UnitTest) (r : Req) (p : List Byte)
    (h : Accepts s m { plain 0x1001 0x0100 0 0 with objs := fun _ => [.units, .sequencer] } r p) :
    (s.seq.started = true → exec (.unitTest m report) s = .next (refused m 0x0001 0 s (takeReq s))) ∧
    (s.seq.started = false → exec (.unitTest m report) s =
      .next (held m 0x1001 p [.units, .sequencer] (okWith []) s (selfTest report (takeReq s)))) :=
  ⟨fun hs => done_no h (if_pos hs), fun hs => done_hold h (if_neg (by simp [takeReq, hs]))⟩

/-- Settles O45: the self-test rewrites each unit by its own finding, and the binding that follows rests on the removed
marks alone. That a unit the report does not mention passes is log entry 68, and BUSY while crossings run log entry 90. -/
theorem diagnosticsCommandsComplete : Obligations.DiagnosticsCommandsComplete := by
  refine ⟨fun s m report r p => exec_unitTest s m report r p, fun s report n hn => ?girder, fun s report k hk => ?cluster,
    fun t g => ⟨rfl, ?girderFails, ?girderPasses⟩, fun _ _ => rfl, sparesOf_repairRows_le,
    fun t c => ⟨?clusterFails, ?clusterPasses⟩, fun _ _ _ _ h => done_yes h rfl,
    fun s => ⟨sramCtrs_clearSramCtrs s, fun _ => getGirder_clearSramCtrs s, fun _ => getCluster_clearSramCtrs s⟩,
    fun _ _ _ _ h => done_yes h rfl⟩
  case girder => simpa only [girderFound, Prod.ext_iff] using girderFound_selfTest report s hn
  case cluster => simpa only [clusterFound, Prod.ext_iff] using clusterFound_selfTest report s hk
  case girderFails =>
    refine fun hfail => (removed_of_result (testGirder_removed t g)).1 fun hcode => ?_
    obtain ⟨hc, hm⟩ := (testGirder_stCode_eq_zero t g).mp hcode
    simp [hc, hm] at hfail
  case girderPasses =>
    exact fun hc hm => (removed_of_result (testGirder_removed t g)).2 ((testGirder_stCode_eq_zero t g).mpr ⟨hc, hm⟩)
  case clusterFails =>
    refine fun hfail => (removed_of_result (testCluster_removed t c)).1 fun hcode => ?_
    obtain ⟨hc, hf⟩ := (testCluster_stCode_eq_zero t c).mp hcode
    simp [hc, hf] at hfail
  case clusterPasses =>
    exact fun hc hf => (removed_of_result (testCluster_removed t c)).2 ((testCluster_stCode_eq_zero t c).mpr ⟨hc, hf⟩)

end Sys2Proof.Machine
end

section
/-! SUPPORT. The verdict-policy commands: what each body answers, case by case (R36, R40, R54 to R56, R70).
-/

namespace Sys2Proof.Machine

/-- A meaning that always goes on leaves what its effect leaves. -/
theorem done_eq {f : State → State} {s t : State} (h : f s = t) : done f s = .next (settle s t) := by rw [done, h]

/-! ## VP_SET and SEQ_SET (R36, R54 to R56, R70) -/

/-- The three answers of VP_SET, by its queue and by what it changes under slots in use. -/
theorem bodyVpSet_eq (s : State) (p : List Byte) :
    let i := fld1 p 0
    let v := p.drop 8
    let old := (getPolicy s i).raw
    let q := getQ s (vpQueue v)
    (q.st ≠ .active ∨ q.content ≠ 0 → bodyVpSet s p = no s (refuse stNotFound)) ∧
    (q.st = .active → q.content = 0 →
      (portSlots s i ≠ [] → vpPu v ≠ vpPu old ∨ vpEject v ≠ vpEject old ∨ vpLead v ≠ vpLead old →
        bodyVpSet s p = no s (refuse stBusySlots)) ∧
      (portSlots s i = [] ∨ (vpPu v = vpPu old ∧ vpEject v = vpEject old ∧ vpLead v = vpLead old) →
        bodyVpSet s p = yes (recConfig i 0x0701 p { s with slots := { s.slots with
          policies := Tab.set (Policy0 i) s.slots.policies i ⟨false, v⟩ } }) [])) := by
  intro i v old q
  have hqueue : (!(q.st == .active && q.content == 0)) = true ↔ q.st ≠ .active ∨ q.content ≠ 0 := by
    simp
  have hmoves : (!(portSlots s i).isEmpty && (vpPu v != vpPu old || vpEject v != vpEject old || vpLead v != vpLead old)) = true ↔
      portSlots s i ≠ [] ∧ (vpPu v ≠ vpPu old ∨ vpEject v ≠ vpEject old ∨ vpLead v ≠ vpLead old) := by
    simp [or_assoc]
  refine ⟨fun h => if_pos (hqueue.mpr h), fun hst hcontent => ?_⟩
  have hgood : ¬ (!(q.st == .active && q.content == 0)) = true := by simp [hst, hcontent]
  exact ⟨fun hused hmove => (if_neg hgood).trans (if_pos (hmoves.mpr ⟨hused, hmove⟩)),
    fun hkeeps => (if_neg hgood).trans (if_neg (by rw [hmoves]; tauto))⟩

theorem exec_seqSet {s : State} {m : Fin 16} {r : Req} {p : List Byte} (h : Accepts s m specSeqSet r p) :
    let i := fld1 p 0
    (portRuns s i = false → exec (.seqSet m) s = .next (answered m [] s (recConfig i 0x0703 p { takeReq s with
      slots := { s.slots with seqs := Tab.set 0 s.slots.seqs i (BitVec.ofNat 48 (fld p 8 6)) } }))) ∧
    (portRuns s i = true → exec (.seqSet m) s = .next (refused m 0x0002 0 s (takeReq s))) :=
  ⟨fun hidle => done_yes h (if_neg (by simp [hidle])), fun hruns => done_no h (if_pos hruns)⟩

/-- Settles O24: each command's body answers by its own case split, and taking the request changes nothing it reads. -/
theorem verdictCommandsComplete : Obligations.VerdictCommandsComplete := by
  refine ⟨fun s m r p h => ?_, fun s m r p h => done_yes h rfl, fun s m r p h => exec_seqSet h,
    fun s m r p h => done_yes h rfl⟩
  obtain ⟨hnotFound, hfound⟩ := bodyVpSet_eq (takeReq s) p
  exact ⟨fun hst hcontent hkeeps => done_yes h ((hfound hst hcontent).2 hkeeps), fun hq => done_no h (hnotFound hq),
    fun hst hcontent hused hmove => done_no h ((hfound hst hcontent).1 hused hmove)⟩

end Sys2Proof.Machine
end

section
/-! SUPPORT. The events of verdict slots and background jobs: what a commit does to its slot, by the slot's state (R60, R61),
and what the records, the views of a second look and standby jobs leave (R64 to R67, R321, R503).
-/

namespace Sys2Proof.Machine

/-! ## Noting a commit (R45) -/

theorem noteInstant_eq (c : FlightCommit) (s : State) :
    ∃ l, noteInstant c s = { s with slots := { s.slots with instant := l } } := by
  unfold noteInstant
  split
  · exact ⟨s.slots.instant, rfl⟩
  · exact ⟨_, rfl⟩

theorem noteInstant_getSlot (c : FlightCommit) (s : State) (i : Nat) : getSlot (noteInstant c s) i = getSlot s i := by
  obtain ⟨l, h⟩ := noteInstant_eq c s
  rw [h]; rfl

theorem noteInstant_now (c : FlightCommit) (s : State) : now (noteInstant c s) = now s := by
  obtain ⟨l, h⟩ := noteInstant_eq c s
  rw [h]; rfl

theorem noteInstant_stale (c : FlightCommit) (s : State) : (noteInstant c s).slots.stale = s.slots.stale := by
  obtain ⟨l, h⟩ := noteInstant_eq c s
  rw [h]

/-! ## The slot after a commit (R40, R53, R60) -/

/-- A slot that a commit has reached: its deck flags and the count of commits. -/
def reachedSlot (c : FlightCommit) (t : Slot) : Slot := { t with flags := t.flags ||| c.flags, commits := t.commits + 1 }

/-- A slot that takes a commit up, before its state says what becomes of the verdict: MAPPED, PRIMARY and PRIMARY_CONF. -/
def notedSlot (c : FlightCommit) (t : Slot) : Slot :=
  { t with
    flags := if c.verdict = 0xE then t.flags ||| 0x100 else t.flags,
    primary := if c.primary then mappedVerdict t c.verdict else t.primary,
    pconf := if c.primary then c.conf else t.pconf }

theorem notePrimary_eq (c : FlightCommit) (t : Slot) :
    notePrimary c (mappedVerdict t c.verdict) (if c.verdict = 0xE then { t with flags := t.flags ||| flMapped } else t) =
      notedSlot c t := by
  unfold notePrimary notedSlot
  split <;> split <;> rfl

/-- The slot that a final commit decides. -/
def decidedSlot (c : FlightCommit) (t : Slot) : Slot :=
  { notedSlot c t with
    st := .decided, cur := mappedVerdict t c.verdict, everDecided := true, sl := if c.primary then t.sl else 1,
    views := if c.primary then t.views else c.views }

/-- The slot that a commit reaches too late. -/
def lateSlot (c : FlightCommit) (at_ : Nat) (t : Slot) : Slot :=
  { notedSlot c t with
    late := some (mappedVerdict t c.verdict), lateKey := at_, flags := (notedSlot c t).flags ||| 1,
    views := if c.primary then t.views else c.views }

theorem commitSlot_of_open {c : FlightCommit} {at_ : Nat} {t : Slot} (h : t.st = .open_) :
    commitSlot c at_ t = if c.final then decidedSlot c t else notedSlot c t := by
  simp only [commitSlot, notePrimary_eq]
  split
  next => rfl
  next hst => exact absurd h hst

theorem commitSlot_of_not_open {c : FlightCommit} {at_ : Nat} {t : Slot} (h : t.st ≠ .open_) :
    commitSlot c at_ t = lateSlot c at_ t := by
  simp only [commitSlot, notePrimary_eq]
  generalize t.st = st at h ⊢
  cases st
  case open_ => exact absurd rfl h
  all_goals rfl

/-! ## A commit reaches the slot store (R39, R44, R60, R61) -/

/-- The job of a commit is over (R44). -/
def endCommitJob (c : FlightCommit) (s : State) : State :=
  if c.primary then primaryDone c.slot s else viewsDone c.slot c.views s

/-- A late record of a slot then waits (R65). -/
def awaitLateRecord (e : Nat × BitVec 16) (s : State) : State :=
  { s with slots := { s.slots with lateRecords := s.slots.lateRecords ++ [e] } }

/-- A commit to a DECIDED slot is a duplicate, counted and posted (R60). -/
def noteDuplicate (port slot gen : Nat) (s : State) : State :=
  post 0x1004 port 0 slot gen { s with slots := { s.slots with duplicate := ctrBump s.slots.duplicate } }

section
variable {c : FlightCommit} {s u : State} {t : Slot}

theorem applyCommit_stale (hu : noteInstant c s = u) (ht : getSlot u c.slot = t) (h : t.st = .free ∨ t.gen ≠ c.gen) :
    applyCommit c s = post 0x2003 0 0 c.slot c.gen.toNat { u with
      slots := { u.slots with stale := ctrBump u.slots.stale } } := by
  subst hu ht
  exact if_pos h

theorem applyCommit_left (hu : noteInstant c s = u) (ht : getSlot u c.slot = t) (hst : t.st ≠ .free) (hgen : t.gen = c.gen)
    (hleft : commitTaken c t = false) :
    applyCommit c s = endCommitJob c (when_ (t.st == .decided) (noteDuplicate t.cport c.slot c.gen.toNat)
      (setSlot u c.slot (reachedSlot c t))) := by
  subst hu ht
  refine (if_neg (not_or.mpr ⟨hst, not_not_intro hgen⟩)).trans ?_
  simp only [hleft, Bool.false_and, when_, Bool.false_eq_true, if_false]
  rfl

theorem applyCommit_taken (hu : noteInstant c s = u) (ht : getSlot u c.slot = t) (hst : t.st ≠ .free) (hgen : t.gen = c.gen)
    (htaken : commitTaken c t = true) :
    applyCommit c s = endCommitJob c (when_ (t.st == .closed) (awaitLateRecord (c.slot, t.gen))
      (when_ (t.st == .open_ && !c.final && c.primary && decide (1 ≤ vpViews t.pol)) (addCandidate c.slot c)
        (setSlot u c.slot (commitSlot c (now u) (reachedSlot c t))))) := by
  subst hu ht
  have hdecided : ((getSlot (noteInstant c s) c.slot).st == .decided) = false := by
    rw [commitTaken, Bool.and_eq_true] at htaken
    simpa using htaken.1
  refine (if_neg (not_or.mpr ⟨hst, not_not_intro hgen⟩)).trans ?_
  simp only [htaken, hdecided, Bool.true_and, if_true]
  rfl

/-- A slot takes up what R61 does not refuse, unless it is DECIDED. -/
theorem commitTaken_of_ne_decided (h : isCorrupt t = false ∨ c.final = false) (hst : t.st ≠ .decided) :
    commitTaken c t = true := by
  obtain h | h := h <;> simp [commitTaken, h, hst]

section
variable (hu : noteInstant c s = u) (ht : getSlot u c.slot = t) (hgen : t.gen = c.gen)
include hu ht hgen

theorem applyCommit_decides (hst : t.st = .open_) (hfinal : c.final = true) (hgood : isCorrupt t = false) :
    applyCommit c s = endCommitJob c (setSlot u c.slot (decidedSlot c (reachedSlot c t))) := by
  rw [applyCommit_taken hu ht (by simp [hst]) hgen (commitTaken_of_ne_decided (.inl hgood) (by simp [hst])),
    commitSlot_of_open (t := reachedSlot c t) hst, if_pos hfinal]
  simp [hst, hfinal, when_]

theorem applyCommit_notes (hst : t.st = .open_) (hfinal : c.final = false) :
    applyCommit c s = endCommitJob c (if c.primary = true ∧ 1 ≤ vpViews t.pol
      then addCandidate c.slot c (setSlot u c.slot (notedSlot c (reachedSlot c t)))
      else setSlot u c.slot (notedSlot c (reachedSlot c t))) := by
  rw [applyCommit_taken hu ht (by simp [hst]) hgen (commitTaken_of_ne_decided (.inr hfinal) (by simp [hst])),
    commitSlot_of_open (t := reachedSlot c t) hst, if_neg (by simp [hfinal])]
  simp [hst, hfinal, when_]

theorem applyCommit_late (hst : t.st = .frozen ∨ t.st = .fired) (hopen : isCorrupt t = false ∨ c.final = false) :
    applyCommit c s = endCommitJob c (setSlot u c.slot (lateSlot c (now u) (reachedSlot c t))) := by
  have hnot : t.st ≠ .free ∧ t.st ≠ .decided ∧ t.st ≠ .open_ ∧ t.st ≠ .closed := by
    obtain h | h := hst <;> simp [h]
  obtain ⟨hfree, hdecided, hopened, hclosed⟩ := hnot
  rw [applyCommit_taken hu ht hfree hgen (commitTaken_of_ne_decided hopen hdecided),
    commitSlot_of_not_open (t := reachedSlot c t) hopened]
  simp [hopened, hclosed, when_]

theorem applyCommit_closed (hst : t.st = .closed) (hopen : isCorrupt t = false ∨ c.final = false) :
    applyCommit c s = endCommitJob c (awaitLateRecord (c.slot, t.gen)
      (setSlot u c.slot (lateSlot c (now u) (reachedSlot c t)))) := by
  have hopened : (reachedSlot c t).st ≠ .open_ := by simp [reachedSlot, hst]
  rw [applyCommit_taken hu ht (by simp [hst]) hgen (commitTaken_of_ne_decided hopen (by simp [hst])),
    commitSlot_of_not_open hopened]
  simp [hst, when_]

theorem applyCommit_duplicate (hst : t.st = .decided) :
    applyCommit c s = endCommitJob c (noteDuplicate t.cport c.slot c.gen.toNat (setSlot u c.slot (reachedSlot c t))) := by
  rw [applyCommit_left hu ht (by simp [hst]) hgen (by simp [commitTaken, hst])]
  simp [hst, when_]

theorem applyCommit_corrupt (hfree : t.st ≠ .free) (hst : t.st ≠ .decided) (hbad : isCorrupt t = true)
    (hfinal : c.final = true) :
    applyCommit c s = endCommitJob c (setSlot u c.slot (reachedSlot c t)) := by
  rw [applyCommit_left hu ht hfree hgen (by simp [commitTaken, hbad, hfinal])]
  simp [hst, when_]

end
end

/-! ## Records (R64 to R67) -/

theorem recordPost_next {s : State} {e : Nat × BitVec 16} (h : nextRecord s s.slots.records = some e) :
    let t := getSlot s e.1
    recordPost s = maybeFree e.1 (setSlot (postRecord t (verdictRec e.1 t false s.replay.mode)
      { s with slots := { s.slots with records := s.slots.records.erase e } }) e.1 { t with st := .closed }) := by
  simp only [recordPost, h]

theorem lateRecordPost_next {s : State} {e : Nat × BitVec 16} (h : nextRecord s s.slots.lateRecords = some e) :
    let t := getSlot s e.1
    lateRecordPost s = maybeFree e.1 (postRecord t (verdictRec e.1 t true s.replay.mode)
      { s with slots := { s.slots with lateRecords := s.slots.lateRecords.erase e } }) := by
  simp only [lateRecordPost, h]

/-! ## Views of a second look (R321) -/

/-- A job `y` that starts on the views made for it, the first of them its input (`x` is the job as admitted). -/
def startViews (x : Job) (vs : List ((Seg × List (Nat × List Byte)) × Bool)) (y : Job) : Job :=
  { y with
    st := if y.bay.isSome then .running else .suspended, views := vs.map (fun v => v.1),
    segs := match vs.head? with
      | some v => x.input.foldl (fun m e => Tab.set [] m e.1 [v.1.1]) []
      | none => [] }

theorem awaitsViews {x : Job} (hkind : x.kind = .secondLook) (hst : x.st = .waiting) (hviews : x.views = []) :
    ¬ (x.kind ≠ .secondLook ∨ x.st ≠ .waiting ∨ !x.views.isEmpty) := by simp [hkind, hst, hviews]

section
variable {s : State} {j : Nat} {x : Job} (hj : s.jobs[j]? = some x) (hkind : x.kind = .secondLook) (hst : x.st = .waiting)
  (hviews : x.views = [])
include hj hkind hst hviews

theorem viewGenerate_made {c : Crop} {cfg : List Byte} (hcrop : cropOf s (getSlot s x.slot) x.slot = some c)
    (hcfg : (getRamp s (getSlot s x.slot).cport).cfg = some cfg) :
    let t := getSlot s x.slot
    let vs := viewsOf s t c cfg
    viewGenerate j s = updJob j (startViews x vs) (times (vs.filter (fun v => v.2)).length (rmpCount t.cport 4) s) := by
  simp only [viewGenerate, hj, if_neg (awaitsViews hkind hst hviews), hcrop, hcfg]
  rfl

theorem viewGenerate_refused (h : cropOf s (getSlot s x.slot) x.slot = none ∨ (getRamp s (getSlot s x.slot).cport).cfg = none) :
    viewGenerate j s = refuseJob j s := by
  simp only [viewGenerate, hj, if_neg (awaitsViews hkind hst hviews)]
  split
  next hcrop hcfg => exact absurd h (by simp [hcrop, hcfg])
  next => rfl

end

theorem refuseJob_eq {s : State} {j : Nat} {x : Job} (hj : s.jobs[j]? = some x) :
    let t := getSlot s x.slot
    refuseJob j s = recAdmit (x.bay.getD 0) 1 0 x.slot x.gen.toNat 0
      (withdrawJob j (rmpCount t.cport 4 (setSlot s x.slot { t with sl := 3, admitted := false }))) := by
  simp only [refuseJob, hj]

/-! ## Standby jobs (R503) -/

/-- The next entry of a JOB queue, as the queue manager reads it. -/
def nextEntry (s : State) (x : Queue) : List Byte :=
  let a := x.base.toNat + 64 * (x.head.toNat % 2 ^ x.log2)
  if x.host then memRead s.mem.hostMem a 64 else tollRead s a 64

theorem takeEntry_refused {s : State} {e : List Byte} {st : Nat} (h : jobRefusal s e = some st) :
    takeEntry e s = postJobDone (jeId e) st s := by
  simp only [takeEntry, h]

theorem takeEntry_accepted {s : State} {e : List Byte} (h : jobRefusal s e = none) :
    let im := (getImg s (jeImage e)).img
    let input := tollRead s (jeIn e) (jeInSize e)
    takeEntry e s = recJob (jeId e) im.modelId (e ++ input) { tollUse 5 s with jobs := s.jobs ++ [standbyJob e input im] } := by
  simp only [takeEntry, h]

section
variable {s : State} {q : Nat} {b : BitVec 32} (hlive : halted s = false) (hready : fwReady s = true)
  (hbell : nextBell s = some (q, b))
include hlive hready hbell

theorem jobEntryTake_read : let x := getQ s q
    jobEntryTake false s = takeEntry (nextEntry s x) (queueMessage q queueDue
      (setQ (if x.host then s else tollUse 8 s) q { x with head := x.head + 1 })) := by
  simp only [jobEntryTake, hlive, hready, hbell]
  rfl

theorem jobEntryTake_unread : let x := getQ s q
    let a := x.base.toNat + 64 * (x.head.toNat % 2 ^ x.log2)
    jobEntryTake true s = if x.host then discardJob q s
      else recFault 0x3202 (tollChan s a) (tollOffset s a) (noteUe (tollChan s a) (tollOffset s a) (discardJob q s)) := by
  simp only [jobEntryTake, hlive, hready, hbell]
  rfl

end

theorem jobDone_finished {s : State} {j : Nat} {x : Job} (hj : s.jobs[j]? = some x) (h : standbyFinished s x = true) :
    let im := (getImg s x.img).img
    let c := standbyCtx s j x
    let out := (jobOuts im).flatMap (fun t => tensorData s c t.1 ((tensorRec s c t.1).getD TRec0))
    jobDone j s = postJobDone x.id.toNat stOk
      { tollWrite x.outAddr (out.take x.outSize) (tollUse 5 s) with jobs := s.jobs.eraseIdx j } := by
  simp only [jobDone, hj, h]
  rfl

/-- Settles O25: a commit ends by the state of its slot; records, views and jobs each by what their queue, crop or entry
answers. -/
theorem slotEventsComplete : Obligations.SlotEventsComplete := by
  refine ⟨fun s c hc => ?commit, fun s e he => done_eq (recordPost_next he), fun s e he => done_eq (lateRecordPost_next he),
    fun s j x hj hkind hst hviews => ⟨fun c cfg hcrop hcfg => done_eq (viewGenerate_made hj hkind hst hviews hcrop hcfg),
      fun h => done_eq ((viewGenerate_refused hj hkind hst hviews h).trans (refuseJob_eq hj))⟩,
    fun s q b hlive hready hbell => ?entry, fun s j x hj hdone => done_eq (jobDone_finished hj hdone)⟩
  case commit =>
    intro u t v b w views jobOver
    have ht : getSlot u c.slot = t := noteInstant_getSlot ..
    have hnow : now u = now s := noteInstant_now ..
    have hstale : u.slots.stale = s.slots.stale := noteInstant_stale ..
    have reaches {r : State} (h : applyCommit c { s with slots := { s.slots with commits := s.slots.commits.erase c } } = r) :
        exec .slotCommit s = .next (settle s r) := done_eq (by simp only [slotCommit, hc, h])
    rw [← hnow, ← hstale]
    exact ⟨fun h => reaches (applyCommit_stale rfl ht h), fun hgen =>
      ⟨fun hst hfinal hgood => reaches (applyCommit_decides rfl ht hgen hst hfinal hgood),
        fun hst hfinal => reaches (applyCommit_notes rfl ht hgen hst hfinal),
        fun hst hopen => reaches (applyCommit_late rfl ht hgen hst hopen),
        fun hst hopen => reaches (applyCommit_closed rfl ht hgen hst hopen),
        fun hst => reaches (applyCommit_duplicate rfl ht hgen hst),
        fun hfree hst hbad hfinal => reaches (applyCommit_corrupt rfl ht hgen hfree hst hbad hfinal)⟩⟩
  case entry =>
    have hread := jobEntryTake_read hlive hready hbell
    have hunread := jobEntryTake_unread hlive hready hbell
    exact ⟨fun st hst => done_eq (hread.trans (takeEntry_refused hst)),
      fun hst => done_eq (hread.trans (takeEntry_accepted hst)),
      fun hhost => done_eq (hunread.trans (if_pos hhost)), fun hhost => done_eq (hunread.trans (if_neg (by simp [hhost])))⟩

end Sys2Proof.Machine
end

section
/-! SUPPORT. Host loss and accesses through BAR2 (R469, R471, R482).
-/

namespace Sys2Proof.Machine

/-! ## BAR2 (R469) -/

theorem bar2Access_refused {s : State} {off : Nat} {acc : Bar2Acc}
    (h : tollOk s (s.host.winBase.toNat * 2 ^ 20 + off) (max 1 (bar2Len acc)) = false) :
    bar2Access off acc s = post 0x1705 0 63 ((s.host.winBase.toNat * 2 ^ 20 + off) / 64 % 2 ^ 32) 0
      { s with host := { s.host with bar2Refused := ctrBump s.host.bar2Refused } } := if_pos (congrArg Bool.not h)

theorem bar2Access_write {s : State} {off : Nat} {d : List Byte}
    (h : tollOk s (s.host.winBase.toNat * 2 ^ 20 + off) (max 1 d.length) = true) :
    bar2Access off (.write d) s = tollWrite (s.host.winBase.toNat * 2 ^ 20 + off) d (tollUse 6 s) :=
  if_neg (ne_of_eq_of_ne (congrArg Bool.not h) Bool.false_ne_true)

theorem bar2Access_read {s : State} {off : Nat} {n : BitVec 13}
    (h : tollOk s (s.host.winBase.toNat * 2 ^ 20 + off) (max 1 n.toNat) = true) :
    bar2Access off (.read n) s = tollUse 6 s :=
  if_neg (ne_of_eq_of_ne (congrArg Bool.not h) Bool.false_ne_true)

/-- An access to toll memory by a requester notes the time there and moves no byte. -/
theorem tollUse_mem_eq (r : Nat) (s : State) : (tollUse r s).mem = { s.mem with tollAt := now s } := by
  rw [tollUse, accessDom_mem]

theorem tollWrite_tollUse_mem (r a : Nat) (d : List Byte) (s : State) :
    (tollWrite a d (tollUse r s)).mem = { s.mem with toll := memWrite s.mem.toll a d, tollAt := now s } := by
  have hnow : now (tollUse r s) = now s := by rw [now, tollUse_time, now]
  simp only [tollWrite, tollUse_mem_eq, hnow]

/-- A byte outside the range written reads as before. -/
theorem memRead_memWrite_outside (m : Mem) (a b : Nat) (d : List Byte) (h : b < a ∨ a + d.length ≤ b) :
    memRead (memWrite m a d) b 1 = memRead m b 1 := by
  have hbyte : Tab.get 0 (memWrite m a d) b = Tab.get 0 m b := (memWriteD_get 0 m a d b).trans (if_neg (by omega))
  exact congrArg (fun x => [x]) hbyte

/-- Settles O33: a host reset is one record update, whatever brought it; an access through BAR2 turns on its range alone. -/
theorem hostEventsComplete : Obligations.HostEventsComplete := by
  refine ⟨fun s => ⟨rfl, rfl, rfl⟩, fun s => rfl, fun s => ⟨rfl, rfl⟩,
    fun s off acc hout => done_eq (bar2Access_refused hout),
    fun s off d hin => ⟨done_eq (bar2Access_write hin), tollWrite_tollUse_mem 6 _ d s⟩,
    fun s off n hin => ⟨done_eq (bar2Access_read hin), tollUse_mem_eq 6 s⟩,
    fun m a d b hout => memRead_memWrite_outside m a b d hout⟩

end Sys2Proof.Machine
end

section
/-! SUPPORT. The events of a position unit: which references Z makes pending, and what each pattern of changed levels
brings (R328 to R330, R333).
-/

namespace Sys2Proof.Machine

/-! ## References of Z (R333) -/

/-- A rising edge of Z with A and B at (a, b) is one that the unit's reference source takes. -/
abbrev takesZ (x : Pu) (a b : Bool) : Prop :=
  x.wireBad.getLsbD 0 = false ∧ (puRefSrc x.cfg = 1 ∨ puRefSrc x.cfg = 2 ∧ a = true ∧ b = true)

theorem zPend_of_takes {u : Nat} {a b : Bool} {s : State} (h : takesZ (getPu s u) a b) :
    zPend u a b s = setPu s u { getPu s u with refPending := true } := by
  obtain ⟨hgood, hsrc⟩ := h
  refine (if_neg (by simp only [hgood, Bool.false_eq_true, not_false_eq_true])).trans ?_
  obtain hsrc | ⟨hsrc, rfl, rfl⟩ := hsrc <;> simp [hsrc]

theorem zPend_of_not_takes {u : Nat} {a b : Bool} {s : State} (h : ¬ takesZ (getPu s u) a b) : zPend u a b s = s := by
  unfold zPend
  dsimp only
  split
  next => rfl
  next hgood =>
  have hsrc := not_and.mp h (Bool.not_eq_true _ ▸ hgood)
  split
  next h1 => exact absurd (.inl h1) hsrc
  next h2 => exact if_neg fun hab => hsrc (.inr ⟨h2, (Bool.and_eq_true _ _).mp hab⟩)
  next => rfl

/-! ## Levels (R328 to R330) -/

/-- The level of A that follows a change: a held input keeps its own. -/
def nextA (x : Pu) (e : EncChange) : Bool := if x.wireBad.getLsbD 2 then x.a else e.a

/-- The level of B that follows a change. -/
def nextB (x : Pu) (e : EncChange) : Bool := if x.wireBad.getLsbD 1 then x.b else e.b

/-- What the change of the levels brings, once Z has been looked at. -/
def followLevels (u : Nat) (e : EncChange) (s : State) : State :=
  let x := getPu s u
  let a := nextA x e
  let b := nextB x e
  let t := now s + e.offset.val
  if a != x.a && b != x.b then
    if e.apart.toNat ≤ puFilt x.cfg then illegal u a b s
    else
      transition u a b t (if e.aFirst then transition u a x.b (earlier t e.apart.toNat) s
        else transition u x.a b (earlier t e.apart.toNat) s)
  else if a != x.a || b != x.b then transition u a b t s
  else s

theorem encoderTransition_ignored {u : Nat} {e : EncChange} {s : State}
    (h : s.replay.mode = true ∨ e.held.toNat < puFilt (getPu s u).cfg) : encoderTransition u e s = s :=
  if_pos (by simpa using h)

theorem encoderTransition_seen {u : Nat} {e : EncChange} {s : State} (hmode : s.replay.mode = false)
    (hheld : puFilt (getPu s u).cfg ≤ e.held.toNat) :
    encoderTransition u e s = followLevels u e (if e.z then zPend u e.a e.b s else s) :=
  if_neg (by simp [hmode, hheld])

section
variable {u : Nat} {e : EncChange} {s : State}

theorem followLevels_one
    (h : nextA (getPu s u) e ≠ (getPu s u).a ∧ nextB (getPu s u) e = (getPu s u).b ∨
      nextA (getPu s u) e = (getPu s u).a ∧ nextB (getPu s u) e ≠ (getPu s u).b) :
    followLevels u e s = transition u (nextA (getPu s u) e) (nextB (getPu s u) e) (now s + e.offset.val) s := by
  obtain ⟨ha, hb⟩ | ⟨ha, hb⟩ := h <;> simp [followLevels, ha, hb]

theorem followLevels_together (ha : nextA (getPu s u) e ≠ (getPu s u).a) (hb : nextB (getPu s u) e ≠ (getPu s u).b)
    (h : e.apart.toNat ≤ puFilt (getPu s u).cfg) :
    followLevels u e s = illegal u (nextA (getPu s u) e) (nextB (getPu s u) e) s := by
  simp [followLevels, ha, hb, h]

theorem followLevels_apart (ha : nextA (getPu s u) e ≠ (getPu s u).a) (hb : nextB (getPu s u) e ≠ (getPu s u).b)
    (h : puFilt (getPu s u).cfg < e.apart.toNat) :
    let t := now s + e.offset.val
    followLevels u e s = transition u (nextA (getPu s u) e) (nextB (getPu s u) e) t
      (if e.aFirst then transition u (nextA (getPu s u) e) (getPu s u).b (earlier t e.apart.toNat) s
        else transition u (getPu s u).a (nextB (getPu s u) e) (earlier t e.apart.toNat) s) := by
  simp [followLevels, ha, hb, h]

theorem followLevels_none (ha : nextA (getPu s u) e = (getPu s u).a) (hb : nextB (getPu s u) e = (getPu s u).b) :
    followLevels u e s = s := by
  simp [followLevels, ha, hb]

end

theorem transition_uncounted {u : Nat} {a b : Bool} {t : Nat} {s : State}
    (h : decodeDir (getPu s u).cfg (getPu s u).a (getPu s u).b a b = 0) :
    transition u a b t s = setPu s u { getPu s u with a := a, b := b } := if_pos h

theorem transition_counted {u : Nat} {a b : Bool} {t : Nat} {s : State}
    (h : decodeDir (getPu s u).cfg (getPu s u).a (getPu s u).b a b ≠ 0) :
    transition u a b t s = counterUpdate u { getPu s u with a := a, b := b }
      (decodeDir (getPu s u).cfg (getPu s u).a (getPu s u).b a b) (!(getPu s u).a && a) t s := if_neg h

/-- The change of the levels, from the state `v` that looking at Z has left. -/
theorem exec_encoderTransition {s v : State} {u : Fin 4} {e : EncChange} {x : Pu}
    (hfollow : encoderTransition u e s = followLevels u e v) (hx : getPu v u = x) (hnow : now v = now s) :
    let a := nextA x e
    let b := nextB x e
    let t := now s + e.offset.val
    (a ≠ x.a ∧ b = x.b ∨ a = x.a ∧ b ≠ x.b →
      let d := decodeDir x.cfg x.a x.b a b
      (d = 0 → exec (.encoderTransition u e) s = .next (settle s (setPu v u { x with a := a, b := b }))) ∧
      (d ≠ 0 → exec (.encoderTransition u e) s =
        .next (settle s (counterUpdate u { x with a := a, b := b } d (!x.a && a) t v)))) ∧
    (a ≠ x.a → b ≠ x.b → e.apart.toNat ≤ puFilt x.cfg →
      exec (.encoderTransition u e) s = .next (settle s (setPu v u { x with
        a := a, b := b, illegal := true, ctrs := modAt x.ctrs 0 ctrBump }))) ∧
    (a ≠ x.a → b ≠ x.b → puFilt x.cfg < e.apart.toNat →
      exec (.encoderTransition u e) s = .next (settle s (transition u a b t
        (if e.aFirst then transition u a x.b (earlier t e.apart.toNat) v else transition u x.a b (earlier t e.apart.toNat) v)))) ∧
    (a = x.a → b = x.b → exec (.encoderTransition u e) s = .next (settle s v)) := by
  subst hx
  rw [← hnow]
  have reaches {t : State} (h : followLevels u e v = t) : exec (.encoderTransition u e) s = .next (settle s t) :=
    done_eq (hfollow.trans h)
  exact ⟨fun hone => ⟨fun hd => reaches ((followLevels_one hone).trans (transition_uncounted hd)),
      fun hd => reaches ((followLevels_one hone).trans (transition_counted hd))⟩,
    fun ha hb hf => reaches (followLevels_together ha hb hf), fun ha hb hf => reaches (followLevels_apart ha hb hf),
    fun ha hb => reaches (followLevels_none ha hb)⟩

theorem motionStop_due {u : Nat} {s : State} (hmoves : (getPu s u).motion ≠ .stopped)
    (hdue : (getPu s u).lastEdge + 1000 * puStopUs (getPu s u).cfg ≤ now s) :
    motionStop u s = endPulses (countPulseDue u (getPu s u).count true)
      (setPu s u { getPu s u with motion := .stopped, period := none, obsV := 0, obsA := 0 }) :=
  if_pos (by simp [hmoves, hdue])

theorem endPulses_of_mem {f : Pulse → Bool} {s : State} {x : Pulse} (hx : x ∈ s.pulses) (hf : f x = true) :
    endPulses f s = { sawLevels s with pulses := s.pulses.filter (fun x => !f x) } :=
  if_pos (List.any_eq_true.mpr ⟨x, hx, hf⟩)

/-- Settles O20: Z is looked at first, and the pattern of changed levels then decides what the change brings. -/
theorem encoderEventsComplete : Obligations.EncoderEventsComplete := by
  refine ⟨fun s u e h => done_eq (encoderTransition_ignored h), fun s u e hmode hheld => ?levels,
    fun s u => ⟨fun hmode htakes => done_eq ?pends, fun hnot => done_eq ?stays⟩, fun _ _ => rfl,
    fun s u hmoves hdue => done_eq (motionStop_due hmoves hdue), fun s u i hgood => done_eq (if_pos hgood), fun _ _ _ => rfl,
    fun s x hx hdue => done_eq (endPulses_of_mem hx hdue), fun s n hdue => done_eq (if_pos hdue)⟩
  case levels =>
    intro takes x v a b t
    have hseen := encoderTransition_seen hmode hheld
    by_cases hz : e.z = true ∧ takes
    · have hx : x = { getPu s u with refPending := true } := if_pos hz
      have hv : v = setPu s u x := if_pos hz
      rw [if_pos hz.1, zPend_of_takes hz.2, ← hx, ← hv] at hseen
      exact exec_encoderTransition hseen (by rw [hv, getPu_setPu]) (by rw [hv]; rfl)
    · have hx : x = getPu s u := if_neg hz
      have hv : v = s := if_neg hz
      have hlook : (if e.z then zPend u e.a e.b s else s) = s := by
        split
        next h => exact zPend_of_not_takes fun ht => hz ⟨h, ht⟩
        next => rfl
      exact exec_encoderTransition (by rw [hseen, hlook, hv]) (by rw [hv, hx]) (by rw [hv])
  case pends => rw [zEdge, if_neg (by simp [hmode]), zPend_of_takes htakes]
  case stays =>
    unfold zEdge
    split
    next => rfl
    next hmode => exact zPend_of_not_takes (hnot.resolve_left hmode)

end Sys2Proof.Machine
end

section
/-! SUPPORT. Integer contractions (R89): the accumulator as a 32-bit word, a ring homomorphism of the exact sum.
-/

namespace Sys2Proof

/-- An integer cut to `n` bits and read back in two's complement is the word's own signed value. -/
theorem sx_ux (n : Nat) (hn : 0 < n) (v : Int) : sx n (ux n v) = (BitVec.ofInt n v).toInt := by
  have hword : ux n v = (BitVec.ofInt n v).toNat := (BitVec.toNat_ofInt v).symm
  have hhalf : 2 ^ n = 2 * 2 ^ (n - 1) := by rw [← pow_succ', Nat.sub_add_cancel hn]
  have hlt := (BitVec.ofInt n v).isLt
  rw [hword, BitVec.toInt_eq_toNat_cond, sx, Nat.mod_eq_of_lt hlt, hhalf]
  exact if_congr (by omega) rfl rfl

theorem contractInt_eq (ps : List Int) : contractInt ps = (BitVec.ofInt 32 ps.sum).toInt := by
  rw [contractInt, sx_ux 32 (by decide), List.sum_eq_foldl]

/-- The accumulator and the exact sum are one word. -/
theorem ofInt_contractInt (ps : List Int) : BitVec.ofInt 32 (contractInt ps) = BitVec.ofInt 32 ps.sum := by
  rw [contractInt_eq, BitVec.ofInt_toInt]

theorem contractInt_perm {ps qs : List Int} (h : ps.Perm qs) : contractInt ps = contractInt qs := by
  rw [contractInt_eq, contractInt_eq, h.sum_eq]

/-- As words, the exact sum over all groups is the sum of the groups' accumulators. -/
theorem ofInt_sum_flatten (gs : List (List Int)) :
    BitVec.ofInt 32 gs.flatten.sum = BitVec.ofInt 32 (gs.map contractInt).sum := by
  induction gs with
  | nil => rfl
  | cons g gs ih =>
    rw [List.flatten_cons, List.sum_append, List.map_cons, List.sum_cons, BitVec.ofInt_add, BitVec.ofInt_add, ih,
      ofInt_contractInt]

theorem contractInt_flatten (gs : List (List Int)) : contractInt gs.flatten = contractInt (gs.map contractInt) := by
  rw [contractInt_eq, contractInt_eq, ofInt_sum_flatten]

theorem contractInt_range (ps : List Int) :
    -2 ^ 31 ≤ contractInt ps ∧ contractInt ps < 2 ^ 31 ∧ ∃ k : Int, ps.sum = contractInt ps + k * 2 ^ 32 := by
  have hbmod : contractInt ps = ps.sum.bmod (2 ^ 32) := by rw [contractInt_eq, BitVec.toInt_ofInt]
  have hdiv : ps.sum = contractInt ps + ps.sum.bdiv (2 ^ 32) * 2 ^ 32 := by
    rw [hbmod, mul_comm]
    exact (Int.bmod_add_bdiv ps.sum (2 ^ 32)).symm
  rw [contractInt_eq] at hdiv ⊢
  exact ⟨BitVec.le_toInt _, BitVec.toInt_lt, _, hdiv⟩

/-- Settles O52: the accumulator is the exact sum taken as a 32-bit word, which order does not move and which grouping
carries over word by word; two groups are the list of both. -/
theorem integerContractionIsExact : Obligations.IntegerContractionIsExact := by
  refine ⟨contractInt_eq, contractInt_range, fun _ _ => contractInt_perm, fun ps qs => ?_, contractInt_flatten⟩
  have htwo := contractInt_flatten [ps, qs]
  simpa only [List.flatten_cons, List.flatten_nil, List.append_nil, List.map_cons, List.map_nil] using htwo

end Sys2Proof
end

section
/-! SUPPORT. Maximum and minimum (R76, R100): the order of the values other than NaN, and what each of the two answers
where one operand is below the other and where neither is.
-/

namespace Sys2Proof

/-! ## The order of values -/

/-- The place of a finite value between the infinities. -/
def finKey (v : ℚ) : ℤ ×ₗ ℚ := toLex (0, v)

@[simp] theorem finKey_lt_iff {v w : ℚ} : finKey v < finKey w ↔ v < w := by simp [finKey, Prod.Lex.toLex_lt_toLex]

@[simp] theorem finKey_eq_iff {v w : ℚ} : finKey v = finKey w ↔ v = w := by simp [finKey]

/-- The place of a value in the order of R96: the infinities at the ends, both zeros at 0. Read only of values other
than NaN. -/
def extKey : Ext → ℤ ×ₗ ℚ
  | .inf neg => toLex (if neg then -1 else 1, 0)
  | x => finKey (extVal x)

theorem extIsNan_of_ne {a : Ext} (h : a ≠ .nan) : extIsNan a = false := by
  cases a with
  | nan => exact absurd rfl h
  | _ => rfl

section
variable {a b : Ext} (ha : a ≠ .nan) (hb : b ≠ .nan)
include ha hb

theorem extLt_iff : extLt a b = true ↔ extKey a < extKey b := by
  cases a with
  | nan => exact absurd rfl ha
  | inf p => cases b with
    | nan => exact absurd rfl hb
    | inf q => cases p <;> cases q <;> decide
    | _ => cases p <;> simp [extLt, extKey, finKey, Prod.Lex.toLex_lt_toLex]
  | _ => cases b with
    | nan => exact absurd rfl hb
    | inf q => cases q <;> simp [extLt, extKey, finKey, Prod.Lex.toLex_lt_toLex]
    | _ => simp only [extLt, extKey, decide_eq_true_iff, finKey_lt_iff]

theorem extEq_iff : extEq a b = true ↔ extKey a = extKey b := by
  cases a with
  | nan => exact absurd rfl ha
  | inf p => cases b with
    | nan => exact absurd rfl hb
    | inf q => cases p <;> cases q <;> decide
    | _ => cases p <;> simp [extEq, extKey, finKey]
  | _ => cases b with
    | nan => exact absurd rfl hb
    | inf q => cases q <;> simp [extEq, extKey, finKey]
    | _ => simp only [extEq, extKey, decide_eq_true_iff, finKey_eq_iff]

theorem extLe_iff : extLe a b = true ↔ extKey a ≤ extKey b := by
  rw [extLe, Bool.or_eq_true, extLt_iff ha hb, extEq_iff ha hb, le_iff_lt_or_eq]

/-- Two values at one place are two zeros of different signs or the same value. -/
theorem eq_of_extKey_of_extNeg (hkey : extKey a = extKey b) (hneg : extNeg a = extNeg b) : a = b := by
  cases a with
  | nan => exact absurd rfl ha
  | inf p => cases b with
    | nan => exact absurd rfl hb
    | inf q => exact congrArg Ext.inf hneg
    | _ => cases p <;> simp [extKey, finKey] at hkey
  | _ => cases b with
    | nan => exact absurd rfl hb
    | inf q => cases q <;> simp [extKey, finKey] at hkey
    | _ => simp_all [extKey, extVal, extNeg]

/-! ## Maximum and minimum (R100) -/

theorem extMaxMin_of_lt (h : extKey a < extKey b) : extMax a b = b ∧ extMin a b = a := by
  have hlt := (extLt_iff ha hb).mpr h
  simp [extMax, extMin, extIsNan_of_ne ha, extIsNan_of_ne hb, hlt]

theorem extMaxMin_of_gt (h : extKey b < extKey a) : extMax a b = a ∧ extMin a b = b := by
  have hgt := (extLt_iff hb ha).mpr h
  have hlt := mt (extLt_iff ha hb).mp h.asymm
  simp [extMax, extMin, extIsNan_of_ne ha, extIsNan_of_ne hb, hlt, hgt]

/-- At one place the sign of the first operand decides. -/
theorem extMaxMin_of_eq (h : extKey a = extKey b) :
    extMax a b = (if extNeg a then b else a) ∧ extMin a b = (if extNeg a then a else b) := by
  have hlt := mt (extLt_iff ha hb).mp h.not_lt
  have hgt := mt (extLt_iff hb ha).mp h.not_gt
  simp [extMax, extMin, extIsNan_of_ne ha, extIsNan_of_ne hb, hlt, hgt]

theorem extMaxMin_bounds :
    (extMax a b = a ∨ extMax a b = b) ∧ extLe a (extMax a b) = true ∧ extLe b (extMax a b) = true ∧
      (extMin a b = a ∨ extMin a b = b) ∧ extLe (extMin a b) a = true ∧ extLe (extMin a b) b = true := by
  have haa := (extLe_iff ha ha).mpr le_rfl
  have hbb := (extLe_iff hb hb).mpr le_rfl
  rcases lt_trichotomy (extKey a) (extKey b) with h | h | h
  · obtain ⟨hmax, hmin⟩ := extMaxMin_of_lt ha hb h
    simp [hmax, hmin, haa, hbb, (extLe_iff ha hb).mpr h.le]
  · obtain ⟨hmax, hmin⟩ := extMaxMin_of_eq ha hb h
    cases hneg : extNeg a <;>
      simp [hmax, hmin, hneg, haa, hbb, (extLe_iff ha hb).mpr h.le, (extLe_iff hb ha).mpr h.ge]
  · obtain ⟨hmax, hmin⟩ := extMaxMin_of_gt ha hb h
    simp [hmax, hmin, haa, hbb, (extLe_iff hb ha).mpr h.le]

theorem extMaxMin_comm_of_ne_nan : extMax a b = extMax b a ∧ extMin a b = extMin b a := by
  wlog hle : extKey a ≤ extKey b generalizing a b
  · exact (this hb ha (le_of_not_ge hle)).imp Eq.symm Eq.symm
  rcases hle.lt_or_eq with h | h
  · obtain ⟨hmax, hmin⟩ := extMaxMin_of_lt ha hb h
    obtain ⟨hmax', hmin'⟩ := extMaxMin_of_gt hb ha h
    exact ⟨hmax.trans hmax'.symm, hmin.trans hmin'.symm⟩
  · obtain ⟨hmax, hmin⟩ := extMaxMin_of_eq ha hb h
    obtain ⟨hmax', hmin'⟩ := extMaxMin_of_eq hb ha h.symm
    by_cases hneg : extNeg a = extNeg b
    · obtain rfl := eq_of_extKey_of_extNeg ha hb h hneg
      exact ⟨rfl, rfl⟩
    · have hother : extNeg b = !extNeg a := Bool.eq_not.mpr (Ne.symm hneg)
      cases hsign : extNeg a <;> simp [hmax, hmin, hmax', hmin', hother, hsign]

end

theorem extMaxMin_of_nan {a b : Ext} (h : a = .nan ∨ b = .nan) : extMax a b = .nan ∧ extMin a b = .nan := by
  obtain rfl | rfl := h <;> simp [extMax, extMin, extIsNan]

theorem extMaxMin_comm (a b : Ext) : extMax a b = extMax b a ∧ extMin a b = extMin b a := by
  by_cases hnan : a = .nan ∨ b = .nan
  · obtain ⟨hmax, hmin⟩ := extMaxMin_of_nan hnan
    obtain ⟨hmax', hmin'⟩ := extMaxMin_of_nan hnan.symm
    exact ⟨hmax.trans hmax'.symm, hmin.trans hmin'.symm⟩
  · obtain ⟨ha, hb⟩ := not_or.mp hnan
    exact extMaxMin_comm_of_ne_nan ha hb

/-- The canonical NaN of FP32 (R74, R76). -/
theorem toF32_nan : toF32 .nan = 0x7FC00000 := rfl

theorem fmaxMin_of_nan {a b : F32} (h : f32 a = .nan ∨ f32 b = .nan) :
    fmax a b = 0x7FC00000 ∧ fmin a b = 0x7FC00000 := by
  obtain ⟨hmax, hmin⟩ := extMaxMin_of_nan h
  rw [fmax, fmin, hmax, hmin]
  exact ⟨toF32_nan, toF32_nan⟩

/-- +0 and −0 stand at one place, so the sign decides between them. -/
theorem extMaxMin_zeros : extMax (.fin 0) .negZero = .fin 0 ∧ extMin (.fin 0) .negZero = .negZero :=
  extMaxMin_of_eq (by decide) (by decide) rfl

/-- Settles O54: NaN decides first, then the place of the operands in the order, then the sign of the first. -/
theorem maximumAndMinimum : Obligations.MaximumAndMinimum :=
  ⟨fun _ _ => extMaxMin_of_nan, fun _ _ => fmaxMin_of_nan, fun _ _ => extMaxMin_bounds, extMaxMin_comm, extMaxMin_zeros⟩

end Sys2Proof
end

section
/-! SUPPORT. Memory errors (R139, R140, R454 to R457, R550): the counts of the hour and what passing their limit sets, and
the errors that a channel, a page pool or the owner of a region decides.
-/

namespace Sys2Proof

theorem Tab.get_upd_same {α : Type} [DecidableEq α] (d : α) (t : Tab α) (i : Nat) (f : α → α) :
    Tab.get d (Tab.upd d t i f) i = f (Tab.get d t i) :=
  (Tab.get_set ..).trans (if_pos rfl)

end Sys2Proof

namespace Sys2Proof.Machine

/-! ## The counts of the hour (R550) -/

/-- The state at the start of a new hour of R550: every count at zero. -/
def freshInterval (s : State) : State :=
  { s with mem := { s.mem with intervalNo := ceInterval s, chInterval := [], sramInterval := [] } }

theorem rollInterval_of_same {s : State} (h : ceInterval s = s.mem.intervalNo) : rollInterval s = s := if_pos h

theorem rollInterval_of_new {s : State} (h : ceInterval s ≠ s.mem.intervalNo) : rollInterval s = freshInterval s := if_neg h

/-- Rolling once is rolling twice: the fresh hour is the hour of the count. -/
theorem rollInterval_freshInterval {s : State} (h : ceInterval s ≠ s.mem.intervalNo) :
    rollInterval s = rollInterval (freshInterval s) :=
  (rollInterval_of_new h).trans (rollInterval_of_same rfl).symm

/-- Setting a bit that is set changes nothing. -/
theorem or_one_shiftLeft_of_set {n : Nat} {w : BitVec n} {b : Nat} (h : w.getLsbD b = true) : w ||| 1#n <<< b = w := by
  apply BitVec.eq_of_getLsbD_eq
  intro i hi
  rcases eq_or_ne i b with rfl | hib
  · simp [h]
  · have hbit : (1#n <<< b).getLsbD i = false := by
      simp [BitVec.getLsbD_shiftLeft, BitVec.getLsbD_one]
      omega
    simp [hbit]

theorem rsSet_rs (b : Nat) (s : State) : (rsSet b s).rst.rs = s.rst.rs ||| 1#32 <<< b := by
  unfold rsSet
  split
  next hset => exact (or_one_shiftLeft_of_set hset).symm
  next => rw [post_rst]

@[simp] theorem ceOver_mem (n limit dom arg : Nat) (s : State) : (ceOver n limit dom arg s).mem = s.mem := by
  unfold ceOver
  split
  next => rw [rsSet_mem, post_mem]
  next => rfl

/-- Passing the limit sets reason 3; any other count leaves the reasons alone. -/
theorem ceOver_rs (n limit dom arg : Nat) (s : State) :
    (ceOver (n + 1) limit dom arg s).rst.rs = if n = limit then s.rst.rs ||| 8 else s.rst.rs := by
  unfold ceOver
  simp only [Nat.add_right_cancel_iff]
  split
  next => rw [rsSet_rs, post_rst]; rfl
  next => rfl

/-- One error more of channel `ch` in this hour. -/
def countChannel (ch : Nat) (s : State) : State :=
  { s with mem := { s.mem with chInterval := Tab.set 0 s.mem.chInterval ch (Tab.get 0 s.mem.chInterval ch + 1) } }

/-- One error more of SRAM counter `i` in this hour. -/
def countSram (i : Nat) (s : State) : State :=
  { s with mem := { s.mem with sramInterval := Tab.set 0 s.mem.sramInterval i (Tab.get 0 s.mem.sramInterval i + 1) } }

section
variable {s : State} (hsame : ceInterval s = s.mem.intervalNo)
include hsame

theorem ceChannel_of_same (ch : Nat) : ceChannel ch s =
    ceOver (Tab.get 0 s.mem.chInterval ch + 1) 256 (59 + ch / 4) ch (countChannel ch s) := by
  simp only [ceChannel, rollInterval_of_same hsame]
  rfl

theorem ceSram_of_same (i dom : Nat) : ceSram i dom s =
    ceOver (Tab.get 0 s.mem.sramInterval i + 1) 64 dom (0x100 + i) (countSram i s) := by
  simp only [ceSram, rollInterval_of_same hsame]
  rfl

theorem ceChannel_count (ch : Nat) :
    Tab.get 0 (ceChannel ch s).mem.chInterval ch = Tab.get 0 s.mem.chInterval ch + 1 := by
  rw [ceChannel_of_same hsame, ceOver_mem]
  exact (Tab.get_set ..).trans (if_pos rfl)

theorem ceSram_count (i dom : Nat) :
    Tab.get 0 (ceSram i dom s).mem.sramInterval i = Tab.get 0 s.mem.sramInterval i + 1 := by
  rw [ceSram_of_same hsame, ceOver_mem]
  exact (Tab.get_set ..).trans (if_pos rfl)

end

/-! ## Errors of a channel that the grade has, and of no other (R448, R454 to R457) -/

theorem dramUe_outside {s : State} {ch off : Nat} (h : deckChans s ≤ ch ∨ deckEnd s ≤ deckAddr s ch off / 64 * 64) :
    dramUe ch off s = s := if_pos h

section
variable {s : State} {ch off : Nat} (hch : ch < deckChans s) (hend : deckAddr s ch off / 64 * 64 < deckEnd s)
include hch hend

theorem dramUe_inside : let a := deckAddr s ch off / 64 * 64
    let v := { s with deck := { s.deck with badLines := a :: s.deck.badLines.filter (fun x => x != a) } }
    dramUe ch off s = if inPool s a = true then logUe ch off v
      else recFault 0x3202 ch off (noteUe ch off (if s.seq.active = true then flagAllEcc v else v)) :=
  if_neg (not_or.mpr ⟨hch.not_ge, hend.not_ge⟩)

end

/-- Settles O44: below its limit a count only grows, at its limit it also sets reason 3, and everything else turns on the
channel, the page pool or the owner of the region. -/
theorem memoryErrorsComplete : Obligations.MemoryErrorsComplete := by
  refine ⟨fun s g b => rfl, fun s b => rfl, fun s k b => rfl,
    fun s ch => ⟨fun hch => done_eq (if_neg hch.not_ge), fun hch => done_eq (if_pos hch)⟩,
    fun s ch h => ⟨ceChannel_of_same h ch, ceChannel_count h ch, ?channelReason⟩,
    fun s i dom h => ⟨ceSram_of_same h i dom, ceSram_count h i dom, ?sramReason⟩,
    fun s ch i dom h => ?newHour,
    fun s => ⟨fun h => done_eq (rollInterval_of_new h), fun h => done_eq (rollInterval_of_same h)⟩,
    fun s u bank row => ⟨_, rfl, rfl⟩,
    fun s ch off => ⟨fun hout => done_eq (dramUe_outside hout),
      fun hch hend hpool => done_eq ((dramUe_inside hch hend).trans (if_pos hpool)),
      fun hch hend hpool => done_eq ((dramUe_inside hch hend).trans (if_neg (Bool.eq_false_iff.mp hpool)))⟩,
    fun s ch off => ⟨Tab.get_upd_same .., rfl⟩,
    fun s c off => ⟨fun hc hoff => done_eq (if_neg (not_or.mpr ⟨hc.not_ge, hoff.not_ge⟩)), fun hout => done_eq (if_pos hout)⟩,
    fun s ch => rfl,
    fun s ch => ⟨fun hch => done_eq (if_neg hch.not_ge), fun hch => done_eq (if_pos hch)⟩,
    fun s region requester => ⟨fun hdeck => done_eq (if_pos hdeck),
      fun hfree => done_eq (if_neg (Bool.eq_false_iff.mp hfree))⟩⟩
  case channelReason => rw [ceChannel_of_same h, ceOver_rs]; rfl
  case sramReason => rw [ceSram_of_same h, ceOver_rs]; rfl
  case newHour => exact ⟨by simp only [ceChannel, rollInterval_freshInterval h]; rfl,
    by simp only [ceSram, rollInterval_freshInterval h]; rfl⟩

end Sys2Proof.Machine
end

section
/-! SUPPORT. Span messages taken up (R391 to R394, R398, R399): what becomes of a WRITE or SIGNAL message by its crossing
number, its landing buffer and its FIN, and where a TOLL_WRITE message goes.
-/

namespace Sys2Proof.Machine

/-! ## Landing by the crossing number and the buffer (R393) -/

/-- One more event of kind `w` in the counters of port `p` (R402). -/
def spCount (w p : Nat) (s : State) : State := setSpan s p (spBump w 1 (getSpan s p))

/-- A message that its landing buffer cannot take is counted and posted (R393). -/
def landBeyond (p : Nat) (m : List Byte) (s : State) : State :=
  spPost 0x2508 (p % 8) (fld m 6 2) (fld m 12 3) (spCount 11 p s)

theorem landMsg_unstarted (p : Nat) (m : List Byte) {s : State} (hstarted : s.seq.started = false)
    (harmed : s.seq.launchArmed = none) : landMsg p m s = some (spCount 9 p s) :=
  if_pos (by simp only [hstarted, harmed]; rfl)

section
variable {p : Nat} {m : List Byte} {s : State} (hlive : s.seq.started = true ∨ s.seq.launchArmed.isSome = true)
include hlive

theorem expects_crossing : ¬ (!s.seq.started && s.seq.launchArmed.isNone) = true := by
  rw [Bool.and_eq_true, Bool.not_eq_true', Option.isNone_iff_eq_none]
  rintro ⟨hstarted, harmed⟩
  simp [hstarted, harmed] at hlive

theorem landMsg_early (h : 2 ≤ (BitVec.ofNat 32 (fld m 8 4) - xNow s).toNat)
    (hlt : (BitVec.ofNat 32 (fld m 8 4) - xNow s).toNat < 2 ^ 31) : landMsg p m s = none :=
  (if_neg (expects_crossing hlive)).trans (if_pos ⟨h, hlt⟩)

theorem landMsg_behind (h : 2 ^ 31 ≤ (BitVec.ofNat 32 (fld m 8 4) - xNow s).toNat) :
    landMsg p m s = some (spPost 0x2506 (p % 8) (fld m 6 2) (BitVec.ofNat 32 (fld m 8 4)).toNat (spCount 10 p s)) :=
  (if_neg (expects_crossing hlive)).trans ((if_neg fun hearly => hearly.2.not_ge h).trans (if_pos h))

section
variable (hdiff : (BitVec.ofNat 32 (fld m 8 4) - xNow s).toNat < 2)
include hdiff

theorem landMsg_no_place (hplace : landingPlace s (fld m 6 2) = none) : landMsg p m s = some (landBeyond p m s) := by
  refine (if_neg (expects_crossing hlive)).trans ((if_neg fun hearly => hdiff.not_ge hearly.1).trans
    ((if_neg (by omega)).trans ?_))
  rw [hplace]
  rfl

variable {q : Place} (hplace : landingPlace s (fld m 6 2) = some q)
include hplace

theorem landMsg_past_half (hpast : q.size / 2 < fld m 12 3 + fld1 m 15) : landMsg p m s = some (landBeyond p m s) := by
  refine (if_neg (expects_crossing hlive)).trans ((if_neg fun hearly => hdiff.not_ge hearly.1).trans
    ((if_neg (by omega)).trans ?_))
  rw [hplace]
  exact if_pos hpast

theorem landMsg_fits (hfits : fld m 12 3 + fld1 m 15 ≤ q.size / 2) :
    let f := fld m 6 2
    let x := BitVec.ofNat 32 (fld m 8 4)
    let h := x.toNat % 2
    let a := q.addr + h * (q.size / 2)
    let set := s.seq.flags.contains (f, h)
    let u := if fld1 m 15 = 0 then s else approachWrite 12 (a + fld m 12 3) (msgData m) (set && msgFin m) s
    let v := regionsToDeck (halfRegions q h) { u with seq := { u.seq with flags := u.seq.flags ++ [(f, h)] } }
    landMsg p m s =
      if !msgFin m then some u
      else if set then some (spPost 0x1507 (p % 8) f x.toNat (spCount 10 p u))
      else some (recLanding (msgSrc m) f (s.seq.crossing + (x - xNow s).zeroExtend 64) (memRead v.deck.abut a (q.size / 2)) v) := by
  refine (if_neg (expects_crossing hlive)).trans ((if_neg fun hearly => hdiff.not_ge hearly.1).trans
    ((if_neg (by omega)).trans ?_))
  rw [hplace]
  exact if_neg hfits.not_gt

end

end

/-! ## Taking a message up (R391, R394, R399) -/

section
variable {typ p : Nat} {s : State}

theorem messageIn_idle
    (h : s.replay.mode = true ∨
      takeMsg p (fun m => msgType m == typ && (p == 8 || msgDst m == s.span.node.toNat)) s = none) :
    messageIn typ p s = s := by
  unfold messageIn
  split
  next => rfl
  next hmode => rw [h.resolve_left hmode]

variable {x : RxMsg} {u : State} (hmode : s.replay.mode = false)
  (htake : takeMsg p (fun m => msgType m == typ && (p == 8 || msgDst m == s.span.node.toNat)) s = some (x, u))
include hmode htake

theorem messageIn_asleep (h : landAsleep s x.bytes = true) : messageIn typ p s = landWake x.bytes s := by
  simp [messageIn, hmode, htake, h]

theorem messageIn_settled {v : State} (h : landAsleep s x.bytes = false) (hv : landMsg p x.bytes u = some v) :
    messageIn typ p s = freeMsg p x v := by
  simp [messageIn, hmode, htake, h, hv]

theorem messageIn_held (h : landAsleep s x.bytes = false) (hheld : landMsg p x.bytes u = none) :
    messageIn typ p s = setSpan u p { getSpan u p with held := (getSpan u p).held ++ [x] } := by
  simp [messageIn, hmode, htake, h, hheld]

end

/-- COPY_LANDED follows a TOLL_WRITE message with FIN (R399). -/
def copyLanded (p : Nat) (m : List Byte) (s : State) : State :=
  if msgFin m = true then spPost 0x150D (p % 8) (fld m 12 3) (msgSrc m) s else s

theorem tollWriteMsg_idle {p : Nat} {s : State}
    (h : takeMsg p (fun m => msgType m == 5 && (p == 8 || msgDst m == s.span.node.toNat)) s = none) :
    tollWriteMsg p s = s := by simp only [tollWriteMsg, h]

section
variable {p : Nat} {s u : State} {x : RxMsg}
  (htake : takeMsg p (fun m => msgType m == 5 && (p == 8 || msgDst m == s.span.node.toNat)) s = some (x, u))
include htake

theorem tollWriteMsg_inside (hopen : s.span.winMib ≠ 0)
    (hin : fld x.bytes 6 6 + fld1 x.bytes 15 ≤ s.span.winMib * 2 ^ 20) :
    tollWriteMsg p s = freeMsg p x (copyLanded p x.bytes
      (tollWrite (s.span.winBase + fld x.bytes 6 6) (msgData x.bytes) (tollUse 7 u))) := by
  simp only [tollWriteMsg, htake, if_pos (And.intro hopen hin)]
  rfl

theorem tollWriteMsg_outside (hout : s.span.winMib = 0 ∨ s.span.winMib * 2 ^ 20 < fld x.bytes 6 6 + fld1 x.bytes 15) :
    tollWriteMsg p s = freeMsg p x (copyLanded p x.bytes
      (spPost 0x2508 (p % 8) 0xFFFF (fld x.bytes 6 6 % 2 ^ 32) (spCount 11 p u))) := by
  have hno : ¬(s.span.winMib ≠ 0 ∧ fld x.bytes 6 6 + fld1 x.bytes 15 ≤ s.span.winMib * 2 ^ 20) := by omega
  simp only [tollWriteMsg, htake, if_neg hno]
  rfl

end

theorem messageForward_idle {p : Nat} {s : State}
    (h : takeMsg p (fun m => [1, 2, 5].contains (msgType m) && msgDst m != s.span.node.toNat) s = none) :
    messageForward p s = s := by simp only [messageForward, h]

theorem messageForward_taken {p : Nat} {s u : State} {x : RxMsg}
    (h : takeMsg p (fun m => [1, 2, 5].contains (msgType m) && msgDst m != s.span.node.toNat) s = some (x, u)) :
    messageForward p s = freeMsg p x (routeMsg p x.bytes u) := by simp only [messageForward, h]

/-- Settles O39: what becomes of a message turns on its crossing number, then its buffer, then its FIN. -/
theorem spanMessagesComplete : Obligations.SpanMessagesComplete := by
  refine ⟨?takenUp, fun p m s hstarted harmed => landMsg_unstarted p m hstarted harmed, ?landed,
    fun s p => ⟨fun hnone => done_eq (tollWriteMsg_idle hnone), fun x u htake =>
      ⟨fun hopen hin => done_eq (tollWriteMsg_inside htake hopen hin), fun hout => done_eq (tollWriteMsg_outside htake hout)⟩⟩,
    fun s p => ⟨fun hnone => done_eq (messageForward_idle hnone), fun x u htake => done_eq (messageForward_taken htake)⟩⟩
  case takenUp =>
    intro s p typ htyp
    have hexec : exec (if typ = 1 then Instr.writeMessage p else Instr.signalMessage p) s = done (messageIn typ p) s := by
      obtain rfl | rfl := htyp <;> rfl
    simp only [hexec]
    exact ⟨fun h => done_eq (messageIn_idle h), fun x u hmode htake => ⟨fun h => done_eq (messageIn_asleep hmode htake h), fun h =>
      ⟨fun v hv => done_eq (messageIn_settled hmode htake h hv), fun hn => done_eq (messageIn_held hmode htake h hn)⟩⟩⟩
  case landed =>
    intro p m s hlive
    refine ⟨fun h hlt => landMsg_early hlive h hlt, fun h => landMsg_behind hlive h,
      fun hdiff hplace => landMsg_no_place hlive hdiff hplace, fun q hdiff hplace =>
      ⟨fun hpast => landMsg_past_half hlive hdiff hplace hpast, fun hfits => ?_⟩⟩
    have hland := landMsg_fits (p := p) hlive hdiff hplace hfits
    exact ⟨fun hfin => hland.trans (if_pos (by simp [hfin])),
      fun hfin hset => hland.trans ((if_neg (by simp [hfin])).trans (if_pos hset)),
      fun hfin hset => hland.trans ((if_neg (by simp [hfin])).trans (if_neg (Bool.eq_false_iff.mp hset)))⟩

end Sys2Proof.Machine
end

section
/-! SUPPORT. Ramp commands and events (R120, R121, R215, R301, R319, R322, R323): what RMP_CONFIG answers, which write of a
sample waits for its bank, and what the end of a band leaves.
-/

namespace Sys2Proof.Machine

/-! ## RMP_CONFIG (R301, R322) -/

/-- A port's ramp as RMP_CONFIG leaves it: the new bytes, and segmentation from its beginning. -/
def reconfigured (p : List Byte) (r : Ramp) : Ramp :=
  { r with cfg := some (p.drop 8), seeded := false, bg := [], objs := [], lines := [], crops := [] }

theorem bodyRmpConfig_unready {s : State} {p : List Byte}
    (h : (getCam s (fld1 p 0)).configured = false ∨ (getPolicy s (fld1 p 0)).unset = true) :
    bodyRmpConfig s p = no s (refuse stState) := if_pos (by simpa using h)

section
variable {s : State} {p : List Byte} (hcam : (getCam s (fld1 p 0)).configured = true)
  (hpolicy : (getPolicy s (fld1 p 0)).unset = false)
include hcam hpolicy

theorem ramp_ready : ¬ (!(getCam s (fld1 p 0)).configured || (getPolicy s (fld1 p 0)).unset) = true := by
  simp [hcam, hpolicy]

theorem bodyRmpConfig_running (hruns : portRuns s (fld1 p 0) = true) : bodyRmpConfig s p = no s (refuse stBusyRunning) :=
  (if_neg (ramp_ready hcam hpolicy)).trans (if_pos hruns)

theorem bodyRmpConfig_idle (hidle : portRuns s (fld1 p 0) = false) : let i := fld1 p 0
    bodyRmpConfig s p = yes (wakeCfg 50 (recConfigAt (apExp (getCam s i).ap * (getCam s i).outNo) i 0x0401 p
      (setRamp s i (reconfigured p (getRamp s i))))) [] :=
  (if_neg (ramp_ready hcam hpolicy)).trans (if_neg (Bool.eq_false_iff.mp hidle))

end

/-! ## SAMPLE_WRITE (R120, R319) -/

section
variable {s : State} {i : Nat} {b : Band} {w : List (Nat × List Byte)} {rest : List (List (Nat × List Byte))}
  (hband : s.bands.find? (fun b => b.cport == i && !b.writes.isEmpty) = some b) (hwrites : b.writes = w :: rest)
include hband hwrites

theorem sampleWrite_awake (hawake : ∀ x ∈ w, approachAsleep s x.1 x.2.length = []) :
    sampleWrite i s = w.foldl (fun t x => approachWrite 4 x.1 x.2 false t)
      (updBand b.cport b.no (fun x => { x with writes := x.writes.drop 1 }) s) := by
  have hport : b.cport = i := by
    have hmine := List.find?_some hband
    rw [Bool.and_eq_true] at hmine
    exact beq_iff_eq.mp hmine.1
  have hnone : w.find? (fun x => !(approachAsleep s x.1 x.2.length).isEmpty) = none :=
    List.find?_eq_none.mpr fun x hx => by simp [hawake x hx]
  simp only [sampleWrite, hband, hwrites, List.headD_cons, hnone, hport]
  rfl

theorem sampleWrite_wakes {before after : List (Nat × List Byte)} {x : Nat × List Byte} (hsplit : w = before ++ x :: after)
    (hawake : ∀ y ∈ before, approachAsleep s y.1 y.2.length = []) (hasleep : approachAsleep s x.1 x.2.length ≠ []) :
    sampleWrite i s = approachWake 4 x.1 x.2.length s := by
  have hfirst : w.find? (fun x => !(approachAsleep s x.1 x.2.length).isEmpty) = some x :=
    List.find?_eq_some_iff_append.mpr ⟨by simpa using hasleep, before, after, hsplit, fun y hy => by simp [hawake y hy]⟩
  simp only [sampleWrite, hband, hwrites, List.headD_cons, hfirst]
  rfl

end

/-! ## BAND_COMPLETE (R121, R215, R319) -/

section
variable {s : State} {i n : Nat} {b : Band} (hband : getBand s i n = some b) (hlined : b.lined = true)
  (hwritten : b.writes = []) (hopen : b.complete = false)
include hband hlined hwritten hopen

theorem bandComplete_no_buffer (hbuffer : b.buffer = none) :
    bandComplete i n s = updBand i n (fun x => { x with complete := true, doneAt := now s }) s := by
  simp [bandComplete, hband, hlined, hwritten, hopen, hbuffer]

theorem bandComplete_buffer (hbuffer : b.buffer ≠ none) :
    bandComplete i n s =
      regionsToDeck (regionsOf b.addr b.size) (updBand i n (fun x => { x with complete := true, doneAt := now s }) s) := by
  obtain ⟨k, hk⟩ := Option.ne_none_iff_exists'.mp hbuffer
  simp [bandComplete, hband, hlined, hwritten, hopen, hk]

end

/-- Settles O21: RMP_CONFIG answers by what is configured and what runs, SAMPLE_WRITE by the first bank that sleeps, and
BAND_COMPLETE by the band's buffer. -/
theorem rampCommandsComplete : Obligations.RampCommandsComplete := by
  refine ⟨fun s m r p h =>
      ⟨fun hcam hpolicy hidle => done_yes h (bodyRmpConfig_idle (s := takeReq s) hcam hpolicy hidle),
        fun hunready => done_no h (bodyRmpConfig_unready (s := takeReq s) hunready),
        fun hcam hpolicy hruns => done_no h (bodyRmpConfig_running (s := takeReq s) hcam hpolicy hruns)⟩,
    fun s m r p h => done_yes h rfl,
    fun s i b w rest hband hwrites => ⟨fun hawake => done_eq (sampleWrite_awake hband hwrites hawake),
      fun before x after hsplit hawake hasleep => done_eq (sampleWrite_wakes hband hwrites hsplit hawake hasleep)⟩,
    fun s i n b hband hlined hwritten hopen =>
      ⟨fun hbuffer => done_eq (bandComplete_no_buffer hband hlined hwritten hopen hbuffer),
        fun hbuffer => done_eq (bandComplete_buffer hband hlined hwritten hopen hbuffer)⟩⟩

end Sys2Proof.Machine
end

section
/-! SUPPORT. The model commands (R222, R226, R316, R493, R502, R525, R526): the answers of MODEL_STAGE in their order, the
commands that wait for the boundary while crossings run, and what a committed image stands as.
-/

namespace Sys2Proof.Machine

/-- An accepted command whose body answers with a reply of any kind. -/
theorem done_answer {s S : State} {m : Nat} {c : Spec} {r : Req} {p : List Byte} {rep : Reply}
    {body : State → List Byte → State × Option Reply} (h : Accepts s m c r p) (hb : body (takeReq s) p = (S, some rep)) :
    done (command m c body) s = .next (settle s (finish m rep S)) := by
  rw [done, command_accepts h, hb]

/-! ## MODEL_STAGE (R502, R525) -/

/-- MODEL_STAGE holds an answer of its own: it reads toll memory and stays under way (R489). -/
def stageHeld (m : Nat) (p : List Byte) (rep : Reply) (s : State) : State × Option Reply :=
  hold m 0x0801 p [] false (some rep) (tollUse 9 s)

section
variable {m : Nat} {s : State} {p : List Byte}

theorem bodyModelStage_lifecycle (hblank : lifecycle s ≠ 1) (hreturned : lifecycle s ≠ 2) :
    bodyModelStage m s p = stageHeld m p (refuse stLifecycle) s :=
  if_pos (by simp [hblank, hreturned])

variable (hlife : lifecycle s = 1 ∨ lifecycle s = 2)
include hlife

theorem may_stage : ¬ (lifecycle s != 1 && lifecycle s != 2) = true := by
  obtain h | h := hlife <;> simp [h]

theorem bodyModelStage_full (hfull : emptyIndex s = none) : bodyModelStage m s p = stageHeld m p (refuse stNoSpace) s := by
  simp only [bodyModelStage, if_neg (may_stage hlife), hfull]
  rfl

variable {i : Nat} (hfree : emptyIndex s = some i)
include hfree

theorem bodyModelStage_invalid {o : Nat} (hcheck : imageChecks (tollRead s (fld p 0 8) (fld p 8 4)) (deckChans s) = some o) :
    bodyModelStage m s p = stageHeld m p ⟨stImageInvalid, o, []⟩ s := by
  simp only [bodyModelStage, if_neg (may_stage hlife), hfree, hcheck]
  rfl

variable {b meas : List Byte} (hb : tollRead s (fld p 0 8) (fld p 8 4) = b) (hmeas : sha256 (b.take (fld b 32 4)) = meas)
  (hcheck : imageChecks b (deckChans s) = none)
include hb hmeas hcheck

theorem bodyModelStage_unsigned (hsig : sigValid s.sec.otp (sigBlock b) meas 1 = false) :
    bodyModelStage m s p = stageHeld m p (refuse stSignature) s := by
  subst hb hmeas
  simp only [bodyModelStage, if_neg (may_stage hlife), hfree, hcheck, signedPart, hsig]
  rfl

variable (hsig : sigValid s.sec.otp (sigBlock b) meas 1 = true)
include hsig

theorem bodyModelStage_unfit (hfit : fitsGrade s (parseImage b) = false) :
    bodyModelStage m s p = stageHeld m p (refuse stImageUnfit) s := by
  subst hb hmeas
  simp only [bodyModelStage, if_neg (may_stage hlife), hfree, hcheck, signedPart, hsig, hfit]
  rfl

theorem bodyModelStage_staged (hfit : fitsGrade s (parseImage b) = true) : let im := parseImage b
    bodyModelStage m s p = stageHeld m p (okWith (leBytes 1 i ++ leBytes 1 im.role ++ leBytes 1 (eligibleBits s im) ++ zeros 1 ++
      leBytes 4 im.version ++ leBytes 8 im.modelId ++ meas)) (stageAt i (fld p 0 8) b meas s) := by
  subst hb hmeas
  simp only [bodyModelStage, if_neg (may_stage hlife), hfree, hcheck, signedPart, hsig, hfit]
  rfl

end

/-! ## Commands that wait for the boundary (R493) -/

section
variable {m op : Nat} {objs : List Byte → List Objt} {early : State → List Byte → Option Reply}
  {apply : List Byte → State → State × Reply} {s : State} {p : List Byte}

theorem boundaryCmd_refused {rep : Reply} (h : early s p = some rep) : boundaryCmd m op objs early apply s p = no s rep := by
  simp only [boundaryCmd, h]

theorem boundaryCmd_waits (h : early s p = none) (hlive : s.seq.started = true) :
    boundaryCmd m op objs early apply s p = hold m op p (objs p) true none s := by
  simp only [boundaryCmd, h, crossingLive, hlive, if_true]

theorem boundaryCmd_applies {u : State} {rep : Reply} (h : early s p = none) (hidle : s.seq.started = false)
    (happly : apply p s = (u, rep)) :
    boundaryCmd m op objs early apply s p = (recNoCrossing [] [(op, p)] u, some rep) := by
  simp only [boundaryCmd, h, crossingLive, if_neg (Bool.eq_false_iff.mp hidle), happly]

end

/-! ## MODEL_COMMIT and what a committed image stands as (R226, R502, R526) -/

section
variable {s : State} {p : List Byte}

theorem commitEarly_empty (h : (getImg s (fld1 p 0)).st = .empty) : commitEarly s p = some (refuse stNotFound) := by
  simp only [commitEarly, h]

theorem commitEarly_committed (h : (getImg s (fld1 p 0)).st = .committed) : commitEarly s p = some (refuse stState) := by
  simp only [commitEarly, h]

theorem commitEarly_staged (h : (getImg s (fld1 p 0)).st = .staged) : commitEarly s p = none := by
  simp only [commitEarly, h]

theorem applyCommitCmd_refused {rep : Reply} (h : commitRefusal s (fld1 p 0) = some rep) : applyCommitCmd p s = (s, rep) := by
  simp only [applyCommitCmd, h]

theorem applyCommitCmd_commits (h : commitRefusal s (fld1 p 0) = none) :
    applyCommitCmd p s = (commitNow (fld1 p 0) s, okWith []) := by
  simp only [applyCommitCmd, h]

end

theorem refreshSwing_imgs (s : State) : (refreshSwing s).imgs = s.imgs := by
  unfold refreshSwing
  exact foldl_keeps State.imgs _ (fun a n => setGirder_imgs ..) _ _

theorem refreshSwing_dram (s : State) : (refreshSwing s).deck.dram = s.deck.dram := by
  unfold refreshSwing
  refine foldl_keeps (fun a : State => a.deck.dram) _ (fun a n => ?_) _ _
  rfl

theorem recLot_imgs (s : State) : (recLot s).imgs = s.imgs := recPut_imgs ..

theorem recLot_deck (s : State) : (recLot s).deck = s.deck := recPut_deck ..

/-- What follows the mark of a commit changes no image. -/
theorem getImg_recLot_refreshSwing (s : State) (i : Nat) :
    getImg (recLot (refreshSwing (deckUse 9 (tollUse 9 s)))) i = getImg s i := by
  simp [getImg, recLot_imgs, refreshSwing_imgs]

/-- What follows the mark of a commit changes no byte of deck memory. -/
theorem dram_recLot_refreshSwing (s : State) :
    (recLot (refreshSwing (deckUse 9 (tollUse 9 s)))).deck.dram = s.deck.dram := by
  simp [recLot_deck, refreshSwing_dram]

theorem commitNow_image (i : Nat) (s : State) : let x := getImg (commitNow i s) i
    x.st = .committed ∧ x.img = (getImg s i).img ∧ x.digest = sha256 (memRead (commitNow i s).deck.dram x.deckBase x.deckSize) ∧
      x.kv = { Kv0 with base := x.deckBase + x.img.poolBase, pages := x.img.poolPages, sets := x.img.sets } := by
  simp only [commitNow, getImg_recLot_refreshSwing, dram_recLot_refreshSwing, getImg_setImg]
  exact ⟨trivial, trivial, rfl, trivial⟩

/-! ## MODEL_SWITCH (R226, R316) -/

section
variable {s : State} {p : List Byte}

theorem switchEarly_empty (h : (getImg s (fld1 p 0)).st = .empty) : switchEarly s p = some (refuse stNotFound) := if_pos h

theorem switchEarly_unfit (h : (getImg s (fld1 p 0)).st = .staged ∨
    (getImg s (fld1 p 0)).st = .committed ∧ (getImg s (fld1 p 0)).img.role ≠ 0) : switchEarly s p = some (refuse stState) := by
  have hfull : (getImg s (fld1 p 0)).st ≠ .empty := by obtain h | ⟨h, -⟩ := h <;> simp [h]
  exact (if_neg hfull).trans (if_pos (h.imp_right And.right))

variable (hst : (getImg s (fld1 p 0)).st = .committed) (hrole : (getImg s (fld1 p 0)).img.role = 0)
include hst hrole

theorem switchEarly_fit : switchEarly s p = none := by simp [switchEarly, hst, hrole]

theorem applySwitch_switches (hstream : streamCheck s (getImg s (fld1 p 0)).img = none) : let i := fld1 p 0
    applySwitch p s = ({ s with seq := { s.seq with img := i, rated := s.seq.rated && i == s.seq.img } }, okWith []) := by
  simp only [applySwitch, switchEarly_fit hst hrole, hstream]

theorem applySwitch_disagrees {port : Nat} (hstream : streamCheck s (getImg s (fld1 p 0)).img = some port) :
    applySwitch p s = (s, ⟨stState, port, []⟩) := by
  simp only [applySwitch, switchEarly_fit hst hrole, hstream]

end

/-! ## The commands, accepted -/

theorem exec_modelStage {s : State} {m : Fin 16} {r : Req} {p : List Byte} {rep : Reply} {u : State}
    (h : Accepts s m specModelStage r p) (hb : bodyModelStage m (takeReq s) p = stageHeld m p rep u) :
    exec (.modelStage m) s = .next (held m 0x0801 p [] rep s (tollUse 9 u)) :=
  done_hold h hb

theorem exec_modelRetire {s : State} {m : Fin 16} {r : Req} {p : List Byte} (h : Accepts s m (specImage 0x0804 0) r p) :
    let i := fld1 p 0
    let busy := imageRuns s i || s.jobs.any (fun j => j.kind == .standby && j.img == i)
    ((getImg s i).st = .empty → exec (.modelRetire m) s = .next (refused m 0x0018 0 s (takeReq s))) ∧
    ((getImg s i).st ≠ .empty → busy = true → exec (.modelRetire m) s = .next (refused m 0x0004 0 s (takeReq s))) ∧
    ((getImg s i).st ≠ .empty → busy = false →
      let u := setImg { takeReq s with rec_ := { s.rec_ with lotImgs := s.rec_.lotImgs.map (fun e => if e = some i then none else e) } }
        i ImgSlot0
      exec (.modelRetire m) s = .next (answered m [] s (refreshSwing ((List.range 32).foldl (fun a n =>
        if (getGirder a n).swingImg = some i then setGirder n { getGirder a n with swingImg := none } a else a) u)))) :=
  ⟨fun hempty => done_no h (if_pos hempty), fun hfull hbusy => done_no h ((if_neg hfull).trans (if_pos hbusy)),
    fun hfull hfree => done_yes h ((if_neg hfull).trans (if_neg (Bool.eq_false_iff.mp hfree)))⟩

/-- Settles O26: each command's body answers by its own case split; of a boundary command the refusal comes first, then
whether crossings run. -/
theorem modelCommandsComplete : Obligations.ModelCommandsComplete := by
  refine ⟨fun s m r p h => ?stage, fun s m r p h => ?commit, fun s i => commitNow_image i s, fun s m r p h => ?switch,
    fun s m r p h => exec_modelRetire h, fun s m r p h => done_yes h rfl, fun s m r p h => done_yes h rfl⟩
  case stage =>
    refine ⟨fun hblank hreturned => exec_modelStage h (bodyModelStage_lifecycle hblank hreturned), fun hlife =>
      ⟨fun hfull => exec_modelStage h (bodyModelStage_full (s := takeReq s) hlife hfull), fun i hfree => ⟨fun o hcheck => ?_,
        fun hcheck hsig => ?_, fun hcheck hsig hfit => ?_, fun hcheck hsig hfit => ?_⟩⟩⟩
    · exact exec_modelStage h (bodyModelStage_invalid (s := takeReq s) hlife hfree hcheck)
    · exact exec_modelStage h (bodyModelStage_unsigned (s := takeReq s) hlife hfree rfl rfl hcheck hsig)
    · exact exec_modelStage h (bodyModelStage_unfit (s := takeReq s) hlife hfree rfl rfl hcheck hsig hfit)
    · exact exec_modelStage h (bodyModelStage_staged (s := takeReq s) hlife hfree rfl rfl hcheck hsig hfit)
  case commit =>
    refine ⟨fun hempty => done_no h (boundaryCmd_refused (commitEarly_empty hempty)),
      fun hdone => done_no h (boundaryCmd_refused (commitEarly_committed hdone)), fun hstaged => ?_⟩
    have hearly : commitEarly (takeReq s) p = none := commitEarly_staged hstaged
    exact ⟨fun hlive => done_hold h (boundaryCmd_waits hearly hlive),
      fun hidle hfit => done_answer h (boundaryCmd_applies hearly hidle (applyCommitCmd_commits hfit)),
      fun rep hidle hrep => done_answer h (boundaryCmd_applies hearly hidle (applyCommitCmd_refused hrep))⟩
  case switch =>
    refine ⟨fun hempty => done_no h (boundaryCmd_refused (switchEarly_empty hempty)),
      fun hunfit => done_no h (boundaryCmd_refused (switchEarly_unfit hunfit)), fun hst hrole => ?_⟩
    have hearly : switchEarly (takeReq s) p = none := switchEarly_fit hst hrole
    refine ⟨fun hlive => done_hold h (boundaryCmd_waits hearly hlive), fun hidle hstream => ?_, fun port hidle hstream => ?_⟩
    · exact done_answer h (boundaryCmd_applies hearly hidle (applySwitch_switches (s := takeReq s) hst hrole hstream))
    · exact done_answer h (boundaryCmd_applies hearly hidle (applySwitch_disagrees (s := takeReq s) hst hrole hstream))

end Sys2Proof.Machine
end

section
/-! SUPPORT. The commands of a thread of the deck (R118, R124, R229, R392, R396, R397): what each does, stays for, or stops
at, and the commands of a thread that has none.
-/

namespace Sys2Proof.Machine

/-! ## Operators (R229, R238) -/

theorem opMayRun_of_turn {s : State} {t : Thread} {c : Ctx} {d : Desc} (howned : ownedAway s (opReads s c d) = false)
    (hturn : appendTurn s t d = true) : opMayRun s t c d = true := by simp [opMayRun, howned, hturn]

section
variable {s : State} {t : Thread} {c : Ctx} {desc first count q : Nat} {d : Desc}
  (hcmd : threadCmd s t = some (c, .op desc first count q)) (hdesc : (getImg s c.img).img.descs[desc]? = some d)
include hcmd hdesc

theorem deckOp_stays (h : ownedAway s (opReads s c d) = true ∨ appendTurn s t d = false) : deckOp t s = s := by
  have hwaits : opMayRun s t c d = false := by
    obtain h | h := h <;> simp [opMayRun, h]
  simp [deckOp, hcmd, hdesc, hwaits]

variable (howned : ownedAway s (opReads s c d) = false) (hturn : appendTurn s t d = true)
include howned hturn

theorem deckOp_wakes (hasleep : sleepingBanks s (opPieces s c d) ≠ []) :
    deckOp t s = wakeBanks (sleepingBanks s (opPieces s c d)) s := by
  simp [deckOp, hcmd, hdesc, opMayRun_of_turn howned hturn, hasleep]

theorem deckOp_runs (hawake : sleepingBanks s (opPieces s c d) = []) :
    let r := runOp c ((c.table.plans.drop first).take count) d (swingReady c (touchBanks (opPieces s c d) s))
    deckOp t s = advance t r.2 r.1 := by
  simp [deckOp, hcmd, hdesc, opMayRun_of_turn howned hturn, hawake]

end

/-! ## Loads and stores (R121, R124, R229) -/

section
variable {s : State} {t : Thread} {x y : Piece}

theorem moveBytes_stays (h : ownedAway s [x] = true) : moveBytes t x y s = s := if_pos h

variable (howned : ownedAway s [x] = false)
include howned

theorem moveBytes_wakes (hasleep : sleepingBanks s [x, y] ≠ []) :
    moveBytes t x y s = wakeBanks (sleepingBanks s [x, y]) s := by
  simp [moveBytes, howned, hasleep]

theorem moveBytes_moves (hawake : sleepingBanks s [x, y] = []) :
    moveBytes t x y s =
      advance t OpStat0 (writePieces (writable s [y]) 0 (readPieces s [x]) (touchBanks [x, y] s)) := by
  simp [moveBytes, howned, hawake]

end

/-- The deck region of an image lies in deck memory, of which the approach port owns nothing (R121, R230). -/
theorem ownedAway_deckRegion {s : State} {c : Ctx} {a n : Nat} {x : Piece} (h : spacePiece s c 2 0 a n = some x) :
    ownedAway s [x] = false := by
  obtain ⟨-, hx⟩ := Option.ite_none_right_eq_some.mp h
  obtain rfl := Option.some.inj hx
  rfl

section
variable {s : State} {t : Thread} {c : Ctx} {src space unit a len : Nat}

theorem execDeckLoad_pieces (hcmd : threadCmd s t = some (c, .load src space unit a len)) {x y : Piece}
    (hx : spacePiece s c 2 0 src len = some x) (hy : spacePiece s c space unit a len = some y) :
    execDeckLoad t s = done (moveBytes t x y) s := by
  simp only [execDeckLoad, hcmd, hx, hy]

theorem execDeckLoad_beyond (hcmd : threadCmd s t = some (c, .load src space unit a len))
    (h : spacePiece s c 2 0 src len = none ∨ spacePiece s c space unit a len = none) :
    execDeckLoad t s = .fault .noSuchAddress := by
  simp only [execDeckLoad, hcmd]
  split
  next hx hy => simp [hx, hy] at h
  next => rfl

theorem execDeckStore_pieces (hcmd : threadCmd s t = some (c, .store src space unit a len)) {x y : Piece}
    (hx : spacePiece s c space unit a len = some x) (hy : spacePiece s c 2 0 src len = some y) :
    execDeckStore t s = done (moveBytes t x y) s := by
  simp only [execDeckStore, hcmd, hx, hy]

theorem execDeckStore_beyond (hcmd : threadCmd s t = some (c, .store src space unit a len))
    (h : spacePiece s c space unit a len = none ∨ spacePiece s c 2 0 src len = none) :
    execDeckStore t s = .fault .noSuchAddress := by
  simp only [execDeckStore, hcmd]
  split
  next hx hy => simp [hx, hy] at h
  next => rfl

end

/-! ## Swing loads (R118) -/

/-- The girders of a swing load: the job's, or the table's. -/
def swingGirders (c : Ctx) : List Nat := if c.job.isSome then c.girders else List.range c.table.girders

theorem execSwingLoad_eq {s : State} {t : Thread} {c : Ctx} {src len : Nat} (hcmd : threadCmd s t = some (c, .swing src len)) :
    execSwingLoad t s =
      if src + len * (swingGirders c).length ≤ (getImg s c.img).deckSize ∧ len ≤ bankBytes then
        done (fun x => advance t OpStat0 (swingWrite c.img src len (swingGirders c) x)) s
      else .fault .noSuchAddress := by
  simp only [execSwingLoad, hcmd]
  obtain ⟨img, table, girders, job, piers⟩ := c
  cases job <;> rfl

/-! ## Sends, signals, waits and refreshes (R229, R392) -/

section
variable {s : State} {t : Thread} {p : Piece} {node flag : Nat}

theorem sendBuffer_stays (h : ownedAway s [p] = true) : sendBuffer t p node flag s = s := if_pos h

variable (howned : ownedAway s [p] = false)
include howned

theorem sendBuffer_wakes (hasleep : sleepingBanks s [p] ≠ []) :
    sendBuffer t p node flag s = wakeBanks (sleepingBanks s [p]) s := by
  simp [sendBuffer, howned, hasleep]

theorem sendBuffer_sends (hawake : sleepingBanks s [p] = []) :
    sendBuffer t p node flag s = advance t OpStat0 (routeOwn
      (sendMsgs node s.span.node.toNat flag (s.seq.crossing.toNat % 2 ^ 32) (readPieces s [p])) (touchBanks [p] s)) := by
  simp [sendBuffer, howned, hawake, xnoOf]

end

section
variable {s : State} {t : Thread} {c : Ctx} {node flag : Nat}

theorem execSendCmd_piece {space a len : Nat} (hcmd : threadCmd s t = some (c, .send node flag space a len)) {p : Piece}
    (hp : spacePiece s (noPier c) space 0 a len = some p) : execSendCmd t s = done (sendBuffer t p node flag) s := by
  simp only [execSendCmd, hcmd, hp]

theorem execSendCmd_beyond {space a len : Nat} (hcmd : threadCmd s t = some (c, .send node flag space a len))
    (hp : spacePiece s (noPier c) space 0 a len = none) : execSendCmd t s = .fault .noSuchAddress := by
  simp only [execSendCmd, hcmd, hp]

theorem signalSend_signals (hcmd : threadCmd s t = some (c, .signal node flag)) :
    signalSend t s = advance t OpStat0 (routeOwn [signalMsg s node flag] s) := by
  simp only [signalSend, hcmd]

theorem waitFlag_ends (hcmd : threadCmd s t = some (c, .wait flag)) (hset : flagSet s flag = true) :
    waitFlag t s = advance t OpStat0 s := by
  simp only [waitFlag, hcmd, hset, if_true]

theorem waitFlag_stays (hcmd : threadCmd s t = some (c, .wait flag)) (hclear : flagSet s flag = false) :
    waitFlag t s = s := by
  simp [waitFlag, hcmd, hclear]

theorem refreshChans_ends {x y : Nat} (hcmd : threadCmd s t = some (c, .refresh x y)) :
    refreshChans t s = advance t OpStat0 s := by
  simp only [refreshChans, hcmd]

end

/-! ## Collectives (R396, R397) -/

/-- The node's rank in a collective (R397). -/
def coRank (s : State) (r : List Byte) : Nat := s.span.node.toNat - coFirst r

/-- What stands among the landing flags once the node has sent for a collective. -/
def coMark (s : State) (r : List Byte) : Nat × Nat := (65536 + coFlag0 r, landHalf s)

/-- What the node reads for a collective at its rank. -/
def coOwn (s : State) (c : Ctx) (r : List Byte) : List Piece := coReads s c r (coRank s r)

/-- A member ends its collective where the ending holds, and otherwise stays; `mark` is what it leaves behind. -/
def coEndOrStay (t : Thread) (r : List Byte) (me : Nat) (mark : Nat × Nat) (x : State) : State :=
  if coEnds r me x then
    advance t OpStat0 { x with seq := { x.seq with flags := x.seq.flags.filter (fun e => e != mark) } }
  else x

section
variable {s : State} {t : Thread} {c : Ctx} {r : List Byte} (hcmd : threadCmd s t = some (c, .collective r))
include hcmd

theorem collective_sent (hsent : coMark s r ∈ s.seq.flags) :
    collective t s = coEndOrStay t r (coRank s r) (coMark s r) s := by
  rw [coMark] at hsent
  simp [collective, hcmd, hsent]
  rfl

variable (hunsent : coMark s r ∉ s.seq.flags)
include hunsent

theorem collective_stays (howned : ownedAway s (coOwn s c r) = true) : collective t s = s := by
  rw [coMark] at hunsent
  rw [coOwn, coRank] at howned
  simp [collective, hcmd, hunsent, howned]

variable (howned : ownedAway s (coOwn s c r) = false)
include howned

theorem collective_wakes (hasleep : sleepingBanks s (coOwn s c r) ≠ []) :
    collective t s = wakeBanks (sleepingBanks s (coOwn s c r)) s := by
  rw [coMark] at hunsent
  rw [coOwn, coRank] at howned hasleep
  simp [collective, hcmd, hunsent, howned, hasleep, coOwn, coRank]

variable (hawake : sleepingBanks s (coOwn s c r) = [])
include hawake

theorem collective_waits (hwaits : coSends c r (coRank s r) (touchBanks (coOwn s c r) s) = none) : collective t s = s := by
  rw [coMark] at hunsent
  rw [coOwn, coRank] at howned hawake hwaits
  simp [collective, hcmd, hunsent, howned, hawake, hwaits]

theorem collective_sends {u : State} (hsends : coSends c r (coRank s r) (touchBanks (coOwn s c r) s) = some u) :
    collective t s = coEndOrStay t r (coRank s r) (coMark s r)
      { u with seq := { u.seq with flags := u.seq.flags ++ [coMark s r] } } := by
  rw [coMark] at hunsent
  rw [coOwn, coRank] at howned hawake hsends
  simp [collective, hcmd, hunsent, howned, hawake, hsends, coEndOrStay, coRank, coMark]

end

/-! ## A thread without a command -/

/-- The commands of a thread, each as an instruction (R229). -/
def threadInstrs (t : Thread) : List Instr :=
  [.deckOp t, .deckLoad t, .deckStore t, .swingLoad t, .sendCmd t, .signalCmd t, .waitCmd t, .refreshCmd t, .collective t]

theorem exec_of_no_command {s : State} {t : Thread} (hnone : threadCmd s t = none) {c : Instr} (hc : c ∈ threadInstrs t) :
    exec c s = .next (settle s s) := by
  simp only [threadInstrs, List.mem_cons, List.not_mem_nil, or_false] at hc
  obtain rfl | rfl | rfl | rfl | rfl | rfl | rfl | rfl | rfl := hc
  · exact done_eq (by simp only [deckOp, hnone])
  · exact show execDeckLoad t s = _ by simp only [execDeckLoad, hnone]; rfl
  · exact show execDeckStore t s = _ by simp only [execDeckStore, hnone]; rfl
  · exact show execSwingLoad t s = _ by simp only [execSwingLoad, hnone]; rfl
  · exact show execSendCmd t s = _ by simp only [execSendCmd, hnone]; rfl
  · exact done_eq (by simp only [signalSend, hnone])
  · exact done_eq (by simp only [waitFlag, hnone])
  · exact done_eq (by simp only [refreshChans, hnone])
  · exact done_eq (by simp only [collective, hnone])

/-- Settles O30: each command by what it reads, what sleeps and what lies in its space. -/
theorem deckCommandsComplete : Obligations.DeckCommandsComplete := by
  refine ⟨fun s t c desc first count q d hcmd hdesc => ⟨fun h => done_eq (deckOp_stays hcmd hdesc h), fun howned hturn =>
      ⟨fun hasleep => done_eq (deckOp_wakes hcmd hdesc howned hturn hasleep),
        fun hawake => done_eq (deckOp_runs hcmd hdesc howned hturn hawake)⟩⟩,
    fun s t c src space unit a len hcmd => ⟨fun x y hx hy => ?load, fun h => execDeckLoad_beyond hcmd h⟩,
    fun s t c src space unit a len hcmd => ⟨fun x y hx hy => ?store, fun h => execDeckStore_beyond hcmd h⟩,
    fun s t c src len hcmd => ?swing,
    fun s t c node flag space a len hcmd => ⟨fun p hp => ?send, fun hp => execSendCmd_beyond hcmd hp⟩,
    fun s t c node flag hcmd => done_eq (signalSend_signals hcmd),
    fun s t c f hcmd => ⟨fun hset => done_eq (waitFlag_ends hcmd hset), fun hclear => done_eq (waitFlag_stays hcmd hclear)⟩,
    fun s t c x y hcmd => done_eq (refreshChans_ends hcmd),
    fun s t c r hcmd => ⟨fun hclear => ?collective,
      fun hset => done_eq (collective_sent hcmd (List.contains_iff_mem.mp hset))⟩,
    fun s b st => rfl, fun s t hnone c hc => exec_of_no_command hnone hc⟩
  case load =>
    have hload : exec (.deckLoad t) s = done (moveBytes t x y) s := execDeckLoad_pieces hcmd hx hy
    have howned := ownedAway_deckRegion hx
    exact ⟨fun hasleep => hload.trans (done_eq (moveBytes_wakes howned hasleep)),
      fun hawake => hload.trans (done_eq (moveBytes_moves howned hawake))⟩
  case store =>
    have hstore : exec (.deckStore t) s = done (moveBytes t x y) s := execDeckStore_pieces hcmd hx hy
    exact ⟨fun howned => hstore.trans (done_eq (moveBytes_stays howned)),
      fun howned hasleep => hstore.trans (done_eq (moveBytes_wakes howned hasleep)),
      fun howned hawake => hstore.trans (done_eq (moveBytes_moves howned hawake))⟩
  case swing =>
    have hswing := execSwingLoad_eq hcmd
    exact ⟨fun hregion hbank => hswing.trans (if_pos ⟨hregion, hbank⟩),
      fun hpast => hswing.trans (if_neg (not_and_or.mpr (hpast.imp Nat.not_le.mpr Nat.not_le.mpr)))⟩
  case send =>
    have hsend : exec (.sendCmd t) s = done (sendBuffer t p node flag) s := execSendCmd_piece hcmd hp
    exact ⟨fun howned => hsend.trans (done_eq (sendBuffer_stays howned)),
      fun howned hasleep => hsend.trans (done_eq (sendBuffer_wakes howned hasleep)),
      fun howned hawake => hsend.trans (done_eq (sendBuffer_sends howned hawake))⟩
  case collective =>
    have hunsent : coMark s r ∉ s.seq.flags := fun hmem => Bool.eq_false_iff.mp hclear (List.contains_iff_mem.mpr hmem)
    exact ⟨fun howned => done_eq (collective_stays hcmd hunsent howned),
      fun howned hasleep => done_eq (collective_wakes hcmd hunsent howned hasleep),
      fun howned hawake hwaits => done_eq (collective_waits hcmd hunsent howned hawake hwaits),
      fun u howned hawake hsends => done_eq (collective_sends hcmd hunsent howned hawake hsends)⟩

end Sys2Proof.Machine
end

section
/-! SUPPORT. The crossing boundary and the bays of a crossing (R131, R219, R221, R234, R236, R238, R241, R243, R245, R246):
how a boundary ends after its first seven steps, what a new crossing holds, and the start, yield and end of a bay.
-/

namespace Sys2Proof.Machine

/-! ## The boundary (R219, R221) -/

/-- The state after the first seven steps of a boundary (R219). -/
def afterSevenSteps (s : State) : State :=
  let s1 := latchCrossing { s with seq := { s.seq with copying := 0 } }
  let s4 := stepSteward s.seq.active s.seq.slip (runRating s).slackNs (applyStep [0x0802, 0x0803] (stepBands s1))
  stepReload (checkpointStep (applyStep [0x1006] (applyStep [0x0902, 0x0B05, 0x0B06, 0x1005] s4)))

/-- The bands of each port that a boundary drops: those dropped in mid-crossing, and those of step 2 (R250, R261). -/
def boundaryDrops (s : State) : List (List Nat) :=
  let mid := s.bands.filter (fun b => b.taken && b.dropped)
  let s1 := latchCrossing { s with seq := { s.seq with copying := 0 } }
  (List.range 4).map (fun p =>
    (mid.filter (fun b => b.cport == p)).map (fun b => b.no) ++ (dropSet s1 p).map (fun b => b.no))

/-- The commands that a boundary applies, in the order of its steps (R219, R261). -/
def boundaryCmds (s : State) : List (Nat × List Byte) :=
  (waitingCmds s [0x0802, 0x0803] ++ waitingCmds s [0x0D02] ++ waitingCmds s [0x0902, 0x0B05, 0x0B06, 0x1005] ++
    waitingCmds s [0x1006]).map (fun r => (r.op, r.payload))

section
variable {s t : State} (hdue : boundaryDue s = true) (ht : afterSevenSteps s = t)
include hdue ht

theorem boundary_eq : boundary s =
    if stopOver t then
      finishStop (recNoCrossing ((List.range 4).map (fun p => (boundaryDrops s).getD p [] ++ (portBands t p).map (fun b => b.no)))
        (boundaryCmds s) t)
    else if !startDue t then recNoCrossing (boundaryDrops s) (boundaryCmds s) t
    else if (eligibleRatings t).isEmpty then noRating (recNoCrossing (boundaryDrops s) (boundaryCmds s) t)
    else startCrossing (if s.seq.active then s.seq.slip else s.seq.slipLast.toNat) (runRating s).slackNs (boundaryDrops s)
      (boundaryCmds s) t := by
  subst ht
  exact if_neg (by simp [hdue])

theorem boundary_stops (hstop : stopOver t = true) : boundary s = finishStop (recNoCrossing
    ((List.range 4).map (fun p => (boundaryDrops s).getD p [] ++ (portBands t p).map (fun b => b.no))) (boundaryCmds s) t) :=
  (boundary_eq hdue ht).trans (if_pos hstop)

variable (hgoes : stopOver t = false)
include hgoes

theorem boundary_waits (hearly : startDue t = false) :
    boundary s = recNoCrossing (boundaryDrops s) (boundaryCmds s) t := by
  simp only [boundary_eq hdue ht, hgoes, hearly, Bool.not_false, Bool.false_eq_true, if_true, if_false]

variable (hstart : startDue t = true)
include hstart

theorem boundary_unrated (hnone : eligibleRatings t = []) :
    boundary s = noRating (recNoCrossing (boundaryDrops s) (boundaryCmds s) t) := by
  simp [boundary_eq hdue ht, hgoes, hstart, hnone]

theorem boundary_starts (hsome : eligibleRatings t ≠ []) : boundary s =
    startCrossing (if s.seq.active then s.seq.slip else s.seq.slipLast.toNat) (runRating s).slackNs (boundaryDrops s)
      (boundaryCmds s) t := by
  simp [boundary_eq hdue ht, hgoes, hstart, hsome]

end

/-! ## The crossing that starts (R234, R241) -/

theorem newBays_length (s : State) : (newBays s).length = (runRating s).bays.length := by simp [newBays]

/-- Every bay of a new crossing waits, but for a prologue bay that is not needed (R241). -/
theorem newBays_get {s : State} {k : Nat} {x : BayRun} (h : (newBays s)[k]? = some x) :
    x = if k < (runRating s).prologue ∧ s.seq.newRating = false then { BayRun0 with st := .ended } else BayRun0 := by
  obtain ⟨y, -, rfl⟩ : ∃ y, (runRating s).bays[k]? = some y ∧ _ = x := by
    simpa [newBays] using h
  simp

/-! ## The start of a bay (R236, R238, R243) -/

section
variable {s : State} {b : Nat} {y : Bay} (hbay : getBay s b = some y)
include hbay

theorem bayStart_waits (h : bayReady s b y = false ∨ reservedAhead s b y = true ∨
    ∃ v ∈ sharers s b y .running ++ sharers s b y .suspended, mayPreempt s b y v = false) : bayStart b s = s := by
  simp only [bayStart, hbay]
  split
  next => rfl
  next hgo =>
    obtain hidle | hahead | ⟨v, hv, hno⟩ := h
    · simp [hidle] at hgo
    · simp [hahead] at hgo
    · have hrefused : (sharers s b y .running ++ sharers s b y .suspended).all (mayPreempt s b y) = false :=
        List.all_eq_false.mpr ⟨v, hv, by simp [hno]⟩
      exact if_pos (congrArg Bool.not hrefused)

variable (hready : bayReady s b y = true) (hahead : reservedAhead s b y = false)
  (hrivals : ∀ v ∈ sharers s b y .running ++ sharers s b y .suspended, mayPreempt s b y v = true)
include hready hahead hrivals

theorem bayStart_goes : let u := (sharers s b y .running).foldl (fun a v => askYield b v a) s
    bayStart b s = if (sharers u b y .running).isEmpty then startBay b y u else u := by
  have hall : (sharers s b y .running ++ sharers s b y .suspended).all (mayPreempt s b y) = true := List.all_eq_true.mpr hrivals
  simp only [bayStart, hbay, hready, hahead, hall]
  rfl

end

/-! ## A tile boundary and a deadline (R131, R238, R243, R246) -/

section
variable {s : State} {b : Nat} {y : Bay} (hbay : getBay s b = some y) (hactive : s.seq.active = true)
include hbay hactive

theorem tileBoundary_eq (hrun : (bayRun s b).st = .running) (hout : inCollective s b y = false) :
    tileBoundary b s =
      if (bayRun s b).yieldTo.isSome then suspendBay b (endWithdrawn b s)
      else if (bayRun s b).closing then carryJobs b (endWithdrawn b s) else endWithdrawn b s := by
  simp [tileBoundary, hbay, hactive, hrun, hout]

theorem openDeadline_closes (hopen : y.kind = .openBay) (hst : (bayRun s b).st = .running ∨ (bayRun s b).st = .suspended)
    (hlate : (bayRun s b).effDeadline ≤ now s) : openDeadline b s = updBay b (fun r => { r with closing := true }) s := by
  simp only [openDeadline, hbay]
  exact if_pos ⟨hactive, hopen, hst, hlate⟩

/-! ## The end of a bay (R234, R245) -/

theorem bayEnd_eq {steps : Nat} (hrun : (bayRun s b).st = .running) (hdone : bayFinished s b y = true) :
    let u := resumeFrom b (updBay b (fun r => { r with st := .ended, yieldTo := none }) (stepCheck b y steps (chargeSlip b s)))
    bayEnd b steps s = if crossingEnded u then { u with seq := { u.seq with endedAt := now s } } else u := by
  simp [bayEnd, hbay, hactive, hrun, hdone]

end

theorem chargeSlip_in_time {s : State} {b : Nat} (h : now s ≤ (bayRun s b).effDeadline) : chargeSlip b s = s := if_pos h

theorem chargeSlip_late {s : State} {b : Nat} (h : (bayRun s b).effDeadline < now s) :
    (chargeSlip b s).seq.slip = s.seq.slip + (now s - (bayRun s b).effDeadline) :=
  congrArg (fun a : State => a.seq.slip) (if_neg h.not_ge)

/-- Settles O29: a boundary ends by what its first seven steps left; a bay starts, yields, closes and ends by its own run and
by the bays that share its units. -/
theorem boundariesAndBaysComplete : Obligations.BoundariesAndBaysComplete := by
  refine ⟨fun s hdue => ⟨fun hstop => done_eq (boundary_stops hdue rfl hstop),
      fun hgoes hearly => done_eq (boundary_waits hdue rfl hgoes hearly),
      fun hgoes hstart hnone => done_eq (boundary_unrated hdue rfl hgoes hstart hnone),
      fun hgoes hstart hsome => done_eq (boundary_starts hdue rfl hgoes hstart hsome)⟩,
    fun s => ⟨rfl, rfl, rfl, rfl, rfl, newBays_length s, fun k x hx => newBays_get hx⟩,
    fun s b y hbay => ⟨fun hready hahead hrivals => ?start, fun h => done_eq (bayStart_waits hbay h)⟩,
    fun s b y => rfl,
    fun s b y hbay hactive hrun hout => ?tile,
    fun s b y hbay hactive hopen hst hlate => done_eq (openDeadline_closes hbay hactive hopen hst hlate),
    fun s b steps y hbay hactive hrun hdone => ?ends,
    fun s b y steps => ⟨chargeSlip_in_time, chargeSlip_late, if_pos rfl, fun hne => if_neg hne⟩⟩
  case start =>
    have hstart := bayStart_goes hbay hready hahead hrivals
    exact ⟨fun hnone => done_eq (hstart.trans (if_pos (List.isEmpty_iff.mpr hnone))),
      fun hsome => done_eq (hstart.trans (if_neg (mt List.isEmpty_iff.mp hsome)))⟩
  case tile =>
    have htile := tileBoundary_eq hbay hactive hrun hout
    exact ⟨fun hyield => done_eq (htile.trans (if_pos (Option.isSome_iff_ne_none.mpr hyield))),
      fun hkeeps hclosing => done_eq (htile.trans ((if_neg (by simp [hkeeps])).trans (if_pos hclosing))),
      fun hkeeps hopen => done_eq (htile.trans ((if_neg (by simp [hkeeps])).trans (if_neg (by simp [hopen]))))⟩
  case ends =>
    have hend := bayEnd_eq (steps := steps.toNat) hbay hactive hrun hdone
    exact ⟨fun hlast => done_eq (hend.trans (if_pos hlast)),
      fun hmore => done_eq (hend.trans (if_neg (Bool.eq_false_iff.mp hmore)))⟩

end Sys2Proof.Machine
end

section
/-! SUPPORT. The key-value commands (R188, R190, R191, R198, R213, R493): what each refuses, what it does where nothing refuses
it, and what a reset leaves of a track.
-/

namespace Sys2Proof

/-! ## A track after a reset (R198) -/

section
variable {k : Kv} {t : Nat} {q : KvSet} (hset : kvSetOf k t = some q)
include hset

theorem kvPutTrack_eq (x : KvTrack) :
    kvPutTrack k t x = { k with tracks := Tab.set (KvTrack0 q.id q.rolling) k.tracks t x } := by
  simp only [kvPutTrack, hset]

theorem kvTrack_kvPutTrack (x : KvTrack) : kvTrack (kvPutTrack k t x) t = x := by
  have hkeeps : kvSetOf { k with tracks := Tab.set (KvTrack0 q.id q.rolling) k.tracks t x } t = some q := hset
  simp only [kvPutTrack_eq hset, kvTrack, hkeeps, Tab.get_set_same]

end

theorem kvPutTrack_freed (k : Kv) (t : Nat) (x : KvTrack) : (kvPutTrack k t x).freed = k.freed := by
  unfold kvPutTrack
  split <;> rfl

theorem kvSetOf_freed (k : Kv) (t : Nat) (pages : List Nat) : kvSetOf { k with freed := pages } t = kvSetOf k t := rfl

theorem kvTrack_kvReset {k : Kv} {t : Nat} (hset : (kvSetOf k t).isSome = true) (rolling : Bool) :
    kvTrack (kvReset k t rolling) t = { KvTrack0 (kvTrack k t).set rolling with rolling := rolling } := by
  obtain ⟨q, hq⟩ := Option.isSome_iff_exists.mp hset
  exact kvTrack_kvPutTrack ((kvSetOf_freed k t _).trans hq) _

theorem kvReset_freed (k : Kv) (t : Nat) (rolling : Bool) :
    (kvReset k t rolling).freed = ((kvTrack k t).table.map (fun e => e.2.toNat % 2 ^ 17)).reverse ++ k.freed :=
  kvPutTrack_freed ..

end Sys2Proof

namespace Sys2Proof.Machine

/-! ## KV_STATUS (R213) -/

theorem exec_kvStatus {s : State} {m : Fin 16} {r : Req} {p : List Byte}
    (h : Accepts s m { specImage 0x1004 20 with ver := 0x0101 } r p) :
    let x := getImg s (fld1 p 0)
    (x.st = .committed → x.kv.pages ≠ 0 → exec (.kvStatus m) s = .next (answered m
      (leBytes 4 (kvFree x.kv) ++ leBytes 4 (kvShared x.kv) ++ ctrsBytes [x.kv.cTrunc, x.kv.cRecyc, x.kv.cUe]) s
      (setImg (takeReq s) (fld1 p 0) { x with kv := { x.kv with cTrunc := Ctr0, cRecyc := Ctr0, cUe := Ctr0 } }))) ∧
    (x.st ≠ .committed ∨ x.kv.pages = 0 → exec (.kvStatus m) s = .next (refused m 0x0018 0 s (takeReq s))) :=
  ⟨fun hst hpool => done_yes h (if_neg (not_or.mpr ⟨not_not.mpr hst, hpool⟩)), fun hnone => done_no h (if_pos hnone)⟩

/-! ## KV_DUMP (R188, R190) -/

section
variable {s : State} {p : List Byte}

theorem dumpEarly_unknown (h : trackImage s (fld p 0 2) = none) : dumpEarly s p = some (refuse stNotFound) := by
  simp [dumpEarly, h]

variable {i : Nat} (h : trackImage s (fld p 0 2) = some i)
include h

theorem dumpEarly_known : dumpEarly s p = none := by
  simp [dumpEarly, h]

theorem applyKvDump_answers : let k := kvTrack (getImg s i).kv (fld p 0 2)
    applyKvDump p s = (s, okWith (kvTrackBytes (fld p 0 2) k ++ kvTableBytes k)) := by
  simp only [applyKvDump, h]

end

/-! ## KV_TRACK_RESET (R198) -/

section
variable {s : State} {p : List Byte}

theorem resetEarly_unknown {k : Nat} (hk : k < fld p 2 2) (h : trackImage s (fld p 0 2 + k) = none) :
    resetEarly s p = some (refuse stNotFound) := by
  refine if_neg fun hall => ?_
  have hfound := List.all_eq_true.mp hall k (List.mem_range.mpr hk)
  simp [h] at hfound

theorem resetEarly_known (h : ∀ k < fld p 2 2, trackImage s (fld p 0 2 + k) ≠ none) : resetEarly s p = none :=
  if_pos (List.all_eq_true.mpr fun k hk => Option.isSome_iff_ne_none.mpr (h k (List.mem_range.mp hk)))

end

/-- Settles O27: of a boundary command the refusal comes first, then whether crossings run; a reset track reads as it was
put back. -/
theorem kvCommandsComplete : Obligations.KvCommandsComplete := by
  refine ⟨fun s m r p h => exec_kvStatus h, fun s m r p h => ?dump, fun s m r p h => ?reset,
    fun k t rolling hset => ⟨kvTrack_kvReset hset rolling, kvReset_freed k t rolling⟩⟩
  case dump =>
    refine ⟨fun hnone => done_no h (boundaryCmd_refused (dumpEarly_unknown hnone)), fun i hi hlive => ?_,
      fun i hi hidle => ?_⟩ <;> have hearly : dumpEarly (takeReq s) p = none := dumpEarly_known hi
    · exact done_hold h (boundaryCmd_waits hearly hlive)
    · exact done_answer h (boundaryCmd_applies hearly hidle (applyKvDump_answers hi))
  case reset =>
    refine ⟨fun k hk hnone => done_no h (boundaryCmd_refused (resetEarly_unknown hk hnone)), fun hall hlive => ?_,
      fun hall hidle => ?_⟩ <;> have hearly : resetEarly (takeReq s) p = none := resetEarly_known hall
    · exact done_hold h (boundaryCmd_waits hearly hlive)
    · exact done_answer h (boundaryCmd_applies hearly hidle rfl)

end Sys2Proof.Machine
end

section
/-! SUPPORT. Folds that rewrite one entry per key, and no key twice: each entry is rewritten once.
-/

namespace Sys2Proof

section
variable {σ κ β : Type} {get : σ → Nat → β} {key : κ → Nat} {f : κ → β → β} {step : σ → κ → σ}
  (hstep : ∀ a e j, get (step a e) j = if j = key e then f e (get a j) else get a j)
include hstep

theorem get_foldl_other {l : List κ} {j : Nat} (h : j ∉ l.map key) (s : σ) : get (l.foldl step s) j = get s j := by
  induction l generalizing s with
  | nil => rfl
  | cons e t ih =>
    rw [List.foldl_cons, ih (List.not_mem_of_not_mem_cons h), hstep, if_neg (List.ne_of_not_mem_cons h)]

/-- Folding a rewrite of one entry per key over keys that differ rewrites the entry of each key once. -/
theorem get_foldl_key {l : List κ} (hkeys : (l.map key).Nodup) {e : κ} (he : e ∈ l) (s : σ) :
    get (l.foldl step s) (key e) = f e (get s (key e)) := by
  induction l generalizing s with
  | nil => cases he
  | cons x t ih =>
    obtain ⟨hhead, htail⟩ := List.nodup_cons.mp hkeys
    rw [List.foldl_cons]
    rcases List.mem_cons.mp he with rfl | hin
    · rw [get_foldl_other hstep hhead, hstep, if_pos rfl]
    · have hne : key e ≠ key x := fun h => hhead (h ▸ List.mem_map_of_mem hin)
      rw [ih htail hin, hstep, if_neg hne]

end

/-- The positions of a list differ, so a fold over them rewrites the entry of each once. -/
theorem get_foldl_zipIdx {σ α β : Type} {get : σ → Nat → β} {f : α → β → β} {step : σ → α × Nat → σ}
    (hstep : ∀ a e j, get (step a e) j = if j = e.2 then f e.1 (get a j) else get a j) {l : List α} {i : Nat} {v : α}
    (hv : l[i]? = some v) (s : σ) : get (l.zipIdx.foldl step s) i = f v (get s i) :=
  get_foldl_key (key := Prod.snd) (f := fun e => f e.1) (e := (v, i)) hstep (List.nodup_zipIdx_map_snd l)
    (List.mem_zipIdx_iff_getElem?.mpr hv) s

theorem Tab.get_foldl_upd_range {α : Type} [DecidableEq α] (d : α) (f : α → α) (t : Tab α) {n i : Nat} (hi : i < n) :
    Tab.get d ((List.range n).foldl (fun t k => Tab.upd d t k f) t) i = f (Tab.get d t i) :=
  get_foldl_key (get := Tab.get d) (key := id) (f := fun _ => f)
    (fun t k j => by
      rw [Tab.upd, Tab.get_set]
      exact ite_congr rfl (fun hj => by rw [hj]; rfl) (fun _ => rfl))
    (by rw [List.map_id]; exact List.nodup_range) (List.mem_range.mpr hi) t

end Sys2Proof
end

section
/-! SUPPORT. The steward's events (R220, R431, R432, R441, R446): the trim and the settling of VDD_CORE, what a sensor update
leaves of each sensor and energy counter, and what the thermal trip sets and brings down.
-/

namespace Sys2Proof.Machine

/-! ## The regulator (R220, R441) -/

/-- The setpoint that a reading leads to (R441). -/
def trimmed (v : Nat) (w : Steward) : Nat :=
  if v < w.vdd then min (w.vdd + 50) (w.setpoint + 5) else if w.vdd + 15 < v then max w.vdd (w.setpoint - 5) else w.setpoint

theorem trimVdd_eq (v : Nat) (s : State) : trimVdd v s =
    if trimmed v s.steward = s.steward.setpoint then s
    else emit (.pmbus (trimmed v s.steward)) { s with steward := { s.steward with setpoint := trimmed v s.steward } } := rfl

theorem trimVdd_steward (v : Nat) (s : State) :
    (trimVdd v s).steward = { s.steward with setpoint := trimmed v s.steward } := by
  rw [trimVdd_eq]
  split
  next hsame => rw [hsame]
  next => rfl

theorem trimVdd_seq (v : Nat) (s : State) : (trimVdd v s).seq = s.seq := by
  rw [trimVdd_eq]
  split <;> rfl

section
variable {s : State} {sense : Nat}

theorem vddSettled_trims (h : s.steward.settled = true ∨ sense < s.steward.vdd) :
    vddSettled sense s = trimVdd sense { s with steward := { s.steward with sense := sense } } :=
  if_pos (by simpa using h)

theorem vddSettled_settles (hwaits : s.steward.settled = false) (hreached : s.steward.vdd ≤ sense) :
    let s1 := trimVdd sense { s with steward := { s.steward with sense := sense } }
    vddSettled sense s = { s1 with
      steward := { s1.steward with settled := true },
      seq := { s1.seq with t0 := if unstarted s then now s else s1.seq.t0 } } :=
  if_neg (by simp [hwaits, hreached])

theorem vddTimeout_early (h : s.steward.settled = true ∨ now s < s.steward.settleAt + 1000 * swSettle s.steward.cfg) :
    vddTimeout sense s = s := if_pos h

variable (hwaits : s.steward.settled = false) (hlate : s.steward.settleAt + 1000 * swSettle s.steward.cfg ≤ now s)
include hwaits hlate

theorem vddTimeout_eq : let s2 := stewardChoose sense (post 0x2606 0 0 s.steward.vdd sense
      { s with steward := { s.steward with sense := sense } })
    vddTimeout sense s = if s2.seq.rating ≠ s.seq.rating ∧ unstarted s = true then
      { s2 with seq := { s2.seq with bays := newBays s2, newRating := false } } else s2 :=
  if_neg (by simp [hwaits, hlate])

end

/-! ## Sensors and energy (R431, R432, R446) -/

theorem alertCheck_frame (s : State) : ∃ a q, alertCheck s = { s with steward := { s.steward with alert := a }, q := q } := by
  unfold alertCheck
  split
  next => exact ⟨s.steward.alert, s.q, rfl⟩
  next =>
    dsimp only
    split
    next => exact ⟨true, _, rfl⟩
    next =>
    split
    next => exact ⟨false, s.q, rfl⟩
    next => exact ⟨s.steward.alert, s.q, rfl⟩

theorem alertCheck_pwr (s : State) : (alertCheck s).pwr = s.pwr := by
  obtain ⟨a, q, h⟩ := alertCheck_frame s
  rw [h]

theorem alertCheck_sensors (s : State) : (alertCheck s).steward.sensors = s.steward.sensors := by
  obtain ⟨a, q, h⟩ := alertCheck_frame s
  rw [h]

/-- What a domain's energy counter becomes as it draws `v` nJ (R432). -/
def drew (v : BitVec 48) (x : Domain) : Domain :=
  { x with energy := x.energy + v, ovf := x.ovf || decide (2 ^ 48 ≤ x.energy.toNat + v.toNat) }

theorem getDom_addEnergy (v : BitVec 48) (d j : Nat) (s : State) :
    getDom (addEnergy d v.toNat s) j = if j = d then drew v (getDom s j) else getDom s j := by
  rw [addEnergy, getDom, setDom, Tab.get_set]
  split
  next hj => subst hj; simp [drew]
  next => rfl

theorem sensorOf_sensorUpdate (temps : List (BitVec 16)) (drawn : List (BitVec 48)) (s : State) {i : Nat} {v : BitVec 16}
    (hi : i < 16) (hv : temps[i]? = some v) : sensorOf (sensorUpdate temps drawn s) i = ⟨true, v⟩ := by
  rw [sensorOf, sensorUpdate, alertCheck_sensors]
  exact get_foldl_zipIdx (get := fun t j => Tab.get (⟨false, 0⟩ : Sensor) t j) (f := fun v _ => ⟨true, v⟩)
    (fun t e j => Tab.get_set ..) ((List.getElem?_take_of_lt hi).trans hv) _

theorem getDom_sensorUpdate (temps : List (BitVec 16)) (drawn : List (BitVec 48)) (s : State) {d : Nat} {v : BitVec 48}
    (hd : d < 64) (hv : drawn[d]? = some v) : getDom (sensorUpdate temps drawn s) d = drew v (getDom s d) := by
  rw [getDom, sensorUpdate, alertCheck_pwr]
  exact get_foldl_zipIdx (get := getDom) (f := drew) (fun a e j => getDom_addEnergy e.1 e.2 j a)
    ((List.getElem?_take_of_lt hd).trans hv) s

/-! ## The thermal trip (R446) -/

/-- The domains, and the parts of the state that the thermal trip sets. -/
def tripParts (s : State) : Power × Steward × FieldCtl × List Pulse × Gatehouse := (s.pwr, s.steward, s.field, s.pulses, s.gh)

theorem when_keeps {β : Type} {g : State → β} {f : State → State} {s : State} (h : g (f s) = g s) (c : Bool) :
    g (when_ c f s) = g s := by
  unfold when_
  split
  · exact h
  · rfl

theorem tripParts_leaveLocked (s : State) : tripParts (leaveLocked s) = tripParts s := by
  unfold leaveLocked
  split <;> exact when_keeps (g := tripParts) rfl _

theorem tripParts_reparent (s : State) : tripParts (reparent s) = tripParts s := by
  have hmove (st : KsSt) : tripParts (ksMove st s) = tripParts s := when_keeps (g := tripParts) (tripParts_leaveLocked s) _
  unfold reparent
  split
  · rfl
  · exact when_keeps (g := tripParts) (hmove .holdover) _

/-- What a domain loses as it leaves ON is none of these (R416). -/
theorem tripParts_loseDom (d : Nat) (target : PdSt) (s : State) : tripParts (loseDom d target s) = tripParts s := by
  unfold loseDom
  dsimp only
  split
  next girder => exact foldl_keeps tripParts _ (fun a b => by split <;> rfl) _ _
  next =>
  split
  next cluster => rfl
  next =>
  split
  next bank => split <;> rfl
  next =>
  split
  next channels => split <;> split <;> rfl
  next =>
  split
  next camera => rfl
  next =>
  split
  next port => exact tripParts_reparent _
  next => rfl

/-- What a domain or bank holds once it is brought down without handshake. -/
def forcedDown (target : PdSt) (d : Nat) (x : Domain) : Domain :=
  if x.fused then x else { x with st := target, prep := none, padHold := !isBank d }

section
variable (target : PdSt) (s : State) (d : Nat)

theorem getDom_forceDown (j : Nat) :
    getDom (forceDown target d s) j = if j = d then forcedDown target d (getDom s j) else getDom s j := by
  have hpwr : (loseDom d target s).pwr = s.pwr := congrArg Prod.fst (tripParts_loseDom d target s)
  unfold forceDown enterState
  split
  next hfused =>
    split
    next hj => subst hj; exact (if_pos hfused).symm
    next => rfl
  next hlive =>
    simp only [getDom, setDom, hpwr, Tab.get_set]
    split
    next hj => subst hj; exact (if_neg hlive).symm
    next => rfl

theorem tripParts_forceDown : (tripParts (forceDown target d s)).2 = (tripParts s).2 := by
  unfold forceDown
  split
  next => rfl
  next =>
    have hlose : (tripParts (loseDom d target s)).2 = (tripParts s).2 := congrArg Prod.snd (tripParts_loseDom d target s)
    exact hlose

end

theorem getDom_foldl_forceDown (target : PdSt) {l : List Nat} (hl : l.Nodup) {d : Nat} (hd : d ∈ l) (s : State) :
    getDom (l.foldl (fun a e => forceDown target e a) s) d = forcedDown target d (getDom s d) :=
  get_foldl_key (key := id) (fun a e j => getDom_forceDown target a e j) (by rwa [List.map_id]) hd s

/-- No domain or bank is listed twice. -/
theorem allDomains_nodup : allDomains.Nodup := by decide

/-- The thermal trip before the domains go OFF. -/
def tripped (s : State) : State :=
  hostReset { s with
    steward := { s.steward with trip := true }, field := { s.field with safeCmd := true }, pulses := [], linePulses := [] }

theorem thermTrip_eq (s : State) : thermTrip s = allDomains.foldl (fun a d => forceDown .off d a) (tripped s) := rfl

theorem getDom_tripped (s : State) (d : Nat) : getDom (tripped s) d = getDom s d := rfl

theorem thermTrip_off {s : State} {d : Nat} (hd : d ∈ allDomains) (hlive : (getDom s d).fused = false) :
    (getDom (thermTrip s) d).st = .off := by
  rw [thermTrip_eq, getDom_foldl_forceDown .off allDomains_nodup hd, getDom_tripped, forcedDown, if_neg (by simp [hlive])]

theorem tripParts_thermTrip (s : State) : (tripParts (thermTrip s)).2 = (tripParts (tripped s)).2 := by
  rw [thermTrip_eq]
  exact foldl_keeps (fun a => (tripParts a).2) _ (fun a d => tripParts_forceDown .off a d) _ _

theorem thermTrip_sets (s : State) : let u := thermTrip s
    u.steward.trip = true ∧ u.field.safeCmd = true ∧ u.pulses = [] ∧ u.gh.session = none := by
  have hparts : let x := (tripParts (thermTrip s)).2
      x.1.trip = true ∧ x.2.1.safeCmd = true ∧ x.2.2.1 = [] ∧ x.2.2.2.session = none := by
    rw [tripParts_thermTrip]
    exact ⟨rfl, rfl, rfl, rfl⟩
  dsimp only [tripParts] at hparts
  exact hparts

/-- Settles O43: the trim moves the setpoint alone; settling and its time-out go by the voltage, the time and the choice made
again; an update and the trip rewrite each entry once. -/
theorem stewardEventsComplete : Obligations.StewardEventsComplete := by
  refine ⟨fun s sense s1 hs1 => ?settled, fun s v => ?trim, fun s sense => ⟨fun h => done_eq (vddTimeout_early h),
      fun hwaits hlate s2 hs2 => ?timeout⟩, fun s word => ⟨rfl, rsSet_rs ..⟩,
    fun s temps drawn => ⟨sensorUpdate temps drawn s, rfl, fun i v hi hv => sensorOf_sensorUpdate temps drawn s hi hv,
      fun d v hd hv => ?energy⟩,
    fun s => ⟨thermTrip s, rfl, ?trip⟩⟩
  case settled =>
    subst hs1
    exact ⟨fun h => done_eq (vddSettled_trims h), fun hwaits hreached => done_eq (vddSettled_settles hwaits hreached)⟩
  case trim =>
    rw [trimVdd_steward, trimVdd_seq]
    exact ⟨rfl, rfl, rfl, rfl⟩
  case timeout =>
    subst hs2
    have htimeout := vddTimeout_eq (sense := sense.toNat) hwaits hlate
    exact ⟨fun hmoves hbegun => done_eq (htimeout.trans (if_pos ⟨hmoves, hbegun⟩)),
      fun hstays => done_eq (htimeout.trans (if_neg (by rw [not_and_or, not_ne_iff, Bool.not_eq_true]; exact hstays)))⟩
  case energy =>
    rw [getDom_sensorUpdate temps drawn s hd hv]
    exact ⟨rfl, by simp [drew]⟩
  case trip =>
    obtain ⟨htrip, hsafe, hpulses, hsession⟩ := thermTrip_sets s
    exact ⟨htrip, hsafe, hpulses, hsession, fun d hd hlive => thermTrip_off hd hlive⟩

end Sys2Proof.Machine
end

section
/-! SUPPORT. The crossing sequencer's commands and events (R214, R216 to R218, R221, R252, R270, R316, R504): what a start
leaves of the sequencer and of each port, what refuses it, when a stop completes, and when the period grid and a launch act.
-/

namespace Sys2Proof.Machine

/-! ## The start (R214, R215, R217) -/

/-- Each port counts its lines and bands afresh (R215, R301). -/
theorem startSeq_port (i launch : Nat) (s : State) {p : Nat} (hp : p < 4) :
    getCam (startSeq i launch s) p = { getCam s p with rawNo := 0, outNo := 0 } ∧
      getRamp (startSeq i launch s) p = { getRamp s p with objs := [], lines := [] } :=
  ⟨Tab.get_foldl_upd_range _ _ _ hp, Tab.get_foldl_upd_range _ _ _ hp⟩

/-! ## What refuses a start (R316, R504) -/

theorem startRefusal_eq (s : State) (i : Nat) : startRefusal s i =
    if (getImg s i).st = .empty then some ⟨0x0018, 0, []⟩
    else if (getImg s i).st = .staged ∨ (getImg s i).img.role ≠ 0 then some ⟨0x0019, 0, []⟩
    else if s.seq.started = true then some ⟨0x0002, 0, []⟩
    else if s.seq.launchArmed ≠ none then some ⟨0x0019, 0, []⟩
    else if eligibleBits s (getImg s i).img = 0 then some ⟨0x0021, 0, []⟩
    else (streamCheck s (getImg s i).img).map (fun port => ⟨0x0019, port, []⟩) := by
  simp only [← Option.isSome_iff_ne_none]
  rfl

theorem startRefusal_resp {s : State} {i : Nat} {rep : Reply} (h : startRefusal s i = some rep) : rep.resp = [] := by
  rw [startRefusal_eq] at h
  split_ifs at h
  case neg =>
    obtain ⟨port, -, rfl⟩ := Option.map_eq_some_iff.mp h
    rfl
  all_goals
    cases h
    rfl

section
variable {s : State} {m : Fin 16} {r : Req} {p : List Byte} (h : Accepts s m specCrossingStart r p)
include h

theorem exec_crossingStart_starts (hgood : startRefusal s (fld1 p 0) = none) : exec (.crossingStart m) s =
    .next (answered m [] s (startSeq (fld1 p 0) (now s) { takeReq s with seq := { s.seq with flags := [] } })) := by
  have htaken : startRefusal (takeReq s) (fld1 p 0) = none := hgood
  exact done_yes h (by simp only [bodyCrossingStart, htaken]; rfl)

theorem exec_crossingStart_refused {rep : Reply} (hbad : startRefusal s (fld1 p 0) = some rep) :
    exec (.crossingStart m) s = .next (refused m rep.status rep.detail s (takeReq s)) := by
  have htaken : startRefusal (takeReq s) (fld1 p 0) = some ⟨rep.status, rep.detail, []⟩ := by
    rw [← startRefusal_resp hbad]
    exact hbad
  exact done_no h (by simp only [bodyCrossingStart, htaken])

end

/-! ## The period grid and the launch (R216 to R218, R270) -/

theorem periodTick_eq {s : State} (hstarted : s.seq.started = true) (hmode : (stewardTable s).startMode = 1)
    (hreached : s.seq.launch + (s.seq.periodNo + 1) * (stewardTable s).periodNs ≤ now s) : periodTick s =
      if s.seq.due then { s with seq := { s.seq with periodNo := s.seq.periodNo + 1, cMissed := ctrBump s.seq.cMissed } }
      else { s with seq := { s.seq with periodNo := s.seq.periodNo + 1, due := true, dueNo := s.seq.periodNo + 1 } } :=
  if_pos (by simp [hstarted, hmode, hreached])

theorem launchReached_starts {s : State} {at_ i : Nat} (harmed : s.seq.launchArmed = some (at_, i)) (hreached : at_ ≤ now s)
    (hlive : halted s = false) : launchReached s = startSeq i at_ s := by
  simp only [launchReached, harmed]
  exact if_pos ⟨hreached, by simp [hlive]⟩

/-- Settles O28: a start is answered by its refusal, a stop by whether crossings run, and a tick by whether a start waits. -/
theorem crossingCommandsComplete : Obligations.CrossingCommandsComplete := by
  refine ⟨fun s m r p h => ⟨exec_crossingStart_starts h, fun rep => exec_crossingStart_refused h⟩, startRefusal_eq,
    fun s i at_ => ⟨rfl, rfl, rfl, rfl, rfl, rfl, rfl, rfl, rfl, rfl, fun p hp => ?ports⟩,
    fun s m r p h => ⟨fun hidle => done_yes h (if_pos (by simpa using hidle)),
      fun hlive => done_hold h (if_neg (by simpa using hlive))⟩,
    fun s m r p h => done_yes h rfl,
    fun s hstarted hmode hreached => ?tick,
    fun s at_ i harmed hreached hlive => done_eq (launchReached_starts harmed hreached hlive)⟩
  case ports =>
    obtain ⟨hcam, hramp⟩ := startSeq_port i at_ s hp
    rw [hcam, hramp]
    exact ⟨rfl, rfl, rfl, rfl⟩
  case tick =>
    have htick := periodTick_eq hstarted hmode hreached
    exact ⟨fun hfree => done_eq (htick.trans (if_neg (by simp [hfree]))), fun hdue => done_eq (htick.trans (if_pos hdue))⟩

end Sys2Proof.Machine
end

section
/-! SUPPORT. Replay (R255, R261, R265 to R269): the answers of REPLAY_OPEN in their order, what REPLAY_RUN and the end of a
replay leave, and the feeding of a record.
-/

namespace Sys2Proof.Machine

/-! ## Taking a request changes nothing of a stream -/

@[simp] theorem takeReq_segRaw (s : State) (x : Stream) (i : Nat) : segRaw (takeReq s) x i = segRaw s x i := rfl

@[simp] theorem takeReq_segFind (s : State) (x : Stream) (n : Nat) : segFind (takeReq s) x n = segFind s x n := rfl

@[simp] theorem takeReq_streamFrom (s : State) (x : Stream) (k n : Nat) :
    streamFrom (takeReq s) x k n = streamFrom s x k n := by
  induction k generalizing n with
  | zero => rfl
  | succ k ih => simp only [streamFrom, takeReq_segFind, takeReq_segRaw, ih]

@[simp] theorem takeReq_oldestSeg (s : State) (x : Stream) (k n : Nat) :
    oldestSeg (takeReq s) x k n = oldestSeg s x k n := by
  induction k generalizing n with
  | zero => rfl
  | succ k ih => simp only [oldestSeg, takeReq_segFind, ih]

@[simp] theorem takeReq_lotImages (s : State) (rs : List Rec) : lotImages (takeReq s) rs = lotImages s rs := rfl

@[simp] theorem takeReq_firstBoundary (s : State) : firstBoundary (takeReq s) = firstBoundary s := by
  simp only [firstBoundary, takeReq_segFind, takeReq_segRaw, takeReq_streamFrom]
  rfl

/-! ## REPLAY_OPEN (R266, R269) -/

/-- The stream that a REPLAY_OPEN request names. -/
def openStream (p : List Byte) : Stream := ⟨bitOf (fld1 p 0) 0, fld p 8 8, fld p 16 4⟩

/-- REPLAY_OPEN holds its answer as it reads the stream: it stays under way (R489). -/
def openHeld (m : Nat) (p : List Byte) (rep : Reply) (s : State) : State × Option Reply :=
  hold m 0x0B07 p [.sequencer, .queue (fld p 20 2)] false (some rep) s

/-- The device with a replay open at the origin that stands at byte `o` of segment place `i`, its checkpoint's items restored
(R265 to R267). -/
def replayOpened (p : List Byte) (i o : Nat) (items : List (List Byte)) (s : State) : State :=
  let x := openStream p
  let old := oldestSeg s x x.segs (fld p 24 8)
  let b := segRaw s x i
  let imgs := lotImages s (streamFrom s x (fld p 24 8 - old) old ++ recsIn 16384 ((slice b 32 (fld b 24 4)).take o))
  noteFreezes (streamFrom s x x.segs (fld p 24 8)) (restoreItems imgs items { s with replay := { Replay0 with
    mode := true, host := x.host, base := x.base, segs := x.segs, seg := (segFind s x old).getD i, segSeq := old, off := 0,
    origin := (fld p 24 8, o), stopCrossing := BitVec.ofNat 64 (fld p 32 8), queue := fld p 20 2, imgs := imgs, pre := true } })

section
variable {m : Nat} {s : State} {p : List Byte}

theorem bodyReplayOpen_busy (hbusy : s.seq.started = true ∨ s.rec_.running = true ∨ s.replay.mode = true) :
    bodyReplayOpen m s p = no s (refuse stState) :=
  if_pos (by simpa [or_assoc] using hbusy)

/-- A device that neither runs, records nor replays may open a replay. -/
theorem may_open (hstill : s.seq.started = false) (hunrecorded : s.rec_.running = false) (hclosed : s.replay.mode = false) :
    ¬ (s.seq.started || s.rec_.running || s.replay.mode) = true := by
  simp [hstill, hunrecorded, hclosed]

variable (hstill : s.seq.started = false) (hunrecorded : s.rec_.running = false) (hclosed : s.replay.mode = false)
include hstill hunrecorded hclosed

theorem bodyReplayOpen_noQueue (hqueue : (getQ s (fld p 20 2)).st ≠ .active ∨ (getQ s (fld p 20 2)).content ≠ 0) :
    bodyReplayOpen m s p = no s (refuse stNotFound) :=
  (if_neg (may_open hstill hunrecorded hclosed)).trans (if_pos (by simpa [imp_iff_not_or] using hqueue))

variable (hst : (getQ s (fld p 20 2)).st = .active) (hcontent : (getQ s (fld p 20 2)).content = 0)
include hst hcontent

/-- With the request's queue in order the answer rests on the stream alone. -/
theorem bodyReplayOpen_stream : bodyReplayOpen m s p =
    if anyReserved s (openStream p) then openHeld m p (badParam 8) s
    else if anyForeign s (openStream p) then openHeld m p (refuse stSignature) s
    else match segFind s (openStream p) (fld p 24 8) with
      | none => openHeld m p (badParam 24) s
      | some i =>
        match originOff (segRecs (segRaw s (openStream p) i)),
          checkpointItems (streamFrom s (openStream p) (openStream p).segs (fld p 24 8)) with
        | some o, some items => openHeld m p (okWith []) (replayOpened p i o items s)
        | _, _ => openHeld m p (badParam 24) s :=
  (if_neg (may_open hstill hunrecorded hclosed)).trans ((if_neg (by simp [hst, hcontent])).trans rfl)

theorem bodyReplayOpen_reserved (hreserved : anyReserved s (openStream p) = true) :
    bodyReplayOpen m s p = openHeld m p (badParam 8) s :=
  (bodyReplayOpen_stream hstill hunrecorded hclosed hst hcontent).trans (if_pos hreserved)

variable (hknown : anyReserved s (openStream p) = false)
include hknown

theorem bodyReplayOpen_foreign (hforeign : anyForeign s (openStream p) = true) :
    bodyReplayOpen m s p = openHeld m p (refuse stSignature) s :=
  (bodyReplayOpen_stream hstill hunrecorded hclosed hst hcontent).trans
    ((if_neg (Bool.eq_false_iff.mp hknown)).trans (if_pos hforeign))

variable (hown : anyForeign s (openStream p) = false)
include hown

theorem bodyReplayOpen_noSegment (hnone : segFind s (openStream p) (fld p 24 8) = none) :
    bodyReplayOpen m s p = openHeld m p (badParam 24) s := by
  rw [bodyReplayOpen_stream hstill hunrecorded hclosed hst hcontent, hknown, hown, hnone]
  rfl

variable {i : Nat} (hfound : segFind s (openStream p) (fld p 24 8) = some i)
include hfound

theorem bodyReplayOpen_noOrigin (hnone : originOff (segRecs (segRaw s (openStream p) i)) = none ∨
    checkpointItems (streamFrom s (openStream p) (openStream p).segs (fld p 24 8)) = none) :
    bodyReplayOpen m s p = openHeld m p (badParam 24) s := by
  rw [bodyReplayOpen_stream hstill hunrecorded hclosed hst hcontent, hknown, hown, hfound]
  obtain hnone | hnone := hnone
  · simp [hnone]
  · simp [hnone]

theorem bodyReplayOpen_opens {o : Nat} {items : List (List Byte)}
    (horigin : originOff (segRecs (segRaw s (openStream p) i)) = some o)
    (hitems : checkpointItems (streamFrom s (openStream p) (openStream p).segs (fld p 24 8)) = some items) :
    bodyReplayOpen m s p = openHeld m p (okWith []) (replayOpened p i o items s) := by
  rw [bodyReplayOpen_stream hstill hunrecorded hclosed hst hcontent, hknown, hown, hfound]
  simp [horigin, hitems]

end

/-- An accepted REPLAY_OPEN whose body holds an answer. -/
theorem exec_replayOpen_held {s u : State} {m : Fin 16} {r : Req} {p : List Byte} {rep : Reply}
    (h : Accepts s m specReplayOpen r p) (hb : bodyReplayOpen m (takeReq s) p = openHeld m p rep u) :
    exec (.replayOpen m) s = .next (held m 0x0B07 p [.sequencer, .queue (fld p 20 2)] rep s u) :=
  done_hold h hb

/-! ## REPLAY_RUN and REPLAY_STOP (R267) -/

section
variable {s : State} {p : List Byte}

theorem bodyReplayRun_refused (hbad : s.replay.mode = false ∨ s.replay.running = true) :
    bodyReplayRun s p = no s (refuse stState) :=
  if_pos (by simpa using hbad)

variable (hmode : s.replay.mode = true) (hready : s.replay.running = false)
include hmode hready

theorem may_run : ¬ (!s.replay.mode || s.replay.running) = true := by simp [hmode, hready]

theorem bodyReplayRun_noCrossing (hnone : firstBoundary s = none) :
    bodyReplayRun s p = yes { s with replay := { s.replay with running := true } } [] := by
  rw [bodyReplayRun, if_neg (may_run hmode hready), hnone]

theorem bodyReplayRun_ready {b : Rec} (hfirst : firstBoundary s = some b) :
    let u := startSeq (s.replay.imgs.getD (fld1 b.data 8) 0) (now s) s
    bodyReplayRun s p = yes { u with
      seq := { u.seq with
        due := false, halo := s.seq.halo, haloBand := s.seq.haloBand, rated := true, rating := fld1 b.data 9,
        newRating := true, crossing := BitVec.ofNat 64 (fld b.data 0 8) - 1, flags := [] },
      cams := (List.range 4).foldl (fun t p => Tab.upd Cam0 t p (fun c =>
        { c with rawNo := s.replay.first.getD p 0, outNo := s.replay.first.getD p 0 / max 1 (apExp c.ap), group := [] })) u.cams,
      ramps := s.ramps,
      replay := { s.replay with running := true } } [] := by
  rw [bodyReplayRun, if_neg (may_run hmode hready), hfirst]

end

/-! ## The end of a replay (R267, R269) -/

/-- However a slot stood as the replay ended, it is FREE afterwards. -/
theorem getSlot_replayEnd_free (k : Nat) (s : State) (i : Nat) : (getSlot (replayEnd k s) i).st = .free := by
  refine List.foldlRecOn (motive := fun t => (Tab.get Slot0 t i).st = .free) _ _ rfl fun t ht e _ => ?_
  rw [Tab.get_set]
  split
  · rfl
  · exact ht

/-! ## Feeding a record (R267) -/

theorem replayRecord_feeds {s : State} (hmode : s.replay.mode = true) (hrunning : s.replay.running = true)
    (hlive : halted s = false) : replayRecord s = feedRecord s :=
  if_pos (by simp [hmode, hrunning, hlive])

theorem replayRecord_idle {s : State} (h : s.replay.mode = false ∨ s.replay.running = false ∨ halted s = true) :
    replayRecord s = s :=
  if_neg (by obtain h | h | h := h <;> simp [h])

/-- Settles O35: REPLAY_OPEN answers by its checks in their order, REPLAY_RUN by the first crossing after the origin, and a
record is fed only while a replay runs. -/
theorem replayCommandsComplete : Obligations.ReplayCommandsComplete := by
  refine ⟨fun s m r p h => ⟨fun hbusy => done_no h (bodyReplayOpen_busy hbusy), fun hstill hunrecorded hclosed => ?opens⟩,
    fun s _ _ _ h => ⟨fun hbad => done_no h (bodyReplayRun_refused hbad), fun hmode hready =>
      ⟨fun hnone => done_yes h (bodyReplayRun_noCrossing hmode hready ((takeReq_firstBoundary s).trans hnone)),
        fun _ hfirst => done_yes h
          (bodyReplayRun_ready (s := takeReq s) hmode hready ((takeReq_firstBoundary s).trans hfirst))⟩⟩,
    fun _ _ _ _ h => ⟨fun hmode => done_yes h (if_pos hmode), fun hmode => done_no h (if_neg (by simpa using hmode))⟩,
    fun k s => ⟨rfl, getSlot_replayEnd_free k s⟩,
    fun _ hmode hrunning hlive => done_eq ((replayRecord_feeds hmode hrunning hlive).trans rfl),
    fun _ hidle => done_eq (replayRecord_idle hidle)⟩
  case opens =>
    refine ⟨fun hqueue => done_no h (bodyReplayOpen_noQueue hstill hunrecorded hclosed hqueue),
      fun hst hcontent => ⟨fun hreserved => ?_, fun hknown hforeign => ?_, fun hknown hown =>
        ⟨fun hnone => ?_, fun i hfound => ⟨fun hnone => ?_, fun o l horigin hitems => ?_⟩⟩⟩⟩
    · exact exec_replayOpen_held h (bodyReplayOpen_reserved hstill hunrecorded hclosed hst hcontent hreserved)
    · exact exec_replayOpen_held h (bodyReplayOpen_foreign hstill hunrecorded hclosed hst hcontent hknown hforeign)
    · exact exec_replayOpen_held h (bodyReplayOpen_noSegment hstill hunrecorded hclosed hst hcontent hknown hown hnone)
    · exact exec_replayOpen_held h (bodyReplayOpen_noOrigin hstill hunrecorded hclosed hst hcontent hknown hown hfound
        (hnone.imp_right (congrArg checkpointItems (takeReq_streamFrom ..)).trans))
    · have hopens := bodyReplayOpen_opens (m := m) (s := takeReq s) hstill hunrecorded hclosed hst hcontent hknown hown hfound
        horigin ((congrArg checkpointItems (takeReq_streamFrom ..)).trans hitems)
      simp only [replayOpened, takeReq_segRaw, takeReq_segFind, takeReq_streamFrom, takeReq_oldestSeg,
        takeReq_lotImages] at hopens
      exact exec_replayOpen_held h hopens

end Sys2Proof.Machine
end

section
/-! SUPPORT. The keystone (R270, R403 to R405, R407, R408, R505): what leaving a sync state does, the role and the parent that
KS_CONFIG takes up, and what a launch is refused for.
-/

namespace Sys2Proof.Machine

/-! ## Moving the sync state (R405, R407) -/

theorem leaveLocked_time (s : State) : (leaveLocked s).time = s.time := by
  unfold leaveLocked
  split <;> simp

theorem leaveLocked_span (s : State) : (leaveLocked s).span = s.span := by
  unfold leaveLocked
  split <;> simp

/-- A move puts the sync state in force and counts the tolerance afresh; it acts under R407 where it leaves LOCKED. -/
theorem ksMove_eq (st : KsSt) (s : State) :
    let a := if s.time.st = .locked ∧ st ≠ .locked then leaveLocked s else s
    ksMove st s = { a with time := { s.time with st := st, inTol := 0, outTol := 0 } } := by
  by_cases hleaves : s.time.st = .locked ∧ st ≠ .locked
  · simp [ksMove, when_, hleaves, leaveLocked_time]
  · have hstays : (s.time.st == .locked && st != .locked) = false := by simpa using hleaves
    simp only [ksMove, when_, hstays, if_neg hleaves, Bool.false_eq_true, if_false]

@[simp] theorem ksMove_time (st : KsSt) (s : State) :
    (ksMove st s).time = { s.time with st := st, inTol := 0, outTol := 0 } := by
  rw [ksMove_eq]

@[simp] theorem ksMove_span (st : KsSt) (s : State) : (ksMove st s).span = s.span := by
  simp [ksMove, leaveLocked_span]

/-! ## The parent (R404) -/

/-- The choice of a parent reads the span ports and the fixed port alone. -/
theorem chooseParent_congr {s t : State} (hspan : s.span = t.span) (hfixed : s.time.fixedParent = t.time.fixedParent) :
    chooseParent s = chooseParent t := by
  unfold chooseParent getSpan
  rw [hspan, hfixed]

/-- A follower that is in UNSYNC takes up its choice without a move. -/
theorem reparent_unsync {s : State} (hrole : s.time.role = .follower) (hst : s.time.st = .unsync) :
    let c := chooseParent s
    reparent s = { s with time := { s.time with
      parent := c.map (fun x => x.1),
      hops := (c.map (fun x => min 0xFF (x.2.dist + 1))).getD 0xFF, gm := (c.map (fun x => x.2.gm)).getD s.time.gm,
      noParentAt := if c.isNone then s.time.noParentAt.or (some (now s)) else none,
      t1 := if c.map (fun x => x.1) = s.time.parent then s.time.t1 else none } } := by
  cases hchoice : chooseParent s <;> simp [reparent, when_, hrole, hst, hchoice]

/-! ## The role (R403, R404, R504) -/

theorem ksRole_eq (v : Nat) : ksRole v = if v = 1 then .grandmaster else if v = 2 then .follower else .off := by
  unfold ksRole
  split <;> simp_all

/-- Outside FOLLOWER a role stands without a parent and with KS_INC of exactly 10 ns. -/
theorem setRole_of_ne_follower {role : KsRole} (hrole : role ≠ .follower) (fixed : Option Nat) (s : State) :
    let u := if s.time.role = role then s else ksMove .unsync s
    setRole role fixed s = { u with time := { u.time with
      role := role, fixedParent := fixed, parent := none, hops := if role = .grandmaster then 0 else 0xFF,
      gm := if role = .grandmaster then s.span.node.toNat else u.time.gm, ksInc := 0x0A000000, noParentAt := none } } := by
  have hspan : (if s.time.role = role then s else ksMove .unsync s).span = s.span := by split <;> simp
  simp only [setRole, reparent, if_neg hrole, hspan]
  exact if_pos (by simpa using hrole)

/-- A device that becomes a follower chooses its parent in UNSYNC. -/
theorem setRole_follower {s : State} (hrole : s.time.role ≠ .follower) (fixed : Option Nat) :
    let u := ksMove .unsync s
    let c := chooseParent { s with time := { s.time with fixedParent := fixed } }
    setRole .follower fixed s = { u with time := { u.time with
      role := .follower, fixedParent := fixed, parent := c.map (fun x => x.1),
      hops := (c.map (fun x => min 0xFF (x.2.dist + 1))).getD 0xFF, gm := (c.map (fun x => x.2.gm)).getD s.time.gm,
      noParentAt := if c.isNone then s.time.noParentAt.or (some (now s)) else none,
      t1 := if c.map (fun x => x.1) = s.time.parent then s.time.t1 else none } } := by
  intro u c
  let v := { u with time := { u.time with role := .follower, fixedParent := fixed } }
  have hset : setRole .follower fixed s = reparent v := by simp [setRole, hrole, u, v]
  have hst : v.time.st = .unsync := by simp [v, u]
  have hchoice : chooseParent v = c := chooseParent_congr (by simp [v, u]) rfl
  rw [hset, reparent_unsync rfl hst, hchoice]
  simp [v, u, now]

theorem exec_ksConfig {s : State} {m : Fin 16} {r : Req} {p : List Byte} (h : Accepts s m specKsConfig r p) {role : KsRole}
    (hrole : role = ksRole (fld1 p 0)) :
    let fixed := if bitOf (fld1 p 1) 7 then some (fld1 p 1 % 8) else none
    exec (.ksConfig m) s = .next (answered m [] s (setRole role fixed (takeReq s))) := by
  rw [hrole]
  exact done_yes h rfl

/-! ## KEYSTONE_LAUNCH (R270, R505) -/

section
variable {s : State} {p : List Byte}

theorem bodyLaunch_unready (hbad : s.time.internal = true ∨ (s.time.st ≠ .locked ∧ s.time.role ≠ .grandmaster) ∨
    s.seq.started = true ∨ s.seq.launchArmed ≠ none) : bodyLaunch s p = no s (refuse stState) :=
  if_pos (by simpa [synced, or_assoc, Option.isSome_iff_ne_none] using hbad)

variable (hext : s.time.internal = false) (hsynced : s.time.st = .locked ∨ s.time.role = .grandmaster)
  (hstopped : s.seq.started = false) (hunarmed : s.seq.launchArmed = none)
include hext hsynced hstopped hunarmed

theorem may_launch : ¬ (s.time.internal || !synced s || s.seq.started || s.seq.launchArmed.isSome) = true := by
  simpa [hext, hstopped, hunarmed, synced, imp_iff_not_or] using hsynced

theorem bodyLaunch_near (hnear : fld p 0 8 < now s + 1000000) : bodyLaunch s p = no s (badParam 0) :=
  (if_neg (may_launch hext hsynced hstopped hunarmed)).trans (if_pos hnear)

theorem bodyLaunch_arms {i : Nat} (hfar : now s + 1000000 ≤ fld p 0 8) (himage : launchImage s = some i) :
    bodyLaunch s p = yes { s with seq := { s.seq with
      launchArmed := some (fld p 0 8, i), img := i, rated := false,
      rating := (((getImg s i).img.ratings.head?).map (fun r => r.idx)).getD 0,
      crossing := BitVec.allOnes 64, flags := [] } } (leBytes 8 (now s)) := by
  rw [bodyLaunch, if_neg (may_launch hext hsynced hstopped hunarmed), if_neg hfar.not_gt, himage]

end

/-! ## Time-outs (R405) -/

theorem holdoverTimeout_moves {s : State} (hrole : s.time.role = .follower)
    (hst : s.time.st = .acquire ∨ s.time.st = .locked) (hlate : s.time.lastFu + 1000000 ≤ now s) :
    holdoverTimeout s = ksMove .holdover s :=
  if_pos ⟨hrole, hst, hlate⟩

theorem parentTimeout_moves {s : State} {a : Nat} (hrole : s.time.role = .follower) (hsince : s.time.noParentAt = some a)
    (hlate : a + 10000000 ≤ now s) : parentTimeout s = ksMove .unsync s := by
  simp only [parentTimeout, hsince, hrole, hlate, and_self, if_true]

/-- Settles O15: every change of the sync state is one move; KS_CONFIG takes up its role by it, and a launch is answered by
what refuses it. -/
theorem keystoneCommandsComplete : Obligations.KeystoneCommandsComplete := by
  unfold Obligations.KeystoneCommandsComplete
  intro left move
  have hmove : move = ksMove := funext₂ fun st s => (ksMove_eq st s).symm
  clear_value move
  subst hmove
  refine ⟨fun s m r p h => ?config,
    fun s _ _ _ _ h hext hsynced hstopped hunarmed hfar himage =>
      done_yes h (bodyLaunch_arms (s := takeReq s) hext hsynced hstopped hunarmed hfar himage),
    fun _ _ _ _ h => ⟨fun hbad => done_no h (bodyLaunch_unready hbad), fun hext hsynced hstopped hunarmed hnear =>
      done_no h (bodyLaunch_near hext hsynced hstopped hunarmed hnear)⟩,
    fun _ _ _ _ h => done_yes h rfl,
    fun _ hrole hst hlate => done_eq (holdoverTimeout_moves hrole hst hlate),
    fun _ _ hrole hsince hlate => done_eq (parentTimeout_moves hrole hsince hlate)⟩
  case config =>
    intro fixed role u
    have hexec := exec_ksConfig h (role := role) (ksRole_eq _).symm
    refine ⟨fun hother => ?_, fun hfollows hrole => ?_⟩
    · have hkind : role ≠ .follower := by
        simp only [role, if_neg hother]
        split <;> simp
      have hgm : role = .grandmaster ↔ fld1 p 0 = 1 := by simp [role, hother]
      rw [hexec, setRole_of_ne_follower hkind]
      simp only [hgm]
      rfl
    · have hnew : role = .follower := by simp [role, hfollows]
      have hmoves : u = ksMove .unsync (takeReq s) := if_neg (hnew ▸ hrole)
      rw [hexec, hnew, hmoves]
      rw [setRole_follower (s := takeReq s) hrole]
      rfl

end Sys2Proof.Machine
end

section
/-! SUPPORT. Recording (R256 to R258, R261, R264, R265, R493): what the recorder's commands answer, what LOT_OPEN and CHECKPOINT
do with no crossing running, and what writing a segment leaves.
-/

namespace Sys2Proof.Machine

/-! ## REC_START and REC_STOP (R256, R257, R264) -/

theorem exec_recStart {s : State} {m : Fin 16} {r : Req} {p : List Byte} (h : Accepts s m specRecStart r p) :
    (s.rec_.running = false → exec (.recStart m) s = .next (answered m [] s (recLot { takeReq s with rec_ := { s.rec_ with
      running := true, hostMode := bitOf (fld1 p 0) 0, overwrite := bitOf (fld1 p 0) 1, ringBase := fld p 8 8,
      ringSegs := fld p 16 4, hostBase := fld p 24 8, hostSegs := fld p 32 4, hostReleased := 0, segSeq := 0, written := 0,
      cur := [], full := [], gapCount := 0, gapFirst := 0, gapLast := 0, ckQueue := [], ckptBusy := false } }))) ∧
    (s.rec_.running = true → exec (.recStart m) s = .next (refused m 0x0019 0 s (takeReq s))) :=
  ⟨fun hstopped => done_yes h (if_neg (Bool.eq_false_iff.mp hstopped)), fun hrunning => done_no h (if_pos hrunning)⟩

theorem exec_recStop {s : State} {m : Fin 16} {r : Req} {p : List Byte} (h : Accepts s m (plain 0x0B02 0x0102 0 0) r p) :
    (s.rec_.running = true →
      let a := times (s.rec_.ckQueue.length + 1) flushOn (takeReq s)
      let u := flushOne (flushOne (closeCur (recPut 0xF (now s) (zeros 8) a)))
      exec (.recStop m) s = .next (answered m [] s { u with rec_ := { u.rec_ with
        running := false, cur := [], full := [], gapCount := 0, ckQueue := [], ckptBusy := false } })) ∧
    (s.rec_.running = false → exec (.recStop m) s = .next (refused m 0x0019 0 s (takeReq s))) :=
  ⟨fun hrunning => done_yes h (if_neg (by simp [hrunning])), fun hstopped => done_no h (if_pos (by simp [hstopped]))⟩

/-! ## LOT_OPEN and CHECKPOINT (R264, R265, R493) -/

/-- With no crossing running the crossing that follows the boundary is the first, number 0. -/
theorem nextCrossing_idle {s : State} (hidle : s.seq.started = false) : nextCrossing s = 0 :=
  if_neg (Bool.eq_false_iff.mp hidle)

theorem applyLotOpen_idle {s : State} {p : List Byte} (hidle : s.seq.started = false) :
    atOnce applyLotOpen p s = (checkpointStep { s with
      slots := { s.slots with epochs := [] },
      rec_ := { s.rec_ with
        lotId := BitVec.ofNat 64 (fld p 0 8), lotKey := BitVec.ofNat 64 (now s),
        seqStart := (List.range 4).map (fun i => Tab.get 0 s.slots.seqs i), ckptDue := true,
        ckptReset := s.rec_.ckptReset || bitOf (fld1 p 8) 0 } }, okWith (zeros 8)) := by
  simp only [atOnce, applyLotOpen, nextCrossing_idle hidle]
  rfl

theorem applyCheckpoint_idle {s : State} {p : List Byte} (hidle : s.seq.started = false) :
    atOnce applyCheckpoint p s = (checkpointStep { s with rec_ := { s.rec_ with ckptDue := true } }, okWith (zeros 8)) := by
  simp only [atOnce, applyCheckpoint, nextCrossing_idle hidle]
  rfl

theorem checkpointStep_due {s : State} (hdue : s.rec_.ckptDue = true) :
    let u := if s.rec_.ckptReset then resetAllTracks s else s
    checkpointStep s = takeCheckpoint (nextCrossing s) { u with rec_ := { u.rec_ with ckptDue := false, ckptReset := false } } :=
  if_neg (by simp [hdue])

theorem checkpointStep_idle {s : State} (hidle : s.rec_.ckptDue = false) : checkpointStep s = s :=
  if_pos (by simp [hidle])

/-! ## A segment is written (R256, R257) -/

theorem segmentWritten_flushes {s : State} (hrunning : s.rec_.running = true) (hfull : s.rec_.full ≠ []) :
    segmentWritten s = flushOn s :=
  if_pos (by simp [hrunning, hfull])

theorem segmentWritten_idle {s : State} (h : s.rec_.running = false ∨ s.rec_.full = []) : segmentWritten s = s :=
  if_neg (by obtain h | h := h <;> simp [h])

/-- Writing a segment moves the recorder's counts alone. -/
theorem writeSegment_rec (g : List Byte) (s : State) : (writeSegment g s).rec_ = { s.rec_ with
    segSeq := min (2 ^ 64 - 1) (s.rec_.segSeq + 1), written := s.rec_.written + 1 } := by
  cases hmode : s.rec_.hostMode <;> simp [writeSegment, hmode]

/-- A segment goes to its place of the toll ring, and in host mode to its place of the host ring. -/
theorem writeSegment_mem (g : List Byte) (s : State) :
    let b := segmentBytes s.span.node.toNat s.rec_.segSeq s.rec_.lotId.toNat g
    let host := s.rec_.hostBase + s.rec_.segSeq % max 1 s.rec_.hostSegs * 262144
    let toll := memWrite s.mem.toll (s.rec_.ringBase + s.rec_.segSeq % max 1 s.rec_.ringSegs * 262144) b
    (s.rec_.hostMode = false → (writeSegment g s).mem = { s.mem with toll := toll, tollAt := now s }) ∧
    (s.rec_.hostMode = true →
      (writeSegment g s).mem = { s.mem with toll := toll, tollAt := now s, hostMem := memWrite s.mem.hostMem host b }) := by
  refine ⟨fun hmode => ?_, fun hmode => ?_⟩
  · simp [writeSegment, hmode, tollWrite_tollUse_mem, segBytesLen]
  · simp [writeSegment, hmode, tollWrite_tollUse_mem, segBytesLen]

section
variable {s : State} {g : List Byte} {rest : List (List Byte)} (hfull : s.rec_.full = g :: rest)
include hfull

theorem flushOne_writes (hroom : canWrite s.rec_ = true) : flushOne s = { writeSegment g s with rec_ := { s.rec_ with
    full := rest, segSeq := min (2 ^ 64 - 1) (s.rec_.segSeq + 1), written := s.rec_.written + 1 } } := by
  simp only [flushOne, hfull, hroom, if_true, writeSegment_rec]

theorem flushOne_stays (hroom : canWrite s.rec_ = false) : flushOne s = s := by
  simp [flushOne, hfull, hroom]

end

/-! ## A loss that is over (R256, R261) -/

theorem gapRecord_none {s : State} (h : s.rec_.gapCount = 0 ∨ s.rec_.full ≠ []) : gapRecord s = s :=
  if_pos (by simpa using h)

theorem gapRecord_reports {s : State} (hlost : s.rec_.gapCount ≠ 0) (hempty : s.rec_.full = []) :
    let n := min s.rec_.gapCount (2 ^ 32 - 1)
    let g := recBytes 0xE (now s) (leBytes 4 n ++ zeros 4 ++ leBytes 8 s.rec_.gapFirst ++ leBytes 8 s.rec_.gapLast)
    let b := { s.rec_ with gapCount := 0, gap := true }
    gapRecord s = post 0x2701 0 0 n 0 { s with rec_ := (bufPut g b).getD b } :=
  if_neg (by simp [hlost, hempty])

/-- Settles O34: a command answers by whether the recorder or a crossing runs; a segment is written where one waits and the
policy allows it. -/
theorem recorderCommandsComplete : Obligations.RecorderCommandsComplete :=
  ⟨fun _ _ _ _ h => exec_recStart h, fun _ _ _ _ h => exec_recStop h,
    fun _ _ _ _ h => done_yes h rfl, fun _ _ _ _ h => done_yes h rfl,
    fun _ _ _ _ h => ⟨fun hlive => done_hold h (boundaryCmd_waits rfl hlive),
      fun hidle => done_answer h (boundaryCmd_applies rfl hidle (applyLotOpen_idle hidle))⟩,
    fun _ _ _ _ h => ⟨fun hlive => done_hold h (boundaryCmd_waits rfl hlive),
      fun hidle => done_answer h (boundaryCmd_applies rfl hidle (applyCheckpoint_idle hidle))⟩,
    fun _ => ⟨checkpointStep_due, checkpointStep_idle⟩,
    fun _ => ⟨fun hrunning hfull => done_eq (segmentWritten_flushes hrunning hfull),
      fun hidle => done_eq (segmentWritten_idle hidle)⟩,
    fun _ _ _ hfull => ⟨flushOne_writes hfull, flushOne_stays hfull⟩,
    writeSegment_mem,
    fun _ => ⟨gapRecord_none, gapRecord_reports⟩⟩

end Sys2Proof.Machine
end

section
/-! SUPPORT. Camera ports and their commands (R272 to R298): what the bodies of the camera and pipeline commands answer, case
by case, and what pairing, the link events and a pass leave.
-/

namespace Sys2Proof.Machine

/-! ## CAM_CONFIG (R285, R286) -/

section
variable {s : State} {p : List Byte}

/-- A port that takes a configuration with another PIXFMT or ROI_W: its tables go, and what was made with them. -/
def withoutTables (c : Cam) : Cam :=
  { c with
    active := ⟨[], []⟩, shadow := ⟨[], []⟩, shadowNew := false, ap := apNoTables c.ap,
    apPending := c.apPending.map apNoTables, group := [] }

theorem bodyCamConfig_running (hruns : portRuns s (fld1 p 0) = true) : bodyCamConfig s p = no s (refuse stBusyRunning) :=
  if_pos hruns

variable (hidle : portRuns s (fld1 p 0) = false)
include hidle

theorem bodyCamConfig_idle : let i := fld1 p 0
    let c := { getCam s i with configured := true, cfg := p.drop 8 }
    bodyCamConfig s p = yes (wakeCfg (46 + i) (recConfig i 0x0201 p (setCam s i
      (if camPixfmt (getCam s i).cfg == camPixfmt c.cfg && camRoiW (getCam s i).cfg == camRoiW c.cfg then c
       else withoutTables c)))) [] :=
  if_neg (Bool.eq_false_iff.mp hidle)

theorem bodyCamConfig_same_shape (hpix : camPixfmt (getCam s (fld1 p 0)).cfg = camPixfmt (p.drop 8))
    (hroi : camRoiW (getCam s (fld1 p 0)).cfg = camRoiW (p.drop 8)) : let i := fld1 p 0
    bodyCamConfig s p = yes (wakeCfg (46 + i) (recConfig i 0x0201 p
      (setCam s i { getCam s i with configured := true, cfg := p.drop 8 }))) [] := by
  simp [bodyCamConfig_idle hidle, hpix, hroi]

theorem bodyCamConfig_new_shape (hnew : camPixfmt (getCam s (fld1 p 0)).cfg ≠ camPixfmt (p.drop 8) ∨
      camRoiW (getCam s (fld1 p 0)).cfg ≠ camRoiW (p.drop 8)) : let i := fld1 p 0
    bodyCamConfig s p = yes (wakeCfg (46 + i) (recConfig i 0x0201 p
      (setCam s i (withoutTables { getCam s i with configured := true, cfg := p.drop 8 })))) [] := by
  have hchanged : (camPixfmt (getCam s (fld1 p 0)).cfg == camPixfmt (p.drop 8) &&
      camRoiW (getCam s (fld1 p 0)).cfg == camRoiW (p.drop 8)) = false := by
    simpa [imp_iff_not_or] using hnew
  simp [bodyCamConfig_idle hidle, hchanged]

end

/-! ## CAM_POWER (R283) -/

theorem getCam_setCam_eq_ite (s : State) (i : Nat) (c : Cam) (j : Nat) :
    getCam (setCam s i c) j = if j = i then c else getCam s j := Tab.get_set ..

/-- The four connections of port `i` in a word of sixteen. -/
def portNibble (w i : Nat) : BitVec 4 := BitVec.ofNat 4 (w / 16 ^ i)

/-- The connections of port `i` that CAM_POWER would switch on over a latched fault it does not clear. -/
def powerBlocked (s : State) (p : List Byte) (i : Nat) : BitVec 4 :=
  portNibble (fld p 0 2) i &&& portNibble (fld p 2 2) i &&& (getCam s i).pocxpFault &&& ~~~(portNibble (fld p 4 2) i)

/-- Port `i` as CAM_POWER leaves it. -/
def powered (p : List Byte) (i : Nat) (c : Cam) : Cam :=
  { c with
    pocxpFault := c.pocxpFault &&& ~~~(portNibble (fld p 4 2) i),
    pocxpOn := (c.pocxpOn &&& ~~~(portNibble (fld p 0 2) i)) ||| (portNibble (fld p 0 2) i &&& portNibble (fld p 2 2) i) }

/-- CAM_POWER acts on port `i`. -/
def powerPort (p : List Byte) (s : State) (i : Nat) : State := setCam s i (powered p i (getCam s i))

/-- CAM_POWER acts on the four ports. -/
def allPowered (p : List Byte) (s : State) : State := (List.range 4).foldl (powerPort p) s

theorem getCam_allPowered (p : List Byte) (s : State) (i : Fin 4) : getCam (allPowered p s) i = powered p i (getCam s i) := by
  rw [allPowered, get_foldl_range getCam (powered p) (powerPort p) (fun _ _ _ => getCam_setCam_eq_ite ..), if_pos i.isLt]

theorem allPowered_frame (p : List Byte) (s : State) : { allPowered p s with cams := s.cams } = s :=
  foldl_keeps (fun a => { a with cams := s.cams }) (powerPort p) (fun _ _ => rfl) (List.range 4) s

theorem any_powerBlocked_iff (s : State) (p : List Byte) :
    (List.range 4).any (fun i => powerBlocked s p i != 0) = true ↔ ∃ i : Fin 4, powerBlocked s p i ≠ 0 := by
  simp [Fin.exists_iff]

theorem bodyCamPower_blocked {s : State} {p : List Byte} (h : ∃ i : Fin 4, powerBlocked s p i ≠ 0) :
    bodyCamPower s p = no s (refuse stState) :=
  if_pos ((any_powerBlocked_iff s p).mpr h)

/-- The levels of the sixteen connections, four for each port. -/
def powerLevels (s : State) : Nat :=
  (getCam s 0).pocxpOn.toNat + (getCam s 1).pocxpOn.toNat * 16 + (getCam s 2).pocxpOn.toNat * 256 +
    (getCam s 3).pocxpOn.toNat * 4096

theorem powerLevels_eq_foldl (s : State) :
    (List.range 4).foldl (fun a i => a + (getCam s i).pocxpOn.toNat * 16 ^ i) 0 = powerLevels s := by
  simp [List.range_succ, powerLevels]

theorem bodyCamPower_switches {s : State} {p : List Byte} (h : ∀ i : Fin 4, powerBlocked s p i = 0) :
    bodyCamPower s p =
      yes (recConfig 0 0x0204 p (allPowered p s)) (leBytes 2 (powerLevels (allPowered p s)) ++ zeros 6) := by
  have hfree : ¬ (List.range 4).any (fun i => powerBlocked s p i != 0) = true := by
    rw [any_powerBlocked_iff]
    exact fun ⟨i, hi⟩ => hi (h i)
  rw [← powerLevels_eq_foldl]
  exact if_neg hfree

/-- Settles O16: CAM_CONFIG by what runs and what shape the lines keep, CAM_POWER by the faults that stay latched. -/
theorem cameraCommandsComplete : Obligations.CameraCommandsComplete := by
  refine ⟨fun s m r p h hidle =>
      ⟨fun hpix hroi => done_yes h (bodyCamConfig_same_shape (s := takeReq s) hidle hpix hroi),
        fun hnew => done_yes h (bodyCamConfig_new_shape (s := takeReq s) hidle hnew)⟩,
    fun s m r p h hruns => done_no h (bodyCamConfig_running (s := takeReq s) hruns),
    fun s m r p h => ⟨fun hblocked => done_no h (bodyCamPower_blocked (s := takeReq s) hblocked),
      fun hfree => ⟨allPowered p (takeReq s), done_yes h (bodyCamPower_switches (s := takeReq s) hfree),
        allPowered_frame p (takeReq s), getCam_allPowered p (takeReq s)⟩⟩,
    fun s m r p h => done_yes h rfl⟩

/-! ## CAM_DISCOVER (R275) -/

/-- The connections a port is configured to have. -/
def connsOf (c : Cam) : BitVec 4 := BitVec.ofNat 4 (2 ^ camConns c.cfg - 1)

/-- The camera's offer covers the port's configuration. -/
def OfferFits (offer : CamOffer) (c : Cam) : Prop :=
  c.configured = true ∧ offer.conns &&& connsOf c = connsOf c ∧ camRate c.cfg ≤ offer.rate.toNat

section
variable {m : Nat} {offer : CamOffer} {s : State} {p : List Byte}

/-- The port after discovery, with the connections that came up. -/
def afterDiscovery (p : List Byte) (good : Bool) (up : BitVec 4) (s : State) : State :=
  wakeCfg (46 + fld1 p 0) (recConfig (fld1 p 0) 0x0202 p
    (setCam s (fld1 p 0) { getCam s (fld1 p 0) with discovered := good, connUp := up }))

theorem fits_iff (offer : CamOffer) (c : Cam) :
    (c.configured && offer.conns &&& connsOf c == connsOf c && decide (camRate c.cfg ≤ offer.rate.toNat)) = true ↔
      OfferFits offer c := by
  simp [OfferFits, and_assoc]

theorem bodyCamDiscover_fits (hans : offer.answers = true) (hfits : OfferFits offer (getCam s (fld1 p 0))) :
    let u := afterDiscovery p true (connsOf (getCam s (fld1 p 0))) s
    bodyCamDiscover m offer s p =
      hold m 0x0202 p [.port (fld1 p 0)] false (some (okWith (leBytes 4 (cportStatus u (fld1 p 0))))) u := by
  have hfit := (fits_iff offer _).mpr hfits
  unfold connsOf at hfit
  simp only [bodyCamDiscover, hans, hfit, Bool.and_self, if_true]
  rfl

theorem bodyCamDiscover_lacks (hans : offer.answers = true) (hlacks : ¬ OfferFits offer (getCam s (fld1 p 0))) :
    bodyCamDiscover m offer s p =
      hold m 0x0202 p [.port (fld1 p 0)] false (some (refuse stUnsupported)) (afterDiscovery p false 0 s) := by
  have hfit := Bool.eq_false_iff.mpr (mt (fits_iff offer _).mp hlacks)
  unfold connsOf at hfit
  simp only [bodyCamDiscover, hans, hfit, Bool.and_false, Bool.false_eq_true, if_true, if_false]
  rfl

theorem bodyCamDiscover_silent (hans : offer.answers = false) :
    bodyCamDiscover m offer s p =
      hold m 0x0202 p [.port (fld1 p 0)] false (some (refuse stTimeout)) (afterDiscovery p false 0 s) := by
  simp only [bodyCamDiscover, hans, Bool.false_and, Bool.false_eq_true, if_false]
  rfl

end

/-! ## CAM_CTRL (R275, R499) -/

section
variable {m : Nat} {ack : BitVec 8} {dat : List Byte} {s : State} {p : List Byte}

/-- The head of a camera's answer to a control packet. -/
def ctrlHead (ack : BitVec 8) (p : List Byte) : List Byte := [ack, 0] ++ leBytes 2 (fld p 16 2) ++ zeros 4

theorem bodyCamCtrl_eq : bodyCamCtrl m ack dat s p = hold m 0x0203 p [.port (fld1 p 0)] false
    (some (okWith (ctrlHead ack p ++ if fld1 p 8 = 0 then padTo (fld p 16 2) dat else [])))
    (recConfig (fld1 p 0) 0x0203 p (emit (.camera (fld1 p 0) (p.drop 8)) s)) := rfl

theorem bodyCamCtrl_read (hread : fld1 p 8 = 0) : bodyCamCtrl m ack dat s p = hold m 0x0203 p [.port (fld1 p 0)] false
    (some (okWith (ctrlHead ack p ++ padTo (fld p 16 2) dat)))
    (recConfig (fld1 p 0) 0x0203 p (emit (.camera (fld1 p 0) (p.drop 8)) s)) := by
  rw [bodyCamCtrl_eq, if_pos hread]

theorem bodyCamCtrl_write (hwrite : fld1 p 8 ≠ 0) : bodyCamCtrl m ack dat s p = hold m 0x0203 p [.port (fld1 p 0)] false
    (some (okWith (ctrlHead ack p))) (recConfig (fld1 p 0) 0x0203 p (emit (.camera (fld1 p 0) (p.drop 8)) s)) := by
  rw [bodyCamCtrl_eq, if_neg hwrite, List.append_nil]

end

/-! ## AP_TABLE and AP_CONFIG (R288, R295) -/

section
variable {m : Nat} {s : State} {p : List Byte}

/-- The set that AP_TABLE completes: the shadow set where one is complete, else a copy of the active one. -/
def tableBase (c : Cam) : TableSet := if c.shadowNew then c.shadow else c.active

/-- The port's shadow set replaced, and not complete. -/
def withShadow (c : Cam) (t : TableSet) : Cam := { c with shadow := t, shadowNew := false }

/-- The table as AP_TABLE finds it in toll memory. -/
def tableBytes (s : State) (p : List Byte) : List Byte :=
  tollRead s (fld p 16 8) (tableSize (getCam s (fld1 p 0)) (fld1 p 8))

/-- The fields that a running crossing holds fixed stay as they are. -/
def SamePath (a b : List Byte) : Prop := apExp a = apExp b ∧ apAp a = apAp b ∧ apInline a = apInline b

theorem path_changes_iff (a b : List Byte) :
    (apExp a != apExp b || apAp a != apAp b || apInline a != apInline b) = true ↔ ¬ SamePath a b := by
  simp [SamePath, imp_iff_not_or, or_assoc]

theorem bodyApTable_unconfigured (hcam : (getCam s (fld1 p 0)).configured = false) :
    bodyApTable m s p = no s (refuse stState) := if_pos (by simpa using hcam)

theorem bodyApConfig_unconfigured (hcam : (getCam s (fld1 p 0)).configured = false) :
    bodyApConfig s p = no s (refuse stState) := if_pos (by simpa using hcam)

variable (hcam : (getCam s (fld1 p 0)).configured = true)
include hcam

theorem camera_configured : ¬ (!(getCam s (fld1 p 0)).configured) = true := by simp [hcam]

theorem bodyApTable_configured : let c := getCam s (fld1 p 0)
    bodyApTable m s p = hold m 0x0302 p [.port (fld1 p 0)] false (some (okWith []))
      (setCam (tollUse (apAp (apNow c)) s) (fld1 p 0) (withShadow c
        (if fld1 p 8 = 0 then { tableBase c with lut := putAt (tableBase c).lut (8192 * fld1 p 9) (tableBytes s p) }
         else { tableBase c with ff := tableBytes s p }))) :=
  if_neg (camera_configured hcam)

theorem bodyApTable_flat_field (hff : fld1 p 8 ≠ 0) : let c := getCam s (fld1 p 0)
    bodyApTable m s p = hold m 0x0302 p [.port (fld1 p 0)] false (some (okWith []))
      (setCam (tollUse (apAp (apNow c)) s) (fld1 p 0) (withShadow c { tableBase c with ff := tableBytes s p })) := by
  simp only [bodyApTable_configured hcam, if_neg hff]

theorem bodyApTable_lut (hlut : fld1 p 8 = 0) : let c := getCam s (fld1 p 0)
    bodyApTable m s p = hold m 0x0302 p [.port (fld1 p 0)] false (some (okWith []))
      (setCam (tollUse (apAp (apNow c)) s) (fld1 p 0) (withShadow c
        { tableBase c with lut := putAt (tableBase c).lut (8192 * fld1 p 9) (tableBytes s p) })) := by
  simp only [bodyApTable_configured hcam, if_pos hlut]

theorem bodyApConfig_busy (hruns : portRuns s (fld1 p 0) = true)
    (hchanged : ¬ SamePath (p.drop 8) (apNow (getCam s (fld1 p 0)))) : bodyApConfig s p = no s (refuse stBusyRunning) :=
  (if_neg (camera_configured hcam)).trans
    (if_pos (Bool.and_eq_true_iff.mpr ⟨hruns, (path_changes_iff ..).mpr hchanged⟩))

theorem bodyApConfig_pends
    (hfree : portRuns s (fld1 p 0) = false ∨ SamePath (p.drop 8) (apNow (getCam s (fld1 p 0)))) : let i := fld1 p 0
    bodyApConfig s p = yes (wakeCfg (42 + apAp (p.drop 8)) (recConfigAt (apFirstLine s i) i 0x0301 p
      (setCam s i { getCam s i with apSet := true, apPending := some (p.drop 8) }))) [] := by
  refine (if_neg (camera_configured hcam)).trans (if_neg fun hbusy => ?_)
  obtain ⟨hruns, hchanged⟩ := Bool.and_eq_true_iff.mp hbusy
  rcases hfree with hidle | hsame
  · exact absurd hruns (Bool.eq_false_iff.mp hidle)
  · exact (path_changes_iff ..).mp hchanged hsame

end

/-- Settles O17: CAM_DISCOVER answers by the camera's offer, CAM_CTRL by the direction of its packet, and the pipeline
commands by what is configured and what runs. -/
theorem cameraLongCommandsStart : Obligations.CameraLongCommandsStart := by
  refine ⟨fun s m offer r p h => ⟨fun hans hcam hconns hrate =>
        done_hold h (bodyCamDiscover_fits (s := takeReq s) hans ⟨hcam, hconns, hrate⟩),
      fun hans hlacks => done_hold h (bodyCamDiscover_lacks (s := takeReq s) hans ?lacks),
      fun hans => done_hold h (bodyCamDiscover_silent (s := takeReq s) hans)⟩,
    fun s m ack dat r p h => ⟨fun hread => done_hold h (bodyCamCtrl_read hread),
      fun hwrite => done_hold h (bodyCamCtrl_write hwrite)⟩,
    fun s m hrunning => done_eq (if_pos hrunning),
    fun s m r p h => ⟨fun hcam => done_no h (bodyApTable_unconfigured (s := takeReq s) hcam),
      fun hcam hff => done_hold h (bodyApTable_flat_field (s := takeReq s) hcam hff),
      fun hcam hlut => done_hold h (bodyApTable_lut (s := takeReq s) hcam hlut)⟩,
    fun s m r p h => ⟨fun hcam => done_no h (bodyApConfig_unconfigured (s := takeReq s) hcam),
      fun hcam hruns hchanged => done_no h (bodyApConfig_busy (s := takeReq s) hcam hruns hchanged),
      fun hcam hfree => done_yes h (bodyApConfig_pends (s := takeReq s) hcam hfree)⟩⟩
  case lacks =>
    rintro ⟨hcam, hconns, hrate⟩
    rcases hlacks with hun | hmissing | hslow
    · exact Bool.eq_false_iff.mp hun hcam
    · exact hmissing hconns
    · exact hslow.not_ge hrate

/-! ## Lines and trigger entries (R276, R278, R280) -/

section
variable {s : State} {p : Nat} {l : CamLine} {e : TrigEntry} {rest : List TrigEntry}

theorem dropEntry_eq (hfifo : (getCam s p).fifo = e :: rest) :
    dropEntry p s = setCam s p { getCam s p with fifo := rest } := by
  simp only [dropEntry, hfifo, List.drop_one, List.tail_cons]

theorem pairLine_expired {ta : Nat} (hlate : e.stamp + camLatMax (getCam s p).cfg < ta) :
    pairLine p l ta (e :: rest) s = pairLine p l ta rest (popLost p e (dropEntry p s)) := if_pos hlate

theorem pairLine_young {ta : Nat} (hkept : ta ≤ e.stamp + camLatMax (getCam s p).cfg)
    (hyoung : ta < e.stamp + camLatMin (getCam s p).cfg) : pairLine p l ta (e :: rest) s = camCount p 3 s :=
  (if_neg hkept.not_gt).trans (if_pos hyoung)

theorem pairLine_pairs {ta : Nat} (hkept : ta ≤ e.stamp + camLatMax (getCam s p).cfg)
    (hripe : e.stamp + camLatMin (getCam s p).cfg ≤ ta) :
    let cut := cutLineRoi (getCam s p).cfg l
    pairLine p l ta (e :: rest) s =
      passLine p ⟨l.crc, cut.1, false, cut.2, e.pos, e.corr, e.stamp, none⟩ (dropEntry p s) :=
  (if_neg hkept.not_gt).trans (if_neg hripe.not_gt)

section
variable (hlive : s.replay.mode = false) (hcam : (getCam s p).configured = true)
include hlive hcam

theorem port_takes_lines : ¬ (s.replay.mode || !(getCam s p).configured) = true := by simp [hlive, hcam]

theorem lineComplete_foreign (hstream : l.stream.toNat ≠ camStream (getCam s p).cfg) :
    lineComplete p l s = camCount p 4 s :=
  (if_neg (port_takes_lines hlive hcam)).trans (if_pos hstream)

variable (hstream : l.stream.toNat = camStream (getCam s p).cfg)
include hstream

theorem lineComplete_skewed (hskew : 65536 < l.skew.toNat) : lineComplete p l s = s :=
  (if_neg (port_takes_lines hlive hcam)).trans ((if_neg (not_not.mpr hstream)).trans (if_pos hskew))

theorem lineComplete_pairs (hskew : l.skew.toNat ≤ 65536) :
    lineComplete p l s = pairLine p l (now s) (getCam s p).fifo s :=
  (if_neg (port_takes_lines hlive hcam)).trans ((if_neg (not_not.mpr hstream)).trans (if_neg hskew.not_gt))

end

theorem triggerExpiry_pops (hlive : s.replay.mode = false) (hfifo : (getCam s p).fifo = e :: rest)
    (hexpired : e.stamp + camLatMax (getCam s p).cfg < now s) : triggerExpiry p s = popLost p e (dropEntry p s) := by
  simp only [triggerExpiry, hlive, hfifo, hexpired, Bool.false_eq_true, if_true, if_false]

end

/-! ## Packets and connections (R272, R281 to R283) -/

section
variable {s : State} {p : Nat}

theorem foreignPacket_counts (hlive : s.replay.mode = false) : foreignPacket p s = camCount p 4 s :=
  if_neg (Bool.eq_false_iff.mp hlive)

theorem camEvent_enters (hlive : s.replay.mode = false) (packet : List Byte) :
    let n := max 1 ((packet.length + 47) / 48)
    camEvent p packet s = (List.range n).foldl (fun a i =>
      camEntry p 1 ((if i + 1 = n then 2 else 0) + (if i = 0 then 0 else 1)) i ((packet.drop (48 * i)).take 48) a) s :=
  if_neg (Bool.eq_false_iff.mp hlive)

theorem cxpUp_relocks {i : Nat} (hfound : (getCam s p).discovered = true) (hconn : i < camConns (getCam s p).cfg)
    (hdown : (getCam s p).connUp.getLsbD i = false) :
    let up := (getCam s p).connUp ||| (1#4 <<< i)
    cxpUp p i s = post 0x1302 p (46 + p) up.toNat 0 (setCam s p { getCam s p with connUp := up }) :=
  if_pos (by simp [hfound, hconn, hdown])

/-! ## Through-memory rings (R296) -/

theorem owedWrite_puts {r : RawLine} {rest : List RawLine} (hlive : s.replay.mode = false)
    (howed : (getCam s p).owed = r :: rest) (hroom : (getCam s p).ring.length < apRing (getCam s p).apIn) :
    owedWrite p s = ringPut p r (setCam s p { getCam s p with owed := rest }) := by
  simp [owedWrite, howed, hlive, hroom]

/-- Of the waiting passes of one pipeline the lowest port's starts. -/
theorem passStart_runs (hwaits : passWaits s p = true)
    (hlowest : ∀ k < p, passWaits s k = false ∨ apAp (apNow (getCam s k)) ≠ apAp (apNow (getCam s p))) :
    let n := apPass (apNext s p (getCam s p))
    passStart p s = ((getCam s p).ring.take n).foldl (fun a r => pipeRaw p r a)
      (setCam s p { getCam s p with ring := (getCam s p).ring.drop n }) := by
  have hlower : (List.range p).any (fun k => passWaits s k && apAp (apNow (getCam s k)) == apAp (apNow (getCam s p))) = false :=
    List.any_eq_false.mpr fun k hk => by
      rcases hlowest k (List.mem_range.mp hk) with hidle | hother
      · simp [hidle]
      · simp [hother]
  simp only [passStart, hwaits, hlower, Bool.not_false, Bool.and_self, if_true]

end

/-- Settles O18: a line is paired by the age of the oldest trigger entry, and every other event of a port acts by its one
condition. -/
theorem cameraEventsComplete : Obligations.CameraEventsComplete := by
  refine ⟨fun s p line hlive hcam => ⟨fun hstream hskew => ?paired,
      fun hforeign => done_eq (lineComplete_foreign hlive hcam hforeign),
      fun hstream hskew => done_eq (lineComplete_skewed hlive hcam hstream hskew)⟩,
    fun s p e rest hlive hfifo hexpired => done_eq ?expired,
    fun s p hlive => done_eq (foreignPacket_counts hlive),
    fun s p => rfl,
    fun s p packet hlive => done_eq (camEvent_enters hlive packet),
    fun s p conn hup => done_eq (if_pos hup),
    fun s p conn hfound hconn hdown => done_eq (cxpUp_relocks hfound hconn hdown),
    fun s conn hon => done_eq (if_pos hon),
    fun s p r rest hlive howed hroom => done_eq (owedWrite_puts hlive howed hroom),
    fun s p hwaits hlowest => done_eq (passStart_runs hwaits hlowest)⟩
  case paired =>
    have hpair := lineComplete_pairs hlive hcam hstream hskew
    refine ⟨fun hempty => done_eq (hpair.trans (by rw [hempty]; rfl)), fun e rest hfifo => ?_⟩
    rw [hfifo] at hpair
    rw [← dropEntry_eq hfifo]
    exact ⟨fun hyoung hkept => done_eq (hpair.trans (pairLine_young hkept hyoung)),
      fun hripe hkept => done_eq (hpair.trans (pairLine_pairs hkept hripe)),
      fun hexpired => done_eq (hpair.trans (pairLine_expired hexpired))⟩
  case expired => rw [triggerExpiry_pops hlive hfifo hexpired, dropEntry_eq hfifo]

end Sys2Proof.Machine
end

section
/-! SUPPORT. The counters of the position units (R331): the step of a counted edge, and that nothing else of a counter update
without a reference moves COUNT, REV or WRAP of any unit.
-/

namespace Sys2Proof.Machine

/-! ## Counters of the units -/

/-- COUNT, REV and WRAP. -/
def counter (x : Pu) : BitVec 40 × BitVec 24 × Bool := (x.count, x.rev, x.wrap)

/-- The counter of each unit. -/
def counters (t : Tab Pu) (u : Nat) : BitVec 40 × BitVec 24 × Bool := counter (Tab.get Pu0 t u)

@[simp] theorem counters_ite (c : Prop) [Decidable c] (a b : State) :
    counters (if c then a else b).pus = if c then counters a.pus else counters b.pus :=
  apply_ite (fun s => counters s.pus) c a b

/-- Writing a unit with the counter it had. -/
theorem counters_setPu {s : State} {p : Nat} {x : Pu} (h : counter x = counter (getPu s p)) :
    counters (setPu s p x).pus = counters s.pus := by
  funext u
  unfold counters setPu
  rw [Tab.get_set]
  split
  next hu => rw [h, hu, getPu]
  next => rfl

@[simp] theorem counters_foldl {α : Type} (f : State → α → State) (h : ∀ s x, counters (f s x).pus = counters s.pus)
    (l : List α) (s : State) : counters (l.foldl f s).pus = counters s.pus :=
  foldl_keeps (fun s => counters s.pus) f h l s

/-! ## Slots -/

section
variable (i p k stamp : Nat) (s : State)

@[simp] theorem slotLow_counters : counters (slotLow p s).pus = counters s.pus := by
  unfold slotLow
  dsimp only
  split
  · exact counters_setPu rfl
  · split
    · exact counters_setPu rfl
    · rfl

@[simp] theorem maybeFree_counters : counters (maybeFree i s).pus = counters s.pus := by simp [maybeFree]

@[simp] theorem primaryDone_counters : counters (primaryDone i s).pus = counters s.pus := by simp [primaryDone]

@[simp] theorem viewsDone_counters : counters (viewsDone i k s).pus = counters s.pus := by simp [viewsDone]

@[simp] theorem markCorrupt_counters : counters (markCorrupt i s).pus = counters s.pus := by simp [markCorrupt]

@[simp] theorem recAdmitAt_pus (bay dec views gen girders : Nat) : (recAdmitAt stamp bay dec views i gen girders s).pus = s.pus :=
  recPut_pus ..

@[simp] theorem dropCandidate_counters : counters (dropCandidate i stamp s).pus = counters s.pus := by simp [dropCandidate]

@[simp] theorem withdrawViews_counters : counters (withdrawViews i stamp s).pus = counters s.pus := by
  unfold withdrawViews
  dsimp only
  repeat' split
  all_goals simp

@[simp] theorem freezeSlot_counters : counters (freezeSlot i stamp s).pus = counters s.pus := by simp [freezeSlot]

@[simp] theorem fireSlot_counters (quiet : Bool) : counters (fireSlot i stamp quiet s).pus = counters s.pus := by simp [fireSlot]

@[simp] theorem noSlotEnd_counters : counters (noSlotEnd p s).pus = counters s.pus := by simp [noSlotEnd]

@[simp] theorem exhausted_pus (part : BitVec 64) : (exhausted p part s).pus = s.pus := by simp [exhausted, noSlotSet]

variable (part : BitVec 64) (detect : BitVec 40) (x0 x1 : Nat)

@[simp] theorem openAt_counters : counters (openAt i p part detect x0 x1 s).pus = counters s.pus := by simp [openAt]

@[simp] theorem openSlot_counters : counters (openSlot p part detect x0 x1 s).1.pus = counters s.pus := by
  unfold openSlot
  dsimp only
  repeat' split
  all_goals simp

variable (c : FlightCommit)

@[simp] theorem noteInstant_counters : counters (noteInstant c s).pus = counters s.pus := by simp [noteInstant]

@[simp] theorem addCandidate_pus : (addCandidate i c s).pus = s.pus := rfl

@[simp] theorem applyCommit_counters : counters (applyCommit c s).pus = counters s.pus := by simp [applyCommit]

@[simp] theorem undoDuplicate_counters (e : Nat × Nat × Slot × FlightCommit) :
    counters (undoDuplicate e s).pus = counters s.pus := by simp [undoDuplicate]

@[simp] theorem freezeFirst_counters : counters (freezeFirst i stamp s).pus = counters s.pus := by
  unfold freezeFirst
  split <;> simp

end

/-! ## Ramps -/

section
variable (p n no : Nat) (c : List Byte) (o : Obj) (l : OutLine) (s : State)

@[simp] theorem recLot_pus : (recLot s).pus = s.pus := by simp [recLot]

@[simp] theorem updBand_pus (f : Band → Band) : (updBand p no f s).pus = s.pus := rfl

@[simp] theorem approachWrite_counters (r a : Nat) (bs : List Byte) (force : Bool) :
    counters (approachWrite r a bs force s).pus = counters s.pus := by
  simp [approachWrite, ownFault]

@[simp] theorem approachWake_counters (r a : Nat) : counters (approachWake r a n s).pus = counters s.pus := by
  simp [approachWake]

@[simp] theorem startBand_counters (r : Ramp) : counters (startBand p no r s).pus = counters s.pus := by
  unfold startBand
  dsimp only
  repeat' split
  all_goals simp

@[simp] theorem storeCrop_pus (x : Crop) : (storeCrop p x s).pus = s.pus := rfl

@[simp] theorem rmpCount_pus : (rmpCount p n s).pus = s.pus := rfl

@[simp] theorem unpacked_counters (h : Option (Nat × Nat)) (mark : Bool) :
    counters (unpacked h mark s).pus = counters s.pus := by
  cases h <;> simp [unpacked]

@[simp] theorem packSample_counters (h : Nat × Nat) (px : List (List (List Nat))) :
    counters (packSample p no c o h px s).pus = counters s.pus := by
  unfold packSample
  dsimp only
  split
  · simp
  · split <;> simp

@[simp] theorem closeSample_counters : counters (closeSample p n c o s).pus = counters s.pus := by
  cases h : o.slot <;> simp [closeSample, h]

@[simp] theorem detectObj_counters : counters (detectObj p o s).1.pus = counters s.pus := by
  simp [detectObj, nextPart]

@[simp] theorem putObj_pus : (putObj p n o s).pus = s.pus := rfl

@[simp] theorem detectAll_counters (is : List Nat) : counters (detectAll p is s).pus = counters s.pus := by
  refine counters_foldl _ (fun s i => ?_) is s
  split <;> simp

@[simp] theorem followLat_counters : counters (followLat p o s).pus = counters s.pus := by
  cases h : o.slot <;> simp [followLat, h]

@[simp] theorem closeDue_counters : counters (closeDue p n c s).pus = counters s.pus := by simp [closeDue]

@[simp] theorem tidy_pus : (tidy p n c s).pus = s.pus := rfl

@[simp] theorem objRoom_counters : counters (objRoom p s).pus = counters s.pus := by simp [objRoom]

@[simp] theorem objOverflow_counters (k : Nat) : counters (objOverflow p n k s).pus = counters s.pus := by
  refine counters_foldl _ (fun s i => ?_) _ s
  rfl

@[simp] theorem detectLine_counters (runs : List Run) : counters (detectLine p n c l runs s).pus = counters s.pus := by
  simp [detectLine]

@[simp] theorem cutLine_counters : counters (cutLine p n c l s).pus = counters s.pus := by simp [cutLine]

@[simp] theorem endBand_counters : counters (endBand p n s).pus = counters s.pus := by
  unfold endBand
  dsimp only
  split
  · split <;> simp
  · rfl

@[simp] theorem rampNumbered_counters (runs : List Run) (r : Ramp) :
    counters (rampNumbered p n c l runs r s).pus = counters s.pus := by
  simp [rampNumbered]

@[simp] theorem rampLine_counters : counters (rampLine p l s).pus = counters s.pus := by
  unfold rampLine
  dsimp only
  repeat' split
  all_goals simp

end

/-! ## Camera ports -/

section
variable (p n : Nat) (r : RawLine) (e : TrigEntry) (s : State)

@[simp] theorem camCount_pus : (camCount p n s).pus = s.pus := rfl

@[simp] theorem camEntry_counters (kind flags frag : Nat) (dat : List Byte) :
    counters (camEntry p kind flags frag dat s).pus = counters s.pus := by
  simp [camEntry]

@[simp] theorem recLine_counters : counters (recLine p r s).pus = counters s.pus := by simp [recLine, lineRecord]

@[simp] theorem statsClose_counters : counters (statsClose p s).pus = counters s.pus := by
  unfold statsClose
  dsimp only
  rw [counters_ite, camEntry_counters, tollWrite_pus, tollUse_pus, camCount_pus, setCam_pus, ite_self]

@[simp] theorem statsLine_counters (v : List (List Nat)) (l : OutLine) : counters (statsLine p v l s).pus = counters s.pus := by
  simp [statsLine]

@[simp] theorem pipeRaw_counters : counters (pipeRaw p r s).pus = counters s.pus := by simp [pipeRaw]

@[simp] theorem ringPut_pus : (ringPut p r s).pus = s.pus := by simp [ringPut]

@[simp] theorem ringLine_counters : counters (ringLine p r s).pus = counters s.pus := by simp [ringLine]

@[simp] theorem passLine_counters : counters (passLine p r s).pus = counters s.pus := by simp [passLine]

@[simp] theorem popLost_counters : counters (popLost p e s).pus = counters s.pus := by simp [popLost]

@[simp] theorem dropEntry_pus : (dropEntry p s).pus = s.pus := rfl

@[simp] theorem pushTrigger_counters : counters (pushTrigger p e s).pus = counters s.pus := by
  cases h : (getCam s p).fifo <;> simp [pushTrigger, h]

end

/-! ## Line triggers, the compare list and the track latches (R338, R339) -/

section
variable (u p advance stamp : Nat) (s : State)

@[simp] theorem postAt_pus (code inst dom a0 a1 : Nat) : (postAt stamp code inst dom a0 a1 s).pus = s.pus := rfl

@[simp] theorem overspeed_counters : counters (overspeed u p stamp s).pus = counters s.pus := by
  unfold overspeed
  dsimp only
  rw [counters_ite, postAt_pus, ite_self]
  exact counters_setPu rfl

@[simp] theorem lineTrigPulse_pus : (lineTrigPulse p stamp s).pus = s.pus := by
  unfold lineTrigPulse
  split <;> rfl

@[simp] theorem lineTrigger_counters : counters (lineTrigger u p stamp s).pus = counters s.pus := by simp [lineTrigger]

@[simp] theorem genStep_counters (ref : Bool) : counters (genStep u p advance stamp ref s).pus = counters s.pus := by
  simp [genStep]

@[simp] theorem sawLevels_pus : (sawLevels s).pus = s.pus := rfl

@[simp] theorem endPulses_counters (f : Pulse → Bool) : counters (endPulses f s).pus = counters s.pus := by simp [endPulses]

@[simp] theorem compare_counters (left : Bool) : counters (compare u left stamp s).pus = counters s.pus := by simp [compare]

@[simp] theorem trackRelease_counters : counters (trackRelease u s).pus = counters s.pus := by simp [trackRelease]

end

/-! ## The step of a counted edge (R331) -/

section
variable {x : Pu}

theorem countStep_up (h : x.count ≠ 0xFFFFFFFFFF) : countStep x 1 = { x with count := x.count + 1 } :=
  (if_pos rfl).trans (if_neg h)

theorem countStep_up_wraps (h : x.count = 0xFFFFFFFFFF) :
    countStep x 1 = { x with count := 0, rev := x.rev + 1, wrap := true } :=
  (if_pos rfl).trans (if_pos h)

theorem countStep_down (h : x.count ≠ 0) : countStep x (-1) = { x with count := x.count - 1 } :=
  (if_neg (by decide)).trans ((if_pos rfl).trans (if_neg h))

theorem countStep_down_wraps (h : x.count = 0) :
    countStep x (-1) = { x with count := 0xFFFFFFFFFF, rev := x.rev - 1, wrap := true } :=
  (if_neg (by decide)).trans ((if_pos rfl).trans (if_pos h))

end

theorem toNat_rev_append_count (r : BitVec 24) (c : BitVec 40) : (r ++ c).toNat = r.toNat * 2 ^ 40 + c.toNat := by
  rw [BitVec.toNat_append, ← Nat.shiftLeft_add_eq_or_of_lt c.isLt, Nat.shiftLeft_eq]

theorem append_count_succ {c : BitVec 40} (h : c ≠ 0xFFFFFFFFFF#40) (r : BitVec 24) : r ++ (c + 1#40) = (r ++ c) + 1#64 := by
  apply BitVec.eq_of_toNat_eq
  have hc : c.toNat ≠ 0xFFFFFFFFFF := fun e => h (BitVec.eq_of_toNat_eq e)
  have hr := r.isLt
  rw [BitVec.toNat_add, toNat_rev_append_count, toNat_rev_append_count, BitVec.toNat_add]
  simp only [BitVec.toNat_ofNat]
  omega

theorem rev_succ_append (r : BitVec 24) : (r + 1#24) ++ 0#40 = (r ++ 0xFFFFFFFFFF#40) + 1#64 := by
  apply BitVec.eq_of_toNat_eq
  rw [BitVec.toNat_add, toNat_rev_append_count, toNat_rev_append_count, BitVec.toNat_add]
  simp only [BitVec.toNat_ofNat]
  omega

/-- The step upwards, of the extended position and of each of its parts. -/
theorem countStep_up_extended (x : Pu) :
    let y := countStep x 1
    y.rev ++ y.count = (x.rev ++ x.count) + (1 : BitVec 64) ∧ y.count = x.count + 1 ∧
      y.rev = (if x.count = 0xFFFFFFFFFF then x.rev + 1 else x.rev) ∧ y.wrap = (x.wrap || decide (x.count = 0xFFFFFFFFFF)) := by
  by_cases h : x.count = 0xFFFFFFFFFF
  · rw [countStep_up_wraps h, h, if_pos rfl, decide_eq_true rfl, Bool.or_true]
    exact ⟨rev_succ_append x.rev, rfl, rfl, rfl⟩
  · rw [countStep_up h, if_neg h, decide_eq_false h, Bool.or_false]
    exact ⟨append_count_succ h x.rev, rfl, rfl, rfl⟩

/-- The step downwards. -/
theorem countStep_down_extended (x : Pu) :
    let y := countStep x (-1)
    y.rev ++ y.count = (x.rev ++ x.count) - (1 : BitVec 64) ∧ y.count = x.count - 1 ∧
      y.rev = (if x.count = 0 then x.rev - 1 else x.rev) ∧ y.wrap = (x.wrap || decide (x.count = 0)) := by
  by_cases h : x.count = 0
  · rw [countStep_down_wraps h, h, if_pos rfl, decide_eq_true rfl, Bool.or_true]
    refine ⟨eq_sub_of_add_eq ?_, rfl, rfl, rfl⟩
    exact (rev_succ_append (x.rev - 1)).symm.trans (congrArg (· ++ 0#40) (sub_add_cancel x.rev 1))
  · rw [countStep_down h, if_neg h, decide_eq_false h, Bool.or_false]
    refine ⟨eq_sub_of_add_eq ?_, rfl, rfl, rfl⟩
    have hlast : x.count - 1 ≠ 0xFFFFFFFFFF := fun e => h (by rw [← sub_add_cancel x.count 1, e]; rfl)
    exact (append_count_succ hlast x.rev).symm.trans (congrArg (x.rev ++ ·) (sub_add_cancel x.count 1))

/-! ## A counter update without a reference (R333, R337) -/

theorem motionStep_counter (x : Pu) : counter (motionStep x) = counter x := by
  unfold motionStep
  dsimp only
  repeat' split
  all_goals rfl

/-- The observer corrects its own estimates alone (R344). -/
theorem obsEdge_counter (x : Pu) (t : Nat) (gapRef : Bool) : counter (obsEdge x t gapRef) = counter x := by
  unfold obsEdge
  split <;> simp only [counter, obsCorrect, obsPredict]

theorem countStep_refPending (x : Pu) (d : Int) : (countStep x d).refPending = x.refPending := by
  unfold countStep
  repeat' split
  all_goals rfl

theorem counter_lastEdge (x : Pu) (t : Nat) : counter { x with lastEdge := t } = counter x := rfl

/-- Without a pending reference, and with no gap to raise one, an update steps the counter and corrects nothing. -/
theorem puUpdate_counts {x : Pu} (hsrc : puRefSrc x.cfg ≠ 3) (hpend : x.refPending = false) (d : Int) (riseA : Bool)
    (stamp : Nat) :
    let r := (puUpdate x d riseA stamp).1
    counter r.pu = counter (countStep x d) ∧ r.corr = 0 := by
  have hstep : (countStep x d).refPending = false := (countStep_refPending x d).trans hpend
  cases riseA
  case false =>
    simp only [puUpdate, hstep, Bool.not_false, if_true, Bool.or_self, Bool.and_false, Bool.false_eq_true, if_false,
      counter_lastEdge, motionStep_counter, and_true]
    rfl
  case true =>
    simp only [puUpdate, hstep, hsrc, Bool.not_true, Bool.or_self, Bool.and_false, Bool.false_eq_true, if_false,
      counter_lastEdge, motionStep_counter, and_true]
    rfl

/-- The step reads nothing of the unit but its counter. -/
theorem counter_countStep_congr {x y : Pu} (h : counter x = counter y) (d : Int) :
    counter (countStep x d) = counter (countStep y d) := by
  obtain ⟨hcount, hrev, hwrap⟩ : x.count = y.count ∧ x.rev = y.rev ∧ x.wrap = y.wrap := by simpa [counter] using h
  unfold countStep
  rw [hcount]
  repeat' split
  all_goals simp [counter, hcount, hrev, hwrap]

/-- Without a reference the first step of R337 alone moves a counter: the others keep the counter of every unit. -/
theorem counterUpdate_counts {x : Pu} (hsrc : puRefSrc x.cfg ≠ 3) (hpend : x.refPending = false) (u : Nat) (d : Int)
    (riseA : Bool) (stamp : Nat) (s : State) :
    counter (getPu (counterUpdate u x d riseA stamp s) u) = counter (countStep x d) := by
  obtain ⟨hcounts, hcorr⟩ := puUpdate_counts (x := holdLatch stamp x) hsrc hpend d riseA stamp
  have hread (t : State) : counter (getPu t u) = counters t.pus u := rfl
  have hkept : counters (counterUpdate u x d riseA stamp s).pus =
      counters (setPu s u (puUpdate (holdLatch stamp x) d riseA stamp).1.pu).pus := by
    simp [counterUpdate, hcorr, obsEdge_counter, counters_setPu]
  rw [hread, hkept, ← hread, getPu_setPu, hcounts]
  exact counter_countStep_congr (by rfl) d

/-! ## ENCODER_TRANSITION of one level -/

theorem nextA_healthy {x : Pu} (h : x.wireBad = 0) (e : EncChange) : nextA x e = e.a := by simp [nextA, h]

theorem nextB_healthy {x : Pu} (h : x.wireBad = 0) (e : EncChange) : nextB x e = e.b := by simp [nextB, h]

/-- Without Z and without a faulty input, a change of one level is one transition. -/
theorem encoderTransition_one {s : State} {u : Nat} {e : EncChange} (hmode : s.replay.mode = false)
    (hgood : (getPu s u).wireBad = 0) (hheld : puFilt (getPu s u).cfg ≤ e.held.toNat) (hz : e.z = false)
    (hone : e.a ≠ (getPu s u).a ∧ e.b = (getPu s u).b ∨ e.a = (getPu s u).a ∧ e.b ≠ (getPu s u).b) :
    encoderTransition u e s = transition u e.a e.b (now s + e.offset.val) s := by
  have ha : nextA (getPu s u) e = e.a := nextA_healthy hgood e
  have hb : nextB (getPu s u) e = e.b := nextB_healthy hgood e
  rw [encoderTransition_seen hmode hheld, hz, if_neg Bool.false_ne_true, followLevels_one (by rwa [ha, hb]), ha, hb]

theorem transition_counts {s : State} {u : Nat} {a b : Bool} (hsrc : puRefSrc (getPu s u).cfg ≠ 3)
    (hpend : (getPu s u).refPending = false) {d : Int}
    (hdecode : decodeDir (getPu s u).cfg (getPu s u).a (getPu s u).b a b = d) (hd : d ≠ 0) (stamp : Nat) :
    counter (getPu (transition u a b stamp s) u) = counter (countStep (getPu s u) d) := by
  subst hdecode
  rw [transition_counted hd, counterUpdate_counts (by exact hsrc) (by exact hpend)]
  exact counter_countStep_congr (by rfl) _

theorem getPu_settle (old s : State) (u : Nat) : getPu (settle old s) u = getPu s u := by rw [getPu, settle_pus, getPu]

/-- Settles O50: a counted edge is one step of the counter, and no other part of its update moves the counter again. -/
theorem counterStepsByOne : Obligations.CounterStepsByOne := by
  refine ⟨fun x => ?step, fun s u e hmode hgood hpend hsrc hheld hz hone => ?edge⟩
  case step =>
    obtain ⟨hup, hupCount, hupRev, hupWrap⟩ := countStep_up_extended x
    exact ⟨hup, hupCount, hupRev, hupWrap, countStep_down_extended x⟩
  case edge =>
    intro d hd
    have hcounted : d ≠ 0 := by rcases hd with h | h <;> simp [h]
    refine ⟨_, done_eq (encoderTransition_one hmode hgood hheld hz hone), ?_⟩
    rw [getPu_settle]
    simpa [counter] using transition_counts hsrc hpend rfl hcounted (now s + e.offset.val)

end Sys2Proof.Machine
end

section
/-! SUPPORT. The commands of position units and line triggers (R328, R334, R335, R339, R342, R346, R347): what refuses
PU_CONFIG, LT_CONFIG and LT_ARM, and what each does where nothing refuses it.
-/

namespace Sys2Proof.Machine

section
variable {s : State} {p : List Byte}

/-! ## PU_CONFIG (R346) -/

/-- PU_CONFIG would change MODE, FILT, RESET or REF_VALUE of its unit. -/
abbrev changesKey (s : State) (p : List Byte) : Bool := puKeyChange (getPu s (fld1 p 0)).cfg (p.drop 8)

theorem bodyPuConfig_slots (hkey : changesKey s p = true) (hslots : unitSlots s (fld1 p 0) ≠ []) :
    bodyPuConfig s p = no s (refuse stBusySlots) :=
  if_pos (by simpa [hslots] using hkey)

theorem bodyPuConfig_armed (hkey : changesKey s p = true) (hfree : unitSlots s (fld1 p 0) = [])
    (harmed : puArmed s (fld1 p 0) = true) : bodyPuConfig s p = no s (refuse stBusyRunning) :=
  (if_neg (by simp [hfree])).trans (if_pos (by simpa [harmed] using hkey))

theorem bodyPuConfig_stores
    (h : changesKey s p = false ∨ (unitSlots s (fld1 p 0) = [] ∧ puArmed s (fld1 p 0) = false)) :
    let u := fld1 p 0
    let x := getPu s u
    let c := p.drop 8
    bodyPuConfig s p = yes (recConfig 0 0x0501 p (setPu s u { x with
      cfg := c, period := if fld1 x.cfg 0 = fld1 c 0 then x.period else none })) [] := by
  intro u x c
  have hslots : ¬ (puKeyChange x.cfg c && !(unitSlots s u).isEmpty) = true := by
    rcases h with hkey | ⟨hfree, -⟩
    · simp [x, c, u, hkey]
    · simp [u, hfree]
  have hgens : ¬ (puKeyChange x.cfg c && puArmed s u) = true := by
    rcases h with hkey | ⟨-, hidle⟩
    · simp [x, c, u, hkey]
    · simp [u, hidle]
  exact (if_neg hslots).trans (if_neg hgens)

/-! ## LT_CONFIG and LT_ARM (R339, R347) -/

theorem bodyLtConfig_armed (h : (getGen s (fld1 p 0)).armed = true) : bodyLtConfig s p = no s (refuse stBusyRunning) :=
  if_pos h

theorem bodyLtConfig_sets (h : (getGen s (fld1 p 0)).armed = false) :
    let i := fld1 p 0
    bodyLtConfig s p = yes (recConfig i 0x0505 p (setGen s i { getGen s i with
      pu := fld1 p 1, div := fld p 2 2, refSync := bitOf (fld1 p 4) 0 })) [] :=
  if_neg (by simp [h])

/-- Port `i` can be triggered: it has a camera, and a pin where its camera asks for one. -/
abbrev canTrigger (s : State) (i : Nat) : Prop :=
  (getCam s i).configured = true ∧ (camTrig (getCam s i).cfg ≠ 1 ∨ hasTrigPin s i = true)

theorem bodyLtArm_refuses (hon : (fld1 p 1 == 1) = true)
    (h : (getCam s (fld1 p 0)).configured = false ∨
      (camTrig (getCam s (fld1 p 0)).cfg = 1 ∧ hasTrigPin s (fld1 p 0) = false)) :
    bodyLtArm s p = no s (refuse stState) :=
  if_pos (by rcases h with hcam | ⟨htrig, hpin⟩ <;> simp [*])

theorem bodyLtArm_arms (h : (fld1 p 1 == 1) = false ∨ canTrigger s (fld1 p 0)) :
    let i := fld1 p 0
    bodyLtArm s p = yes (recConfig i 0x0506 p (setGen s i { getGen s i with armed := fld1 p 1 == 1, residue := 0 })) [] := by
  refine if_neg ?_
  rcases h with hoff | ⟨hcam, htrig | hpin⟩ <;> simp [*]

end

/-- Settles O19: a command is refused by its one condition on the slots, the generators or the camera port, and does its
one update otherwise. -/
theorem positionCommandsComplete : Obligations.PositionCommandsComplete :=
  ⟨fun s _ _ _ h =>
      ⟨fun hfree => done_yes h (bodyPuConfig_stores (s := takeReq s) hfree),
        fun hkey hslots => done_no h (bodyPuConfig_slots (s := takeReq s) hkey hslots),
        fun hkey hfree harmed => done_no h (bodyPuConfig_armed (s := takeReq s) hkey hfree harmed)⟩,
    fun _ _ _ _ h => done_yes h rfl,
    fun _ _ _ _ h => done_yes h rfl,
    fun _ _ _ _ h => done_yes h rfl,
    fun _ _ _ _ h => done_yes h rfl,
    fun s _ _ _ h => ⟨fun hidle => done_yes h (bodyLtConfig_sets (s := takeReq s) hidle),
      fun harmed => done_no h (bodyLtConfig_armed (s := takeReq s) harmed)⟩,
    fun s _ _ _ h => ⟨fun hfree => done_yes h (bodyLtArm_arms (s := takeReq s) hfree),
      fun hon hcannot => done_no h (bodyLtArm_refuses (s := takeReq s) hon hcannot)⟩⟩

end Sys2Proof.Machine
end

section
/-! SUPPORT. The commands of field inputs, outputs and TRIG pins (R357, R360, R363, R366 to R368, R370, R371, R373, R504):
what refuses FIO_CONFIG, FIO_RELEASE and TRIG_CONFIG, and what each command does where nothing refuses it.
-/

namespace Sys2Proof.Machine

/-- An accepted command whose body leaves it under way. -/
theorem done_none {s S : State} {m : Nat} {c : Spec} {r : Req} {p : List Byte} {body : State → List Byte → State × Option Reply}
    (h : Accepts s m c r p) (hb : body (takeReq s) p = (S, none)) : done (command m c body) s = .next (settle s S) := by
  rw [done, command_accepts h, hb]

/-- A channel or pin is not both selected and changed: what the refusals of BUSY_SLOTS leave. -/
theorem not_selected_and_changed_iff {selected : Bool} {f g : Nat} {b c : Bool} :
    ¬ (selected = true ∧ (f ≠ g ∨ b ≠ c)) ↔ selected = false ∨ (f = g ∧ b = c) := by
  rw [not_and_or, Bool.not_eq_true, not_or, not_ne_iff, not_ne_iff]

section
variable {s : State} {m : Nat} {p : List Byte}

/-- The entries of a request of 8-byte entries. -/
abbrev entriesOf (p : List Byte) : List (List Byte) := (List.range (entries8 p)).map (entry8 p)

/-! ## FIO_CONFIG (R367, R368) -/

/-- The entry gives a channel that a policy selects another function or direction than the pending writes leave it. -/
def reroutes (s : State) (e : List Byte) : Bool :=
  let c := fld1 e 0 % 32
  let cur := regsAfter s.field.regs s.field.wq
  policySelectsFio s c && (chFunc cur c != fld1 e 1 % 64 || chOutput cur c != bitOf (fld1 e 1) 7)

theorem reroutes_iff (s : State) (e : List Byte) : let c := fld1 e 0 % 32
    let cur := regsAfter s.field.regs s.field.wq
    reroutes s e = true ↔
      policySelectsFio s c = true ∧ (chFunc cur c ≠ fld1 e 1 % 64 ∨ chOutput cur c ≠ bitOf (fld1 e 1) 7) := by
  simp [reroutes]

theorem not_reroutes_iff (s : State) (e : List Byte) : let c := fld1 e 0 % 32
    let cur := regsAfter s.field.regs s.field.wq
    ¬ reroutes s e = true ↔
      policySelectsFio s c = false ∨ (chFunc cur c = fld1 e 1 % 64 ∧ chOutput cur c = bitOf (fld1 e 1) 7) :=
  (reroutes_iff s e).not.trans not_selected_and_changed_iff

theorem bodyFioConfig_busy {e : List Byte} (he : e ∈ entriesOf p) (hreroutes : reroutes s e = true) :
    bodyFioConfig m s p = no s (refuse stBusySlots) :=
  if_pos (List.any_eq_true.mpr ⟨e, he, hreroutes⟩)

theorem bodyFioConfig_queues (hkeeps : ∀ e ∈ entriesOf p, ¬ reroutes s e = true) :
    bodyFioConfig m s p = hold m 0x0601 p [.field] false none (recConfig 0 0x0601 p { s with field := { s.field with
      wq := s.field.wq ++ (entriesOf p).flatMap fioWrites } }) :=
  if_neg fun hany => by
    obtain ⟨e, he, hreroutes⟩ := List.any_eq_true.mp hany
    exact hkeeps e he hreroutes

/-! ## FIO_RELEASE (R363, R504) -/

theorem bodyFioRelease_down (hdown : s.field.linkUp = false) : bodyFioRelease m s p = no s (refuse stState) :=
  if_pos (by simp [hdown])

theorem bodyFioRelease_up (hup : s.field.linkUp = true) :
    let h := (hold m 0x0603 p [.field] false (if s.field.safe = true then none else some (okWith [])) (recConfig 0 0x0603 p
      { s with field := { s.field with safeCmd := s.steward.trip, release := true } })).1
    bodyFioRelease m s p = ({ h with gh := { h.gh with
      running := h.gh.running.map (fun x => if x.mbx = m then { x with limit := 17 } else x) } }, none) :=
  if_neg (by simp [hup])

/-! ## TRIG_CONFIG (R373) -/

/-- The entry makes a LINE_TRIG pin of a port without a camera. -/
def lacksCamera (s : State) (e : List Byte) : Bool := teFunc e == 3 && !(getCam s (tePort e)).configured

/-- The entries change the function or the level of pin `n`, which a policy selects. -/
def repins (s : State) (es : List (List Byte)) (n : Nat) : Bool :=
  policySelectsTrig s n && ((getTrig s n).func != (Tab.get TrigPin0 (trigsAfter s es) n).func ||
    (getTrig s n).inv != (Tab.get TrigPin0 (trigsAfter s es) n).inv)

theorem repins_iff (s : State) (es : List (List Byte)) (n : Nat) : let b := Tab.get TrigPin0 (trigsAfter s es) n
    repins s es n = true ↔
      policySelectsTrig s n = true ∧ ((getTrig s n).func ≠ b.func ∨ (getTrig s n).inv ≠ b.inv) := by
  simp [repins]

theorem not_repins_iff (s : State) (es : List (List Byte)) (n : Nat) : let b := Tab.get TrigPin0 (trigsAfter s es) n
    ¬ repins s es n = true ↔
      policySelectsTrig s n = false ∨ ((getTrig s n).func = b.func ∧ (getTrig s n).inv = b.inv) :=
  (repins_iff s es n).not.trans not_selected_and_changed_iff

theorem bodyTrigConfig_no_camera {e : List Byte} (he : e ∈ entriesOf p) (hfunc : teFunc e = 3)
    (hcam : (getCam s (tePort e)).configured = false) : bodyTrigConfig s p = no s (refuse stState) :=
  if_pos (List.any_eq_true.mpr ⟨e, he, by simp [hfunc, hcam]⟩)

section
variable (hcams : ∀ e ∈ entriesOf p, teFunc e = 3 → (getCam s (tePort e)).configured = true)
include hcams

theorem no_entry_lacksCamera : ¬ (entriesOf p).any (lacksCamera s) = true := fun hany => by
  obtain ⟨e, he, hlacks⟩ := List.any_eq_true.mp hany
  obtain ⟨hfunc, hcam⟩ := Bool.and_eq_true_iff.mp hlacks
  simp [hcams e he (beq_iff_eq.mp hfunc)] at hcam

theorem bodyTrigConfig_busy {n : Nat} (hn : n < 16) (hrepins : repins s (entriesOf p) n = true) :
    bodyTrigConfig s p = no s (refuse stBusySlots) :=
  (if_neg (no_entry_lacksCamera hcams)).trans (if_pos (List.any_eq_true.mpr ⟨n, List.mem_range.mpr hn, hrepins⟩))

theorem bodyTrigConfig_stores (hkeeps : ∀ n < 16, ¬ repins s (entriesOf p) n = true) :
    bodyTrigConfig s p = yes (recConfig 0 0x0606 p { s with trigs := trigsAfter s (entriesOf p) }) [] := by
  refine (if_neg (no_entry_lacksCamera hcams)).trans (if_neg fun hany => ?_)
  obtain ⟨n, hn, hrepins⟩ := List.any_eq_true.mp hany
  exact hkeeps n (List.mem_range.mp hn) hrepins

end

/-! ## TRIG_SET (R373) -/

/-- Pin `n` with the HOST level that the request gives it. -/
def hostSet (p : List Byte) (n : Nat) (x : TrigPin) : TrigPin :=
  if bitOf (fld p 0 2) n = true then { x with host := bitOf (fld p 2 2) n } else x

/-- TRIG_SET acts on pin `n`. -/
def setHostLevel (p : List Byte) (t : Tab TrigPin) (n : Nat) : Tab TrigPin :=
  if bitOf (fld p 0 2) n then Tab.set TrigPin0 t n { Tab.get TrigPin0 t n with host := bitOf (fld p 2 2) n } else t

theorem get_setHostLevel (p : List Byte) (t : Tab TrigPin) (n j : Nat) :
    Tab.get TrigPin0 (setHostLevel p t n) j = if j = n then hostSet p n (Tab.get TrigPin0 t j) else Tab.get TrigPin0 t j := by
  unfold setHostLevel hostSet
  by_cases hmask : bitOf (fld p 0 2) n = true
  · rw [if_pos hmask, if_pos hmask, Tab.get_set]
    split
    next hj => rw [hj]
    next => rfl
  · rw [if_neg hmask, if_neg hmask, ite_self]

theorem get_hostLevelsSet (p : List Byte) (t : Tab TrigPin) {n : Nat} (hn : n < 16) :
    Tab.get TrigPin0 ((List.range 16).foldl (setHostLevel p) t) n = hostSet p n (Tab.get TrigPin0 t n) :=
  get_foldl_key (key := id) (get_setHostLevel p) (by rw [List.map_id]; exact List.nodup_range) (List.mem_range.mpr hn) t

end

/-- Settles O22: FIO_CONFIG and TRIG_CONFIG by what the verdict policies select and which ports have a camera, FIO_RELEASE
by the link; TRIG_SET rewrites each pin once. -/
theorem fieldCommandsComplete : Obligations.FieldCommandsComplete :=
  ⟨fun s _ _ _ h => ⟨fun hkeeps => done_hold h (bodyFioConfig_queues (s := takeReq s)
        fun e he => (not_reroutes_iff s e).mpr (hkeeps e he)),
      fun e he hsel hnew => done_no h (bodyFioConfig_busy (s := takeReq s) he ((reroutes_iff s e).mpr ⟨hsel, hnew⟩))⟩,
    fun _ _ _ _ h => done_yes h rfl,
    fun s _ _ _ h => ⟨fun hdown => done_no h (bodyFioRelease_down (s := takeReq s) hdown),
      fun hup => done_none h (bodyFioRelease_up (s := takeReq s) hup)⟩,
    fun _ _ _ _ h => done_yes h rfl,
    fun _ _ _ _ h => done_yes h rfl,
    fun s _ _ _ h => ⟨fun hcams hkeeps => done_yes h (bodyTrigConfig_stores (s := takeReq s) hcams
        fun n hn => (not_repins_iff s _ n).mpr (hkeeps n hn)),
      fun hcams n hn hsel hnew => done_no h (bodyTrigConfig_busy (s := takeReq s) hcams hn
        ((repins_iff s _ n).mpr ⟨hsel, hnew⟩)),
      fun _ he hfunc hcam => done_no h (bodyTrigConfig_no_camera (s := takeReq s) he hfunc hcam)⟩,
    fun s _ _ p h => ⟨_, done_yes h rfl, fun _ hn => get_hostLevelsSet p s.trigs hn⟩⟩

end Sys2Proof.Machine
end

section
/-! SUPPORT. The frames and events of the field link and the field die (R351, R355, R358 to R361, R363 to R365, R371, R504):
what the arrival of the oldest frame does, by the time, the die's reset and the frame's CRC, and what the time-outs leave.
-/

namespace Sys2Proof.Machine

/-! ## The down frame at the die (R358, R359, R361, R363) -/

/-- The oldest down frame has been taken out. -/
def downTaken (rest : List (Nat × List Byte)) (s : State) : State := { s with field := { s.field with down := rest } }

section
variable {s : State} {k : Nat} {fr : List Byte} {rest : List (Nat × List Byte)} {good low : Bool} {levels : BitVec 32}
  (hdown : s.field.down = (k, fr) :: rest)
include hdown

theorem fieldDownApply_eq : let d := dieApply s.die fr levels
    fieldDownApply good levels low s =
      if now s < 1000 * k + 1000 then s
      else if s.die.held then downTaken rest s
      else if !good then { downTaken rest s with die := { s.die with good := 0 } }
      else { s with
        die := d.1,
        field := { s.field with
          down := rest, lastDownAt := now s, up := s.field.up ++ [(k, upFrame fr d.1 d.2 low)] } } := by
  rw [fieldDownApply, hdown]
  rfl

theorem fieldDownApply_early (hearly : now s < 1000 * k + 1000) : fieldDownApply good levels low s = s :=
  (fieldDownApply_eq hdown).trans (if_pos hearly)

variable (hdue : 1000 * k + 1000 ≤ now s)
include hdue

theorem fieldDownApply_held (hheld : s.die.held = true) : fieldDownApply good levels low s = downTaken rest s :=
  ((fieldDownApply_eq hdown).trans (if_neg hdue.not_gt)).trans (if_pos hheld)

variable (hruns : s.die.held = false)
include hruns

theorem fieldDownApply_bad :
    fieldDownApply false levels low s = { downTaken rest s with die := { s.die with good := 0 } } := by
  rw [fieldDownApply_eq hdown, if_neg hdue.not_gt, if_neg (Bool.eq_false_iff.mp hruns), Bool.not_false, if_pos rfl]

theorem fieldDownApply_good : let d := dieApply s.die fr levels
    fieldDownApply true levels low s = { s with
      die := d.1,
      field := { s.field with
        down := rest, lastDownAt := now s, up := s.field.up ++ [(k, upFrame fr d.1 d.2 low)] } } := by
  rw [fieldDownApply_eq hdown, if_neg hdue.not_gt, if_neg (Bool.eq_false_iff.mp hruns), Bool.not_true,
    if_neg Bool.false_ne_true]

end

/-! ## The up frame at the gatehouse (R364, R371) -/

section
variable {s : State} {k : Nat} {fr : List Byte} {rest : List (Nat × List Byte)} (hup : s.field.up = (k, fr) :: rest)
include hup

theorem fieldUpFrame_good : fieldUpFrame true s = goodUp k fr { s with field := { s.field with up := rest } } := by
  rw [fieldUpFrame, hup]
  rfl

theorem fieldUpFrame_bad : fieldUpFrame false s = { s with field := { s.field with
    up := rest, ctrs := modAt s.field.ctrs 0 ctrBump } } := by
  rw [fieldUpFrame, hup]
  rfl

end

/-! ## Time-outs and the die's own events (R351, R355, R363, R364, R504) -/

section
variable {s : State}

theorem fieldLinkTimeout_due (hup : s.field.linkUp = true) (hlate : s.field.lastUpAt + 8000 ≤ now s) :
    fieldLinkTimeout s = answerOp 0x0603 (refuse stState) (post 0x2404 0 0 (s.field.lastSeq.getD 0 % 16) 0 { s with
      field := { s.field with linkUp := false, inValid := false, ctrs := modAt s.field.ctrs 2 ctrBump } }) :=
  if_pos (Bool.and_eq_true_iff.mpr ⟨hup, decide_eq_true hlate⟩)

theorem fieldDieTimeout_due (hruns : s.die.held = false) (hlate : s.field.lastDownAt + 8000 ≤ now s) :
    fieldDieTimeout s = { s with die := { s.die with safe := true, good := 0 } } :=
  if_pos (by simp [hruns, hlate])

theorem fieldUvlo_above (hheld : s.die.held = true) :
    fieldUvlo false s = { s with die := { FieldDie0 with held := false } } :=
  (if_neg Bool.false_ne_true).trans (if_pos hheld)

theorem fioThermalTrip_latches {ch : Nat} (hruns : s.die.held = false) (hout : chOutput s.die.regs ch = true) :
    fioThermalTrip ch s = { s with die := { s.die with ovl := s.die.ovl ||| (1#32 <<< ch) } } :=
  if_neg (by simp [hruns, hout])

end

/-- Settles O23: the tick sends by the count, a down frame is answered by the time, the die and its CRC, and each event acts
under the condition that it waits for. -/
theorem fieldFramesComplete : Obligations.FieldFramesComplete :=
  ⟨fun _ => ⟨fun hcount hfirst => done_eq (if_neg (not_or.mpr ⟨not_not.mpr hcount, hfirst⟩)),
      fun hother => done_eq (if_pos hother)⟩,
    fun _ _ _ _ _ _ hdown => ⟨fun hearly _ => done_eq (fieldDownApply_early hdown hearly),
      fun hdue hheld _ => done_eq (fieldDownApply_held hdown hdue hheld),
      fun hdue hruns => done_eq (fieldDownApply_bad hdown hdue hruns),
      fun hdue hruns => done_eq (fieldDownApply_good hdown hdue hruns)⟩,
    fun _ _ _ _ hup => ⟨done_eq (fieldUpFrame_good hup), done_eq (fieldUpFrame_bad hup)⟩,
    fun _ hup hlate => done_eq (fieldLinkTimeout_due hup hlate),
    fun _ hruns hlate => done_eq (fieldDieTimeout_due hruns hlate),
    fun _ => done_eq rfl,
    fun _ hheld => done_eq (fieldUvlo_above hheld),
    fun _ _ hruns hout => done_eq (fioThermalTrip_latches hruns hout)⟩

end Sys2Proof.Machine
end

section
/-! SUPPORT. Steps (R486, R509, R511, R513): a step is its first command's effect with the queue's rest, or the tick; so what every
command keeps of OTP, the lifecycle and flash is kept by every step.
-/

namespace Sys2Proof.Machine

/-- A step moves the trust state only forward, whatever queue it leaves. -/
theorem step_adv {s t : State} (h : step s = .next t) : ∃ rest, Adv { s with pending := rest } t := by
  cases hqueue : s.pending with
  | nil => exact ⟨s.pending, adv_of_trust s t (trust_tick_step s t hqueue h)⟩
  | cons c rest =>
    refine ⟨rest, exec_adv c _ t ?_⟩
    rw [← h]
    simp only [step, hqueue]

/-- Settles O1. -/
theorem stepRunsTheFront : Obligations.StepRunsTheFront := fun c rest s hqueue => by
  simp only [step, hqueue]

/-- Settles O3: the queue is part of what every command is shown to keep. -/
theorem noCommandTouchesTheQueue : Obligations.NoCommandTouchesTheQueue := fun c s t h => by
  obtain ⟨hpending, -⟩ := exec_adv c s t h
  exact hpending

/-- Settles O4: burning is the only change of OTP, and a burn sets bits only. -/
theorem otpBitsOnlyRise : Obligations.OtpBitsOnlyRise := fun s t h => by
  obtain ⟨rest, -, hrises, -⟩ := step_adv h
  exact hrises

/-- Settles O5: a lifecycle burn moves from one thermometer code to a higher one, and no other burn reaches its byte. -/
theorem lifecycleOnlyAdvances : Obligations.LifecycleOnlyAdvances := fun s t h => by
  obtain ⟨rest, -, -, hlife, hsound⟩ := step_adv h
  refine ⟨hlife, fun hotp hflash hlegal => ?_⟩
  obtain ⟨⟨-, -, hlegal'⟩, -⟩ := hsound ⟨hotp, hflash, hlegal⟩
  exact hlegal'

/-- Settles O6: the invariant carries over every command, and each erase and program of flash stays in its area. -/
theorem flashChangesOnlyInItsAreas : Obligations.FlashChangesOnlyInItsAreas := fun s t hinv h => by
  obtain ⟨rest, -, -, -, hsound⟩ := step_adv h
  exact hsound hinv

/-- Settles O7: at reset the memories hold no entry, and the lifecycle byte reads zero. -/
theorem resetIsSound : Obligations.ResetIsSound := ⟨⟨rfl, rfl, .inl rfl⟩, rfl⟩

end Sys2Proof.Machine
end

section
/-! SUPPORT. What every command shares (R467, R468, R491, R492): each goes on, but for the deck transfers past the end of their
space; each settles DEV_STATUS and the interrupt; and a mailbox command is its table entry's checks before its body.
-/

namespace Sys2Proof.Machine

/-! ## Every command goes on -/

/-- A command goes on, or ends in the fault of an address that does not exist. -/
def GoesOnOrBeyond (o : Host.Outcome State Fault Refusal) : Prop := (∃ t, o = .next t) ∨ o = .fault .noSuchAddress

theorem execDeckLoad_goes_on_or_beyond (th : Thread) (s : State) : GoesOnOrBeyond (execDeckLoad th s) := by
  unfold execDeckLoad
  split
  · split
    · exact .inl ⟨_, rfl⟩
    · exact .inr rfl
  · exact .inl ⟨_, rfl⟩

theorem execDeckStore_goes_on_or_beyond (th : Thread) (s : State) : GoesOnOrBeyond (execDeckStore th s) := by
  unfold execDeckStore
  split
  · split
    · exact .inl ⟨_, rfl⟩
    · exact .inr rfl
  · exact .inl ⟨_, rfl⟩

theorem execSwingLoad_goes_on_or_beyond (th : Thread) (s : State) : GoesOnOrBeyond (execSwingLoad th s) := by
  unfold execSwingLoad
  split
  · dsimp only
    generalize List.length _ = n
    split
    · exact .inl ⟨_, rfl⟩
    · exact .inr rfl
  · exact .inl ⟨_, rfl⟩

theorem execSendCmd_goes_on_or_beyond (th : Thread) (s : State) : GoesOnOrBeyond (execSendCmd th s) := by
  unfold execSendCmd
  split
  · split
    · exact .inl ⟨_, rfl⟩
    · exact .inr rfl
  · exact .inl ⟨_, rfl⟩

/-- Settles O8: four commands test where their transfer ends, and every other is an effect that always goes on. -/
theorem onlyDeckTransfersStop : Obligations.OnlyDeckTransfersStop := fun c s => by
  cases c with
  | deckLoad th => exact (execDeckLoad_goes_on_or_beyond th s).imp_right fun h => ⟨h, th, .inl rfl⟩
  | deckStore th => exact (execDeckStore_goes_on_or_beyond th s).imp_right fun h => ⟨h, th, .inr (.inl rfl)⟩
  | swingLoad th => exact (execSwingLoad_goes_on_or_beyond th s).imp_right fun h => ⟨h, th, .inr (.inr (.inl rfl))⟩
  | sendCmd th => exact (execSendCmd_goes_on_or_beyond th s).imp_right fun h => ⟨h, th, .inr (.inr (.inr rfl))⟩
  | _ => exact .inl ⟨_, rfl⟩

/-! ## Settling (R467, R468) -/

/-- STATUS_CHG as settling leaves it, before any message. -/
def statusNoted (old s : State) : State :=
  if devStatus old = devStatus s then s else { s with host := { s.host with statusChg := true } }

theorem settle_eq (old s : State) : settle old s =
    if intActive (statusNoted old s) && !intActive old then sendVector 0 (statusNoted old s) else statusNoted old s := rfl

theorem sendVector_statusChg (v : Nat) (s : State) : (sendVector v s).host.statusChg = s.host.statusChg := by
  unfold sendVector
  split <;> rfl

theorem intActive_sendVector (v : Nat) (s : State) : intActive (sendVector v s) = intActive s := by
  unfold sendVector
  split <;> rfl

theorem vecMasked_sendVector (v w : Nat) (s : State) : vecMasked (sendVector v s) w = vecMasked s w := by
  unfold sendVector
  split <;> rfl

/-- A message leaves the part, or its vector's pending bit is set. -/
theorem sendVector_zero (s : State) :
    (vecMasked s 0 = true ∧ (sendVector 0 s).host.pba.getLsbD 0 = true) ∨
      (vecMasked s 0 = false ∧ Out.msix 0 ∈ (sendVector 0 s).out) := by
  unfold sendVector
  by_cases hmasked : vecMasked s 0 = true
  · exact .inl ⟨hmasked, by simp [hmasked]⟩
  · exact .inr ⟨by simpa using hmasked, by simp [hmasked, emit]⟩

theorem settle_statusChg {old s : State} (h : devStatus (settle old s) ≠ devStatus old) :
    (settle old s).host.statusChg = true := by
  have hnoted : (statusNoted old s).host.statusChg = true := by
    rw [devStatus_settle] at h
    rw [statusNoted, if_neg h.symm]
  rw [settle_eq]
  split
  · rw [sendVector_statusChg, hnoted]
  · exact hnoted

theorem settle_sends {old s : State} (hbefore : intActive old = false) (hafter : intActive (settle old s) = true) :
    settle old s = sendVector 0 (statusNoted old s) := by
  by_cases hactive : intActive (statusNoted old s) = true
  · rw [settle_eq, if_pos (by simp [hactive, hbefore])]
  · rw [settle_eq, if_neg (by simp [hactive])] at hafter
    exact absurd hafter hactive

/-- Settles O9: every such command ends by settling, which compares the status and sends vector 0. -/
theorem statusChangesAreSeen : Obligations.StatusChangesAreSeen := fun c s t hrow h => by
  obtain ⟨u, rfl⟩ := exec_settles c s t hrow h
  refine ⟨settle_statusChg, fun hbefore hafter => ?_⟩
  rw [settle_sends hbefore hafter, vecMasked_sendVector]
  exact sendVector_zero _

/-! ## The checks of R491 -/

/-- Every mailbox command is its table entry's checks before some body. -/
theorem exec_eq_command {c : Instr} {m : Fin 16} {k : Spec} (h : specOf c = some (m, k)) :
    ∃ body, ∀ s, exec c s = done (command m k body) s := by
  cases c <;> simp only [specOf, reduceCtorEq, Option.some.injEq] at h <;>
    · obtain ⟨rfl, rfl⟩ := h
      exact ⟨_, fun _ => rfl⟩

/-- Settles O10: the checks stand before the body, whatever the body. -/
theorem mailboxChecksComeFirst : Obligations.MailboxChecksComeFirst := fun c m k s hspec => by
  obtain ⟨body, hexec⟩ := exec_eq_command hspec
  rw [hexec]
  exact ⟨fun hwaits => done_eq (command_waits hwaits body), fun r rep hhead hrefused =>
    done_eq (command_refused hhead hrefused body)⟩

end Sys2Proof.Machine
end

section
/-! SUPPORT. Counters, the tick and the time commands (R403, R409 to R411, R429, R548): counting one by one, what a tick makes of the
wall clock, and what each command leaves for it.
-/

namespace Sys2Proof.Machine

/-! ## Counters (R548) -/

theorem ctrAdd_zero {c : Ctr} (h : c.n ≤ 2 ^ 31 - 1) : ctrAdd c 0 = c := if_pos h

/-- One event more: below the largest value it counts, and at it it sets SAT. -/
theorem ctrBump_ctrAdd (c : Ctr) (k : Nat) : ctrBump (ctrAdd c k) = ctrAdd c (k + 1) := by
  unfold ctrAdd ctrBump
  rcases lt_trichotomy (c.n + k) (2 ^ 31 - 1) with hk | hk | hk
  · rw [if_pos hk.le, if_neg hk.not_ge, if_pos (by omega)]; rfl
  · rw [if_pos hk.le, if_pos hk.ge, if_neg (by omega), hk]
  · rw [if_neg hk.not_ge, if_pos le_rfl, if_neg (by omega)]

theorem ctrAdd_eq_iterate {c : Ctr} (h : c.n ≤ 2 ^ 31 - 1) (k : Nat) : ctrAdd c k = ctrBump^[k] c := by
  induction k with
  | zero => exact ctrAdd_zero h
  | succ k ih => rw [Function.iterate_succ_apply', ← ih, ctrBump_ctrAdd]

theorem ctrAdd_n_le (c : Ctr) (k : Nat) : (ctrAdd c k).n ≤ 2 ^ 31 - 1 := by
  unfold ctrAdd
  split
  next hk => exact hk
  next => exact le_rfl

theorem ctrAdd_sat {c : Ctr} (h : c.sat = true) (k : Nat) : (ctrAdd c k).sat = true := by
  unfold ctrAdd
  split
  next => exact h
  next => rfl

theorem ctrAdd_Ctr0 (k : Nat) : ctrAdd Ctr0 k = ⟨decide (2 ^ 31 - 1 < k), min k (2 ^ 31 - 1)⟩ := by
  unfold ctrAdd Ctr0
  by_cases hk : k ≤ 2 ^ 31 - 1
  · rw [Nat.zero_add, if_pos hk, min_eq_left hk, decide_eq_false hk.not_gt]
  · rw [Nat.zero_add, if_neg hk, min_eq_right (not_le.1 hk).le, decide_eq_true (not_le.1 hk)]

/-- Settles O53: counting in one go is counting one by one, and from zero the sum is the number of events. -/
theorem countersSaturate : Obligations.CountersSaturate :=
  ⟨fun k => (ctrAdd_eq_iterate (Nat.zero_le _) k).symm.trans (ctrAdd_Ctr0 k),
    fun k c h => ⟨ctrAdd_eq_iterate h k, ctrAdd_n_le c k, fun hsat => ctrAdd_sat hsat k⟩⟩

/-! ## The tick (R403, R409) -/

/-- The wall clock's nanoseconds in units of WC_INC's fraction. -/
def wcUnits (t : Timekeeping) : Nat := t.wcNs.toNat * 2 ^ 24 + t.wcFrac.toNat

theorem wcTick_below {t : Timekeeping} (h : wcUnits t + t.wcInc.toNat < 1000000000 * 2 ^ 24) :
    wcUnits (wcTick t) = wcUnits t + t.wcInc.toNat ∧ (wcTick t).wcSec = t.wcSec := by
  have hnone : decide (1000000000 * 2 ^ 24 ≤ t.wcNs.toNat * 2 ^ 24 + t.wcFrac.toNat + t.wcInc.toNat) = false :=
    decide_eq_false h.not_ge
  unfold wcUnits at h
  simp only [wcTick, wcUnits, hnone, Bool.false_eq_true, if_false, BitVec.toNat_ofNat, and_true]
  omega

theorem wcTick_carries {t : Timekeeping} (hns : t.wcNs.toNat < 1000000000)
    (h : 1000000000 * 2 ^ 24 ≤ wcUnits t + t.wcInc.toNat) :
    wcUnits (wcTick t) + 1000000000 * 2 ^ 24 = wcUnits t + t.wcInc.toNat ∧ (wcTick t).wcSec = t.wcSec + 1 := by
  have hfrac := t.wcFrac.isLt
  have hinc := t.wcInc.isLt
  have hcarry : decide (1000000000 * 2 ^ 24 ≤ t.wcNs.toNat * 2 ^ 24 + t.wcFrac.toNat + t.wcInc.toNat) = true :=
    decide_eq_true h
  unfold wcUnits at h
  simp only [wcTick, wcUnits, hcarry, if_true, BitVec.toNat_ofNat, and_true]
  omega

@[simp] theorem wcTick_ks (t : Timekeeping) : (wcTick t).ks = t.ks := by cases t; rfl
@[simp] theorem wcTick_ksInc (t : Timekeeping) : (wcTick t).ksInc = t.ksInc := by cases t; rfl

theorem ksTick_ks (t : Timekeeping) : (ksTick t).ks =
    if 2 ^ 88 ≤ t.ks.toNat + t.ksInc.toNat then BitVec.allOnes 88 else t.ks + t.ksInc.zeroExtend 88 := rfl

theorem ksTick_wcTick_ks (t : Timekeeping) : (ksTick (wcTick t)).ks =
    if 2 ^ 88 ≤ t.ks.toNat + t.ksInc.toNat then BitVec.allOnes 88 else t.ks + t.ksInc.zeroExtend 88 := by
  rw [ksTick_ks, wcTick_ks, wcTick_ksInc]

/-- With no wall-clock write waiting a tick moves both clocks, and posts at most the event of R403. -/
theorem tick_eq {s : State} (h : s.time.wcPending = []) :
    ∃ q, tick s = { s with time := ksTick (wcTick s.time), q := q } := by
  have htime : { s.time with wcPending := [] } = s.time := by rw [← h]
  simp only [tick, h, List.foldl_nil, htime, when_]
  split
  · exact ⟨_, rfl⟩
  · exact ⟨s.q, rfl⟩

/-- Settles O2: an empty queue runs the tick, and settling after it touches only the host interface and what leaves. -/
theorem emptyQueueTicks : Obligations.EmptyQueueTicks := fun s hqueue hwrites => by
  obtain ⟨q, htick⟩ := tick_eq hwrites
  obtain ⟨h, o, hsettle⟩ := settle_frame s (tick s)
  have hstep : step s = .next (settle s (tick s)) := by simp only [step, hqueue, done]
  rw [hsettle, htick] at hstep
  exact ⟨_, hstep, ksTick_wcTick_ks s.time, wcTick_below, wcTick_carries, _, _, _, _, rfl⟩

/-! ## The time commands (R410, R411, R429) -/

section
variable {s : State} {hz : Nat} {p : List Byte}

theorem bodyTimebase_external (h : s.time.internal = false) : bodyTimebase hz s p = yes s [] := if_pos (by simp [h])

theorem bodyTimebase_switches (h : s.time.internal = true) (hlow : 95000000 ≤ hz) (hhigh : hz ≤ 105000000) :
    bodyTimebase hz s p = yes { s with time := { s.time with internal := false } } [] :=
  (if_neg (by simp [h])).trans (if_pos ⟨hlow, hhigh⟩)

theorem bodyTimebase_refuses (h : s.time.internal = true) (hhz : hz < 95000000 ∨ 105000000 < hz) :
    bodyTimebase hz s p = no s (refuse stRefclk) :=
  (if_neg (by simp [h])).trans (if_neg (by omega))

end

/-- Settles O14: TIMEBASE_SWITCH answers by the timebase and the measurement; each wall-clock command appends its write. -/
theorem timeCommandsComplete : Obligations.TimeCommandsComplete :=
  ⟨fun s _ _ _ _ h =>
      ⟨fun hint hlow hhigh => done_yes h (bodyTimebase_switches (s := takeReq s) hint hlow hhigh),
        fun hint hhz => done_no h (bodyTimebase_refuses (s := takeReq s) hint hhz),
        fun hext => done_yes h (bodyTimebase_external (s := takeReq s) hext)⟩,
    fun _ _ _ _ h => done_yes h rfl,
    fun _ _ _ _ h => done_yes h rfl,
    fun _ _ _ _ h => done_yes h rfl,
    fun _ _ _ _ h => done_yes h rfl⟩

end Sys2Proof.Machine
end

section
/-! SUPPORT. Mailboxes (R486 to R489, R495 to R498): what completion writes and leaves, what a write of GO does, and how HELLO
chooses the version of a session.
-/

namespace Sys2Proof.Machine

/-! ## Completion (R489) -/

/-- What completion leaves of the mailbox that held request `r`. -/
def finishedMbx (rep : Reply) (r : Req) (x : Mbx) : Mbx :=
  { x with
    rsp := if r.rspInd then x.rsp else memWrite x.rsp 0 rep.resp, rspLen := BitVec.ofNat 32 rep.resp.length,
    status := BitVec.ofNat 16 rep.status, detail := BitVec.ofNat 32 rep.detail, st := .done,
    progress := if rep.status = stOk ∧ x.progress ≠ 0 then 100 else x.progress, cmd := none }

section
variable {s : State} {m : Nat} {rep : Reply} {r : Req} (hcmd : (getMbx s m).cmd = some r)
include hcmd

theorem finish_eq : finish m rep s =
    let s1 := if r.rspInd then tollWrite r.rspAddr rep.resp s else s
    { setMbx s1 m (finishedMbx rep r (getMbx s m)) with
      host := { s1.host with mbxDone := s1.host.mbxDone ||| (1#16 <<< m) } } := by
  simp only [finish, hcmd, Option.map_some, Option.getD_some, setMbx_host, finishedMbx]

theorem finish_host : (finish m rep s).host = { s.host with mbxDone := s.host.mbxDone ||| (1#16 <<< m) } := by
  rw [finish_eq hcmd]
  cases r.rspInd <;> rfl

theorem finish_gh : (finish m rep s).gh = (setMbx s m (finishedMbx rep r (getMbx s m))).gh := by
  rw [finish_eq hcmd]
  cases r.rspInd <;> rfl

theorem getMbx_finish : getMbx (finish m rep s) m = finishedMbx rep r (getMbx s m) := by
  unfold getMbx
  rw [finish_gh hcmd]
  exact getMbx_setMbx s m _

theorem getMbx_finish_ne {n : Nat} (hn : n ≠ m) : getMbx (finish m rep s) n = getMbx s n := by
  unfold getMbx
  rw [finish_gh hcmd]
  exact getMbx_setMbx_ne s m n _ hn

theorem finish_mem : (finish m rep s).mem = if r.rspInd then (tollWrite r.rspAddr rep.resp s).mem else s.mem := by
  rw [finish_eq hcmd]
  cases r.rspInd <;> rfl

theorem responseAt_finish : responseAt (finish m rep s) m r rep.resp.length = rep.resp := by
  unfold responseAt tollRead
  rw [getMbx_finish hcmd, finish_mem hcmd, finishedMbx]
  cases hind : r.rspInd
  · exact memRead_memWrite (getMbx s m).rsp 0 rep.resp
  · exact memRead_memWrite s.mem.toll r.rspAddr rep.resp

/-- Completion reaches the mailboxes, MBX_DONE and, for an indirect response, toll memory. -/
theorem finish_frame : ∃ g h x, finish m rep s = { s with
    gh := { s.gh with mbx := g }, host := { s.host with mbxDone := h },
    mem := { s.mem with toll := x, tollAt := if r.rspInd then now s else s.mem.tollAt } } := by
  rw [finish_eq hcmd]
  cases r.rspInd <;> exact ⟨_, _, _, rfl⟩

end

theorem finishedMbx_rsp_get (rep : Reply) {r : Req} (x : Mbx) {a : Nat} (h : r.rspInd = true ∨ rep.resp.length ≤ a) :
    Tab.get 0 (finishedMbx rep r x).rsp a = Tab.get 0 x.rsp a := by
  unfold finishedMbx
  cases hind : r.rspInd
  · have hbeyond : rep.resp.length ≤ a := h.resolve_left (by simp [hind])
    exact (memWriteD_get 0 x.rsp 0 rep.resp a).trans (if_neg (by omega))
  · rfl

theorem bit_or_one_shl (x : BitVec 16) {m : Nat} (hm : m < 16) (i : Nat) :
    (x ||| (1#16 <<< m)).getLsbD i = (x.getLsbD i || decide (i = m)) := by
  rw [BitVec.getLsbD_or, ← BitVec.twoPow_eq, BitVec.getLsbD_twoPow]
  simp [hm, eq_comm]

/-- Settles O11: completion rewrites one mailbox record, sets one bit and writes one response. -/
theorem completionWritesTheMailbox : Obligations.CompletionWritesTheMailbox := by
  intro s m rep r hcmd t
  have hmbx : getMbx t m = finishedMbx rep r (getMbx s m) := getMbx_finish hcmd
  have htoll : t.mem = if r.rspInd then (tollWrite r.rspAddr rep.resp s).mem else s.mem := finish_mem hcmd
  have hhost : t.host = { s.host with mbxDone := s.host.mbxDone ||| (1#16 <<< m.val) } := finish_host hcmd
  rw [hmbx, hhost]
  refine ⟨rfl, rfl, rfl, rfl, bit_or_one_shl _ m.isLt, responseAt_finish hcmd,
    fun a h => finishedMbx_rsp_get rep _ h, fun a h => ?_, fun n hn => getMbx_finish_ne hcmd hn, finish_frame hcmd⟩
  rw [htoll]
  cases hind : r.rspInd
  · rfl
  · have houtside : a < r.rspAddr ∨ r.rspAddr + rep.resp.length ≤ a := h.resolve_left (by simp [hind])
    exact (memWriteD_get 0 s.mem.toll r.rspAddr rep.resp a).trans (if_neg (by omega))

/-! ## GO (R488) -/

theorem registerWrite_go (s : State) (m : Fin 16) :
    exec (.registerWrite (.bar0 (BitVec.ofNat 16 (0x1000 + 0x40 * m.val + 0x1C)) false) 1) s = .next (settle s (goWrite m s)) :=
  registerWrite_mbxWord s _ m 0x1C 1 (by decide) rfl rfl

/-- The command that the registers and the request area of a mailbox spell. -/
def latched (s : State) (x : Mbx) : Req :=
  ⟨x.opcode.toNat, x.reqLen.toNat, x.session, x.rspInd, x.reqInd, x.reqAddr.toNat, x.rspAddr.toNat, x.rspMax.toNat,
    memRead x.req 0 256, s.gh.session == some x.session⟩

theorem goWrite_accepts {s : State} {m : Nat} (hfw : fwReady s = true) (hst : (getMbx s m).st ≠ .busy) :
    let x := getMbx s m
    let s1 := setMbx s m { x with cmd := some (latched s x), accepted := x.accepted + 1, st := .busy, progress := 0 }
    goWrite m s = { s1 with gh := { s1.gh with order := s1.gh.order ++ [m] } } :=
  if_pos (by simp [hfw, hst])

theorem goWrite_rejects {s : State} {m : Nat} (h : fwReady s = false ∨ (getMbx s m).st = .busy) :
    goWrite m s = setMbx s m { getMbx s m with dbReject := true } :=
  if_neg (by obtain h | h := h <;> simp [h])

theorem getMbx_settle (old s : State) (m : Nat) : getMbx (settle old s) m = getMbx s m := by
  rw [getMbx, settle_gh, getMbx]

/-- Settles O12: GO latches the registers where firmware is ready and the mailbox free, and else sets one bit. -/
theorem goIsAcceptedOrRejected : Obligations.GoIsAcceptedOrRejected := by
  intro s m x w
  have hw : w = .next (settle s (goWrite m s)) := registerWrite_go s m
  obtain ⟨h, o, hframe⟩ := settle_frame s (goWrite m s)
  refine ⟨fun hfw hst => ⟨_, hw, ?_⟩, fun hbad => ⟨_, hw, ?_⟩⟩
  · rw [getMbx_settle, settle_gh, hframe, goWrite_accepts hfw hst]
    exact ⟨congrArg Mbx.cmd (getMbx_setMbx s m _), congrArg Mbx.accepted (getMbx_setMbx s m _),
      congrArg Mbx.st (getMbx_setMbx s m _), rfl, _, _, _, rfl⟩
  · rw [getMbx_settle, hframe, goWrite_rejects hbad]
    exact ⟨getMbx_setMbx s m _, _, _, _, rfl⟩

/-! ## Sessions (R495 to R498) -/

theorem versions_sorted : versions.Pairwise (· ≤ ·) := by decide

/-- The version in force is the highest of R497 in the host's range. -/
theorem negotiate_highest {lo hi v : Nat} (hv : v ∈ versions) (hlo : lo ≤ v) (hhi : v ≤ hi)
    (hmax : ∀ w ∈ versions, lo ≤ w → w ≤ hi → w ≤ v) : negotiate lo hi = some v := by
  have hmem : v ∈ versions.filter (fun v => decide (lo ≤ v ∧ v ≤ hi)) := by simp [hv, hlo, hhi]
  have hne := List.ne_nil_of_mem hmem
  rw [negotiate, List.getLast?_eq_getLast_of_ne_nil hne]
  have hlast := List.getLast_mem hne
  rw [List.mem_filter, decide_eq_true_iff] at hlast
  obtain ⟨hw, hwlo, hwhi⟩ := hlast
  exact congrArg some (le_antisymm (hmax _ hw hwlo hwhi) ((versions_sorted.filter _).rel_getLast hmem))

theorem negotiate_none {lo hi : Nat} (h : ∀ w ∈ versions, ¬(lo ≤ w ∧ w ≤ hi)) : negotiate lo hi = none := by
  have hempty : versions.filter (fun v => decide (lo ≤ v ∧ v ≤ hi)) = [] :=
    List.filter_eq_nil_iff.2 fun w hw => by simpa using h w hw
  rw [negotiate, hempty, List.getLast?_nil]

section
variable {s : State} {p : List Byte}

theorem bodyHello_active (hsession : s.gh.session ≠ none) (htake : bitOf (fld1 p 4) 0 = false) :
    bodyHello s p = no s (refuse stSessionActive) :=
  if_pos (by simp [Option.isSome_iff_ne_none, hsession, htake])

variable (hfree : s.gh.session = none ∨ bitOf (fld1 p 4) 0 = true)
include hfree

theorem may_open_session : ¬ (s.gh.session.isSome && !bitOf (fld1 p 4) 0) = true := by
  obtain h | h := hfree <;> simp [h]

theorem bodyHello_mismatch (hnone : negotiate (fld p 0 2) (fld p 2 2) = none) :
    bodyHello s p = no s ⟨stVersion, 0, helloResp 0 0 0 0⟩ := by
  rw [bodyHello, if_neg (may_open_session hfree), hnone]

theorem bodyHello_opens {v : Nat} (hv : negotiate (fld p 0 2) (fld p 2 2) = some v) :
    let id := nextSession s.gh.lastSession
    let u := { s with gh := { s.gh with
      session := some id, lastSession := id, version := v, hostId := BitVec.ofNat 64 (fld p 8 8) } }
    bodyHello s p = yes (if s.rst.rs = 0 then u else post 0x2805 0 0 s.rst.rs.toNat 0 u)
      (helloResp v id s.gh.hostId (now s)) := by
  intro id u
  rw [bodyHello, if_neg (may_open_session hfree), hv]
  simp only [when_, bne_iff_ne, ne_eq, ite_not, id, u]

end

theorem leVal_leBytes (n v : Nat) : leVal (leBytes n v) = v % 256 ^ n := by
  induction n generalizing v with
  | zero => simp [leBytes, leVal, Nat.mod_one]
  | succ n ih => rw [leBytes, leVal, ih, BitVec.toNat_ofNat, pow_succ' 256, Nat.mod_mul]

theorem deckMib_lt (s : State) : deckMib s < 256 ^ 4 := by
  unfold deckMib deckChans
  split <;> decide

theorem tollMib_lt (s : State) : tollMib s < 256 ^ 4 := by
  unfold tollMib tollChans
  split <;> decide

/-- The fields of R498: grade, bound girders and cores, and the grade's deck and toll space. -/
theorem capsResp_fields (s : State) :
    fld (capsResp s) 8 1 = boundGirders s % 256 ∧ fld (capsResp s) 9 1 = 8 * boundClusters s % 256 ∧
    fld (capsResp s) 0 1 = (gradeByte s).toNat ∧ fld (capsResp s) 32 4 = deckMib s ∧ fld (capsResp s) 36 4 = tollMib s := by
  have hdeck := leVal_leBytes 4 (deckMib s)
  have htoll := leVal_leBytes 4 (tollMib s)
  rw [Nat.mod_eq_of_lt (deckMib_lt s)] at hdeck
  rw [Nat.mod_eq_of_lt (tollMib_lt s)] at htoll
  simpa [capsResp, fld, leBytes, leVal, show zeros 2 = [0, 0] from rfl] using And.intro hdeck htoll

/-- Settles O13: HELLO answers by the session in force and then by the version it finds; the other two answer alike always. -/
theorem sessionCommandsComplete : Obligations.SessionCommandsComplete :=
  ⟨fun s _ _ _ _ h hfree hv hlo hhi hmax =>
      done_yes h (bodyHello_opens (s := takeReq s) hfree (negotiate_highest hv hlo hhi hmax)),
    fun s _ _ _ h hsession htake => done_no h (bodyHello_active (s := takeReq s) hsession htake),
    fun s _ _ _ h hfree hnone => by
      have hmismatch := bodyHello_mismatch (s := takeReq s) hfree (negotiate_none hnone)
      exact done_eq (by rw [command_accepts h, hmismatch]; rfl),
    fun _ _ _ _ h => done_yes h rfl,
    fun s _ _ _ h => ⟨done_yes h rfl, by simp [capsResp, zeros], capsResp_fields s⟩⟩

end Sys2Proof.Machine
end

section
/-! SUPPORT. Allocation of toll space and the queue commands (R451, R461, R463, R472, R473, R482, R504): where the lowest free place
is, and what each command's body answers, case by case.
-/

namespace Sys2Proof.Machine

/-! ## Allocation (R451, R504) -/

/-- Where a block may start: at MiB 256, or at the end of an allocated block (log entry 29). -/
def blockStarts (s : State) : List Nat := 256 :: s.gh.allocs.map (fun b => b.mib + b.size)

/-- A block of `n` MiB at MiB `a` lies in toll space and overlaps no allocated block. -/
def BlockFits (s : State) (n a : Nat) : Prop := a + n ≤ tollMib s ∧ ∀ b ∈ s.gh.allocs, overlap a n b.mib b.size = false

theorem blockFits_iff (s : State) (n a : Nat) : (decide (a + n ≤ tollMib s) && mibFree s a n) = true ↔ BlockFits s n a := by
  simp [mibFree, BlockFits]

theorem mem_fitting_iff (s : State) (n a : Nat) :
    a ∈ (blockStarts s).filter (fun a => decide (a + n ≤ tollMib s) && mibFree s a n) ↔ a ∈ blockStarts s ∧ BlockFits s n a := by
  rw [List.mem_filter, blockFits_iff]

theorem findMib_lowest {s : State} {n a : Nat} (h : findMib s n = some a) :
    a ∈ blockStarts s ∧ BlockFits s n a ∧ ∀ b ∈ blockStarts s, BlockFits s n b → a ≤ b := by
  obtain ⟨hmem, hleast⟩ := List.min?_eq_some_iff.1 h
  obtain ⟨hstart, hfits⟩ := (mem_fitting_iff s n a).1 hmem
  exact ⟨hstart, hfits, fun b hb hbfits => hleast b ((mem_fitting_iff s n b).2 ⟨hb, hbfits⟩)⟩

theorem findMib_full {s : State} {n : Nat} (h : findMib s n = none) : ∀ a ∈ blockStarts s, ¬ BlockFits s n a := fun a ha hfits => by
  have hempty : (blockStarts s).filter (fun a => decide (a + n ≤ tollMib s) && mibFree s a n) = [] := List.min?_eq_none_iff.1 h
  have hmem := (mem_fitting_iff s n a).2 ⟨ha, hfits⟩
  rw [hempty] at hmem
  exact List.not_mem_nil hmem

section
variable {s : State} {p : List Byte}

theorem bodyMemAlloc_found {a : Nat} (h : findMib s (fld p 0 4) = some a) :
    bodyMemAlloc s p = yes (addAlloc a (fld p 0 4) s) (leBytes 8 (a * 2 ^ 20)) := by
  simp only [bodyMemAlloc, h]

theorem bodyMemAlloc_full (h : findMib s (fld p 0 4) = none) : bodyMemAlloc s p = no s (refuse stNoSpace) := by
  simp only [bodyMemAlloc, h]

/-- The allocated block at the address that MEM_FREE names. -/
def blockAt (s : State) (p : List Byte) : Option Alloc := s.gh.allocs.find? (fun b => decide (b.mib * 2 ^ 20 = fld p 0 8))

theorem bodyMemFree_none (h : blockAt s p = none) : bodyMemFree s p = no s (badParam 0) := by
  unfold blockAt at h
  simp only [bodyMemFree, h]

theorem bodyMemFree_some {b : Alloc} (h : blockAt s p = some b) : bodyMemFree s p =
    if blockHeld s b then no s (refuse stInUse) else yes { s with gh := { s.gh with allocs := s.gh.allocs.erase b } } [] := by
  unfold blockAt at h
  simp only [bodyMemFree, h]

/-! ## Queue commands (R472, R473, R482) -/

theorem bodyQueueCreate_free (h : (getQ s (fld p 0 2)).st = .free) :
    let q := fld p 0 2
    let u := setQ s q { Queue0 with
      st := .active, content := BitVec.ofNat 2 (fld1 p 2), log2 := fld1 p 3, host := fld1 p 4 == 1,
      vector := BitVec.ofNat 8 (fld1 p 5), base := BitVec.ofNat 64 (fld p 8 8), watermark := BitVec.ofNat 32 (fld p 16 4),
      holdoff := BitVec.ofNat 16 (fld p 20 2), dropped := (getQ s q).dropped }
    bodyQueueCreate s p = yes (if q = 1 then reportLastWords u else u) [] :=
  if_neg (by simp [h])

theorem bodyQueueCreate_taken (h : (getQ s (fld p 0 2)).st ≠ .free) : bodyQueueCreate s p = no s (refuse stState) :=
  if_pos (by simp [h])

theorem bodyQueueDestroy_firmware (h : hostQueue (fld p 0 2) = false) : bodyQueueDestroy s p = no s (badParam 0) :=
  if_pos (by simp [h])

theorem bodyQueueDestroy_free (hhost : hostQueue (fld p 0 2) = true) (h : (getQ s (fld p 0 2)).st = .free) :
    bodyQueueDestroy s p = no s (refuse stNotFound) :=
  (if_neg (by simp [hhost])).trans (if_pos h)

section
variable (hhost : hostQueue (fld p 0 2) = true) (hst : (getQ s (fld p 0 2)).st ≠ .free)
include hhost hst

theorem bodyQueueDestroy_named (h : queueNamed s (fld p 0 2) = true) : bodyQueueDestroy s p = no s (refuse stInUse) :=
  (if_neg (by simp [hhost])).trans ((if_neg hst).trans (if_pos h))

theorem bodyQueueDestroy_frees (h : queueNamed s (fld p 0 2) = false) :
    bodyQueueDestroy s p = yes { s with q := { s.q with
      queues := Tab.set Queue0 s.q.queues (fld p 0 2) Queue0,
      jobBells := s.q.jobBells.filter (fun b => b.1 != fld p 0 2) } } [] :=
  (if_neg (by simp [hhost])).trans ((if_neg hst).trans (if_neg (by simp [h])))

end

theorem bodyQueueRead_free (h : (getQ s (fld p 0 2)).st = .free) : bodyQueueRead s p = no s (refuse stNotFound) := if_pos h

theorem bodyQueueRead_taken (h : (getQ s (fld p 0 2)).st ≠ .free) : let q := fld p 0 2
    bodyQueueRead s p = yes (setQ s q { getQ s q with dropped := 0 }) (queueBytes q (getQ s q)) := if_neg h

theorem bodyQueueAttach_detached (hst : (getQ s (fld p 0 2)).st = .detached) (hhost : (getQ s (fld p 0 2)).host = true) :
    let q := fld p 0 2
    let x := getQ s q
    bodyQueueAttach s p = yes { s with q := { s.q with
      queues := Tab.set Queue0 s.q.queues q { x with st := .active, base := BitVec.ofNat 64 (fld p 8 8), head := x.tail },
      jobBells := s.q.jobBells.filter (fun b => b.1 != q) } } [] :=
  if_neg (by simp [hst, hhost])

theorem bodyQueueAttach_other (h : (getQ s (fld p 0 2)).st ≠ .detached ∨ (getQ s (fld p 0 2)).host = false) :
    bodyQueueAttach s p = no s (refuse stState) :=
  if_pos (by obtain h | h := h <;> simp [h])

end

/-- Settles O31: each body answers by the one search or test of its queue or block; the place found is the least that fits. -/
theorem queueCommandsComplete : Obligations.QueueCommandsComplete :=
  ⟨fun s _ _ _ h => ⟨fun _ hfound => done_yes h (bodyMemAlloc_found (s := takeReq s) hfound),
      fun hfull => done_no h (bodyMemAlloc_full (s := takeReq s) hfull)⟩,
    fun _ _ => ⟨fun _ => findMib_lowest, findMib_full⟩,
    fun s _ _ _ h =>
      ⟨fun _ hat hfree => done_yes h ((bodyMemFree_some (s := takeReq s) hat).trans (if_neg (Bool.eq_false_iff.1 hfree))),
        fun _ hat hheld => done_no h ((bodyMemFree_some (s := takeReq s) hat).trans (if_pos hheld)),
        fun hnone => done_no h (bodyMemFree_none (s := takeReq s) hnone)⟩,
    fun s _ _ _ h => ⟨fun hfree => done_yes h (bodyQueueCreate_free (s := takeReq s) hfree),
      fun htaken => done_no h (bodyQueueCreate_taken (s := takeReq s) htaken)⟩,
    fun s _ _ _ h => ⟨fun hfw => done_no h (bodyQueueDestroy_firmware (s := takeReq s) hfw),
      fun hhost hfree => done_no h (bodyQueueDestroy_free (s := takeReq s) hhost hfree),
      fun hhost hst hnamed => done_no h (bodyQueueDestroy_named (s := takeReq s) hhost hst hnamed),
      fun hhost hst hunnamed => done_yes h (bodyQueueDestroy_frees (s := takeReq s) hhost hst hunnamed)⟩,
    fun s _ _ _ h => ⟨fun htaken => done_yes h (bodyQueueRead_taken (s := takeReq s) htaken),
      fun hfree => done_no h (bodyQueueRead_free (s := takeReq s) hfree)⟩,
    fun s _ _ _ h => ⟨fun hst hhost => done_yes h (bodyQueueAttach_detached (s := takeReq s) hst hhost),
      fun hother => done_no h (bodyQueueAttach_other (s := takeReq s) hother)⟩,
    fun _ _ _ _ h => done_yes h rfl,
    fun _ _ _ _ h => done_yes h rfl⟩

end Sys2Proof.Machine
end

section
/-! SUPPORT. Doorbells, production, holdoff and the toll gate (R459 to R463, R474 to R482): what each event makes of its queue or its
channel.
-/

namespace Sys2Proof.Machine

/-! ## Doorbells (R475, R476, R480) -/

section
variable {s : State} {q : Nat}

theorem bellOf_discards (h : (getQ s q).st = .free ∨ (getQ s q).fw = true) (f : State → State) :
    bellOf q f s = { s with q := { s.q with discarded := ctrBump s.q.discarded } } := if_pos h

variable (hst : (getQ s q).st ≠ .free) (hfw : (getQ s q).fw = false)
include hst hfw

theorem bellOf_rings (f : State → State) : bellOf q f s = f s := if_neg (by simp [hst, hfw])

end

section
variable {s : State} {q : Nat} {v : BitVec 32}

/-- A PTR write moves within the occupancy of a produced queue, and within the room of a JOB queue (R476). -/
def ptrFits (x : Queue) (v : BitVec 32) : Bool :=
  if x.content = 3 then decide ((v - x.tail).toNat ≤ 2 ^ x.log2 - occupancy x) else decide ((v - x.head).toNat ≤ occupancy x)

theorem doorbellPtr_beyond (h : ptrFits (getQ s q) v = false) :
    doorbellPtr q v s = post 0x2703 0 0 q v.toNat (setQ s q { getQ s q with qerr := true }) :=
  if_pos (congrArg not h)

theorem doorbellPtr_fits (h : ptrFits (getQ s q) v = true) : let x := getQ s q
    let u := setQ s q { x with tail := v }
    doorbellPtr q v s = if x.content = 3 then
      (if v = x.tail then u else { u with q := { u.q with jobBells := s.q.jobBells ++ [(q, v)] } })
    else setQ s q { x with head := v } :=
  if_neg (Bool.eq_false_iff.1 (congrArg not h))

theorem doorbellPtr_head (hcontent : (getQ s q).content ≠ 3)
    (hroom : (v - (getQ s q).head).toNat ≤ ((getQ s q).tail - (getQ s q).head).toNat) :
    doorbellPtr q v s = setQ s q { getQ s q with head := v } :=
  (doorbellPtr_fits ((if_neg hcontent).trans (decide_eq_true hroom))).trans (if_neg hcontent)

theorem doorbellPtr_tail (hcontent : (getQ s q).content = 3)
    (hroom : (v - (getQ s q).tail).toNat ≤ 2 ^ (getQ s q).log2 - ((getQ s q).tail - (getQ s q).head).toNat) :
    let u := setQ s q { getQ s q with tail := v }
    doorbellPtr q v s =
      if v = (getQ s q).tail then u else { u with q := { u.q with jobBells := s.q.jobBells ++ [(q, v)] } } :=
  (doorbellPtr_fits ((if_pos hcontent).trans (decide_eq_true hroom))).trans (if_pos hcontent)

theorem not_ptrFits {x : Queue} (h : if x.content = 3 then 2 ^ x.log2 - (x.tail - x.head).toNat < (v - x.tail).toNat
      else (x.tail - x.head).toNat < (v - x.head).toNat) : ptrFits x v = false := by
  unfold ptrFits occupancy
  split
  next hcontent => rw [if_pos hcontent] at h; exact decide_eq_false h.not_ge
  next hcontent => rw [if_neg hcontent] at h; exact decide_eq_false h.not_ge

/-- A message is sent where the queue just written is armed, has a vector and meets the condition. -/
theorem queueMessage_setQ (cond : Queue → Bool) (x : Queue) : queueMessage q cond (setQ s q x) =
    if x.armed = true ∧ x.vector ≠ 0xFF ∧ cond x = true then
      sendVector x.vector.toNat (setQ (setQ s q x) q { x with armed := false, timer := none })
    else setQ s q x := by
  simp [queueMessage, and_assoc]

theorem doorbellArm_eq : let x := getQ s q
    let u := setQ s q { x with armed := true }
    let w := if x.vector ≠ 0xFF ∧ queueDue x = true then
      sendVector x.vector.toNat (setQ u q { x with armed := false, timer := none }) else u
    doorbellArm q s = if q = 1 then reportLastWords w else w := by
  have hdue : queueDue { getQ s q with armed := true } = queueDue (getQ s q) := rfl
  simp only [doorbellArm, queueMessage_setQ, hdue, true_and]

theorem doorbellClear_clean (h : (getQ s q).qerr = false) : doorbellClear q s = s := if_pos (by simp [h])

theorem doorbellClear_clears (h : (getQ s q).qerr = true) : let x := getQ s q
    let u := setQ s q { x with qerr := false }
    doorbellClear q s = if x.content = 3 ∧ x.head ≠ x.tail then
      { u with q := { u.q with jobBells := s.q.jobBells.filter (fun b => b.1 != q) ++ [(q, x.tail)] } } else u :=
  if_neg (by simp [h])

/-! ## Production and holdoff (R474, R477, R480) -/

theorem queueProduce_none (h : nextProd s = none) : queueProduce s = s := by
  simp only [queueProduce, h]

theorem queueProduce_some {i : Nat} {w : Prod} (h : nextProd s = some i) (hw : s.q.waiting[i]? = some w) :
    let u := { s with q := { s.q with waiting := s.q.waiting.eraseIdx i } }
    queueProduce s = if queueOpen (getQ s w.queue) then produce w.queue w.entry u else dropEntryOf w.queue u := by
  simp only [queueProduce, h, hw]

theorem ringWrite_mem (e : List Byte) : let x := getQ s q
    let a := x.base.toNat + 64 * (x.tail.toNat % 2 ^ x.log2)
    (ringWrite q e s).mem = if x.host then { s.mem with hostMem := memWrite s.mem.hostMem a (padTo 64 e) }
      else { s.mem with toll := memWrite s.mem.toll a (padTo 64 e), tollAt := now s } := by
  simp only [ringWrite, setQ_mem]
  split
  · rfl
  · exact tollWrite_tollUse_mem ..

theorem ringWrite_tail (e : List Byte) : (getQ (ringWrite q e s) q).tail = (getQ s q).tail + 1 := by
  rw [ringWrite, getQ_setQ]

theorem holdoffExpiry_idle (h : (getQ s q).timer = none ∨ ∃ t, (getQ s q).timer = some t ∧ now s < t) :
    holdoffExpiry q s = s := by
  obtain h | ⟨t, h, hearly⟩ := h
  · simp only [holdoffExpiry, h]
  · simp only [holdoffExpiry, h, hearly, if_true]

theorem holdoffExpiry_due {t : Nat} (h : (getQ s q).timer = some t) (hlate : t ≤ now s) :
    holdoffExpiry q s = queueMessage q (fun x => decide (0 < occupancy x)) (setQ s q { getQ s q with timer := none }) := by
  simp only [holdoffExpiry, h, hlate.not_gt, if_false]

/-! ## Failed accesses (R482, R483) -/

theorem accessFail_elsewhere (h : (getQ s q).host = false ∨ (getQ s q).st ≠ .active) : accessFail q s = s :=
  if_neg (by obtain h | h := h <;> simp [h])

theorem accessFail_detaches (hhost : (getQ s q).host = true) (hst : (getQ s q).st = .active) :
    accessFail q s = post 0x2704 0 0 q 0 (setQ (discardJob q s) q { getQ (discardJob q s) q with st := .detached }) :=
  if_pos (by simp [hhost, hst])

theorem discardJob_nothing (h : (getQ s q).content ≠ 3 ∨ (getQ s q).head = (getQ s q).tail) : discardJob q s = s :=
  if_neg (by rwa [not_and_or, not_ne_iff])

theorem discardJob_entry (hjob : (getQ s q).content = 3) (hentry : (getQ s q).head ≠ (getQ s q).tail) :
    discardJob q s = setQ s q { getQ s q with head := (getQ s q).head + 1, qerr := true } := if_pos ⟨hjob, hentry⟩

end

/-! ## The toll gate (R459 to R463) -/

theorem tollArbitrate_grants {s : State} {c w : Nat} {req : BitVec 12} (lines : Nat)
    (h : tollWinner (Tab.get TollCh0 s.mem.gate c) s.mem.limits req = some w) :
    tollArbitrate c req lines s = { s with mem := { s.mem with
      tollAt := now s,
      gate := Tab.set TollCh0 s.mem.gate c
        ⟨true, BitVec.ofNat 4 w, req, tollWaits w req (Tab.get TollCh0 s.mem.gate c).waits⟩,
      bytes := Tab.upd ⟨0, false⟩ s.mem.bytes (4 * w + c) (addBytes (64 * min 32 (max 1 lines))) } } := by
  simp only [tollArbitrate, h]

theorem tollArbitrate_idles {s : State} {c : Nat} {req : BitVec 12} (lines : Nat)
    (h : tollWinner (Tab.get TollCh0 s.mem.gate c) s.mem.limits req = none) :
    tollArbitrate c req lines s = { s with mem := { s.mem with
      gate := Tab.set TollCh0 s.mem.gate c { Tab.get TollCh0 s.mem.gate c with busy := false, req := 0 } } } := by
  simp only [tollArbitrate, h]

theorem tollWaits_get {w : Nat} {req : BitVec 12} {ws : List (BitVec 8)} {i : Nat} {x : BitVec 8} (h : ws[i]? = some x) :
    (tollWaits w req ws)[i]? =
      some (if i = w then 0 else if req.getLsbD i = true then (if x = 255 then 255 else x + 1) else x) := by
  simp [tollWaits, h]

theorem tollWinner_requests {t : TollCh} {limits : List (BitVec 8)} {req : BitVec 12} {w : Nat}
    (h : tollWinner t limits req = some w) : req.getLsbD w = true := by
  rw [tollWinner, Option.or_eq_some_iff] at h
  obtain hlimit | ⟨-, hcyclic⟩ := h
  · have hfound := List.find?_some hlimit
    rw [Bool.and_eq_true] at hfound
    obtain ⟨hreq, -⟩ := hfound
    exact hreq
  · exact List.find?_some hcyclic

theorem tollWinner_zero (t : TollCh) (limits : List (BitVec 8)) : tollWinner t limits 0 = none := by
  by_contra hsome
  obtain ⟨w, hw⟩ := Option.ne_none_iff_exists'.1 hsome
  simpa using tollWinner_requests hw

/-- Settles O32: a doorbell acts on a queue that may have one, production and holdoff on the entry or timer that is due, and a
toll decision on its winner. -/
theorem doorbellsAndProductionComplete : Obligations.DoorbellsAndProductionComplete :=
  ⟨fun s q v h => ⟨done_eq (bellOf_discards h _), done_eq (bellOf_discards h _), done_eq (bellOf_discards h _)⟩,
    fun s q v hst hfw =>
      ⟨fun hcontent hroom => done_eq ((bellOf_rings hst hfw _).trans (doorbellPtr_head hcontent hroom)),
        fun hcontent hroom => done_eq ((bellOf_rings hst hfw _).trans (doorbellPtr_tail hcontent hroom)),
        fun hbeyond => done_eq ((bellOf_rings hst hfw _).trans (doorbellPtr_beyond (not_ptrFits hbeyond))),
        done_eq ((bellOf_rings hst hfw _).trans doorbellArm_eq),
        fun hqerr => done_eq ((bellOf_rings hst hfw _).trans (doorbellClear_clears hqerr)),
        fun hclean => done_eq ((bellOf_rings hst hfw _).trans (doorbellClear_clean hclean))⟩,
    fun s i w hnext hw =>
      ⟨fun hopen => done_eq ((queueProduce_some hnext hw).trans (if_pos hopen)),
        fun hshut => done_eq ((queueProduce_some hnext hw).trans (if_neg (Bool.eq_false_iff.1 hshut)))⟩,
    fun s hnone => done_eq (queueProduce_none hnone),
    fun s q e => ⟨ringWrite_tail e, fun hhost => (ringWrite_mem e).trans (if_pos hhost),
      fun htoll => (ringWrite_mem e).trans (if_neg (Bool.eq_false_iff.1 htoll))⟩,
    fun s q => ⟨fun t htimer hlate => done_eq (by
        rw [holdoffExpiry_due htimer hlate, queueMessage_setQ]
        simp only [decide_eq_true_eq]
        rfl),
      fun hidle => done_eq (holdoffExpiry_idle hidle)⟩,
    fun s q => ⟨fun hhost hst hnothing => done_eq (by rw [accessFail_detaches hhost hst, discardJob_nothing hnothing]),
      fun hhost hst hjob hentry => done_eq (by
        rw [accessFail_detaches hhost hst, discardJob_entry hjob hentry, getQ_setQ]),
      fun helsewhere => done_eq (accessFail_elsewhere helsewhere)⟩,
    fun s c req lines => ⟨fun w hw => done_eq (tollArbitrate_grants _ hw), fun hidle => done_eq (tollArbitrate_idles _ hidle)⟩,
    fun _ _ _ _ _ h => tollWaits_get h,
    fun t limits req => ⟨fun _ h => tollWinner_requests h, tollWinner_zero t limits⟩⟩

end Sys2Proof.Machine
end

section
/-! SUPPORT. Span ports (R376 to R385, R395, R401, R402, R412): what training, a retrain and the markers leave, and the answers of
the commands that configure, test and read a port.
-/

namespace Sys2Proof.Machine

/-! ## Markers and training (R376, R379, R382) -/

theorem foldl_emit {α : Type} (f : α → Out) (l : List α) (s : State) :
    l.foldl (fun a i => emit (f i) a) s = { s with out := s.out ++ l.map f } := by
  induction l generalizing s with
  | nil => simp
  | cons i l ih =>
    rw [List.foldl_cons, ih]
    simp [emit]

theorem sendMarkers_eq (p : Nat) (locked : Bool) (s : State) : sendMarkers p locked s = { s with
    out := s.out ++ (List.range 4).map (fun i => .spanMarker p
      (leBytes 1 i ++ leBytes 1 p ++ leBytes 1 (getSpan s p).mask.toNat ++ leBytes 1 (if locked then 1 else 0))) } :=
  foldl_emit _ _ _

@[simp] theorem sendMarkers_span (p : Nat) (locked : Bool) (s : State) : (sendMarkers p locked s).span = s.span := by
  rw [sendMarkers_eq]

@[simp] theorem reparent_span (s : State) : (reparent s).span = s.span := by
  unfold reparent
  split
  · rfl
  · exact when_keeps (g := State.span) (ksMove_span .holdover s) _

theorem getSpan_congr {s t : State} (h : s.span = t.span) (p : Nat) : getSpan s p = getSpan t p := by
  unfold getSpan
  rw [h]

theorem getSpan_startTrain (p : Nat) (s : State) : getSpan (startTrain p s) p = { getSpan s p with
    st := .train, trainAt := now s, lanes := 0, version := 0, neigh := none, test := none, mask := 0,
    lastWidth := if (getSpan s p).st = .up then laneCount (getSpan s p).lanes else (getSpan s p).lastWidth } := by
  rw [getSpan_congr (t := setSpan s p _) (by rw [startTrain, sendMarkers_span, reparent_span])]
  exact getSpan_setSpan ..

theorem getSpan_retrain (p : Nat) (bad : BitVec 4) (s : State) : let x := getSpan s p
    getSpan (retrain p bad s) p = { x with
      st := .train, trainAt := now s, lanes := 0, version := 0, neigh := none, test := none, mask := 0,
      badLanes := x.badLanes ||| bad, ctrs := modAt x.ctrs 7 (fun c => ctrAdd c 1),
      lastWidth := if x.st = .up then laneCount x.lanes else x.lastWidth } := by
  rw [retrain, getSpan_startTrain, getSpan_setSpan]
  rfl

/-! ## SPAN_CONFIG and SPAN_ROUTE (R395, R412) -/

section
variable {s : State} {p : List Byte}

theorem bodySpanConfig_busy (hlive : s.seq.started = true)
    (h : BitVec.ofNat 11 (fld p 0 2) ≠ s.span.node ∨
      (∃ i, i < 8 ∧ portInUse s i = true ∧ spanSame (getSpan s i) (spanEntry p i) = false)) :
    bodySpanConfig s p = no s (refuse stBusyRunning) :=
  if_pos (by simpa [hlive] using h)

theorem bodySpanConfig_takes (h : s.seq.started = false ∨ (BitVec.ofNat 11 (fld p 0 2) = s.span.node ∧
      ∀ i, i < 8 → portInUse s i = true → spanSame (getSpan s i) (spanEntry p i) = true)) :
    bodySpanConfig s p = yes ((List.range 8).foldl (fun a i => spanApply i (spanEntry p i) a)
      (setRole (ksRole (fld1 p 2)) s.time.fixedParent
        { s with span := { s.span with node := BitVec.ofNat 11 (fld p 0 2) } })) [] := by
  refine if_neg ?_
  obtain hidle | ⟨hnode, hsame⟩ := h
  · simp [hidle]
  · simpa [hnode] using fun _ => hsame

end

section
variable {s : State} {i : Nat} {e : List Byte}

theorem spanApply_same (h : spanSame (getSpan s i) e = true) : spanApply i e s = s := if_pos h

variable (hnew : spanSame (getSpan s i) e = false)
include hnew

theorem spanApply_changes : let x := { getSpan s i with
      enabled := bitOf (fld1 e 0) 0, rate := fld1 e 1, vmin := fld1 e 2, vmax := fld1 e 3 }
    spanApply i e s = if !x.enabled then
        reparent (setSpan s i { x with st := .disabled, lanes := 0, version := 0, neigh := none, test := none })
      else if isOn s (51 + i) then startTrain i (setSpan s i x) else wakeCfg (51 + i) (setSpan s i x) :=
  if_neg (Bool.eq_false_iff.1 hnew)

end

theorem bodySpanRoute_eq (s : State) (p : List Byte) :
    let es := (List.range (fld1 p 2)).map (fun i => (fld p 0 2 + i, fld p (8 + 2 * i) 2))
    bodySpanRoute s p = if es.any (fun e => bitOf e.2 14 && (getSpan s (e.2 % 8)).version == 1) then no s (refuse stUnsupported)
      else yes { s with span := { s.span with
        routes := es.foldl (fun t e => Tab.set 0 t e.1 (BitVec.ofNat 16 e.2)) s.span.routes } } [] := rfl

/-! ## LANE_TEST (R384) -/

section
variable {s : State} {p : List Byte}

theorem bodyLaneTest_disabled (h : (getSpan s (fld1 p 0)).st = .disabled) : bodyLaneTest s p = no s (refuse stState) := if_pos h

theorem bodyLaneTest_stops (hst : (getSpan s (fld1 p 0)).st = .test) (hstop : fld1 p 6 = 1) :
    bodyLaneTest s p = yes (retrain (fld1 p 0) 0 s) [] :=
  (if_neg (by simp [hst])).trans ((if_pos hstop).trans (if_pos hst))

theorem bodyLaneTest_no_test (hst : (getSpan s (fld1 p 0)).st ≠ .test) (hstop : fld1 p 6 = 1) :
    bodyLaneTest s p = no s (refuse stState) := by
  by_cases hdisabled : (getSpan s (fld1 p 0)).st = .disabled
  · exact bodyLaneTest_disabled hdisabled
  · exact (if_neg hdisabled).trans ((if_pos hstop).trans (if_neg hst))

variable (hstart : fld1 p 6 ≠ 1)
include hstart

theorem bodyLaneTest_unsupported (hup : (getSpan s (fld1 p 0)).st = .up) (hold : s.gh.version < 0x0203) :
    bodyLaneTest s p = no s (refuse stUnsupported) :=
  (if_neg (by simp [hup])).trans ((if_neg hstart).trans (if_pos ⟨hup, hold⟩))

theorem bodyLaneTest_injects (hup : (getSpan s (fld1 p 0)).st = .up) (hnew : 0x0203 ≤ s.gh.version)
    (hinj : bitsOf (fld1 p 3) 5 4 = 1 ∨ bitsOf (fld1 p 3) 5 4 = 2) : let inj := bitsOf (fld1 p 3) 5 4
    bodyLaneTest s p = yes (setSpan s (fld1 p 0)
      { getSpan s (fld1 p 0) with inject := some (inj, if inj = 1 then 1 else fld1 p 4) }) [] :=
  (if_neg (by simp [hup])).trans ((if_neg hstart).trans ((if_neg (by omega)).trans (if_pos ⟨hup, hinj⟩)))

theorem bodyLaneTest_tests (hon : (getSpan s (fld1 p 0)).st ≠ .disabled) (hdead : (getSpan s (fld1 p 0)).st = .up →
      0x0203 ≤ s.gh.version ∧ bitsOf (fld1 p 3) 5 4 ≠ 1 ∧ bitsOf (fld1 p 3) 5 4 ≠ 2) : let x := getSpan s (fld1 p 0)
    bodyLaneTest s p = yes (emit (.spanPattern (fld1 p 0) (slice p 1 5)) (reparent (setSpan s (fld1 p 0)
      { x with st := .test, lanes := 0, version := 0, neigh := none,
               lastWidth := if x.st = .up then laneCount x.lanes else x.lastWidth,
               checked := x.checked ||| BitVec.ofNat 4 (fld1 p 1),
               test := some ⟨BitVec.ofNat 4 (fld1 p 1), fld1 p 2, bitsOf (fld1 p 3) 5 4, fld1 p 4, fld1 p 5⟩ }))) [] := by
  have hversion : ¬((getSpan s (fld1 p 0)).st = .up ∧ s.gh.version < 0x0203) := fun ⟨hup, hold⟩ => (hdead hup).1.not_gt hold
  have hinject : ¬((getSpan s (fld1 p 0)).st = .up ∧ (bitsOf (fld1 p 3) 5 4 = 1 ∨ bitsOf (fld1 p 3) 5 4 = 2)) :=
    fun ⟨hup, hinj⟩ => by have := hdead hup; omega
  exact (if_neg hon).trans ((if_neg hstart).trans ((if_neg hversion).trans (if_neg hinject)))

end

/-- Settles O36: SPAN_CONFIG and SPAN_ROUTE answer by what runs and by their entries, the others by the port's state. -/
theorem spanCommandsComplete : Obligations.SpanCommandsComplete :=
  ⟨fun s _ _ _ h => ⟨fun hlive hbusy => done_no h (bodySpanConfig_busy (s := takeReq s) hlive hbusy),
      fun hfree => done_yes h (bodySpanConfig_takes (s := takeReq s) hfree)⟩,
    fun s i e => ⟨spanApply_same, fun hnew =>
      ⟨fun hon hdom => (spanApply_changes hnew).trans ((if_neg (by simpa using hon)).trans (if_pos hdom)),
        fun hon hdom => (spanApply_changes hnew).trans ((if_neg (by simpa using hon)).trans (if_neg (Bool.eq_false_iff.1 hdom))),
        fun hoff => (spanApply_changes hnew).trans (if_pos (by simpa using hoff))⟩⟩,
    fun s _ _ p h => ⟨fun hvc => done_no h ((bodySpanRoute_eq (takeReq s) p).trans (if_pos (by simpa using hvc))),
      fun hfit => done_yes h ((bodySpanRoute_eq (takeReq s) p).trans (if_neg (by simpa using hfit)))⟩,
    fun _ _ _ _ h => ⟨fun hoff => done_no h (if_pos hoff), fun hon => done_yes h (if_neg hon)⟩,
    fun s p bad => getSpan_retrain p bad s,
    fun s _ _ _ h => ⟨fun hoff => done_no h (bodyLaneTest_disabled (s := takeReq s) hoff),
      fun htest hstop => done_yes h (bodyLaneTest_stops (s := takeReq s) htest hstop),
      fun hother hstop => done_no h (bodyLaneTest_no_test (s := takeReq s) hother hstop),
      fun hup hstart hnew hinj => done_yes h (bodyLaneTest_injects (s := takeReq s) hstart hup hnew hinj),
      fun hup hstart hold => done_no h (bodyLaneTest_unsupported (s := takeReq s) hstart hup hold),
      fun hon hstart hdead => done_yes h (bodyLaneTest_tests (s := takeReq s) hstart hon hdead)⟩,
    fun _ _ _ _ h => done_yes h rfl,
    fun _ _ _ _ h => done_yes h rfl,
    fun _ _ _ _ h => done_hold h rfl⟩

end Sys2Proof.Machine
end

section
/-! SUPPORT. Bring-up of a span link and its frames (R377 to R391): one equation per outcome of each function of the link. -/

namespace Sys2Proof.Machine

/-! ## Bring-up (R380 to R382) -/

section
variable {s : State} {p : Nat}

theorem widthChosen_idle {good partner : BitVec 4} (h : (getSpan s p).st ≠ .train) : widthChosen p good partner s = s :=
  if_pos (by simpa using h)

section
variable {good partner : BitVec 4} (htrain : (getSpan s p).st = .train)
include htrain

theorem widthChosen_none (h : good &&& partner &&& ~~~(getSpan s p).badLanes = 0) :
    widthChosen p good partner s = sendMarkers p false (setSpan s p { getSpan s p with mask := good }) :=
  (if_neg (by simp [htrain])).trans (if_pos h)

theorem widthChosen_caps (h : good &&& partner &&& ~~~(getSpan s p).badLanes ≠ 0) :
    let u := sendMarkers p true (setSpan s p { getSpan s p with
      mask := good, lanes := chooseLanes (good &&& partner &&& ~~~(getSpan s p).badLanes), st := .caps })
    widthChosen p good partner s = emit (.spanCaps p (capsBlock u p)) u :=
  (if_neg (by simp [htrain])).trans (if_neg h)

end

theorem chooseLanes_subset : ∀ m : BitVec 4, m ≠ 0 → chooseLanes m ≠ 0 ∧ chooseLanes m &&& m = chooseLanes m := by decide

theorem capsIn_idle {c : SpanCaps} (h : (getSpan s p).st ≠ .caps ∨ laneCount (getSpan s p).lanes ≠ c.width.toNat) :
    capsIn p c s = s := if_pos (by simpa using h)

section
variable {c : SpanCaps} (hcaps : (getSpan s p).st = .caps) (hwidth : laneCount (getSpan s p).lanes = c.width.toNat)
include hcaps hwidth

theorem capsIn_no_version (h : min (getSpan s p).vmax c.vmax.toNat < max (getSpan s p).vmin c.vmin.toNat) :
    capsIn p c s = spPost 0x2504 p c.vmin.toNat c.vmax.toNat (startTrain p s) :=
  (if_neg (by simp [hcaps, hwidth])).trans (if_pos h)

theorem capsIn_up (h : max (getSpan s p).vmin c.vmin.toNat ≤ min (getSpan s p).vmax c.vmax.toNat) :
    let x := getSpan s p
    let changed := x.hadPeer = true ∧ (x.peerNode ≠ c.node ∨ x.peerPort ≠ c.port.val)
    let w := laneCount x.lanes
    let deg := w < x.lastWidth ∨ (w < 4 ∧ x.badLanes ≠ 0)
    let y := { (if changed then { newPeer x with peerChanged := true } else x) with
      st := .up, version := min x.vmax c.vmax.toNat, peerNode := c.node, peerPort := c.port.val, hadPeer := true,
      degraded := decide deg, failPosted := false, lastWidth := w, crcFails := [], neighAt := now s }
    let s1 := if changed then spPost 0x1503 p x.peerNode.toNat c.node.toNat (setSpan s p y) else setSpan s p y
    let s2 := if deg then spPost 0x2502 p x.lanes.toNat x.badLanes.toNat s1 else s1
    capsIn p c s = pump p (sendMsg p (neighborMsg s p) (degradedRs s2)) := by
  have hchanged : ((getSpan s p).hadPeer && ((getSpan s p).peerNode != c.node || (getSpan s p).peerPort != c.port.val)) =
      decide ((getSpan s p).hadPeer = true ∧ ((getSpan s p).peerNode ≠ c.node ∨ (getSpan s p).peerPort ≠ c.port.val)) := by
    simp only [Bool.decide_and, Bool.decide_or, Bool.decide_eq_true, bne, beq_eq_decide, decide_not, ne_eq]
  have hdeg : (decide (laneCount (getSpan s p).lanes < (getSpan s p).lastWidth) ||
      (decide (laneCount (getSpan s p).lanes < 4) && (getSpan s p).badLanes != 0)) =
      decide (laneCount (getSpan s p).lanes < (getSpan s p).lastWidth ∨
        (laneCount (getSpan s p).lanes < 4 ∧ (getSpan s p).badLanes ≠ 0)) := by
    simp only [Bool.decide_and, Bool.decide_or, bne, beq_eq_decide, decide_not, ne_eq]
  refine (if_neg (by simp [hcaps, hwidth])).trans ((if_neg h.not_gt).trans ?_)
  simp only [hchanged, hdeg, when_, decide_eq_true_eq]

end

theorem trainTimeout_restarts (hst : (getSpan s p).st = .train ∨ (getSpan s p).st = .caps)
    (hlate : (getSpan s p).trainAt + 2000000 ≤ now s) : trainTimeout p s = startTrain p (setSpan
      (if (getSpan s p).failPosted then s else spPost 0x2501 p (getSpan s p).mask.toNat 0 s) p
      (spBump 7 1 { getSpan s p with failPosted := true })) := by
  refine (if_pos ⟨hst, hlate⟩).trans ?_
  cases (getSpan s p).failPosted <;> rfl

theorem trainTimeout_idle (h : now s < (getSpan s p).trainAt + 2000000 ∨ ((getSpan s p).st ≠ .train ∧ (getSpan s p).st ≠ .caps)) :
    trainTimeout p s = s := by
  refine if_neg fun ⟨hst, hlate⟩ => ?_
  obtain hearly | ⟨htrain, hcaps⟩ := h
  · exact hearly.not_ge hlate
  · exact hst.elim htrain hcaps

theorem lockLoss_idle {lanes : BitVec 4} (h : (getSpan s p).st ≠ .up ∨ lanes &&& (getSpan s p).lanes = 0) : lockLoss p lanes s = s :=
  if_pos (by simpa using h)

theorem lockLoss_retrains {lanes : BitVec 4} (hup : (getSpan s p).st = .up) (h : lanes &&& (getSpan s p).lanes ≠ 0) :
    let l := lanes &&& (getSpan s p).lanes
    lockLoss p lanes s = retrain p l (setSpan s p (spBump 4 (laneCount l) (getSpan s p))) :=
  if_neg (by simpa [hup] using h)

end

/-- Settles O37: in each state of training the width, the capabilities, the time and the lanes lost decide. -/
theorem spanBringUpCompletes : Obligations.SpanBringUpCompletes :=
  ⟨fun _ _ _ _ htrain => ⟨fun hnone => done_eq (widthChosen_none htrain hnone), fun hsome => done_eq (widthChosen_caps htrain hsome)⟩,
    fun _ _ _ _ h => done_eq (widthChosen_idle h),
    ⟨by decide, by decide, by decide, by decide, chooseLanes_subset⟩,
    fun _ _ _ hcaps hwidth => ⟨fun h => done_eq (capsIn_no_version hcaps hwidth h), fun h => done_eq (capsIn_up hcaps hwidth h)⟩,
    fun _ _ _ h => done_eq (capsIn_idle h),
    fun _ _ hst hlate => done_eq (trainTimeout_restarts hst hlate),
    fun _ _ h => done_eq (trainTimeout_idle h),
    fun _ _ _ hup => ⟨fun h => done_eq (lockLoss_idle (.inr h)), fun h => done_eq (lockLoss_retrains hup h)⟩,
    fun _ _ _ h => done_eq (lockLoss_idle (.inl h)),
    fun s p b => sendMarkers_eq p b s,
    fun _ _ => rfl⟩

/-! ## Frames (R386 to R391) -/

section
variable {s : State} {p : Nat} {f : List Byte}

theorem frameReceive_idle (h : (getSpan s p).st ≠ .up ∨ s.replay.mode = true) : frameReceive p f s = s :=
  if_pos (by simpa using h)

variable (hup : (getSpan s p).st = .up) (hmode : s.replay.mode = false)
include hup hmode

theorem frameReceive_bad (h : f.length ≠ 256 ∨ crc32 (f.take 252) ≠ fld f 252 4 ∨ 236 < fld f 12 2) :
    frameReceive p f s = crcFail p s :=
  (if_neg (by simp [hup, hmode])).trans (if_pos (by simpa [or_assoc] using h))

variable (hlen : f.length = 256) (hcrc : crc32 (f.take 252) = fld f 252 4) (hpay : fld f 12 2 ≤ 236)
include hlen hcrc hpay

theorem frameReceive_good : frameReceive p f s = pump p
    (if fld1 f 0 % 4 = 2 then takeAck p f s
    else if (fld1 f 0 % 4 != 1 || bitsOf (fld1 f 0) 3 2 = 3) = true then s
    else if BitVec.ofNat 12 (fld f 2 2) = (getSpan s p).rxSeq then takeAck p f (acceptData p f s)
    else when_ (!(getSpan s p).nakSent) (sendNull p true) (setSpan s p { getSpan s p with nakSent := true })) :=
  (if_neg (by simp [hup, hmode])).trans (if_neg (by simpa [hlen, hcrc] using hpay))

theorem frameReceive_null (h : fld1 f 0 % 4 = 2) : frameReceive p f s = pump p (takeAck p f s) := by
  rw [frameReceive_good hup hmode hlen hcrc hpay, if_pos h]

theorem frameReceive_other (hnull : fld1 f 0 % 4 ≠ 2) (h : fld1 f 0 % 4 ≠ 1 ∨ bitsOf (fld1 f 0) 3 2 = 3) :
    frameReceive p f s = pump p s := by
  rw [frameReceive_good hup hmode hlen hcrc hpay, if_neg hnull, if_pos (by simpa using h)]

variable (hdata : fld1 f 0 % 4 = 1) (hcls : bitsOf (fld1 f 0) 3 2 ≠ 3)
include hdata hcls

theorem frameReceive_in_sequence (h : BitVec.ofNat 12 (fld f 2 2) = (getSpan s p).rxSeq) :
    frameReceive p f s = pump p (takeAck p f (acceptData p f s)) := by
  rw [frameReceive_good hup hmode hlen hcrc hpay, if_neg (by omega), if_neg (by simp [hdata, hcls]), if_pos h]

theorem frameReceive_out_of_sequence (h : BitVec.ofNat 12 (fld f 2 2) ≠ (getSpan s p).rxSeq) :
    let u := setSpan s p { getSpan s p with nakSent := true }
    frameReceive p f s = pump p (if (getSpan s p).nakSent = true then u else sendNull p true u) := by
  rw [frameReceive_good hup hmode hlen hcrc hpay, if_neg (by omega), if_neg (by simp [hdata, hcls]), if_neg h]
  cases (getSpan s p).nakSent <;> rfl

end

theorem crcFail_eq (s : State) (p : Nat) : let x := getSpan s p
    let fails := x.crcFails.filter (fun t => decide (now s < t + 1000000)) ++ [now s]
    let u := setSpan s p (spBump 5 1 { x with crcFails := fails, nakSent := true })
    let v := if x.nakSent = true then u else sendNull p true u
    crcFail p s = if 64 < fails.length then retrain p x.lanes v else v := by
  simp only [crcFail]
  cases (getSpan s p).nakSent <;> rfl

theorem acceptData_eq (s : State) (p : Nat) (f : List Byte) : let x := getSpan s p
    let ms := splitMsgs 16 (slice f 16 (fld f 12 2))
    let cls := bitsOf (fld1 f 0) 3 2
    let u := setSpan s p { x with
      rxSeq := x.rxSeq + 1, nakSent := false, rxOwed := x.rxOwed + 1, rxNo := x.rxNo + 1,
      rxq := x.rxq ++ ms.map (fun m => ⟨x.rxNo + 1, cls, m⟩),
      rxLimit := if ms = [] then modAt x.rxLimit cls (· + 1) else x.rxLimit,
      creditOwed := if ms = [] then true else x.creditOwed }
    acceptData p f s = if 31 ≤ x.rxOwed then sendNull p false u else u := by
  cases hms : splitMsgs 16 (slice f 16 (fld f 12 2)) with
  | nil => simp [acceptData, hms, when_]
  | cons m ms => simp [acceptData, hms, when_]

theorem takeAck_eq (s : State) (p : Nat) (f : List Byte) :
    let x := { getSpan s p with txLimit := (List.range 3).map (fun i => BitVec.ofNat 16 (fld f (6 + 2 * i) 2)) }
    let a := BitVec.ofNat 12 (fld f 4 2)
    takeAck p f s = if bitOf (fld f 4 2) 15 = false then setSpan s p x
      else if bitOf (fld f 4 2) 14 = true then replayAll p (setSpan s p (ackTo (a - 1) x)) else setSpan s p (ackTo a x) := by
  simp only [takeAck]
  cases bitOf (fld f 4 2) 15 <;> rfl

theorem mem_ackTo {a : BitVec 12} {x : SpanPort} {f : TxFrame} :
    f ∈ (ackTo a x).replay ↔ f ∈ x.replay ∧ 2048 ≤ (a - f.seq).toNat := by
  simp [ackTo]

section
variable {s : State} {p : Nat}

theorem replayTimeout_replays {f : TxFrame} {rest : List TxFrame} (hold : (getSpan s p).replay = f :: rest)
    (hlate : f.at_ + 10000 ≤ now s) (hup : (getSpan s p).st = .up) : replayTimeout p s = replayAll p s := by
  rw [replayTimeout, hold]
  exact if_pos ⟨hlate, hup⟩

theorem replayTimeout_idle (h : (getSpan s p).replay = [] ∨ (getSpan s p).st ≠ .up ∨
    (∃ f rest, (getSpan s p).replay = f :: rest ∧ now s < f.at_ + 10000)) : replayTimeout p s = s := by
  unfold replayTimeout
  split
  · next f rest hold =>
    refine if_neg fun ⟨hlate, hup⟩ => ?_
    obtain hnone | hdown | ⟨g, rest', hold', hearly⟩ := h
    · simp [hold] at hnone
    · exact hdown hup
    · rw [hold] at hold'
      cases hold'
      exact hearly.not_ge hlate
  · rfl

theorem ackTimer_sends (h : 0 < (getSpan s p).rxOwed ∨ (getSpan s p).creditOwed = true) : ackTimer p s = sendNull p false s :=
  if_pos (by simpa using h)

theorem ackTimer_idle (hack : (getSpan s p).rxOwed = 0) (hcredit : (getSpan s p).creditOwed = false) : ackTimer p s = s :=
  if_neg (by simp [hack, hcredit])

end

/-- Settles O38: a frame is told apart by its length, CRC and LEN, then by its type, class and sequence number. -/
theorem spanFramesComplete : Obligations.SpanFramesComplete :=
  ⟨fun _ _ _ hup hmode => ⟨fun h => done_eq (frameReceive_bad hup hmode h), fun hlen hcrc hpay =>
      ⟨fun h => done_eq (frameReceive_null hup hmode hlen hcrc hpay h),
        fun hnull h => done_eq (frameReceive_other hup hmode hlen hcrc hpay hnull h),
        fun hdata hcls => ⟨fun h => done_eq (frameReceive_in_sequence hup hmode hlen hcrc hpay hdata hcls h),
          fun h => done_eq (frameReceive_out_of_sequence hup hmode hlen hcrc hpay hdata hcls h)⟩⟩⟩,
    fun _ _ _ h => done_eq (frameReceive_idle h),
    crcFail_eq, acceptData_eq, takeAck_eq, fun _ _ _ => mem_ackTo,
    fun _ _ => ⟨fun _ _ hold hlate hup => done_eq (replayTimeout_replays hold hlate hup), fun h => done_eq (replayTimeout_idle h)⟩,
    fun _ _ => ⟨fun h => done_eq (ackTimer_sends h), fun hack hcredit => done_eq (ackTimer_idle hack hcredit)⟩⟩

end Sys2Proof.Machine
end

section
/-! SUPPORT. The exchange between nodes that keeps the keystone count (R391, R404, R405): the choice of a parent as a least element,
the messages sent and taken, and what a completed exchange does to the count and the sync state.
-/

namespace Sys2Proof.Machine

/-! ## The parent (R404) -/

/-- The ports that offer a parent, with what their neighbours report. -/
def parentOffers (s : State) : List (Nat × Neigh) :=
  (List.range 8).filterMap (fun p =>
    match (getSpan s p).neigh with
    | some n => if (getSpan s p).st == .up && n.dist != 0xFF then some (p, n) else none
    | none => none)

theorem mem_parentOffers {s : State} {p : Nat} {n : Neigh} : (p, n) ∈ parentOffers s ↔
    p < 8 ∧ (getSpan s p).st = .up ∧ (getSpan s p).neigh = some n ∧ n.dist ≠ 0xFF := by
  rw [parentOffers, List.mem_filterMap]
  constructor
  · rintro ⟨q, hq, h⟩
    split at h
    · next o hneigh =>
      obtain ⟨⟨hup, hdist⟩, rfl, rfl⟩ := by simpa using h
      exact ⟨List.mem_range.1 hq, hup, hneigh, hdist⟩
    · cases h
  · rintro ⟨hp, hup, hneigh, hdist⟩
    exact ⟨p, List.mem_range.2 hp, by simp [hneigh, hup, hdist]⟩

/-- The lowest grandmaster that an offer names; 2048 where there is no offer. -/
def lowestGm (l : List (Nat × Neigh)) (k : Nat) : Nat := l.foldl (fun a c => min a c.2.gm) k

theorem lowestGm_le_start (l : List (Nat × Neigh)) (k : Nat) : lowestGm l k ≤ k := by
  induction l generalizing k with
  | nil => exact le_rfl
  | cons c l ih => exact (ih _).trans (min_le_left ..)

theorem lowestGm_le {l : List (Nat × Neigh)} {c : Nat × Neigh} (h : c ∈ l) (k : Nat) : lowestGm l k ≤ c.2.gm := by
  induction l generalizing k with
  | nil => cases h
  | cons d l ih =>
    obtain rfl | h := List.mem_cons.1 h
    · exact (lowestGm_le_start l _).trans (min_le_right ..)
    · exact ih h _

theorem lowestGm_attained (l : List (Nat × Neigh)) (k : Nat) : lowestGm l k = k ∨ ∃ c ∈ l, c.2.gm = lowestGm l k := by
  induction l generalizing k with
  | nil => exact .inl rfl
  | cons d l ih =>
    obtain h | ⟨c, hc, h⟩ := ih (min k d.2.gm)
    · obtain hk | hd := min_choice k d.2.gm
      · exact .inl (h.trans hk)
      · exact .inr ⟨d, List.mem_cons_self, (h.trans hd).symm⟩
    · exact .inr ⟨c, List.mem_cons_of_mem _ hc, h⟩

/-- The nearer of the best offer so far and another. -/
def nearer (best : Option (Nat × Neigh)) (c : Nat × Neigh) : Option (Nat × Neigh) :=
  match best with
  | none => some c
  | some x => if c.2.dist < x.2.dist then some c else some x

theorem foldl_nearer_some {l : List (Nat × Neigh)} {b : Option (Nat × Neigh)} {x : Nat × Neigh} (h : l.foldl nearer b = some x) :
    (x ∈ l ∨ b = some x) ∧ (∀ c ∈ l, x.2.dist ≤ c.2.dist) ∧ ∀ y, b = some y → x.2.dist ≤ y.2.dist := by
  induction l generalizing b with
  | nil => exact ⟨.inr h, by simp, fun y hy => by rw [Option.some.inj (h.symm.trans hy)]⟩
  | cons c l ih =>
    obtain ⟨hmem, hle, hbest⟩ := ih h
    have hnear : (nearer b c = some c ∧ ∀ y, b = some y → c.2.dist ≤ y.2.dist) ∨
        ∃ y, b = some y ∧ nearer b c = some y ∧ y.2.dist ≤ c.2.dist := by
      cases b with
      | none => exact .inl ⟨rfl, by simp⟩
      | some y => by_cases hlt : c.2.dist < y.2.dist <;> grind [nearer]
    obtain ⟨hc, hfar⟩ | ⟨y, hy, hkeep, hyc⟩ := hnear <;> grind

theorem foldl_nearer_isSome (l : List (Nat × Neigh)) {b : Option (Nat × Neigh)} (h : b.isSome) : (l.foldl nearer b).isSome := by
  induction l generalizing b with
  | nil => exact h
  | cons c l ih =>
    refine ih ?_
    unfold nearer
    split
    · rfl
    · split <;> rfl

theorem foldl_nearer_none {l : List (Nat × Neigh)} (h : l.foldl nearer none = none) : l = [] := by
  cases l with
  | nil => rfl
  | cons c l => exact absurd (foldl_nearer_isSome l (b := nearer none c) rfl) (by simpa using h)

theorem chooseParent_fixed {s : State} {f : Nat} (h : s.time.fixedParent = some f) :
    chooseParent s = (parentOffers s).find? (fun c => c.1 == f) := by
  unfold chooseParent
  rw [h]
  rfl

theorem chooseParent_free {s : State} (h : s.time.fixedParent = none) :
    chooseParent s = ((parentOffers s).filter (fun c => c.2.gm == lowestGm (parentOffers s) 2048)).foldl nearer none := by
  unfold chooseParent
  rw [h]
  rfl

theorem chooseParent_least {s : State} {p : Nat} {n : Neigh} (hfree : s.time.fixedParent = none) (h : chooseParent s = some (p, n)) :
    (p, n) ∈ parentOffers s ∧ ∀ c ∈ parentOffers s, n.gm ≤ c.2.gm ∧ (n.gm = c.2.gm → n.dist ≤ c.2.dist) := by
  rw [chooseParent_free hfree] at h
  obtain ⟨hmem, hle, -⟩ := foldl_nearer_some h
  obtain ⟨hoffer, hgm⟩ := List.mem_filter.1 (hmem.resolve_right (by simp))
  have hgm : n.gm = lowestGm (parentOffers s) 2048 := by simpa using hgm
  exact ⟨hoffer, fun c hc => ⟨hgm ▸ lowestGm_le hc _, fun heq => hle c (List.mem_filter.2 ⟨hc, by simp [← heq, hgm]⟩)⟩⟩

theorem chooseParent_none {s : State} (hfree : s.time.fixedParent = none) (h : chooseParent s = none) :
    ∀ c ∈ parentOffers s, 2048 ≤ c.2.gm := by
  rw [chooseParent_free hfree] at h
  have hnone := foldl_nearer_none h
  obtain hstart | ⟨d, hd, hgm⟩ := lowestGm_attained (parentOffers s) 2048
  · exact fun c hc => hstart ▸ lowestGm_le hc _
  · exact absurd hnone (List.ne_nil_of_mem (List.mem_filter.2 ⟨hd, by simpa using hgm⟩))

/-! ## What is sent (R391, R404) -/

theorem passed_eq (t per : Nat) (s : State) : passed t per s = true ↔ now s < t ∨ t + per ≤ now s := by simp [passed]

theorem neighborSend_eq (s : State) : neighborSend s = (List.range 8).foldl (fun a p =>
    if (getSpan a p).st = .up ∧ (now s < (getSpan a p).neighAt ∨ (getSpan a p).neighAt + 1000000 ≤ now s) then
      sendMsg p (neighborMsg a p) (setSpan a p { getSpan a p with neighAt := now s }) else a) s := by
  simp only [neighborSend, passed_eq]

theorem syncExchange_early {s : State} {t : Nat} (hlast : s.time.lastExch = some t) (hle : t ≤ now s) (hlt : now s < t + 100000) :
    syncExchange s = s :=
  if_pos (by simp [hlast, passed, hle, hlt])

theorem syncExchange_due {s : State} (h : ∀ t, s.time.lastExch = some t → now s < t ∨ t + 100000 ≤ now s) :
    syncExchange s = (List.range 8).foldl (fun a p =>
      if (getSpan a p).st ≠ .up ∨ a.time.role = .off then a
      else if a.time.role = .follower ∧ a.time.parent = some p then
        emit (.sync p) { a with time := { a.time with t3 := stamp64 a, exchNo := (a.time.exchNo + 1) % 2 ^ 16 } }
      else emit (.sync p) (setSpan a p { getSpan a p with tx1 := stamp64 a }))
      { s with time := { s.time with lastExch := some (now s) } } := by
  refine (if_neg ?_).trans ?_
  · cases hlast : s.time.lastExch with
    | none => simp
    | some t => simpa [passed, or_iff_not_imp_left] using h t hlast
  · simp only [Bool.or_eq_true, Bool.and_eq_true, bne_iff_ne, beq_iff_eq]

section
variable {s : State} {p : Nat}

theorem syncBlock_idle (h : (getSpan s p).st ≠ .up ∨ s.time.role = .off) : syncBlock p s = s := if_pos (by simpa using h)

theorem syncBlock_stamps (hup : (getSpan s p).st = .up) (hrole : s.time.role = .follower) (hparent : s.time.parent = some p) :
    syncBlock p s = { s with time := { s.time with t2 := stamp64 s } } :=
  (if_neg (by simp [hup, hrole])).trans (if_pos (by simp [hrole, hparent]))

theorem syncBlock_answers (hup : (getSpan s p).st = .up) (hrole : s.time.role ≠ .off)
    (hchild : ¬(s.time.role = .follower ∧ s.time.parent = some p)) : let e := ((getSpan s p).exch + 1) % 2 ^ 16
    syncBlock p s = sendMsg p (syncFu s.span.node.toNat e (wireStamp (getSpan s p).version (stamp64 s)))
      (sendMsg p (syncFu s.span.node.toNat e (wireStamp (getSpan s p).version (getSpan s p).tx1))
        (setSpan s p { getSpan s p with exch := e })) :=
  (if_neg (by simp [hup, hrole])).trans (if_neg (by simpa using hchild))

end

/-! ## What is received (R391, R404) -/

section
variable {s u : State} {p : Nat} {x : RxMsg}

theorem neighborIn_none (h : takeMsg p (fun m => msgType m == 4) s = none) : neighborIn p s = s := by
  rw [neighborIn, h]

theorem neighborIn_some (h : takeMsg p (fun m => msgType m == 4) s = some (x, u)) :
    let n : Neigh := ⟨fld (msgData x.bytes) 0 2 % 2048, fld1 (msgData x.bytes) 2, fld1 (msgData x.bytes) 3⟩
    let v := reparent (freeMsg p x (setSpan u p { getSpan u p with neigh := some n }))
    let gms := (List.range 8).filterMap (fun i => ((getSpan v i).neigh.filter (fun o => o.dist != 0xFF)).map (fun o => o.gm))
    let two := v.time.role = .follower ∧ ∃ g ∈ gms, ∃ h ∈ gms, g ≠ h
    let w := { v with time := { v.time with conflict := decide two } }
    neighborIn p s = if two ∧ s.time.conflict = false then
      spPost 0x1509 p v.time.gm ((gms.filter (fun g => g != v.time.gm)).foldl max 0) w else w := by
  intro n v gms two w
  have htwo : (gms.any (fun g => gms.any (fun h => g != h)) && v.time.role == .follower) = decide two :=
    Bool.eq_iff_iff.2 (by simp [two, and_comm])
  have hposts : (gms.any (fun g => gms.any (fun h => g != h)) && !s.time.conflict && v.time.role == .follower) = true ↔
      two ∧ s.time.conflict = false := by
    simp [two]
    tauto
  rw [neighborIn, h]
  show when_ (gms.any (fun g => gms.any (fun h => g != h)) && !s.time.conflict && v.time.role == .follower)
    (spPost 0x1509 p v.time.gm ((gms.filter (fun g => g != v.time.gm)).foldl max 0))
    { v with
      time := { v.time with conflict := gms.any (fun g => gms.any (fun h => g != h)) && v.time.role == .follower } } = _
  rw [htwo]
  exact if_congr hposts rfl rfl

theorem syncFuIn_none (h : takeMsg p (fun m => msgType m == 3) s = none) : syncFuIn p s = s := by
  rw [syncFuIn, h]

variable (hmsg : takeMsg p (fun m => msgType m == 3) s = some (x, u))
include hmsg

theorem syncFuIn_other (h : s.time.role ≠ .follower ∨ s.time.parent ≠ some p) : syncFuIn p s = freeMsg p x u := by
  rw [syncFuIn, hmsg]
  exact if_pos (by simpa using h)

variable (hrole : s.time.role = .follower) (hparent : s.time.parent = some p)
include hrole hparent

theorem syncFuIn_first (h : (freeMsg p x u).time.t1 = none) :
    let w := freeMsg p x u
    let v := { w with time := { w.time with lastFu := now s } }
    let st := fld x.bytes 8 4 + 2 ^ 32 * fld x.bytes 12 3
    syncFuIn p s = { v with time := { v.time with t1 := some (if (getSpan s p).version = 3 then st else st * 64 % 2 ^ 56) } } := by
  rw [syncFuIn, hmsg]
  refine (if_neg (by simp [hrole, hparent])).trans ?_
  simp only [h]

theorem syncFuIn_second {t1 : Nat} (h : (freeMsg p x u).time.t1 = some t1) :
    let w := freeMsg p x u
    let v := { w with time := { w.time with lastFu := now s } }
    let st := fld x.bytes 8 4 + 2 ^ 32 * fld x.bytes 12 3
    let t := if (getSpan s p).version = 3 then st else st * 64 % 2 ^ 56
    syncFuIn p s = exchangeDone (stampDiff (v.time.t2 % 2 ^ 56) t1 - stampDiff t (v.time.t3 % 2 ^ 56))
      { v with time := { v.time with t1 := none } } := by
  rw [syncFuIn, hmsg]
  refine (if_neg (by simp [hrole, hparent])).trans ?_
  simp only [h]

end

/-! ## A completed exchange (R405) -/

section
variable {off : Int} {s : State}

theorem exchangeDone_steps (hst : s.time.st ≠ .locked) (hfar : 128000 < off.natAbs) (hstopped : s.seq.started = false)
    (hlaunch : s.seq.launchArmed = none) :
    exchangeDone off s = post 0x150C 0 0 (ux 64 (-off / 128) % 2 ^ 32) (ux 64 (-off / 128) / 2 ^ 32) { s with time := { s.time with
      offset := off, lastFu := now s, ks := BitVec.ofInt 88 ((s.time.ks.toNat : Int) - off * 2 ^ 17), st := .acquire,
      inTol := 0, outTol := 0, ksInc := 0x0A000000 } } := by
  refine if_pos ?_
  cases hs : s.time.st <;> simp_all

/-- An exchange that does not step leaves the count, slews it, and moves the sync state by the exchanges in and out of tolerance. -/
theorem exchangeDone_slews
    (hnear : ¬(s.time.st ≠ .locked ∧ 128000 < off.natAbs ∧ s.seq.started = false ∧ s.seq.launchArmed = none)) :
    ∃ i o, (exchangeDone off s).time = { s.time with
      offset := off, lastFu := now s, ksInc := BitVec.ofInt 32 (0x0A000000 - (max (-6400) (min 6400 off)) * 2 ^ 17 / 10000),
      inTol := i, outTol := o,
      st := if s.time.st = .unsync ∨ s.time.st = .holdover then .acquire
        else if s.time.st = .locked ∧ 2048 < off.natAbs ∧ 3 ≤ s.time.outTol then .acquire
        else if s.time.st = .acquire ∧ off.natAbs ≤ 512 ∧ 15 ≤ s.time.inTol then .locked
        else s.time.st } := by
  have hin : (16 ≤ if off.natAbs ≤ 512 then s.time.inTol + 1 else 0) ↔ off.natAbs ≤ 512 ∧ 15 ≤ s.time.inTol := by
    split <;> omega
  have hout : (4 ≤ if 2048 < off.natAbs then s.time.outTol + 1 else 0) ↔ 2048 < off.natAbs ∧ 3 ≤ s.time.outTol := by
    split <;> omega
  rw [exchangeDone, if_neg]
  · cases hst : s.time.st with
    | unsync => exact ⟨_, _, by simp; exact ⟨rfl, rfl⟩⟩
    | holdover => exact ⟨_, _, by simp; exact ⟨rfl, rfl⟩⟩
    | acquire =>
      by_cases hlock : off.natAbs ≤ 512 ∧ 15 ≤ s.time.inTol
      · exact ⟨_, _, by simp [hlock]; exact ⟨rfl, rfl⟩⟩
      · exact ⟨_, _, by simp [hin, hlock]; exact ⟨rfl, rfl⟩⟩
    | locked =>
      by_cases hlost : 2048 < off.natAbs ∧ 3 ≤ s.time.outTol
      · exact ⟨_, _, by simp [hlost]; exact ⟨rfl, rfl⟩⟩
      · exact ⟨_, _, by simp [hout, hlost]; exact ⟨rfl, rfl⟩⟩
  · intro h
    refine hnear ?_
    cases hst : s.time.st <;> simp_all

end

/-- Settles O40: the sends and the messages taken branch by port and role; a parent is a least offer; an exchange steps or slews. -/
theorem keystoneExchangeCompletes : Obligations.KeystoneExchangeCompletes :=
  ⟨fun s => done_eq (neighborSend_eq s),
    fun _ _ => ⟨fun h => done_eq (neighborIn_none h), fun _ _ h => done_eq (neighborIn_some h)⟩,
    fun s => ⟨fun f p n hfixed h => by
        rw [chooseParent_fixed hfixed] at h
        exact ⟨by simpa using List.find?_some h, mem_parentOffers.1 (List.mem_of_find?_eq_some h)⟩,
      fun hfree => ⟨fun p n h => by
          obtain ⟨hmem, hleast⟩ := chooseParent_least hfree h
          exact ⟨mem_parentOffers.1 hmem, fun q o ho => hleast (q, o) (mem_parentOffers.2 ho)⟩,
        fun h q o hgm ho => (chooseParent_none hfree h (q, o) (mem_parentOffers.2 ho)).not_gt hgm⟩⟩,
    fun s => ⟨fun ⟨_, hlast, hle, hlt⟩ => done_eq (syncExchange_early hlast hle hlt), fun h => done_eq (syncExchange_due h)⟩,
    fun _ _ => ⟨fun h => done_eq (syncBlock_idle h), fun hup hrole hparent => done_eq (syncBlock_stamps hup hrole hparent),
      fun hup hrole hchild => done_eq (syncBlock_answers hup hrole hchild)⟩,
    fun _ _ => ⟨fun h => done_eq (syncFuIn_none h), fun _ _ hmsg => ⟨fun h => done_eq (syncFuIn_other hmsg h),
      fun hrole hparent => ⟨fun h => done_eq (syncFuIn_first hmsg hrole hparent h),
        fun _ h => done_eq (syncFuIn_second hmsg hrole hparent h)⟩⟩⟩,
    fun off s => ⟨fun ⟨hst, hfar, hstopped, hlaunch⟩ => exchangeDone_steps hst hfar hstopped hlaunch, fun hnear => by
      obtain ⟨i, o, htime⟩ := exchangeDone_slews hnear
      rw [htime]
      exact ⟨rfl, rfl, rfl⟩⟩⟩

end Sys2Proof.Machine
end

section
/-! SUPPORT. Power domains (R416 to R426, R444): what a state loses, the answers to PREPARE, the wakes, and the commands that set and
read policies.
-/

namespace Sys2Proof.Machine

/-! ## What leaves ON loses (R416) -/

theorem getDom_enterState (d : Nat) (t : PdSt) (s : State) : getDom (enterState d t s) d =
    { getDom (loseDom d t s) d with st := t, prep := none, padHold := !isBank d } := getDom_setDom ..

theorem tollGroup_cases (s : State) : tollGroup s = 60 ∨ tollGroup s = 62 := by
  unfold tollGroup
  split
  · exact .inl rfl
  · exact .inr rfl

section
variable {s : State} {d : Nat} (h : isMc d = true)
include h

theorem isMc_range : 59 ≤ d ∧ d ≤ 62 := of_decide_eq_true h

/-- No retention of a memory-controller group loses anything. -/
theorem loseDom_mc_retention : loseDom d .retention s = s := by
  obtain ⟨hlow, hhigh⟩ := isMc_range h
  exact (if_neg (by simp [isGd]; omega)).trans <| (if_neg (by simp [isTd]; omega)).trans <| (if_neg (by simp [isBank]; omega)).trans <|
    (if_neg (by simp)).trans <| (if_neg (by omega)).trans (if_neg (by omega))

theorem loseDom_mc_off : loseDom d .off s =
    let s1 := if d = tollGroup s then { s with mem := { s.mem with toll := [] } } else s
    if deckGroup s d then setDeckMem .dram (s.deck.dram.filter (fun c => deckChan s c.1 / 4 != d - 59)) s1 else s1 := by
  obtain ⟨hlow, hhigh⟩ := isMc_range h
  exact (if_neg (by simp [isGd]; omega)).trans <| (if_neg (by simp [isTd]; omega)).trans <| (if_neg (by simp [isBank]; omega)).trans <|
    if_pos (by simp [h])

end

theorem isMc_tollGroup (s : State) : isMc (tollGroup s) = true := by
  obtain h | h := tollGroup_cases s <;> rw [h] <;> rfl

theorem loseDom_toll_off (s : State) : (loseDom (tollGroup s) .off s).mem.toll = [] := by
  rw [loseDom_mc_off (isMc_tollGroup s)]
  simp only [if_true]
  split <;> rfl

section
variable (s : State) {i : Nat} (h : i < 12)
include h

theorem loseDom_bank (t : PdSt) : loseDom (64 + i) t s =
    if t == .retention then s else setDeckMem .abut (memClear s.deck.abut (abutBankBytes * i) abutBankBytes) s := by
  refine (if_neg (by simp [isGd]; omega)).trans <| (if_neg (by simp [isTd]; omega)).trans <|
    (if_pos (by simp [isBank]; omega)).trans ?_
  rw [Nat.add_sub_cancel_left]

end

theorem girder_loseDom (s : State) {n : Nat} (t : PdSt) (h : n < 32) : let g := getGirder (loseDom (1 + n) t s) n
    g.active = WSet0 ∧ g.shadow = WSet0 ∧ g.acc = AccBank0 ∧ g.drain = AccBank0 := by
  intro g
  simp only [g]
  rw [loseDom, if_pos (by simp [isGd]; omega), Nat.add_sub_cancel_left, getGirder_setGirder]
  split <;> exact ⟨rfl, rfl, rfl, rfl⟩

theorem cam_loseDom (s : State) {p : Nat} (t : PdSt) (h : p < 4) : (getCam (loseDom (46 + p) t s) p).connUp = 0 := by
  rw [loseDom, if_neg (by simp [isGd]; omega), if_neg (by simp [isTd]; omega),
    if_neg (by simp [isBank]; omega), if_neg (by simp [isMc]; omega), if_pos (by omega), Nat.add_sub_cancel_left, getCam_setCam]

/-! ## The handshake (R419 to R421) -/

section
variable {s : State} {d : Nat}

theorem prepareAnswer_none {busy : Nat} (h : (getDom s d).prep = none) : prepareAnswer d busy s = s := by rw [prepareAnswer, h]
theorem prepareTimeout_none (h : (getDom s d).prep = none) : prepareTimeout d s = s := by rw [prepareTimeout, h]
theorem prepareDelayExpiry_none (h : (getDom s d).prep = none) : prepareDelayExpiry d s = s := by rw [prepareDelayExpiry, h]

variable {e : Prep} (hprep : (getDom s d).prep = some e)
include hprep

theorem prepareAnswer_some (busy : Nat) : prepareAnswer d busy s =
    if (e.again.isSome || decide (e.sentAt + 10000 < now s)) = true then s
    else if (e.served || mustRefuse s d e.target) = true then setDom s d { getDom s d with prep := none }
    else if (isMc d && busy != 0) = true then
      setDom s d { getDom s d with prep := some { e with delayUs := e.delayUs + busy, again := some (now s + 1000 * busy) } }
    else enterState d e.target s := by
  rw [prepareAnswer, hprep]

theorem prepareAnswer_late {busy : Nat} (h : e.again ≠ none ∨ e.sentAt + 10000 < now s) : prepareAnswer d busy s = s := by
  rw [prepareAnswer_some hprep, if_pos (by simpa [Option.isSome_iff_ne_none] using h)]

theorem prepareTimeout_some : prepareTimeout d s = if (e.again.isNone && decide (e.sentAt + 10000 ≤ now s)) = true then
    post 0x1601 0 (domNo d) (pdCode e.target) 0 (setDom s d { getDom s d with prep := none }) else s := by
  rw [prepareTimeout, hprep]

theorem prepareTimeout_fires (hagain : e.again = none) (hlate : e.sentAt + 10000 ≤ now s) :
    prepareTimeout d s = post 0x1601 0 (domNo d) (pdCode e.target) 0 (setDom s d { getDom s d with prep := none }) := by
  rw [prepareTimeout_some hprep, if_pos (by simp [hagain, hlate])]

theorem prepareTimeout_idle (h : e.again ≠ none ∨ now s < e.sentAt + 10000) : prepareTimeout d s = s := by
  rw [prepareTimeout_some hprep, if_neg]
  simpa [or_iff_not_imp_left] using h

theorem prepareDelayExpiry_no_delay (hagain : e.again = none) : prepareDelayExpiry d s = s := by
  simp only [prepareDelayExpiry, hprep, hagain]

section
variable {t : Nat} (hagain : e.again = some t)
include hagain

theorem prepareDelayExpiry_some : prepareDelayExpiry d s = if now s < t then s
    else if 100000 < e.delayUs then
      post 0x1602 0 (domNo d) (pdCode e.target) 0 (setDom s d { getDom s d with prep := none, gaveUp := true })
    else setDom s d { getDom s d with prep := some { e with sentAt := now s, again := none, served := false } } := by
  simp only [prepareDelayExpiry, hprep, hagain]

theorem prepareDelayExpiry_early (h : now s < t) : prepareDelayExpiry d s = s := by
  rw [prepareDelayExpiry_some hprep hagain, if_pos h]

theorem prepareDelayExpiry_gives_up (h : t ≤ now s) (hlong : 100000 < e.delayUs) : prepareDelayExpiry d s =
    post 0x1602 0 (domNo d) (pdCode e.target) 0 (setDom s d { getDom s d with prep := none, gaveUp := true }) := by
  rw [prepareDelayExpiry_some hprep hagain, if_neg h.not_gt, if_pos hlong]

theorem prepareDelayExpiry_again (h : t ≤ now s) (hshort : e.delayUs ≤ 100000) : prepareDelayExpiry d s =
    setDom s d { getDom s d with prep := some { e with sentAt := now s, again := none, served := false } } := by
  rw [prepareDelayExpiry_some hprep hagain, if_neg h.not_gt, if_neg hshort.not_gt]

end

variable {busy : Nat} (hagain : e.again = none) (hearly : now s ≤ e.sentAt + 10000)
include hagain hearly

theorem prepareAnswer_refuses (h : e.served = true ∨ mustRefuse s d e.target = true) :
    prepareAnswer d busy s = setDom s d { getDom s d with prep := none } := by
  rw [prepareAnswer_some hprep, if_neg (by simp [hagain, hearly]), if_pos (by simpa using h)]

variable (hserved : e.served = false) (hfree : mustRefuse s d e.target = false)
include hserved hfree

theorem prepareAnswer_delays (hmc : isMc d = true) (hbusy : busy ≠ 0) : prepareAnswer d busy s =
    setDom s d { getDom s d with
      prep := some { e with delayUs := e.delayUs + busy, again := some (now s + 1000 * busy) } } := by
  rw [prepareAnswer_some hprep, if_neg (by simp [hagain, hearly]), if_neg (by simp [hserved, hfree]), if_pos (by simp [hmc, hbusy])]

theorem prepareAnswer_accepts (h : isMc d = false ∨ busy = 0) : prepareAnswer d busy s = enterState d e.target s := by
  rw [prepareAnswer_some hprep, if_neg (by simp [hagain, hearly]), if_neg (by simp [hserved, hfree]), if_neg]
  simpa [or_iff_not_imp_left] using h

end

/-! ## Wakes (R422 to R426) -/

section
variable {s : State} {d src : Nat} {req : Option Nat}

theorem wakeDom_idle (h : (getDom s d).fused = true ∨ s.steward.trip = true ∨ s.rst.pfail = true ∨ (getDom s d).st = .on ∨
    (getDom s d).st = .transition) : wakeDom d src req s = s := by
  refine if_pos ?_
  obtain h | h | h | h | h := h <;> simp [h]

section
variable (hlive : (getDom s d).fused = false) (htrip : s.steward.trip = false) (hpfail : s.rst.pfail = false)
  (hdown : (getDom s d).st = .off ∨ (getDom s d).st = .retention)
include hlive htrip hpfail hdown

theorem wakeDom_eq : wakeDom d src req s =
    let s1 := setDom s d { getDom s d with st := .transition, wakeSrc := BitVec.ofNat 4 src, prep := none }
    { s1 with
      pwr := { s1.pwr with lastDomain := if d < 64 then d else 41, lastSrc := BitVec.ofNat 4 src,
                           lastReq := BitVec.ofNat 6 (req.getD (Config.noRequester src d)), stamp := now s } } := by
  refine if_neg ?_
  obtain h | h := hdown <;> simp [h, hlive, htrip, hpfail]

theorem wakeDom_starts : getDom (wakeDom d src req s) d =
    { getDom s d with st := .transition, wakeSrc := BitVec.ofNat 4 src, prep := none } ∧
    (wakeDom d src req s).pwr.stamp = now s := by
  rw [wakeDom_eq hlive htrip hpfail hdown]
  exact ⟨getDom_setDom .., rfl⟩

end

theorem onDemandWake_eq (s : State) (d : Nat) (req : BitVec 6) : onDemandWake d req.toNat s =
    if (isMc d = true ∨ isBank d = true) ∧ (req.toNat < 12 ∨ req = 0x3F) then wakeDom d 5 (some req.toNat) s else s := by
  refine if_congr ?_ rfl rfl
  simp [← BitVec.toNat_inj]

theorem wakeComplete_idle (h : (getDom s d).st ≠ .transition) : wakeComplete d s = s := if_pos (by simpa using h)

section
variable (h : (getDom s d).st = .transition)
include h

theorem wakeComplete_eq : wakeComplete d s =
    let s1 := setDom s d { getDom s d with
      st := .on, padHold := (getDom s d).padHold && (getDom s d).holdPads && (getDom s d).wakeSrc == 4 }
    if 51 ≤ d ∧ d ≤ 58 then
      when_ ((getSpan s1 (d - 51)).enabled && (getSpan s1 (d - 51)).st == .disabled) (startTrain (d - 51)) s1
    else when_ (isMc d) (autoOne d) s1 := if_neg (by simp [h])

variable {s1 : State} (hs1 : s1 = setDom s d { getDom s d with
    st := .on, padHold := (getDom s d).padHold && (getDom s d).holdPads && (getDom s d).wakeSrc == 4 })
include hs1

theorem wakeComplete_span (hspan : 51 ≤ d ∧ d ≤ 58) : wakeComplete d s =
    if (getSpan s (d - 51)).enabled = true ∧ (getSpan s (d - 51)).st = .disabled then startTrain (d - 51) s1 else s1 := by
  subst hs1
  rw [wakeComplete_eq h]
  refine (if_pos hspan).trans (if_congr ?_ rfl rfl)
  rw [Bool.and_eq_true, beq_iff_eq]
  exact Iff.rfl

theorem wakeComplete_mc (hmc : isMc d = true) : wakeComplete d s = autoOne d s1 := by
  subst hs1
  rw [wakeComplete_eq h]
  obtain ⟨hlow, -⟩ := isMc_range hmc
  exact (if_neg (by omega)).trans (if_pos hmc)

theorem wakeComplete_other (hspan : d < 51 ∨ 58 < d) (hmc : isMc d = false) : wakeComplete d s = s1 := by
  subst hs1
  rw [wakeComplete_eq h]
  exact (if_neg (by omega)).trans (if_neg (by simp [hmc]))

end

theorem accessOff_idle {a r : Nat} (h : wakesOnDemand d = true ∨ (getDom s d).st = .on) : accessOff d r a s = s :=
  if_pos (by simpa [isOn] using h)

theorem accessOff_posts {a r : Nat} (hdemand : wakesOnDemand d = false) (hoff : (getDom s d).st ≠ .on) :
    accessOff d r a s = post 0x2603 0 d r a s :=
  if_neg (by simp [isOn, hdemand, hoff])

end

/-! ## The idle toll group, and what the steward asks for (R419, R444) -/

section
variable {s : State} {d : Nat} {t : PdSt}

theorem sendPrepare_asks (hon : (getDom s d).st = .on) (hfree : (getDom s d).prep = none) (hlive : (getDom s d).fused = false) :
    sendPrepare d t s = setDom s d { getDom s d with prep := some ⟨t, now s, 0, none, false⟩ } :=
  if_pos ⟨hon, hfree, by simp [hlive]⟩

theorem sendPrepare_idle (h : (getDom s d).st ≠ .on ∨ (getDom s d).prep ≠ none ∨ (getDom s d).fused = true) :
    sendPrepare d t s = s := by
  refine if_neg fun ⟨hon, hfree, hlive⟩ => ?_
  obtain h | h | h := h
  · exact h hon
  · exact h hfree
  · simp [h] at hlive

/-- The toll group holds deck channels on the SG7-C alone. -/
theorem deckGroup_tollGroup (s : State) : deckGroup s (tollGroup s) = true ↔ s.grade = .c := by
  by_cases hc : s.grade = .c <;> simp [deckGroup, tollGroup, hc]

theorem mc3Idle_asks (hpolicy : (getDom s (tollGroup s)).policy = 0) (hon : (getDom s (tollGroup s)).st = .on)
    (hfree : (getDom s (tollGroup s)).prep = none) (hlive : (getDom s (tollGroup s)).fused = false)
    (hdeck : s.grade ≠ .c ∨ s.seq.started = false) (hlate : s.mem.tollAt + 100000 ≤ now s) :
    mc3Idle s = setDom s (tollGroup s) { getDom s (tollGroup s) with prep := some ⟨.retention, now s, 0, none, false⟩ } := by
  refine (if_pos ⟨hpolicy, hlate, ?_⟩).trans (sendPrepare_asks hon hfree hlive)
  rw [Bool.and_eq_false_iff, ← Bool.not_eq_true, deckGroup_tollGroup]
  exact hdeck

theorem mc3Idle_idle (h : (getDom s (tollGroup s)).policy ≠ 0 ∨ (getDom s (tollGroup s)).st ≠ .on ∨
    (getDom s (tollGroup s)).prep ≠ none ∨ (getDom s (tollGroup s)).fused = true ∨ now s < s.mem.tollAt + 100000 ∨
    (s.grade = .c ∧ s.seq.started = true)) : mc3Idle s = s := by
  obtain h | h | h | h | h | ⟨hc, hlive⟩ := h
  · exact if_neg fun ⟨hpolicy, _⟩ => h hpolicy
  · exact (ite_eq_right_iff.2 fun _ => sendPrepare_idle (.inl h))
  · exact (ite_eq_right_iff.2 fun _ => sendPrepare_idle (.inr (.inl h)))
  · exact (ite_eq_right_iff.2 fun _ => sendPrepare_idle (.inr (.inr h)))
  · exact if_neg fun ⟨_, hlate, _⟩ => h.not_ge hlate
  · exact if_neg fun ⟨_, _, hdeck⟩ => by simp [(deckGroup_tollGroup s).2 hc, hlive] at hdeck

end

/-- Settles O41: each answer, time-out and wake by the state of the domain and its entry; what is lost by the kind of domain. -/
theorem powerHandshakeCompletes : Obligations.PowerHandshakeCompletes :=
  ⟨fun _ _ busy _ hprep => ⟨fun h => done_eq (prepareAnswer_late hprep h),
      fun hagain hearly h => done_eq (prepareAnswer_refuses hprep hagain hearly h),
      fun hagain hearly hserved hfree hmc hbusy =>
        done_eq (prepareAnswer_delays hprep hagain hearly hserved hfree hmc fun h => hbusy (BitVec.eq_of_toNat_eq h)),
      fun hagain hearly hserved hfree h =>
        done_eq (prepareAnswer_accepts hprep hagain hearly hserved hfree (h.imp_right fun hbusy => by rw [hbusy]; rfl))⟩,
    fun d t s => by rw [getDom_enterState]; exact ⟨rfl, rfl, rfl⟩,
    fun s i hi => ⟨loseDom_bank s hi .retention, by rw [loseDom_bank s hi]; rfl⟩,
    fun s => ⟨loseDom_mc_retention (isMc_tollGroup s), loseDom_toll_off s⟩,
    fun s _ t hn => girder_loseDom s t hn,
    fun s _ t hp => cam_loseDom s t hp,
    fun _ _ h => ⟨done_eq (prepareAnswer_none h), done_eq (prepareTimeout_none h), done_eq (prepareDelayExpiry_none h)⟩,
    fun _ _ _ hprep => ⟨fun hagain hlate => done_eq (prepareTimeout_fires hprep hagain hlate),
      fun h => done_eq (prepareTimeout_idle hprep h), fun hagain => done_eq (prepareDelayExpiry_no_delay hprep hagain)⟩,
    fun _ _ _ _ hprep hagain => ⟨fun h => done_eq (prepareDelayExpiry_early hprep hagain h),
      fun h hlong => done_eq (prepareDelayExpiry_gives_up hprep hagain h hlong),
      fun h hshort => done_eq (prepareDelayExpiry_again hprep hagain h hshort)⟩,
    fun s d req => done_eq (onDemandWake_eq s d req),
    fun d src req s hlive htrip hpfail hdown => by
      obtain ⟨hdom, hstamp⟩ := wakeDom_starts (src := src) (req := req) hlive htrip hpfail hdown
      rw [hdom]
      exact ⟨rfl, rfl, hstamp⟩,
    fun _ _ _ _ h => wakeDom_idle h,
    fun _ _ => ⟨fun h _ hs1 => ⟨fun hspan => done_eq (wakeComplete_span h hs1 hspan), fun hmc => done_eq (wakeComplete_mc h hs1 hmc),
        fun hspan hmc => done_eq (wakeComplete_other h hs1 hspan hmc)⟩,
      fun h => done_eq (wakeComplete_idle h)⟩,
    fun _ _ _ _ => ⟨fun h => done_eq (accessOff_idle h), fun hdemand hoff => done_eq (accessOff_posts hdemand hoff)⟩,
    fun _ => ⟨fun hpolicy hon hfree hlive hdeck hlate => done_eq (mc3Idle_asks hpolicy hon hfree hlive hdeck hlate),
      fun h => done_eq (mc3Idle_idle h)⟩,
    fun _ => rfl⟩

end Sys2Proof.Machine
end

section
/-! SUPPORT. The commands of power and of the steward (R425, R443, R444, R445): a policy applied to one domain, and the answers. -/

namespace Sys2Proof.Machine

/-! ## PWR_SET (R444) -/

/-- An entry of the request takes from the running rating what it needs. -/
def TakesFromRating (s : State) (p : List Byte) : Prop :=
  ∃ e d, e < p.length / 8 ∧ 2 ≤ pwPol p e ∧ d ∈ pwTargets p e ∧ ratingNeeds s d = true

/-- An entry of the request takes OFF a memory-controller group that holds allocations. -/
def TakesAllocations (s : State) (p : List Byte) : Prop :=
  ∃ e, e < p.length / 8 ∧ pwPol p e = 3 ∧ isMc (pwDom p e) = true ∧ mcHolds s (pwDom p e) = true

section
variable {s : State} {p : List Byte}

theorem takesFromRating_iff : (List.range (p.length / 8)).any (fun e =>
    decide (2 ≤ pwPol p e) && (pwTargets p e).any (ratingNeeds s)) = true ↔ TakesFromRating s p := by
  simp only [List.any_eq_true, List.mem_range, Bool.and_eq_true, decide_eq_true_eq, TakesFromRating]
  exact ⟨fun ⟨e, he, hpol, d, hd, hneeds⟩ => ⟨e, d, he, hpol, hd, hneeds⟩,
    fun ⟨e, d, he, hpol, hd, hneeds⟩ => ⟨e, he, hpol, d, hd, hneeds⟩⟩

theorem takesAllocations_iff : (List.range (p.length / 8)).any (fun e =>
    pwPol p e == 3 && isMc (pwDom p e) && mcHolds s (pwDom p e)) = true ↔ TakesAllocations s p := by
  simp [TakesAllocations, and_assoc]

theorem bodyPwrSet_busy (h : TakesFromRating s p) : bodyPwrSet s p = no s (refuse stBusyRunning) := by
  have hrefusal : pwrRefusal s p = some (refuse stBusyRunning) := if_pos (takesFromRating_iff.2 h)
  rw [bodyPwrSet, hrefusal]

section
variable (hrating : ¬TakesFromRating s p)
include hrating

theorem bodyPwrSet_in_use (h : TakesAllocations s p) : bodyPwrSet s p = no s (refuse stInUse) := by
  have hrefusal : pwrRefusal s p = some (refuse stInUse) :=
    (if_neg (takesFromRating_iff.not.2 hrating)).trans (if_pos (takesAllocations_iff.2 h))
  rw [bodyPwrSet, hrefusal]

theorem bodyPwrSet_applies (h : ¬TakesAllocations s p) :
    bodyPwrSet s p = yes ((List.range (p.length / 8)).foldl (fun a e =>
      (pwTargets p e).foldl (pwrApply (pwPol p e) (pwHold p e) (pwRet p e))
        (if pwDom p e = 41 then setDom a 41 { getDom a 41 with policy := BitVec.ofNat 2 (pwPol p e) } else a)) s) [] := by
  have hrefusal : pwrRefusal s p = none :=
    (if_neg (takesFromRating_iff.not.2 hrating)).trans (if_neg (takesAllocations_iff.not.2 h))
  rw [bodyPwrSet, hrefusal]

end

end

/-! ## A policy applied to one domain (R444) -/

/-- The domain as its policy is set, before the steward acts on it. -/
def policySet (pol : Nat) (hold_ : Bool) (ret : Nat) (s : State) (d : Nat) : State :=
  setDom s d { getDom s d with
    policy := BitVec.ofNat 2 pol, holdPads := hold_, retMask := BitVec.ofNat 16 ret, gaveUp := false }

theorem getDom_policySet (pol : Nat) (hold_ : Bool) (ret : Nat) (s : State) (d : Nat) : getDom (policySet pol hold_ ret s d) d =
    { getDom s d with policy := BitVec.ofNat 2 pol, holdPads := hold_, retMask := BitVec.ofNat 16 ret, gaveUp := false } :=
  getDom_setDom ..

section
variable {s : State} {d : Nat} {t : PdSt}

theorem goDown_on (hon : (getDom s d).st = .on) : goDown d t s = sendPrepare d t s := if_neg (by simp [hon])

theorem goDown_off_of_retention (h : (getDom s d).st = .retention) : goDown d .off s = enterState d .off s := if_pos ⟨h, rfl⟩

theorem getDom_goDown_on (hon : (getDom s d).st = .on) (hfree : (getDom s d).prep = none) (hlive : (getDom s d).fused = false) :
    getDom (goDown d t s) d = { getDom s d with prep := some ⟨t, now s, 0, none, false⟩ } := by
  rw [goDown_on hon, sendPrepare_asks hon hfree hlive, getDom_setDom]

variable {hold_ : Bool} {ret : Nat}

theorem pwrApply_on (hlive : (getDom s d).fused = false) (hdown : (getDom s d).st = .off ∨ (getDom s d).st = .retention)
    (htrip : s.steward.trip = false) (hpfail : s.rst.pfail = false) : getDom (pwrApply 1 hold_ ret s d) d =
    { getDom (policySet 1 hold_ ret s d) d with st := .transition, wakeSrc := 4, prep := none } := by
  refine (wakeDom_starts (s := policySet 1 hold_ ret s d) ?_ htrip hpfail ?_).1
  all_goals rwa [getDom_policySet]

section
variable (hlive : (getDom s d).fused = false) (hon : (getDom s d).st = .on) (hfree : (getDom s d).prep = none)
include hlive hon hfree

theorem pwrApply_retention : getDom (pwrApply 2 hold_ ret s d) d =
    { getDom (policySet 2 hold_ ret s d) d with prep := some ⟨.retention, now s, 0, none, false⟩ } := by
  refine getDom_goDown_on (s := policySet 2 hold_ ret s d) ?_ ?_ ?_
  all_goals rwa [getDom_policySet]

theorem pwrApply_off : getDom (pwrApply 3 hold_ ret s d) d =
    { getDom (policySet 3 hold_ ret s d) d with prep := some ⟨.off, now s, 0, none, false⟩ } := by
  refine getDom_goDown_on (s := policySet 3 hold_ ret s d) ?_ ?_ ?_
  all_goals rwa [getDom_policySet]

end

theorem pwrApply_off_of_retention (h : (getDom s d).st = .retention) :
    pwrApply 3 hold_ ret s d = enterState d .off (policySet 3 hold_ ret s d) :=
  goDown_off_of_retention (s := policySet 3 hold_ ret s d) (by rwa [getDom_policySet])

end

/-! ## STEWARD_FIX (R443, R493) -/

section
variable {s : State} {p : List Byte}

theorem applyFix_idle (h : s.seq.started = false) :
    applyFix p s = ({ s with steward := { s.steward with fix := some (fld1 p 0, fld p 2 2) } }, okWith []) :=
  if_pos (by simp [h])

variable (h : s.seq.started = true)
include h

theorem applyFix_not_eligible (hnone : (eligibleRatings s).find? (fun r => r.idx == fld1 p 0) = none) :
    applyFix p s = (s, badParam 0) := by
  simp [applyFix, h, hnone]

variable {r : Rating} (hsome : (eligibleRatings s).find? (fun r => r.idx == fld1 p 0) = some r)
include hsome

theorem applyFix_below_floor (hlow : fld p 2 2 < r.vfloor) : applyFix p s = (s, badParam 2) := by
  simp [applyFix, h, hsome, hlow]

theorem applyFix_names (hfit : r.vfloor ≤ fld p 2 2) :
    applyFix p s = ({ s with steward := { s.steward with fix := some (fld1 p 0, fld p 2 2) } }, okWith []) := by
  simp [applyFix, h, hsome, hfit]

end

/-- Settles O42: PWR_SET by what its entries take, a policy by the domain's state, STEWARD_FIX by whether crossings run. -/
theorem powerCommandsComplete : Obligations.PowerCommandsComplete :=
  ⟨fun s _ _ _ h => ⟨fun hbusy => done_no h (bodyPwrSet_busy (s := takeReq s) hbusy),
      fun hrating hused => done_no h (bodyPwrSet_in_use (s := takeReq s) hrating hused),
      fun hrating hfree => done_yes h (bodyPwrSet_applies (s := takeReq s) hrating hfree)⟩,
    fun hold_ ret s d hlive => ⟨fun hdown htrip hpfail => by
        rw [pwrApply_on hlive hdown htrip hpfail, getDom_policySet]
        exact ⟨rfl, rfl, rfl⟩,
      fun hon hfree => by
        rw [pwrApply_retention hlive hon hfree, pwrApply_off hlive hon hfree, getDom_policySet, getDom_policySet]
        exact ⟨rfl, rfl, rfl, rfl⟩,
      fun h => by
        rw [pwrApply_off_of_retention h, getDom_enterState]
        exact ⟨rfl, rfl⟩⟩,
    fun _ _ _ _ => rfl,
    fun _ _ _ _ h => done_yes h rfl,
    fun _ _ _ _ h => done_yes h rfl,
    fun _ _ _ _ h => ⟨done_no h rfl, done_yes h rfl⟩,
    fun s _ _ _ h => ⟨fun hidle => done_yes h (boundaryCmd_applies (s := takeReq s) rfl hidle (applyFix_idle (s := takeReq s) hidle)),
      fun hlive => done_none h (boundaryCmd_waits (s := takeReq s) rfl hlive)⟩,
    fun _ _ h => ⟨fun hnone => applyFix_not_eligible h hnone, fun _ hsome hlow => applyFix_below_floor h hsome hlow,
      fun _ hsome hfit => applyFix_names h hsome hfit⟩⟩

end Sys2Proof.Machine
end

section
/-! SUPPORT. Firmware updates, attestation, RESET, the completion of a command and ROM recovery (R489, R506, R519 to R523, R528). -/

namespace Sys2Proof.Machine

/-! ## FW_UPDATE (R519, R520) -/

section
variable {s : State} {p : List Byte} {m : Nat} {e : Option (BitVec 24)}

theorem bodyFwUpdate_used_up (h : s.sec.fw.seq = 0xFFFFFFFE) :
    bodyFwUpdate m e s p = hold m 0x0E01 p [.flash] false (some (refuse stState)) (tollUse 9 s) := if_pos h

variable (h : s.sec.fw.seq ≠ 0xFFFFFFFE)
include h

theorem bodyFwUpdate_refused {st : Nat} (hst : fwRefusal s (tollRead s (fld p 0 8) (fld p 8 4)) = some st) :
    bodyFwUpdate m e s p = hold m 0x0E01 p [.flash] false
      (some (if st = 0x0017 then ⟨st, 8, []⟩ else ⟨st, 0, []⟩)) (tollUse 9 s) := by
  refine (if_neg h).trans ?_
  rw [hst]
  by_cases hparam : st = 0x0017
  · subst hparam
    rfl
  · simp only [if_neg hparam, if_neg (show st ≠ stParam from hparam), refuse]

variable (hgood : fwRefusal s (tollRead s (fld p 0 8) (fld p 8 4)) = none)
include hgood

theorem bodyFwUpdate_writes : bodyFwUpdate m none s p = hold m 0x0E01 p [.flash] false
    (some (okWith (leBytes 1 (targetSlot s) ++ zeros 3 ++ leBytes 4 (s.sec.fw.seq + 1))))
    (tollUse 9 (writeSlot (targetSlot s) (tollRead s (fld p 0 8) (fld p 8 4)) s)) := by
  refine (if_neg h).trans ?_
  rw [hgood]

theorem bodyFwUpdate_flash_error (a : BitVec 24) : bodyFwUpdate m (some a) s p = hold m 0x0E01 p [.flash] false (some (refuse stState))
    (tollUse 9 (post 0x2802 0 0 a.toNat 0 (writeSlot (targetSlot s)
      ((tollRead s (fld p 0 8) (fld p 8 4)).take (a.toNat - slotAddr (targetSlot s))) s))) := by
  refine (if_neg h).trans ?_
  rw [hgood]

end

/-! ## ATTEST and RESET (R506, R528) -/

section
variable {s : State} {p sig : List Byte} {m : Nat}

theorem bodyAttest_busy (h : ∃ x ∈ s.gh.running, x.op = 0x0802 ∨ x.op = 0x0E01) : bodyAttest m sig s p = no s (refuse stBusy) :=
  if_pos (by simpa using h)

theorem bodyAttest_reports (h : ∀ x ∈ s.gh.running, x.op ≠ 0x0802 ∧ x.op ≠ 0x0E01) :
    bodyAttest m sig s p = hold m 0x0F01 p [] false (some (okWith (attestBody s p ++ padTo 384 sig))) s :=
  if_neg (by simpa using h)

theorem bodyReset_busy (hforce : bitOf (fld1 p 1) 0 = false) (h : ∃ e ∈ s.gh.mbx, e.1 ≠ m ∧ e.2.st = .busy) :
    bodyReset m s p = no s (refuse stBusy) := by
  obtain ⟨e, he, hne, hbusy⟩ := h
  refine if_pos ?_
  rw [hforce, Bool.not_false, Bool.and_true, List.any_eq_true]
  exact ⟨e, he, by simp [hne, hbusy]⟩

theorem bodyReset_due (h : bitOf (fld1 p 1) 0 = true ∨ ∀ e ∈ s.gh.mbx, e.1 ≠ m → e.2.st ≠ .busy) :
    bodyReset m s p = yes { s with gh := { s.gh with warmAt := resetDue 1 s } } [] := by
  refine if_neg ?_
  obtain hforce | hfree := h
  · simp [hforce]
  · rw [Bool.and_eq_true, List.any_eq_true]
    rintro ⟨⟨e, he, hbusy⟩, -⟩
    obtain ⟨hne, hst⟩ := by simpa using hbusy
    exact hfree e he hne hst

theorem resetDue_merges (s : State) (c : Nat) (h : s.rst.warm ≠ none ∨ s.gh.warmAt ≠ none) : resetDue c s = s.gh.warmAt := by
  unfold resetDue
  cases hwarm : s.rst.warm <;> cases hat : s.gh.warmAt <;> simp_all

theorem resetDue_first (s : State) (c : Nat) (hwarm : s.rst.warm = none) (hat : s.gh.warmAt = none) :
    resetDue c s = some (now s + 100000, c) := by
  simp [resetDue, hwarm, hat]

theorem resetDue_eq (s : State) (c : Nat) :
    resetDue c s = if s.rst.warm = none ∧ s.gh.warmAt = none then some (now s + 100000, c) else s.gh.warmAt := by
  split
  · next h => exact resetDue_first s c h.1 h.2
  · next h => exact resetDue_merges s c (by tauto)

end

/-! ## COMMAND_COMPLETE (R489) -/

section
variable {s : State} {m : Nat}

theorem commitFw_none (h : s.gh.running.find? (fun r => r.mbx == m && r.op == 0x0E01) = none) : commitFw m s = s := by
  rw [commitFw, h]

section
variable {x : Running} (hrun : s.gh.running.find? (fun r => r.mbx == m && r.op == 0x0E01) = some x)
include hrun

theorem commitFw_good {d : Nat} {resp : List Byte} (h : x.answer = some (0, d, resp)) : let slot := fld1 resp 0 % 2
    commitFw m s = flashProgram (commitAddr slot) (commitBytes slot (fld resp 4 4)
      (flashRead s (slotAddr slot) (fwSize (flashRead s (slotAddr slot) 64)))) s := by
  simp only [commitFw, hrun, h]

theorem commitFw_bad (h : x.answer = none ∨ ∃ st d resp, st ≠ 0 ∧ x.answer = some (st, d, resp)) : commitFw m s = s := by
  simp only [commitFw, hrun]
  obtain h | ⟨st, d, resp, hst, h⟩ := h
  · simp only [h]
  · rw [h]
    split
    · next heq => cases heq; exact absurd rfl hst
    · rfl

end

theorem flashProgram_gh (a : Nat) (bs : List Byte) (s : State) : (flashProgram a bs s).gh = s.gh := rfl

theorem commitFw_gh (m : Nat) (s : State) : (commitFw m s).gh = s.gh := by
  unfold commitFw
  split
  · rfl
  · split
    · exact flashProgram_gh ..
    · rfl

theorem completed_other {x : Running} (h : x.op ≠ 0x0302) : completed x s = s := if_neg h

theorem completed_apTable {x : Running} (h : x.op = 0x0302) : let i := fld1 x.payload 0
    completed x s = recConfigAt (apFirstLine s i) i 0x0302 x.payload (setCam s i { getCam s i with shadowNew := true }) := if_pos h

theorem commandComplete_publishes {x : Running} {a : Nat × Nat × List Byte} (hrun : s.gh.running.find? (fun r => r.mbx = m) = some x)
    (ha : x.answer = some a) : let u := completed x (commitFw m s)
    commandComplete m s = finish m ⟨a.1, a.2.1, a.2.2⟩
      { u with gh := { u.gh with running := u.gh.running.filter (fun r => r.mbx != m) } } := by
  have hrun' : (commitFw m s).gh.running.find? (fun r => r.mbx = m) = some x := by rw [commitFw_gh, hrun]
  have hready : readyAnswer (commitFw m s) m = some ⟨a.1, a.2.1, a.2.2⟩ := by simp [readyAnswer, hrun', ha]
  simp only [commandComplete, publish, hready, hrun']

section
variable (hidle : ∀ y ∈ s.gh.running, y.mbx = m → y.answer = none)
include hidle

theorem commitFw_idle : commitFw m s = s := by
  cases hrun : s.gh.running.find? (fun r => r.mbx == m && r.op == 0x0E01) with
  | none => exact commitFw_none hrun
  | some x =>
    obtain ⟨hmbx, -⟩ := by simpa using List.find?_some hrun
    exact commitFw_bad hrun (.inl (hidle x (List.mem_of_find?_eq_some hrun) hmbx))

theorem readyAnswer_idle : readyAnswer s m = none := by
  rw [readyAnswer, Option.bind_eq_none_iff]
  intro x hrun
  rw [hidle x (List.mem_of_find?_eq_some hrun) (by simpa using List.find?_some hrun), Option.map_none]

theorem commandComplete_refuses {t : List Nat} {r : Req} (horder : s.gh.order = m :: t) (hcmd : (getMbx s m).cmd = some r)
    (hop : r.op ∉ opcodes) :
    commandComplete m s = finish m ⟨if sessionBad s r = true then 0x0010 else 0x0013, 0, []⟩ (takeReq s) := by
  simp only [commandComplete, publish, commitFw_idle hidle, readyAnswer_idle hidle, horder, hcmd]
  exact if_pos ⟨trivial, by simpa using hop⟩

theorem commandComplete_idle (h : s.gh.order.head? ≠ some m ∨ (getMbx s m).cmd = none ∨
    (∃ r, (getMbx s m).cmd = some r ∧ r.op ∈ opcodes)) : commandComplete m s = s := by
  simp only [commandComplete, publish, commitFw_idle hidle, readyAnswer_idle hidle]
  split
  · next k t horder =>
    split
    · next r hcmd =>
      refine if_neg fun ⟨hhead, hop⟩ => ?_
      obtain h | h | ⟨r', hr', hdef⟩ := h
      · simp [horder, hhead] at h
      · simp [hcmd] at h
      · rw [hcmd] at hr'
        cases hr'
        simp [hdef] at hop
    · rfl
  · rfl

end

end

/-! ## ROM recovery (R523) -/

theorem romLoad_eq {s : State} (blocks : List (List Byte × BitVec 32)) (h : s.sec.boot = .recovery) :
    romLoad blocks s = match loadBlocks blocks [] s with
      | (none, s1) => s1
      | (some bs, s1) => let b := bs.take (fwSize bs)
        match fwRefusal s1 b with
        | some st => say (loadErr st) [] s1
        | none => let v := flashProgram (commitAddr 0) (commitBytes 0 1 b) (writeSlot 0 b s1)
          { v with sec := { v.sec with boot := .loaded, fw := loadedFw 0 1 b, bootFlags := v.sec.bootFlags ||| 1 } } := by
  refine (if_neg (not_not.2 h)).trans ?_
  rfl

theorem loadBlocks_good {b : List Byte} {c : BitVec 32} (t : List (List Byte × BitVec 32)) (acc : List Byte) (s : State)
    (hlen : b.length ≤ 1024) (hcrc : crc32 b = c.toNat) : loadBlocks ((b, c) :: t) acc s = loadBlocks t (acc ++ b) (say "OK" [] s) :=
  if_neg (by omega)

theorem loadBlocks_bad {b : List Byte} {c : BitVec 32} (t : List (List Byte × BitVec 32)) (acc : List Byte) (s : State)
    (h : 1024 < b.length ∨ crc32 b ≠ c.toNat) : loadBlocks ((b, c) :: t) acc s = (none, say "ERR INVALID_PARAM" [] s) := if_pos h

/-- Settles O46: an update by its image's checks and the flash; a completion by what is finished; a load block by block. -/
theorem bootCommandsComplete : Obligations.BootCommandsComplete :=
  ⟨fun s m e r p h => ⟨fun hseq => done_hold h (bodyFwUpdate_used_up (s := takeReq s) hseq), fun hseq => by
      cases hst : fwRefusal (takeReq s) (tollRead s (fld p 0 8) (fld p 8 4)) with
      | some st => exact done_hold h (bodyFwUpdate_refused (s := takeReq s) hseq hst)
      | none => cases e with
        | none => exact done_hold h (bodyFwUpdate_writes (s := takeReq s) hseq hst)
        | some a => exact done_hold h (bodyFwUpdate_flash_error (s := takeReq s) hseq hst a)⟩,
    fun _ _ => rfl,
    fun _ _ _ _ h => done_yes h rfl,
    fun s _ _ _ _ h => ⟨fun hbusy => done_no h (bodyAttest_busy (s := takeReq s) hbusy),
      fun hfree => done_hold h (bodyAttest_reports (s := takeReq s) hfree)⟩,
    fun s _ _ _ h => ⟨fun hforce hbusy => done_no h (bodyReset_busy (s := takeReq s) hforce hbusy),
      fun hfree => done_yes h (bodyReset_due (s := takeReq s) hfree)⟩,
    fun s => resetDue_eq s 1,
    fun s m x a hrun ha u hu => done_eq (by subst hu; exact commandComplete_publishes hrun ha),
    fun _ _ _ => ⟨commitFw_none, fun hrun => ⟨fun _ _ h => commitFw_good hrun h, fun h => commitFw_bad hrun h⟩⟩,
    fun _ _ => ⟨completed_other, completed_apTable⟩,
    fun _ _ hidle => ⟨fun _ _ _ horder hcmd hhead hop => done_eq (commandComplete_refuses hidle (hhead ▸ horder) hcmd hop),
      fun h => done_eq (commandComplete_idle hidle h)⟩,
    fun _ blocks => ⟨fun h => done_eq (if_pos h), fun h => done_eq (romLoad_eq blocks h)⟩,
    fun _ _ => rfl,
    fun _ _ t acc s => ⟨loadBlocks_good t acc s, loadBlocks_bad t acc s⟩⟩

end Sys2Proof.Machine
end

section
/-! SUPPORT. The catwalk monitor (R510, R511, R531 to R533): who is answered, and one equation per answer of each command. -/

namespace Sys2Proof.Machine

section
variable {s : State}

theorem monitor_silent {level : Nat} {f : State → State} (h : fwRuns s = false) : monitor level f s = s := if_pos (by simp [h])

theorem monitor_below {level : Nat} {f : State → State} (h : fwRuns s = true) (hlow : catLevel s < level) :
    monitor level f s = say "ERR LIFECYCLE" [] s := (if_neg (by simp [h])).trans (if_pos hlow)

theorem monitor_runs {level : Nat} {f : State → State} (h : fwRuns s = true) (hlevel : level ≤ catLevel s) :
    monitor level f s = f s := (if_neg (by simp [h])).trans (if_neg hlevel.not_gt)

/-- A command that ROM recovery answers too (R523): `f` there, `g` elsewhere. -/
def recoveryOr (f g : State → State) (s : State) : State := if s.sec.boot = .recovery then f s else g s

theorem recoveryOr_recovery {f g : State → State} (h : s.sec.boot = .recovery) : recoveryOr f g s = f s := if_pos h
theorem recoveryOr_other {f g : State → State} (h : s.sec.boot ≠ .recovery) : recoveryOr f g s = g s := if_neg h

theorem exec_info (s : State) : exec .infoCmd s = done (recoveryOr info (monitor 0 info)) s := rfl

theorem exec_baud (rate : BitVec 32) (s : State) :
    exec (.baud rate) s = done (recoveryOr (baudSet rate.toNat) (monitor 0 (baudSet rate.toNat))) s := rfl

theorem baudSet_takes {rate : Nat} (h : rate = 230400 ∨ rate = 460800 ∨ rate = 921600 ∨ rate = 1500000 ∨ rate = 3000000) :
    baudSet rate s = { say "OK" [] s with sec := { s.sec with baud := rate } } :=
  if_pos (List.contains_iff_mem.2 (by simpa [bauds] using h))

theorem baudSet_refuses {rate : Nat} (h : rate ∉ bauds) : baudSet rate s = say "ERR INVALID_PARAM" [] s :=
  if_neg (by simpa using h)

theorem challenge_busy {random : List Byte} (h : lockedOut s = true) : challenge random s = say "ERR BUSY" [] s := if_pos h

theorem challenge_fresh {random : List Byte} (h : lockedOut s = false) : challenge random s =
    say "OK" (padTo 32 random) { s with sec := { s.sec with challenge := some (padTo 32 random) } } := if_neg (by simp [h])

section
variable {level : Nat} {answer : List Byte}

theorem unlock_without_challenge (h : s.sec.challenge = none) : unlock level answer s = say "ERR STATE" [] s := by
  rw [unlock, h]

variable {c : List Byte} (h : s.sec.challenge = some c)
include h

theorem unlock_other_level (hread : level ≠ 1) (hfull : level ≠ 2) : unlock level answer s = say "ERR INVALID_PARAM" [] s := by
  rw [unlock, h]
  exact if_pos ⟨hread, hfull⟩

theorem unlock_answers (hlevel : level = 1 ∨ level = 2) : unlock level answer s =
    if sigValid s.sec.otp answer (sha256 (unlockMessage s c level)) 1 = true then
      say "OK" [] { s with sec := { s.sec with level := level, unlockSlot := fld1 answer 5, challenge := none, invalid := 0 } }
    else if s.sec.invalid = 2 then
      say "ERR SIGNATURE" [] { s with sec := { s.sec with
        challenge := none, invalid := 0, lockout := some (now s + 60000000000) } }
    else say "ERR SIGNATURE" [] { s with sec := { s.sec with challenge := none, invalid := s.sec.invalid + 1 } } := by
  have hthird : s.sec.invalid + 1 = 3 ↔ s.sec.invalid = 2 := by omega
  rw [unlock, h]
  refine (if_neg (by omega)).trans ?_
  simp only [hthird]
  split
  · rfl
  · split <;> rfl

end

theorem memRead_answers {a n : Nat} (hlen : n ≤ 4096) (hrange : catRange s a n = true) :
    memRead_ a n s = say "OK" (tollRead s a n) (tollUse 11 s) := if_neg (by simp [hlen, hrange])

theorem memRead_refuses {a n : Nat} (h : 4096 < n ∨ catRange s a n = false) : memRead_ a n s = say "ERR INVALID_PARAM" [] s :=
  if_pos (by simpa using h)

theorem memWrite_answers {a v : Nat} (h : catRange s a 8 = true) :
    memWrite_ a v s = say "OK" [] (tollWrite a (leBytes 8 v) (tollUse 11 s)) := if_neg (by simp [h])

theorem memWrite_refuses {a v : Nat} (h : catRange s a 8 = false) : memWrite_ a v s = say "ERR INVALID_PARAM" [] s :=
  if_pos (by simp [h])

section
variable {slot : Nat} {hash : List Byte}

theorem provision_other_length (h : hash.length ≠ 32) : provision slot hash s = say "ERR INVALID_PARAM" [] s := if_pos h

theorem provision_programmed (h : hash.length = 32) (hslot : otpProgrammed s.sec.otp 1 slot = true) :
    provision slot hash s = say "ERR STATE" [] s := (if_neg (not_not.2 h)).trans (if_pos hslot)

theorem provision_burns (h : hash.length = 32) (hslot : otpProgrammed s.sec.otp 1 slot = false) :
    provision slot hash s = say "OK" []
      (if lifecycle s = 0 then otpBurn 0x101 [1] (otpBurn (0x80 + 32 * slot) hash s) else otpBurn (0x80 + 32 * slot) hash s) := by
  refine ((if_neg (not_not.2 h)).trans (if_neg (by simp [hslot]))).trans ?_
  simp only [when_, decide_eq_true_eq]

theorem revoke_burns (hlast : liveSlots s 1 ≠ [slot]) (hown : ¬(lifecycle s = 2 ∧ s.sec.unlockSlot = slot)) :
    revoke slot s = say "OK" [] (otpBurn 0x100 (leBytes 1 (2 ^ (4 + slot))) s) := if_neg (not_or.2 ⟨hlast, hown⟩)

end

theorem toReturned_burns (h : lifecycle s = 1 ∨ lifecycle s = 2) : toReturned s = say "OK" [] (otpBurn 0x101 [7] s) :=
  if_neg (by omega)

theorem toReturned_refuses (hprov : lifecycle s ≠ 1) (hprod : lifecycle s ≠ 2) : toReturned s = say "ERR LIFECYCLE" [] s :=
  if_pos ⟨hprov, hprod⟩

theorem toProduction_burns (hprov : lifecycle s = 1) (hslot : liveSlots s 1 ≠ []) : let u := otpBurn 0x101 [3] s
    toProduction s = say "OK" [] { u with sec := { u.sec with level := 0 } } :=
  if_neg (not_or.2 ⟨not_not.2 hprov, hslot⟩)

end

/-- Settles O48: a command runs where firmware does and its level is reached; each answer by its operands and the OTP. -/
theorem monitorCommandsComplete : Obligations.MonitorCommandsComplete :=
  ⟨fun _ _ _ => ⟨monitor_silent, monitor_below, monitor_runs⟩,
    fun _ => ⟨rfl, rfl, rfl, rfl, rfl, fun _ => rfl, fun _ _ => rfl, fun _ _ => rfl, fun _ _ => rfl, fun _ _ _ => rfl,
      fun _ _ => rfl, fun _ => rfl, fun _ => rfl⟩,
    fun _ => ⟨fun h => ⟨(exec_info _).trans (done_eq (recoveryOr_recovery h)), fun _ => (exec_baud ..).trans (done_eq (recoveryOr_recovery h))⟩,
      fun h => ⟨(exec_info _).trans (done_eq (recoveryOr_other h)), fun _ => (exec_baud ..).trans (done_eq (recoveryOr_other h))⟩⟩,
    fun _ => ⟨rfl, rfl, rfl, rfl, rfl, rfl⟩,
    fun _ _ => ⟨baudSet_takes, fun h1 h2 h3 h4 h5 => baudSet_refuses (by simp [bauds, *])⟩,
    fun _ _ => ⟨challenge_busy, challenge_fresh⟩,
    fun _ _ _ => ⟨unlock_without_challenge, fun _ h => ⟨unlock_other_level h, unlock_answers h⟩⟩,
    fun _ => ⟨fun h => done_eq (if_pos h), fun h => done_eq (if_neg (by simp [h]))⟩,
    fun _ _ _ => ⟨memRead_answers, memRead_refuses⟩,
    fun _ _ _ => ⟨memWrite_answers, memWrite_refuses⟩,
    fun _ _ _ => rfl,
    fun _ _ _ => ⟨provision_other_length, provision_programmed, provision_burns⟩,
    fun _ _ => ⟨revoke_burns, fun h => if_pos h⟩,
    fun _ => ⟨toReturned_burns, toReturned_refuses, toProduction_burns, fun h => if_pos h⟩⟩

end Sys2Proof.Machine
end

section
/-! SUPPORT. Cold resets (R484, R516, R534, R535, R539, R545): what a cold reset leaves, and how the boot ROM chooses a slot. -/

namespace Sys2Proof.Machine

/-! ## The units after a cold reset (R5, R34, R415) -/

/-- A table of one value under rising keys. -/
theorem get_map_keys {α : Type} (d v : α) {l : List Nat} (hl : l.Pairwise (· < ·)) (i : Nat) :
    Tab.get d (l.map (fun k => (k, v))) i = if i ∈ l then v else d := by
  induction l with
  | nil => rfl
  | cons k l ih =>
    obtain ⟨hk, hl⟩ := List.pairwise_cons.1 hl
    by_cases hi : i = k
    · simp [Tab.get, hi]
    · by_cases hlt : i < k
      · have hnot : i ∉ l := fun h => (hk i h).not_gt hlt
        simp [Tab.get, hi, hlt, hnot]
      · simp [Tab.get, hi, hlt, ih hl]

theorem pairwise_filter_range (n : Nat) (p : Nat → Bool) : ((List.range n).filter p).Pairwise (· < ·) :=
  List.pairwise_lt_range.filter p

theorem getGirder_coldReset (s : State) (c : Nat) {n : Nat} (hn : n < 32) : getGirder (coldReset c s) n =
    if girderPresent s n = true then Girder0 else { Girder0 with fused := true } := by
  refine (get_map_keys Girder0 { Girder0 with fused := true } (pairwise_filter_range 32 fun n => !girderPresent s n) n).trans ?_
  cases h : girderPresent s n <;> simp [h, hn]

theorem getCluster_coldReset (s : State) (c : Nat) {k : Nat} (hk : k < 8) : getCluster (coldReset c s) k =
    if clusterPresent s k = true then Cluster0 else { Cluster0 with fused := true } := by
  refine (get_map_keys Cluster0 { Cluster0 with fused := true } (pairwise_filter_range 8 fun k => !clusterPresent s k) k).trans ?_
  cases h : clusterPresent s k <;> simp [h, hk]

section
variable {s : State}

theorem filter_absent_nil {n : Nat} {p : Nat → Bool} (h : ∀ i, i < n → p i = true) : (List.range n).filter (fun i => !p i) = [] :=
  List.filter_eq_nil_iff.2 fun i hi => by simp [h i (List.mem_range.1 hi)]

variable (hg : ∀ n, n < 32 → girderPresent s n = true) (hk : ∀ k, k < 8 → clusterPresent s k = true)
include hg hk

theorem coldDeck_whole : coldDeck s = Deck0 := by
  rw [coldDeck, filter_absent_nil hg, filter_absent_nil hk]
  rfl

theorem coldPower_whole (hc : s.grade ≠ .c) : coldPower s = Power0 := by
  simp only [coldPower, filter_absent_nil hg, filter_absent_nil hk, if_neg hc]
  rfl

end

/-! ## The boot ROM (R516) -/

section
variable {s : State}

theorem bootRom_none (h : bootSlot s = none) : (bootRom s).sec.boot = .recovery := by
  rw [bootRom, h]

theorem bootRom_some {i : Nat} (h : bootSlot s = some i) : (bootRom s).sec.boot = .loaded ∧ (bootRom s).sec.fw.slot = i := by
  rw [bootRom, h]
  exact ⟨rfl, rfl⟩

theorem bootSlot_none (h : bootSlot s = none) : slotOk s 0 = false ∧ slotOk s 1 = false := by
  cases h0 : slotOk s 0 <;> cases h1 : slotOk s 1 <;> simp [bootSlot, h0, h1] at h ⊢

/-- The slot that boots is good, and the other is not or has no higher SEQ. -/
theorem bootSlot_some {i : Nat} (h : bootSlot s = some i) : slotOk s i = true ∧
    (slotOk s (1 - i) = false ∨ recSeq (commitRec s (1 - i)) ≤ recSeq (commitRec s i)) := by
  cases h0 : slotOk s 0 <;> cases h1 : slotOk s 1 <;> simp only [bootSlot, h0, h1, Option.some.injEq, reduceCtorEq] at h
  case false.true => subst h; exact ⟨h1, .inl h0⟩
  case true.false => subst h; exact ⟨h0, .inl h1⟩
  case true.true =>
    split at h
    · next hlt => subst h; exact ⟨h1, .inr hlt.le⟩
    · next hge => subst h; exact ⟨h0, .inr (Nat.not_lt.1 hge)⟩

/-- The boot ROM writes the security state alone. -/
theorem bootRom_frame (s : State) : ∃ x, bootRom s = { s with sec := x } := by
  cases h : bootSlot s <;> rw [bootRom, h] <;> exact ⟨_, rfl⟩

theorem bootRom_q (s : State) : (bootRom s).q = s.q := by
  obtain ⟨x, h⟩ := bootRom_frame s
  rw [h]

theorem bootRom_mem (s : State) : (bootRom s).mem = s.mem := by
  obtain ⟨x, h⟩ := bootRom_frame s
  rw [h]

/-! ## Queues through a cold reset (R484) -/

theorem getQ_coldReset (c : Nat) (s : State) (q : Nat) : (getQ (coldReset c s) q).st = .free := rfl

theorem getQ_innerCold (c : Nat) (s : State) (q : Nat) : (getQ (innerCold c s) q).st = .free := by
  rw [innerCold, getQ, bootRom_q]
  exact getQ_coldReset c s q

theorem pfailReturn_cold (h : s.rst.pfail = true) : pfailReturn s = innerCold 0 s := if_pos h
theorem pfailReturn_idle (h : s.rst.pfail = false) : pfailReturn s = s := if_neg (by simp [h])

theorem escalate_cold (hwarm : s.rst.warm ≠ none) (h : threeBites s = true ∨ overdue s = true) : escalate s = innerCold 5 s :=
  if_pos (by simpa [Option.isSome_iff_ne_none, hwarm] using h)

theorem escalate_idle (h : s.rst.warm = none ∨ (threeBites s = false ∧ overdue s = false)) : escalate s = s := by
  refine if_neg ?_
  obtain h | ⟨hbites, hdue⟩ := h
  · simp [h]
  · simp [hbites, hdue]

theorem doneCold_eq {f : State → State} {t : State} (h : f s = t) : doneCold f s = .next t := by rw [doneCold, h]

end

end Sys2Proof.Machine
end

section
/-! SUPPORT. Warm resets (R447, R484, R536, R537, R552): with the sequencer stopped, powering down and leaving the span links keep
everything that the reset has set before.
-/

namespace Sys2Proof.Machine

/-! ## A cause (R536, R537) -/

section
variable {s : State} {c t : Nat}

theorem warmCause_merged (h : s.rst.warm ≠ none ∨ s.steward.trip = true ∨ s.rst.pfail = true) : warmCause c t s = s :=
  if_pos (by simpa [Option.isSome_iff_ne_none, or_assoc] using h)

theorem warmCause_acts (hwarm : s.rst.warm = none) (htrip : s.steward.trip = false) (hpfail : s.rst.pfail = false) :
    warmCause c t s =
      let s1 := safeNow s
      { s1 with
        rst := { s1.rst with warm := some (c, t) },
        gh := { s1.gh with warmAt := some (t, c) } } := if_neg (by simp [hwarm, htrip, hpfail])

/-- Ending every pulse leaves none, and writes the levels seen beside them. -/
theorem endPulses_all (s : State) : ∃ x, endPulses (fun _ => true) s = { s with field := x, pulses := [] } := by
  unfold endPulses
  split
  · exact ⟨_, by simp only [Bool.not_true, List.filter_false]; rfl⟩
  · next h =>
    have hnone : s.pulses = [] := by
      cases hp : s.pulses with
      | nil => rfl
      | cons x l => simp [hp] at h
    exact ⟨s.field, by rw [← hnone]⟩

theorem safeNow_eq (s : State) : ∃ x : FieldCtl, x.safeCmd = true ∧ safeNow s = { s with field := x, pulses := [], linePulses := [] } := by
  obtain ⟨x, h⟩ := endPulses_all s
  refine ⟨{ x with safeCmd := true, release := false }, rfl, ?_⟩
  rw [safeNow, h]

/-- What a cause leaves: the reset under way with its cause, the outputs safe, and everything else. -/
theorem warmCause_frame (hwarm : s.rst.warm = none) (htrip : s.steward.trip = false) (hpfail : s.rst.pfail = false) :
    ∃ x : FieldCtl, x.safeCmd = true ∧ warmCause c t s = { s with
      field := x, pulses := [], linePulses := [],
      rst := { s.rst with warm := some (c, t) }, gh := { s.gh with warmAt := some (t, c) } } := by
  obtain ⟨x, hsafe, h⟩ := safeNow_eq s
  exact ⟨x, hsafe, by rw [warmCause_acts hwarm htrip hpfail, h]⟩

end

/-! ## What powering down keeps (R416, R537) -/

/-- A domain that leaves ON writes the deck, a camera, the toll memory of its group or its span port, and a lost port may move
the parent. -/
theorem loseDom_keeps {β : Type} {g : State → β} {s : State} {d : Nat} {target : PdSt}
    (hdeck : ∀ a x, g { a with deck := x } = g a) (hcams : ∀ a x, g { a with cams := x } = g a)
    (htoll : isMc d = true → target ≠ .retention → g { s with mem := { s.mem with toll := [] } } = g s)
    (hspan : ∀ p x, g (reparent (setSpan s p x)) = g s) : g (loseDom d target s) = g s := by
  have hmem (m : DeckMem) (x : Mem) (a : State) : g (setDeckMem m x a) = g a := by
    cases m
    case nowhere => rfl
    all_goals exact hdeck ..
  unfold loseDom
  dsimp only
  split
  next girder =>
    refine (hdeck ..).trans (foldl_keeps g _ (fun a b => ?_) _ _)
    split
    · rfl
    · exact hmem ..
  next =>
  split
  next cluster => exact hmem ..
  next =>
  split
  next bank =>
    split
    · rfl
    · exact hmem ..
  next =>
  split
  next channels =>
    obtain ⟨hgroup, htarget⟩ := by simpa using channels
    have hlost := htoll hgroup htarget
    split
    · rw [hmem]
      split
      · exact hlost
      · rfl
    · split
      · exact hlost
      · rfl
  next =>
  split
  next camera => exact hcams ..
  next =>
  split
  next port => exact hspan ..
  next => rfl

/-- No crossing runs and no launch is armed: leaving LOCKED has nothing to end. -/
def SeqStopped (x : Sequencer) : Prop := x.started = false ∧ x.launchArmed = none

/-- What a warm reset sets before the span links and the domains go down. -/
def warmParts (s : State) : Sequencer × List Job × List Band × Gatehouse × Recorder × ResetCtl × MemSys × QueueMgr × Security :=
  (s.seq, s.jobs, s.bands, s.gh, s.rec_, s.rst, s.mem, s.q, s.sec)

theorem seqStopped_of_warmParts {s t : State} (h : SeqStopped s.seq) (hparts : warmParts t = warmParts s) : SeqStopped t.seq := by
  rwa [show t.seq = s.seq from congrArg Prod.fst hparts]

section
variable {s : State} (hstop : SeqStopped s.seq)
include hstop

theorem leaveLocked_stopped : leaveLocked s = s := by
  obtain ⟨hstarted, hlaunch⟩ := hstop
  simp [leaveLocked, hlaunch, hstarted, when_]

theorem warmParts_ksMove (st : KsSt) : warmParts (ksMove st s) = warmParts s := by
  rw [ksMove_eq, leaveLocked_stopped hstop, ite_self]
  rfl

theorem warmParts_reparent : warmParts (reparent s) = warmParts s := by
  unfold reparent
  split
  · rfl
  · exact when_keeps (g := warmParts) (warmParts_ksMove hstop .holdover) _

theorem warmParts_loseDom {d : Nat} {target : PdSt} (hmc : isMc d = true → target = .retention) :
    warmParts (loseDom d target s) = warmParts s :=
  loseDom_keeps (g := warmParts) (fun _ _ => rfl) (fun _ _ => rfl) (fun hgroup hother => absurd (hmc hgroup) hother)
    (fun p x => warmParts_reparent (s := setSpan s p x) hstop)

theorem warmParts_forceDown {d : Nat} {target : PdSt} (hmc : isMc d = true → target = .retention) :
    warmParts (forceDown target d s) = warmParts s := by
  unfold forceDown
  split
  · rfl
  · exact warmParts_loseDom hstop hmc

theorem warmParts_warmPower : warmParts (warmPower s) = warmParts s := by
  refine List.foldlRecOn (motive := fun a => warmParts a = warmParts s) _ _ rfl fun a ha d _ => ?_
  split
  · exact ha
  · exact (warmParts_forceDown (seqStopped_of_warmParts hstop ha) fun hgroup => if_pos hgroup).trans ha

theorem warmParts_warmLinks : warmParts (warmLinks s) = warmParts s := by
  have hmove (t : State) (ht : warmParts t = warmParts s) (b : Bool) : warmParts (when_ b (ksMove .holdover) t) = warmParts s :=
    (when_keeps (g := warmParts) (warmParts_ksMove (seqStopped_of_warmParts hstop ht) .holdover) b).trans ht
  have hlinks (t : State) (ht : warmParts t = warmParts s) (b : Bool) :
      warmParts (reparent (when_ b (ksMove .holdover) t)) = warmParts s :=
    (warmParts_reparent (seqStopped_of_warmParts hstop (hmove t ht b))).trans (hmove t ht b)
  refine hlinks _ ?_ _
  rfl

end

/-! ## What the reset reaches (R537, R552) -/

/-- Clearing a bit that is clear changes nothing. -/
theorem and_not_bit_of_clear {x : BitVec 32} {b : Nat} (h : x.getLsbD b = false) : x &&& ~~~(1#32 <<< b) = x := by
  refine BitVec.eq_of_getLsbD_eq fun i hi => ?_
  by_cases hb : i = b
  · subst hb
    simp [h]
  · have hbit : (1#32 <<< b).getLsbD i = false := by
      simp
      omega
    simp only [BitVec.getLsbD_and, BitVec.getLsbD_not, hbit, hi, decide_true, Bool.not_false, Bool.and_true]

theorem rsClear_rst (b : Nat) (s : State) : (rsClear b s).rst = { s.rst with rs := s.rst.rs &&& ~~~(1#32 <<< b) } := by
  unfold rsClear
  split
  · rfl
  · next h => rw [and_not_bit_of_clear (Bool.eq_false_iff.2 h)]

theorem rsClear_queues (b : Nat) (s : State) : (rsClear b s).q.queues = s.q.queues := by
  unfold rsClear
  split <;> rfl

/-- Reasons 2, 4 and 5 are cleared, and no other. -/
theorem warmReasons_rst (s : State) : (warmReasons s).rst = { s.rst with rs := s.rst.rs &&& ~~~(0x34 : BitVec 32) } := by
  simp only [warmReasons, rsClear_rst, BitVec.and_assoc]
  rfl

theorem warmReasons_queues (s : State) : (warmReasons s).q.queues = s.q.queues := by
  simp only [warmReasons, rsClear_queues]

/-- What is set after the reasons of restricted service leaves the parts as they were, but for the reset's own. -/
theorem parts_afterReasons {x v : State} (h : warmParts x = warmParts v) (w : Option (Nat × Nat)) (lw : Option (List Byte)) :
    let s1 := warmReasons x
    let u := { s1 with rst := { s1.rst with warm := w, lw := lw, reported := false } }
    u.seq = v.seq ∧ u.jobs = v.jobs ∧ u.bands = v.bands ∧ u.gh = v.gh ∧ u.rec_ = v.rec_ ∧ u.mem = v.mem ∧ u.sec = v.sec ∧
      u.q.queues = v.q.queues ∧ u.rst = { v.rst with
        rs := v.rst.rs &&& ~~~(0x34 : BitVec 32), warm := w, lw := lw, reported := false } := by
  simp only [warmParts, Prod.ext_iff] at h
  obtain ⟨hseq, hjobs, hbands, hgh, hrec, hrst, hmem, hq, hsec⟩ := h
  refine ⟨?_, ?_, ?_, ?_, ?_, ?_, ?_, (warmReasons_queues x).trans (by rw [hq]), ?_⟩
  case refine_8 =>
    rw [warmReasons_rst, hrst]
  all_goals simp only [warmReasons, rsClear_seq, rsClear_jobs, rsClear_bands, rsClear_gh, rsClear_rec, rsClear_mem, rsClear_sec]
  all_goals assumption

/-- The state as step 4 of R537 hands it to the boot ROM. -/
def warmed (cause at_ : Nat) (s : State) : State :=
  let s1 := warmReasons (warmPower (warmLinks (warmHost (warmDeck (warmApproach (sawLevels s))))))
  { s1 with rst := { s1.rst with warm := some (cause, at_), lw := some (lwBody cause at_ s), reported := false } }

theorem warmBody_eq (cause at_ : Nat) (s : State) : warmBody cause at_ s = bootRom (warmed cause at_ s) := rfl

theorem warmParts_beforeReasons (s : State) : warmParts (warmPower (warmLinks (warmHost (warmDeck (warmApproach (sawLevels s)))))) =
    warmParts (warmHost (warmDeck (warmApproach (sawLevels s)))) := by
  have hlinks := warmParts_warmLinks (s := warmHost (warmDeck (warmApproach (sawLevels s)))) ⟨rfl, rfl⟩
  exact (warmParts_warmPower (seqStopped_of_warmParts ⟨rfl, rfl⟩ hlinks)).trans hlinks

/-- What the reset that is under way from `s` leaves of each part. -/
theorem warmed_parts (cause at_ : Nat) (s : State) : let u := warmed cause at_ s
    let v := warmHost (warmDeck (warmApproach (sawLevels s)))
    u.seq = v.seq ∧ u.jobs = v.jobs ∧ u.bands = v.bands ∧ u.gh = v.gh ∧ u.rec_ = v.rec_ ∧ u.mem = v.mem ∧ u.sec = v.sec ∧
      u.q.queues = v.q.queues ∧ u.rst = { v.rst with
        rs := v.rst.rs &&& ~~~(0x34 : BitVec 32), warm := some (cause, at_), lw := some (lwBody cause at_ s), reported := false } :=
  parts_afterReasons (warmParts_beforeReasons s) _ _

/-! ## WARM_RESET (R536, R537) -/

section
variable {s : State} {t c : Nat}

/-- A cause, merged or not, leaves the trust state, the memories, the queues, the recorder and the reasons of restricted service. -/
theorem warmCause_keeps (htrip : s.steward.trip = false) (hpfail : s.rst.pfail = false) : let u := warmCause c t s
    u.sec = s.sec ∧ u.mem = s.mem ∧ u.q = s.q ∧ u.rec_ = s.rec_ ∧ u.rst.rs = s.rst.rs ∧
      u.rst.warm.getD (c, t) = s.rst.warm.getD (c, t) := by
  dsimp only
  by_cases hwarm : s.rst.warm = none
  · obtain ⟨x, -, h⟩ := warmCause_frame (c := c) (t := t) hwarm htrip hpfail
    rw [h, hwarm]
    exact ⟨rfl, rfl, rfl, rfl, rfl, rfl⟩
  · rw [warmCause_merged (.inl hwarm)]
    exact ⟨rfl, rfl, rfl, rfl, rfl, rfl⟩

theorem warmReset_none (h : s.gh.warmAt = none) : warmReset s = s := by rw [warmReset, h]

variable (hat : s.gh.warmAt = some (t, c))
include hat

theorem warmReset_idle (h : now s < t ∨ s.steward.trip = true ∨ s.rst.pfail = true) : warmReset s = s := by
  rw [warmReset, hat]
  exact if_pos (by simpa [or_assoc] using h)

theorem warmReset_acts (hdue : t ≤ now s) (htrip : s.steward.trip = false) (hpfail : s.rst.pfail = false) :
    let w := s.rst.warm.getD (c, t)
    warmReset s = bootRom (warmed w.1 w.2 (warmCause c t s)) := by
  obtain ⟨-, -, -, -, -, hw⟩ := warmCause_keeps (c := c) (t := t) htrip hpfail
  rw [warmReset, hat]
  refine (if_neg (by simp [hdue, htrip, hpfail])).trans ?_
  rw [← hw]
  exact warmBody_eq ..

end

/-! ## Queues through a warm reset (R484) -/

/-- A table whose values all change by `f`, which keeps the default. -/
theorem get_map_values {α : Type} (d : α) {f : α → α} (hd : f d = d) (l : Tab α) (i : Nat) :
    Tab.get d (l.map (fun e => (e.1, f e.2))) i = f (Tab.get d l i) := by
  induction l with
  | nil => exact hd.symm
  | cons e l ih =>
    simp only [List.map_cons, Tab.get]
    split
    · rfl
    · split
      · exact hd.symm
      · exact ih

theorem getQ_congr {s u : State} (h : s.q.queues = u.q.queues) (q : Nat) : getQ s q = getQ u q := by rw [getQ, h, getQ]

theorem getQ_warmed (cause at_ : Nat) (s : State) (q : Nat) :
    getQ (warmed cause at_ s) q = { getQ s q with armed := false, timer := none } := by
  obtain ⟨-, -, -, -, -, -, -, hqueues, -⟩ := warmed_parts cause at_ s
  rw [getQ, hqueues]
  exact get_map_values Queue0 (f := fun x => { x with armed := false, timer := none }) rfl s.q.queues q

/-- Settles O51: a cold reset starts from the reset value; a warm one rewrites two fields of each queue, and nothing after that
touches a queue or the memories. -/
theorem queuesThroughResets : Obligations.QueuesThroughResets :=
  ⟨fun s q => ⟨_, rfl, rfl, getQ_coldReset 6 s q⟩,
    fun s h => ⟨_, doneCold_eq (pfailReturn_cold h), getQ_innerCold 0 s⟩,
    fun s hwarm hdue => ⟨_, doneCold_eq (escalate_cold hwarm (.inr hdue)), getQ_innerCold 5 s⟩,
    fun s t c hat hdue htrip hpfail => by
      obtain ⟨-, hmem, hq, -, -, -⟩ := warmCause_keeps (c := c) (t := t) htrip hpfail
      obtain ⟨-, -, -, -, -, hkept, -, -, -⟩ := warmed_parts (s.rst.warm.getD (c, t)).1 (s.rst.warm.getD (c, t)).2 (warmCause c t s)
      refine ⟨_, done_eq (warmReset_acts hat hdue htrip hpfail), fun q => ?_, ?_, ?_⟩
      · refine (getQ_congr (by rw [settle_q, bootRom_q]) q).trans ((getQ_warmed _ _ _ q).trans ?_)
        rw [getQ_congr (u := s) (by rw [hq]) q]
      · rw [settle_mem, bootRom_mem, hkept]
        show (warmCause c t s).mem.toll = _
        rw [hmem]
      · rw [settle_mem, bootRom_mem, hkept]
        show (warmCause c t s).mem.hostMem = _
        rw [hmem]⟩

end Sys2Proof.Machine
end

section
/-! SUPPORT. The rest of resets and power loss (R430, R509, R517, R518, R537 to R540): what powering down keeps, the start of the
firmware, and the anti-rollback counter.
-/

namespace Sys2Proof.Machine

/-! ## What powering down keeps of the resets and the recorder (R405, R416, R540) -/

/-- The reset control and the recorder. -/
def resetParts (s : State) : ResetCtl × Recorder := (s.rst, s.rec_)

theorem resetParts_leaveLocked (s : State) : resetParts (leaveLocked s) = resetParts s := by
  unfold leaveLocked
  split <;> exact when_keeps (g := resetParts) rfl _

theorem resetParts_ksMove (st : KsSt) (s : State) : resetParts (ksMove st s) = resetParts s :=
  when_keeps (g := resetParts) (resetParts_leaveLocked s) _

theorem resetParts_reparent (s : State) : resetParts (reparent s) = resetParts s := by
  unfold reparent
  split
  · rfl
  · exact when_keeps (g := resetParts) (resetParts_ksMove .holdover s) _

theorem resetParts_loseDom (d : Nat) (target : PdSt) (s : State) : resetParts (loseDom d target s) = resetParts s :=
  loseDom_keeps (fun _ _ => rfl) (fun _ _ => rfl) (fun _ _ => rfl) (fun _ _ => resetParts_reparent _)

theorem resetParts_enterState (d : Nat) (target : PdSt) (s : State) : resetParts (enterState d target s) = resetParts s :=
  resetParts_loseDom d target s

theorem resetParts_forceDown (target : PdSt) (d : Nat) (s : State) : resetParts (forceDown target d s) = resetParts s := by
  unfold forceDown
  split
  · rfl
  · exact resetParts_enterState d target s

theorem resetParts_wakeDom (d src : Nat) (req : Option Nat) (s : State) : resetParts (wakeDom d src req s) = resetParts s := by
  rw [resetParts, wakeDom_rst, wakeDom_rec, resetParts]

theorem resetParts_goDown (d : Nat) (target : PdSt) (s : State) : resetParts (goDown d target s) = resetParts s := by
  unfold goDown
  dsimp only
  split
  · exact resetParts_enterState d .off s
  · unfold sendPrepare
    dsimp only
    split <;> rfl

theorem resetParts_autoOne (d : Nat) (s : State) : resetParts (autoOne d s) = resetParts s := by
  unfold autoOne
  dsimp only
  split
  · rfl
  · split
    · rfl
    · exact resetParts_wakeDom ..
    · refine (resetParts_goDown ..).trans ?_
      split <;> rfl

theorem resetParts_autoPower (boundary : Bool) (s : State) : resetParts (autoPower boundary s) = resetParts s :=
  foldl_keeps resetParts _ (fun a d => (resetParts_autoOne ..).trans (by split <;> rfl)) _ _

theorem sec_of_trust {s t : State} (h : trust s = trust t) : s.sec = t.sec := congrArg Prod.snd h

/-! ## Loss of REFCLK and the watchdog (R430, R538) -/

section
variable {s : State}

theorem refclkLost_idle (h : s.time.internal = true) : refclkLost s = s := if_pos h

theorem refclkLost_acts (h : s.time.internal = false) : refclkLost s =
    warmCause 4 (now s) (ksMove .unsync (post 0x4604 0 0 0 0 { s with time := { s.time with internal := true } })) :=
  if_neg (by simp [h])

theorem watchdogBite_idle (h : fwRuns s = false ∨ s.rst.pfail = true) : watchdogBite s = s := if_pos (by simpa using h)

theorem watchdogBite_acts (hruns : fwRuns s = true) (hpfail : s.rst.pfail = false) : watchdogBite s =
    warmCause 3 (now s) { s with rst := { s.rst with bites := now s :: s.rst.bites } } := if_neg (by simp [hruns, hpfail])

end

/-! ## Power failure (R540, R521, R543) -/

/-- Outputs safe, the recorder stopped, the host detached: what a power failure sets before the domains go OFF. -/
def powerFailed (s : State) : State :=
  hostReset { safeNow s with rst := { (safeNow s).rst with pfail := true }, rec_ := { (safeNow s).rec_ with running := false } }

/-- The state once every domain is OFF, before the firmware writes its last words. -/
def powerDown (s : State) : State := allDomains.foldl (fun a d => forceDown .off d a) (powerFailed s)

section
variable {s : State}

theorem pfailFall_idle (h : s.rst.pfail = true) : pfailFall s = s := if_pos h

theorem pfailFall_acts (h : s.rst.pfail = false) : pfailFall s = if fwRuns s then
    writeLw (lwBody 0 (now s) s) { powerDown s with
      gh := { (powerDown s).gh with running := (powerDown s).gh.running.filter (fun r => r.op != 0x0E01) } }
    else powerDown s := by
  simp only [pfailFall, powerDown, powerFailed, h, Bool.false_eq_true, if_false]

theorem getDom_powerFailed (s : State) (d : Nat) : getDom (powerFailed s) d = getDom s d := by
  obtain ⟨x, -, h⟩ := safeNow_eq s
  rw [powerFailed, h]
  rfl

theorem powerDown_off {d : Nat} (hd : d ∈ allDomains) (hlive : (getDom s d).fused = false) : (getDom (powerDown s) d).st = .off := by
  rw [powerDown, getDom_foldl_forceDown .off allDomains_nodup hd, getDom_powerFailed, forcedDown, if_neg (by simp [hlive])]

/-- Powering down keeps what the failure has set. -/
theorem powerDown_parts (s : State) : (tripParts (powerDown s)).2 = (tripParts (powerFailed s)).2 ∧
    resetParts (powerDown s) = resetParts (powerFailed s) :=
  ⟨foldl_keeps (fun a => (tripParts a).2) _ (fun a d => tripParts_forceDown .off a d) _ _,
    foldl_keeps resetParts _ (fun a d => resetParts_forceDown .off d a) _ _⟩

theorem powerDown_sets (s : State) : let u := powerDown s
    u.rst.pfail = true ∧ u.field.safeCmd = true ∧ u.rec_.running = false ∧ u.gh.session = none ∧ u.pulses = [] ∧ u.sec = s.sec := by
  obtain ⟨htrip, hreset⟩ := powerDown_parts s
  obtain ⟨x, hsafe, h⟩ := safeNow_eq s
  have hsec : (powerDown s).sec = s.sec := sec_of_trust (by simp [powerDown, powerFailed])
  simp only [tripParts, resetParts, Prod.ext_iff, powerFailed, h] at htrip hreset
  obtain ⟨-, hfield, hpulses, hgh⟩ := htrip
  obtain ⟨hrst, hrec⟩ := hreset
  refine ⟨?_, ?_, ?_, ?_, hpulses, hsec⟩
  · rw [hrst]; rfl
  · rw [hfield]; exact hsafe
  · rw [hrec]; rfl
  · rw [hgh]; rfl

end

/-! ## The firmware starts (R133, R517, R537) -/

section
variable {s : State} {report : List UnitTest} {fail : Bool}

theorem firmwareStart_idle (h : s.sec.boot ≠ .loaded ∨ s.rst.pfail = true) : firmwareStart report fail s = s := if_pos h

section
variable (hboot : s.sec.boot = .loaded) (hpfail : s.rst.pfail = false)
include hboot hpfail

theorem firmwareStart_cold (hwarm : s.rst.warm = none) : firmwareStart report fail s =
    banner (coldStart report fail { s with sec := { s.sec with boot := .firmware } }) := by
  refine (if_neg (by simp [hboot, hpfail])).trans ?_
  rw [hwarm]
  simp only [Option.isSome_none, Bool.false_eq_true, if_false]

theorem firmwareStart_warm (hwarm : s.rst.warm ≠ none) : firmwareStart report fail s =
    banner (warmStart { s with sec := { s.sec with boot := .firmware } }) := by
  refine (if_neg (by simp [hboot, hpfail])).trans ?_
  obtain ⟨w, hw⟩ := Option.ne_none_iff_exists'.1 hwarm
  rw [hw]
  simp only [Option.isSome_some, if_true]

end

theorem wakeNow_deck (src : Nat) (s : State) (d : Nat) : (wakeNow src s d).deck = s.deck := by
  unfold wakeNow
  split
  · rfl
  · exact wakeDom_deck ..

/-- The slots and the reset control. -/
def slotParts (s : State) : SlotStore × ResetCtl := (s.slots, s.rst)

theorem slotParts_wakeDom (d src : Nat) (req : Option Nat) (s : State) : slotParts (wakeDom d src req s) = slotParts s := by
  rw [slotParts, wakeDom_slots, wakeDom_rst, slotParts]

theorem slotParts_wakeNow (src : Nat) (s : State) (d : Nat) : slotParts (wakeNow src s d) = slotParts s := by
  unfold wakeNow
  split
  · rfl
  · exact slotParts_wakeDom ..

theorem slotParts_kvRearm (i : Nat) (s : State) : slotParts (kvRearm i s) = slotParts s := by
  unfold kvRearm
  dsimp only
  split <;> rfl

theorem slotParts_resetTrack (mode t : Nat) (s : State) : slotParts (resetTrack mode t s) = slotParts s := by
  unfold resetTrack
  split
  · rfl
  · exact slotParts_kvRearm ..

theorem slotParts_resetAllTracks (s : State) : slotParts (resetAllTracks s) = slotParts s :=
  foldl_keeps slotParts _ (fun _ _ => foldl_keeps slotParts _
    (fun _ _ => foldl_keeps slotParts _ (fun _ _ => slotParts_resetTrack ..) _ _) _ _) _ _

theorem slotParts_setGirder (n : Nat) (g : Girder) (s : State) : slotParts (setGirder n g s) = slotParts s := rfl

theorem slotParts_refreshSwing (s : State) : slotParts (refreshSwing s) = slotParts s :=
  foldl_keeps slotParts _ (fun _ _ => slotParts_setGirder ..) _ _

theorem slotParts_reverify (s : State) : slotParts (reverify s) = slotParts s :=
  foldl_keeps slotParts _ (fun _ _ => by split <;> rfl) _ _

/-- The last words that wait are written, and no more (R543). -/
def lastWords (s : State) : State :=
  match s.rst.lw with
  | some b => writeLw b { s with rst := { s.rst with lw := none } }
  | none => s

theorem slotParts_warmStart (s : State) : slotParts (warmStart s) = slotParts (freeSlots (lastWords s)) := by
  refine (foldl_keeps slotParts _ (fun _ _ => when_keeps (slotParts_wakeDom ..) _) _ _).trans ?_
  refine (foldl_keeps slotParts _ (fun _ _ => when_keeps (slotParts_wakeDom ..) _) _ _).trans ?_
  refine (slotParts_resetAllTracks _).trans ((slotParts_refreshSwing _).trans ((slotParts_reverify _).trans ?_))
  exact foldl_keeps slotParts _ (fun _ _ => slotParts_wakeNow ..) _ _

theorem sec_warmStart (s : State) : (warmStart s).sec = (lastWords s).sec :=
  sec_of_trust (by cases h : s.rst.lw <;> simp [warmStart, lastWords, h])

end

end Sys2Proof.Machine
end

section
/-! SUPPORT. The last words, the slots a warm start frees, and the anti-rollback counter (R509, R518, R537, R543); and the resets
put together (R430, R516, R534 to R540).
-/

namespace Sys2Proof.Machine

/-! ## The last words (R543) -/

/-- The sector and the record that are written are read from flash alone. -/
theorem writeLw_flash_congr {s t : State} (b : List Byte) (h : s.sec.flash = t.sec.flash) :
    (writeLw b s).sec.flash = (writeLw b t).sec.flash := by
  have hread (a n : Nat) : flashRead s a n = flashRead t a n := by rw [flashRead, h, flashRead]
  have hsector : lwSector s = lwSector t := funext fun i => hread ..
  have hnewest : lwNewest s = lwNewest t := by rw [lwNewest, hsector, lwNewest]
  have hseq : nextLwSeq s = nextLwSeq t := by rw [nextLwSeq, hnewest, nextLwSeq]
  simp only [writeLw, flashProgram, hseq, hread, h]

theorem writeLw_frame (b : List Byte) (s : State) : writeLw b s = { s with sec := { s.sec with flash := (writeLw b s).sec.flash } } := rfl

theorem writeLw_sec_congr {s t : State} (b : List Byte) (h : s.sec = t.sec) : (writeLw b s).sec = (writeLw b t).sec := by
  rw [writeLw_frame b s, writeLw_frame b t, writeLw_flash_congr b (congrArg Security.flash h), h]

theorem lastWords_some {s : State} {b : List Byte} (h : s.rst.lw = some b) :
    lastWords s = writeLw b { s with rst := { s.rst with lw := none } } := by rw [lastWords, h]

theorem lastWords_boot (s : State) : (lastWords s).sec.boot = s.sec.boot := by
  cases h : s.rst.lw with
  | none => rw [lastWords, h]
  | some b => rw [lastWords_some h, writeLw_frame]

/-! ## The slots (R39, R69) -/

theorem getSlot_freeSlots (s : State) (i : Nat) : (getSlot (freeSlots s) i).st = .free := by
  refine List.foldlRecOn (motive := fun t => (Tab.get Slot0 t i).st = .free) _ _ rfl fun t ht e _ => ?_
  rw [Tab.get_set]
  split
  · rfl
  · exact ht

/-! ## The anti-rollback counter (R509, R518) -/

theorem testBit_leVal (bs : List Byte) (i : Nat) : (leVal bs).testBit i = (bs.getD (i / 8) 0).getLsbD (i % 8) := by
  induction bs generalizing i with
  | nil => simp [leVal]
  | cons b bs ih =>
    rw [leVal, Nat.add_comm, show 256 = 2 ^ 8 from rfl, Nat.testBit_two_pow_mul_add _ b.isLt]
    split
    · next h => simp [Nat.div_eq_of_lt h, Nat.mod_eq_of_lt h, BitVec.testBit_toNat]
    · next h =>
      obtain ⟨j, rfl⟩ := Nat.exists_eq_add_of_le (Nat.not_lt.1 h)
      rw [Nat.add_sub_cancel_left, ih, Nat.add_div_left _ (by decide), Nat.add_mod_left, List.getD_cons_succ]

/-- The counter is the number of burned bits among its 64. -/
theorem arCounter_eq (s : State) : arCounter s = (List.range 64).countP (fun i => otpBit s (0x108 + i / 8) (i % 8)) := by
  rw [arCounter, bitCount, ← List.countP_eq_length_filter]
  refine List.countP_congr fun i hi => ?_
  have hbyte : i / 8 < 8 := by have := List.mem_range.1 hi; omega
  rw [bitOf, memVal, memRead, testBit_leVal, memReadD_getD _ _ _ _ _ _ hbyte, otpBit]

theorem arCounter_mono {s t : State} (h : OtpRises s t) : arCounter s ≤ arCounter t := by
  rw [arCounter_eq, arCounter_eq]
  exact List.countP_mono_left fun i _ hbit => h _ _ hbit

/-- With the lowest `v` bits burned the counter is at least `v`. -/
theorem le_arCounter {s : State} {v : Nat} (hv : v ≤ 64) (h : ∀ i, i < v → otpBit s (0x108 + i / 8) (i % 8) = true) :
    v ≤ arCounter s := by
  calc v = (List.range v).countP (fun i => otpBit s (0x108 + i / 8) (i % 8)) := by
        rw [List.countP_eq_length.2 fun i hi => h i (List.mem_range.1 hi), List.length_range]
    _ ≤ arCounter s := by
        rw [arCounter_eq]
        exact (List.range_sublist.2 hv).countP_le

/-- Burning the lowest `v` bits leaves each of them set. -/
theorem otpBit_burnAr (s : State) {v i : Nat} (hv : v ≤ 64) (hi : i < v) :
    otpBit (otpBurn 0x108 (leBytes 8 (2 ^ v - 1)) s) (0x108 + i / 8) (i % 8) = true := by
  have hmod : i % 8 < 8 := Nat.mod_lt _ (by decide)
  rw [otpBit, otpBurn_get, if_pos (by rw [leBytes_length]; omega), Nat.add_sub_cancel_left, leBytes_getD _ _ _ (by omega),
    BitVec.getLsbD_or, BitVec.getLsbD_ofNat, Nat.testBit_div_two_pow, Nat.testBit_two_pow_sub_one, Nat.mod_add_div]
  simp [hmod, hi]

theorem secVersion_le_raiseAr {s : State} (h : s.sec.fw.secVersion ≤ 64) : s.sec.fw.secVersion ≤ arCounter (raiseAr s) := by
  unfold raiseAr
  dsimp only
  split
  · next hle => exact hle
  · exact le_arCounter h fun i hi => otpBit_burnAr s h hi

theorem raiseAr_boot (s : State) : (raiseAr s).sec.boot = s.sec.boot := by
  unfold raiseAr
  dsimp only
  split <;> rfl

theorem raiseAr_rst (s : State) : (raiseAr s).rst = s.rst := by
  unfold raiseAr
  dsimp only
  split <;> rfl

theorem revokeVendor_rst (s : State) : (revokeVendor s).rst = s.rst :=
  foldl_keeps State.rst _ (fun a i => by split <;> rfl) _ _

theorem revokeVendor_boot (s : State) : (revokeVendor s).sec.boot = s.sec.boot :=
  foldl_keeps (fun a : State => a.sec.boot) _ (fun a i => by split <;> rfl) _ _

/-! ## FW_READY (R517, R518) -/

/-- The counters, the keys and the sector of the last words, as FW_READY leaves them. -/
def readyBoot (s : State) : State := eraseLw (revokeVendor (raiseAr { s with sec := { s.sec with boot := .ready } }))

theorem readyBoot_boot (s : State) : (readyBoot s).sec.boot = .ready :=
  (revokeVendor_boot _).trans (raiseAr_boot _)

theorem readyBoot_rst (s : State) : (readyBoot s).rst = s.rst := (revokeVendor_rst _).trans (raiseAr_rst _)

theorem readyBoot_rises (s : State) : OtpRises (raiseAr { s with sec := { s.sec with boot := .ready } }) (readyBoot s) := by
  obtain ⟨-, h, -⟩ := adv_trans (adv_revokeVendor (raiseAr { s with sec := { s.sec with boot := .ready } })) (adv_eraseLw _)
  exact h

theorem raiseAr_rises (s : State) : OtpRises s (raiseAr { s with sec := { s.sec with boot := .ready } }) := by
  obtain ⟨-, h, -⟩ := adv_trans (adv_boot s .ready) (adv_raiseAr _)
  exact h

theorem autoPower_sec (s : State) : (autoPower false s).sec = s.sec := sec_of_trust (trust_autoPower ..)

theorem rst_of_resetParts {s t : State} (h : resetParts s = resetParts t) : s.rst = t.rst := congrArg Prod.fst h

theorem autoPower_rst (s : State) : (autoPower false s).rst = s.rst := rst_of_resetParts (resetParts_autoPower false s)

section
variable {s : State}

theorem fwReadyNow_idle (h : s.sec.boot ≠ .firmware ∨ s.rst.pfail = true) : fwReadyNow s = s := if_pos h

/-- The event, the end of a warm reset under way, and the steward's start follow. -/
theorem fwReadyNow_acts (hboot : s.sec.boot = .firmware) (hpfail : s.rst.pfail = false) :
    (fwReadyNow s).sec = (readyBoot s).sec ∧ (fwReadyNow s).rst.warm = none := by
  have hgo : ¬(s.sec.boot ≠ .firmware ∨ s.rst.pfail = true) := by simp [hboot, hpfail]
  unfold fwReadyNow
  rw [if_neg hgo]
  cases hwarm : s.rst.warm with
  | none =>
    rw [autoPower_sec, autoPower_rst]
    refine ⟨rfl, (congrArg ResetCtl.warm (readyBoot_rst s)).trans hwarm⟩
  | some w =>
    rw [autoPower_sec, autoPower_rst]
    exact ⟨rfl, rfl⟩

theorem fwReadyNow_sets (hboot : s.sec.boot = .firmware) (hpfail : s.rst.pfail = false) : let u := fwReadyNow s
    u.sec.boot = .ready ∧ u.rst.warm = none ∧ (s.sec.fw.secVersion ≤ 64 → s.sec.fw.secVersion ≤ arCounter u) ∧
      arCounter s ≤ arCounter u := by
  obtain ⟨hsec, hwarm⟩ := fwReadyNow_acts hboot hpfail
  have hcounter : arCounter (fwReadyNow s) = arCounter (readyBoot s) := by rw [arCounter, hsec, arCounter]
  dsimp only
  rw [hcounter]
  refine ⟨(congrArg Security.boot hsec).trans (readyBoot_boot s), hwarm, fun hversion => ?_, ?_⟩
  · exact (secVersion_le_raiseAr (s := { s with sec := { s.sec with boot := .ready } }) hversion).trans
      (arCounter_mono (readyBoot_rises s))
  · exact (arCounter_mono (raiseAr_rises s)).trans (arCounter_mono (readyBoot_rises s))

end

/-! ## The start of the firmware (R517, R537) -/

theorem banner_slots (s : State) : (banner s).slots = s.slots := rfl
theorem banner_rst (s : State) : (banner s).rst = s.rst := rfl
theorem banner_sec (s : State) : (banner s).sec = s.sec := rfl
theorem banner_deck (s : State) : (banner s).deck = s.deck := rfl
theorem banner_field (s : State) : (banner s).field = s.field := rfl

theorem foldl_wakeNow_deck (src : Nat) (l : List Nat) (s : State) : (l.foldl (wakeNow src) s).deck = s.deck :=
  foldl_keeps State.deck _ (wakeNow_deck src) _ _

/-- The self-test runs with every unit's domain ON; then training is reported and the field registers are to be rewritten. -/
theorem coldStart_sets (report : List UnitTest) (fail : Bool) (s : State) :
    let t := selfTest report (testDomains.foldl (wakeNow 6) s)
    let u := banner (coldStart report fail s)
    u.deck = t.deck ∧ u.sec = { t.sec with dramReady := !fail, dramFail := fail } ∧ u.field.wq = fieldRewrite := by
  dsimp only
  rw [banner_deck, banner_sec, banner_field, coldStart]
  generalize selfTest report (testDomains.foldl (wakeNow 6) s) = t
  exact ⟨rfl, rfl, rfl⟩

theorem slotParts_eq_iff {s t : State} : slotParts s = slotParts t ↔ s.slots = t.slots ∧ s.rst = t.rst := by
  simp only [slotParts, Prod.ext_iff]

/-- The slots, the reset control and the security state of a warm start are those after the last words. -/
theorem warmStart_sets (s : State) : let u := banner (warmStart s)
    u.slots = (freeSlots (lastWords s)).slots ∧ u.rst = (lastWords s).rst ∧ u.sec = (lastWords s).sec := by
  dsimp only
  obtain ⟨hslots, hrst⟩ := slotParts_eq_iff.1 (slotParts_warmStart s)
  rw [banner_slots, banner_rst, banner_sec]
  exact ⟨hslots, hrst, sec_warmStart s⟩

section
variable {s : State} {report : List UnitTest} {fail : Bool}
  (hboot : s.sec.boot = .loaded) (hpfail : s.rst.pfail = false)
include hboot hpfail

theorem firmwareStart_after_cold (hwarm : s.rst.warm = none) : ∃ v, let u := firmwareStart report fail s
    u.deck = (selfTest report v).deck ∧ v.deck = s.deck ∧
      u.sec.boot = .firmware ∧ u.sec.dramReady = !fail ∧ u.sec.dramFail = fail ∧ u.field.wq = fieldRewrite := by
  obtain ⟨s0, hs0⟩ : ∃ s0, s0 = { s with sec := { s.sec with boot := .firmware } } := ⟨_, rfl⟩
  obtain ⟨hdeck, hsec, hfield⟩ := coldStart_sets report fail s0
  have hboot0 : (selfTest report (testDomains.foldl (wakeNow 6) s0)).sec.boot = .firmware := by
    have htrust : trust (selfTest report (testDomains.foldl (wakeNow 6) s0)) = trust s0 := by simp
    rw [sec_of_trust htrust, hs0]
  have hwoken : (testDomains.foldl (wakeNow 6) s0).deck = s.deck := (foldl_wakeNow_deck 6 testDomains s0).trans (by rw [hs0])
  refine ⟨testDomains.foldl (wakeNow 6) s0, ?_⟩
  dsimp only
  rw [firmwareStart_cold hboot hpfail hwarm, ← hs0, hsec]
  refine ⟨hdeck, hwoken, ?_, rfl, rfl, hfield⟩
  dsimp only
  exact hboot0

theorem firmwareStart_after_warm (hwarm : s.rst.warm ≠ none) : let u := firmwareStart report fail s
    u.sec.boot = .firmware ∧ u.slots.commits = [] ∧ u.slots.records = [] ∧ (∀ i, (getSlot u i).st = .free) ∧
      ∀ b, s.rst.lw = some b → u.rst.lw = none ∧ u.sec.flash = (writeLw b s).sec.flash := by
  obtain ⟨s0, hs0⟩ : ∃ s0, s0 = { s with sec := { s.sec with boot := .firmware } } := ⟨_, rfl⟩
  obtain ⟨hslots, hrst, hsec⟩ := warmStart_sets s0
  have hget (i : Nat) : getSlot (banner (warmStart s0)) i = getSlot (freeSlots (lastWords s0)) i := by rw [getSlot, hslots, getSlot]
  dsimp only
  rw [firmwareStart_warm hboot hpfail hwarm, ← hs0, hslots, hrst, hsec]
  refine ⟨?_, rfl, rfl, fun i => ?_, fun b hb => ?_⟩
  · rw [lastWords_boot, hs0]
  · rw [hget]
    exact getSlot_freeSlots _ i
  · have hlw : s0.rst.lw = some b := by rw [hs0]; exact hb
    rw [lastWords_some hlw]
    exact ⟨rfl, writeLw_flash_congr b (by rw [hs0])⟩

end

end Sys2Proof.Machine
end

section
/-! SUPPORT. The resets put together (R430, R516, R517, R534 to R540). -/

namespace Sys2Proof.Machine

/-! ## Loss of REFCLK (R430) -/

theorem refclkLost_sets {s u : State} (hu : u = ksMove .unsync (post 0x4604 0 0 0 0 { s with time := { s.time with internal := true } })) :
    u.time.internal = true ∧ u.time.st = .unsync ∧ u.rst.warm = s.rst.warm := by
  subst hu
  rw [ksMove_time, rst_of_resetParts (resetParts_ksMove ..)]
  exact ⟨rfl, rfl, rfl⟩

/-! ## A cause (R536, R537) -/

theorem warmCause_sets {s : State} (c t : Nat) (hwarm : s.rst.warm = none) (htrip : s.steward.trip = false)
    (hpfail : s.rst.pfail = false) : let u := warmCause c t s
    u.rst.warm = some (c, t) ∧ u.gh.warmAt = some (t, c) ∧ u.field.safeCmd = true ∧ u.pulses = [] ∧ u.linePulses = [] := by
  obtain ⟨x, hsafe, h⟩ := warmCause_frame (c := c) (t := t) hwarm htrip hpfail
  dsimp only
  rw [h]
  exact ⟨rfl, rfl, hsafe, rfl, rfl⟩

/-! ## WARM_RESET (R537) -/

/-- What the approach's, the deck's and the host's side are given, and what they keep. -/
theorem beforeLinks_sets (s : State) : let v := warmHost (warmDeck (warmApproach (sawLevels s)))
    v.seq = State.reset.seq ∧ v.jobs = [] ∧ v.bands = [] ∧ v.gh.session = none ∧ v.gh.running = [] ∧ v.gh.order = [] ∧
      v.gh.warmAt = none ∧ v.sec.otp = s.sec.otp ∧ v.sec.flash = s.sec.flash ∧ v.rec_.running = false ∧
      v.rec_.lotId = s.rec_.lotId ∧ v.rec_.lotKey = s.rec_.lotKey ∧ v.rst = s.rst ∧ v.mem.toll = s.mem.toll :=
  ⟨rfl, rfl, rfl, rfl, rfl, rfl, rfl, rfl, rfl, rfl, rfl, rfl, rfl, rfl⟩

theorem warmed_sets (cause at_ : Nat) (s : State) : let u := warmed cause at_ s
    u.seq = State.reset.seq ∧ u.jobs = [] ∧ u.bands = [] ∧ u.gh.session = none ∧ u.gh.running = [] ∧ u.gh.order = [] ∧
      u.gh.warmAt = none ∧ u.sec.otp = s.sec.otp ∧ u.sec.flash = s.sec.flash ∧ u.rec_.running = false ∧
      u.rec_.lotId = s.rec_.lotId ∧ u.rec_.lotKey = s.rec_.lotKey ∧ u.rst.rs = s.rst.rs &&& ~~~(0x34 : BitVec 32) ∧
      u.rst.warm = some (cause, at_) ∧ u.mem.toll = s.mem.toll := by
  obtain ⟨hseq, hjobs, hbands, hgh, hrec, hmem, hsec, -, hrst⟩ := warmed_parts cause at_ s
  obtain ⟨vseq, vjobs, vbands, vsession, vrunning, vorder, vdue, votp, vflash, vstopped, vlot, vkey, vrst, vtoll⟩ := beforeLinks_sets s
  dsimp only
  rw [hseq, hjobs, hbands, hgh, hrec, hmem, hsec, hrst, vrst]
  exact ⟨vseq, vjobs, vbands, vsession, vrunning, vorder, vdue, votp, vflash, vstopped, vlot, vkey, rfl, rfl, vtoll⟩

theorem warmReset_sets {s : State} {t c : Nat} (htrip : s.steward.trip = false) (hpfail : s.rst.pfail = false) :
    let w := s.rst.warm.getD (c, t)
    let u := warmed w.1 w.2 (warmCause c t s)
    u.seq = State.reset.seq ∧ u.jobs = [] ∧ u.bands = [] ∧ u.gh.session = none ∧ u.gh.running = [] ∧ u.gh.order = [] ∧
      u.gh.warmAt = none ∧ u.sec.otp = s.sec.otp ∧ u.sec.flash = s.sec.flash ∧ u.rec_.running = false ∧
      u.rec_.lotId = s.rec_.lotId ∧ u.rec_.lotKey = s.rec_.lotKey ∧ u.rst.rs = s.rst.rs &&& ~~~(0x34 : BitVec 32) ∧
      u.rst.warm = some w ∧ u.mem.toll = s.mem.toll := by
  obtain ⟨hsec, hmem, -, hrec, hrs, -⟩ := warmCause_keeps (c := c) (t := t) htrip hpfail
  have h := warmed_sets (s.rst.warm.getD (c, t)).1 (s.rst.warm.getD (c, t)).2 (warmCause c t s)
  rw [hsec, hmem, hrec, hrs] at h
  exact h

/-! ## Power failure (R540) -/

/-- The last words are written to flash, and nothing else changes. -/
theorem writeLw_keeps (b : List Byte) (s : State) : let u := writeLw b s
    u.rst = s.rst ∧ u.field = s.field ∧ u.rec_ = s.rec_ ∧ u.gh = s.gh ∧ u.pulses = s.pulses ∧ u.pwr = s.pwr :=
  ⟨rfl, rfl, rfl, rfl, rfl, rfl⟩

/-- The state of a power failure as the firmware, where it runs, has abandoned its update. -/
def updateAbandoned (s : State) : State :=
  { powerDown s with
    gh := { (powerDown s).gh with running := (powerDown s).gh.running.filter (fun r => r.op != 0x0E01) } }

theorem updateAbandoned_keeps (s : State) : let u := updateAbandoned s
    let v := powerDown s
    u.rst = v.rst ∧ u.field = v.field ∧ u.rec_ = v.rec_ ∧ u.gh.session = v.gh.session ∧ u.pulses = v.pulses ∧ u.pwr = v.pwr ∧
      u.sec = v.sec ∧ ∀ x ∈ u.gh.running, x.op ≠ 0x0E01 := by
  dsimp only [updateAbandoned]
  generalize powerDown s = v
  exact ⟨rfl, rfl, rfl, rfl, rfl, rfl, rfl, fun x hx => by simpa using (List.mem_filter.1 hx).2⟩

section
variable {s : State} (h : s.rst.pfail = false)
include h

theorem pfailFall_silent (hruns : fwRuns s = false) : pfailFall s = powerDown s := by
  rw [pfailFall_acts h, if_neg (Bool.eq_false_iff.1 hruns)]

theorem pfailFall_writes (hruns : fwRuns s = true) : pfailFall s = writeLw (lwBody 0 (now s) s) (updateAbandoned s) := by
  rw [pfailFall_acts h, if_pos hruns, updateAbandoned]

/-- Running or not, the firmware changes neither the outputs nor the domains. -/
theorem pfailFall_keeps : let u := pfailFall s
    let v := powerDown s
    u.rst = v.rst ∧ u.field = v.field ∧ u.rec_ = v.rec_ ∧ u.gh.session = v.gh.session ∧ u.pulses = v.pulses ∧ u.pwr = v.pwr := by
  dsimp only
  cases hruns : fwRuns s with
  | false =>
    rw [pfailFall_silent h hruns]
    exact ⟨rfl, rfl, rfl, rfl, rfl, rfl⟩
  | true =>
    obtain ⟨hrst, hfield, hrec, hgh, hpulses, hpwr⟩ := writeLw_keeps (lwBody 0 (now s) s) (updateAbandoned s)
    obtain ⟨urst, ufield, urec, usession, upulses, upwr, -, -⟩ := updateAbandoned_keeps s
    rw [pfailFall_writes h hruns, hrst, hfield, hrec, hgh, hpulses, hpwr]
    exact ⟨urst, ufield, urec, usession, upulses, upwr⟩

theorem pfailFall_sets : let u := pfailFall s
    u.rst.pfail = true ∧ u.field.safeCmd = true ∧ u.rec_.running = false ∧ u.gh.session = none ∧ u.pulses = [] ∧
      (∀ d ∈ allDomains, (getDom s d).fused = false → (getDom u d).st = .off) ∧ (fwRuns s = false → u.sec = s.sec) ∧
      (fwRuns s = true → u.sec = (writeLw (lwBody 0 (now s) s) s).sec ∧ ∀ x ∈ u.gh.running, x.op ≠ 0x0E01) := by
  obtain ⟨hrst, hfield, hrec, hsession, hpulses, hpwr⟩ := pfailFall_keeps h
  obtain ⟨vpfail, vsafe, vstopped, vsession, vpulses, vsec⟩ := powerDown_sets s
  obtain ⟨-, -, -, -, -, -, usec, uabandons⟩ := updateAbandoned_keeps s
  dsimp only at *
  rw [hrst, hfield, hrec, hsession, hpulses]
  refine ⟨vpfail, vsafe, vstopped, vsession, vpulses, fun d hd hlive => ?_, fun hruns => ?_, fun hruns => ?_⟩
  · have hdom : getDom (pfailFall s) d = getDom (powerDown s) d := by rw [getDom, hpwr, getDom]
    rw [hdom]
    exact powerDown_off hd hlive
  · rw [pfailFall_silent h hruns]
    exact vsec
  · obtain ⟨-, -, -, hgh, -, -⟩ := writeLw_keeps (lwBody 0 (now s) s) (updateAbandoned s)
    rw [pfailFall_writes h hruns, hgh]
    exact ⟨writeLw_sec_congr _ (usec.trans vsec), uabandons⟩

end

/-- Settles O47: each reset sets its parts; powering down, the links and the monitor's banner keep them; burning only adds bits. -/
theorem resetsComplete : Obligations.ResetsComplete :=
  ⟨fun _ => ⟨rfl, rfl⟩,
    fun _ _ => rfl,
    fun s c => ⟨fun _ hn => getGirder_coldReset s c hn, fun _ hk => getCluster_coldReset s c hk,
      fun hg hk => ⟨coldDeck_whole hg hk, coldPower_whole hg hk⟩⟩,
    fun _ => ⟨fun h => done_eq (if_pos h), fun h => done_eq (if_neg h)⟩,
    fun s => by
      cases h : bootSlot s with
      | none => exact ⟨bootRom_none h, bootSlot_none h⟩
      | some i =>
        obtain ⟨hboot, hslot⟩ := bootRom_some h
        exact ⟨hboot, hslot, bootSlot_some h⟩,
    fun _ => ⟨fun h => done_eq (refclkLost_idle h), fun h u hu => ⟨done_eq (by rw [refclkLost_acts h, hu]), refclkLost_sets hu⟩⟩,
    fun _ => ⟨fun h => done_eq (watchdogBite_idle h), fun hruns hpfail => done_eq (watchdogBite_acts hruns hpfail)⟩,
    fun c t _ => ⟨warmCause_merged, fun hwarm htrip hpfail => warmCause_sets c t hwarm htrip hpfail⟩,
    fun _ _ _ hat => ⟨fun h => done_eq (warmReset_idle hat h), fun hdue htrip hpfail =>
      ⟨_, done_eq (warmReset_acts hat hdue htrip hpfail), warmReset_sets htrip hpfail⟩⟩,
    fun _ h => done_eq (warmReset_none h),
    fun s c hwarm hat => resetDue_first s c hwarm hat,
    fun s c h => resetDue_merges s c h,
    fun _ => ⟨fun hwarm h => doneCold_eq (escalate_cold hwarm h), fun h => doneCold_eq (escalate_idle h)⟩,
    fun _ => ⟨fun h => ⟨done_eq (pfailFall_idle h), doneCold_eq (pfailReturn_cold h)⟩,
      fun h => ⟨doneCold_eq (pfailReturn_idle h), _, done_eq rfl, pfailFall_sets h⟩⟩,
    fun _ _ _ => ⟨fun h => done_eq (firmwareStart_idle h), fun hboot hpfail hwarm => by
        obtain ⟨v, hv⟩ := firmwareStart_after_cold hboot hpfail hwarm
        exact ⟨_, v, done_eq rfl, hv⟩,
      fun hboot hpfail hwarm => ⟨_, done_eq rfl, firmwareStart_after_warm hboot hpfail hwarm⟩⟩,
    fun _ => ⟨fun h => done_eq (fwReadyNow_idle h), fun hboot hpfail => ⟨_, done_eq rfl, fwReadyNow_sets hboot hpfail⟩⟩⟩

end Sys2Proof.Machine
end
